-- ==== Sys2Proof/Word.lean ====
section
/-! DEFINITION. The word types of the NC-1806 and nothing else: the bit-field helpers, which a later repair may
mend, stand in Machine/Bits.lean. -/

namespace Sys2Proof

/-- A 64-bit word: a core register, a bus word, a TIME64 (R51, R390). -/
abbrev Word := BitVec 64

/-- One octet of memory, of a frame or of a message (R9). -/
abbrev Byte := BitVec 8

/-- A number of a g or f register as an instruction names it (R111). -/
abbrev Reg := BitVec 5

/-- A triad T0 to T5 (R23). -/
abbrev TriadId := Fin 6

/-- A lane of a triad: 0 is A, 1 is B, 2 is C (R50). -/
abbrev LaneId := Fin 3

end Sys2Proof
end

