-- ==== Sys2Proof/Machine/Types.lean ====
section
/-! DEFINITION. The data types that commands carry as operands and that the state is built from: decoded Witik
operations, host messages, requesters, boot results. All are plain data. -/

namespace Sys2Proof.Machine

/-! ### Operands of commands that name several things at once -/

/-- A word that must stand alone, as it was fetched: its triad and its E bit, which R115 has at 1. -/
structure LoneWord where
  t : TriadId
  e : Bool
deriving DecidableEq, Repr

/-- Octets that reach a triad through its delay registers, and the lanes in which an error of these registers was
corrected or cannot be (R196). -/
structure Arrival where
  t : TriadId
  corr : BitVec 3
  unc : BitVec 3
deriving DecidableEq, Repr

/-- The end of a channel's segment; `collide` numbers the writes of it that meet the owner port at their word (R348). -/
structure SegmentEnd where
  chan : Fin 32
  collide : List Nat
deriving DecidableEq, Repr

/-- A run of the background test: whether a cell fails it, and the cells of SRAM words that have flipped before it. -/
structure RegionTest where
  cellFail : Bool
  flips : List (BitVec 40 × BitVec 72)
deriving DecidableEq, Repr

/-- A DDR line that is read. Before it, symbols of the lines in `wrong` have gone wrong, and the lines in `misplaced` have
come to hold the codeword of another address (R378). -/
structure LineRead where
  line : BitVec 40
  wrong : List (BitVec 40 × Fin 10)
  misplaced : List (BitVec 40)
deriving DecidableEq, Repr

/-- One repeat of a command of a DDR channel (R381): the line it concerns, if any, whether it writes that line, whether
the alert was one of write CRC (else of command/address parity), whether the repeat fails too. -/
structure RepeatedCommand where
  chan : Fin 4
  line : Option (BitVec 40)
  write : Bool
  crc : Bool
  fails : Bool
deriving DecidableEq, Repr

/-! ### Witik operations (03_witik_encoding.md) -/

/-- Functions of major 0x01 (R118). -/
inductive AluFn where
  | add | sub | addv | subv | and | or | xor | andn | sll | srl | sra | slt | sltu
  | min | max | minu | maxu | sxw | zxw
deriving DecidableEq, Repr

/-- Type B operations (R125). -/
inductive ImmFn where
  | addi | andi | ori | xori | slti | sltiu | slli | srli | srai | lui
deriving DecidableEq, Repr

/-- Multiply and multiply-accumulate functions of major 0x02 (R71, R119). -/
inductive MulFn where
  | mul | mulu | mac | macu
deriving DecidableEq, Repr

/-- Floating-point functions of major 0x03 (R121). -/
inductive FpFn where
  | fadd | fsub | fmul | fdiv | fsqrt | fma | fms | fmin | fmax | fneg | fabs | fmv
  | fceq | fclt | fcle | fcvtl | fcvtfl | fcvtf | fmvgf | fmvfg
deriving DecidableEq, Repr

/-- Loads and stores of majors 0x0C to 0x0E (R126). -/
inductive MemFn where
  | ldb | ldbu | ldh | ldhu | ldw | ldwu | ld | stb | sth | stw | st | flw | fsw | fld | fsd
deriving DecidableEq, Repr

/-- Conditions of major 0x10 (R131). -/
inductive Cond where
  | beq | bne | blt | bge | bltu | bgeu
deriving DecidableEq, Repr

/-- The count operand of REPI and REPN: an immediate or a register (R134). -/
inductive RepSrc where
  | imm (n : BitVec 16)
  | reg (r : Reg)
deriving DecidableEq, Repr

/-- A decoded Witik instruction, without its E bit. -/
inductive Op where
  | alu (fn : AluFn) (rd rs1 rs2 : Reg)
  | imm (fn : ImmFn) (rd rs1 : Reg) (i : BitVec 16)
  | mul (fn : MulFn) (pd : BitVec 2) (rs1 rs2 : Reg)
  | div (signed : Bool) (rs1 rs2 : Reg)
  | mfp (high : Bool) (rd : Reg) (ps : BitVec 2)
  | mtp (pd : BitVec 2) (rs1 rs2 : Reg)
  | mfq (rd : Reg) (second : Bool)
  | fp (fn : FpFn) (single : Bool) (rd rs1 rs2 rs3 : Reg)
  | mem (fn : MemFn) (rt rb : Reg) (post : Bool) (off : BitVec 12)
  | bcc (c : Cond) (annul : Bool) (rs1 rs2 : Reg) (off : BitVec 12)
  | br (off : BitVec 25)
  | call (off : BitVec 25)
  | jr (rs1 : Reg)
  | callr (rs1 : Reg)
  | ret
  | repi (src : RepSrc)
  | repn (src : RepSrc)
  | close
  | sys (code : BitVec 16)
  | mcall (code : BitVec 16)
  | rete
  | mfs (rd : Reg) (sr : BitVec 12)
  | mts (sr : BitVec 12) (rs : Reg)
  | iinv (rs : Reg)
  | iinva
  | dinv (rs : Reg)
  | dinva
deriving DecidableEq, Repr

/-- A bundle as fetched and decoded: its address, its first slot where it has two, its last slot (R59). -/
structure Bundle where
  pc : Word
  first : Option Op
  last : Op
deriving DecidableEq, Repr

/-! ### Operands of the commands of the other blocks -/

/-- For whom a page-table walk is made: the cores of a triad or a DMA channel 0 to 31 (R293). -/
inductive Walker where
  | core (t : TriadId)
  | chan (c : Fin 32)
deriving DecidableEq, Repr

/-- An input pin that passes through the three synchroniser rails (R241, R543, R577). -/
inductive Pin where
  | gpio (p : Fin 128)
  | tmrA (n : Fin 64)
  | tmrB (n : Fin 64)
  | ssiDat (m : Fin 16)
  | uartRx (u : Fin 8)
  | ytcA (n : Fin 8)
  | ytcB (n : Fin 8)
  | yadcDin (n : Fin 4)
deriving DecidableEq, Repr

/-- A requester of the peripheral bus (R546, R547): a triad, a DMA engine moving a channel's data, or the Tense unit
acting for a triad. -/
inductive Requester where
  | triad (t : TriadId)
  | dma (c : Fin 32)
  | tense (t : TriadId)
deriving DecidableEq, Repr

/-- The transport by which an AOP message arrives: a PCIe ring, or M0 with its source address and UDP port
(R484, R488). -/
inductive HostVia where
  | ring (p : Fin 2)
  | m0 (addr : BitVec 128) (udp : BitVec 16)
deriving DecidableEq, Repr

/-- What a datagram carries as far as M0 tells them apart (R487). -/
inductive DatagramKind where
  | udp | fragment | tcp | other
deriving DecidableEq, Repr

/-- Where a datagram that reaches M0 is addressed (R487): IPv6 or IPv4, its destination address and UDP port. -/
structure Datagram where
  kind : DatagramKind
  v6 : Bool
  dst : BitVec 128
  port : BitVec 16
deriving DecidableEq, Repr

/-- A host's write request on a PCIe port: bus address and the 32-bit word (R26, R491, R492). -/
structure HostStore where
  addr : BitVec 64
  v : BitVec 32
deriving DecidableEq, Repr

/-- A link as it comes up: the width trained, and what the host then writes into the function's configuration, which no row
of its own carries (R489; log 25): the base of BAR0, and address and data of the MSI vector if it enables MSI. -/
structure PcieSetup where
  width : BitVec 3
  bar0 : BitVec 32
  msi : Option (BitVec 64 × BitVec 16)
deriving DecidableEq, Repr

/-- An AOP message as received; the OP octet is fixed by the command that carries it (R485, R494). -/
structure AopMsg where
  /-- octet 0: version and kind -/
  verKind : Byte
  /-- octet 2: session -/
  sess : Byte
  /-- octet 3, which must be zero -/
  zero3 : Byte
  seq : BitVec 32
  /-- octets 8-9: LEN as the message carries it -/
  len : BitVec 16
  /-- octets 10-11: zero in a request -/
  status : BitVec 16
  /-- octets 12-15, which must be zero -/
  zero12 : BitVec 32
  payload : List Byte
  tag : List Byte
  /-- the datagram that carries it on M0; without meaning on a ring -/
  dgram : Datagram
deriving DecidableEq, Repr

/-- Which of the two FCUs receive a report over their own collection network (R32). -/
inductive FcuRoute where
  | both | onlyA | onlyB
deriving DecidableEq, Repr

/-- One of the two fault collection units (R604). -/
inductive FcuId where
  | a | b
deriving DecidableEq, Repr

/-- How a fault collection unit fails (R611): its self-check finds an error, or its digests no longer arrive. -/
inductive FcuError where
  | selfCheck (u : FcuId)
  | silent (u : FcuId)
deriving DecidableEq, Repr

/-- Who makes an access at an SRAM bank: a triad, the owner-port masters of the other banks, or a master that owns no
port (R339, R341). -/
inductive Master where
  | triad (t : TriadId)
  | frame | tense | host | store | fabric
deriving DecidableEq, Repr

/-- A module in a slot of a DDR channel, as its SPD hub and its sensor show it (R370, R375): whether it is a registered
module with ECC, its capacity in GB, devices of eight bits (else four), ranks, height of its stacks (1 for none), its
highest speed coded as SPDMAX, serial number, temperature in degrees Celsius. -/
structure Dimm where
  rdimm : Bool
  gb : Nat
  wide8 : Bool
  ranks : Nat
  high : Nat
  speed : Nat
  serial : BitVec 64
  temp : Int
deriving DecidableEq, Repr

/-- What the boot sequencer finds in one DDR channel: its two slots, whether it trains (R371), whether the write-read
pattern after a cached training succeeds on every rank (R376). -/
structure DdrChan where
  slot0 : Option Dimm
  slot1 : Option Dimm
  trains : Bool
  verifies : Bool
deriving DecidableEq, Repr

/-- A failing cell of a bank: sub-array, row and bit column; 4,096 and 576 up name the spare rows and columns (R638). -/
structure BadCell where
  bank : Fin 12
  sub : Fin 8
  row : Fin 4104
  col : Fin 580
deriving DecidableEq, Repr

/-- A spare row or column that stands in for one of a sub-array (R639, R640). -/
structure SpareUse where
  bank : Nat
  sub : Nat
  column : Bool
  spare : Nat
  addr : Nat
deriving DecidableEq, Repr

/-- What the serial memory reports in SFDP (R646): 4-byte addressing, its capacity in MB, the read modes it has by their
XMODE number. -/
structure Sfdp where
  fourByte : Bool
  mb : Nat
  modes : BitVec 4
deriving DecidableEq, Repr

/-- What the tests and the surroundings show the boot sequencer in one run (R634): facts about the silicon and the
parts around it that no rule of the spec computes. -/
structure BootFindings where
  /-- the root PLL locks within 1 ms (step 1) -/
  rootLock : Bool
  /-- the AVSBus regulator acknowledged (R700) -/
  avsAck : Bool
  /-- the cells that the march test finds failing (R640) -/
  cells : List BadCell
  /-- uncore logic BIST, one bit per unit of R642, 1 = failed -/
  uncore : BitVec 12
  /-- lane logic BIST, bit 3t + l = 1 when lane l of triad t fails (R643) -/
  laneFail : BitVec 18
  /-- the serial memory's answer to the discovery of R646 -/
  sfdp : Option Sfdp
  /-- the slots of the DDR channels (R371) -/
  ddr : Vector DdrChan 4
  /-- self-test duration in us (R645) -/
  bistUs : BitVec 16
deriving DecidableEq, Repr

/-- The cause of an island reset (R579). -/
inductive IslandCause where
  | powerOn | pin | lockstep | ecc | firmware
deriving DecidableEq, Repr

/-- The cause of a DEVICE reset (R670). -/
inductive DevCause where
  | classX | command | lifeCycle | dormantOffWake
deriving DecidableEq, Repr

end Sys2Proof.Machine
end

