-- ==== Sys2Proof/Syntax.lean ====
section
/-! DEFINITION. The commands of the block: one constructor per row of spec/opcode_table.json, in the table's order.
`t` is the triad a command concerns, `w` the triad whose write it is, `e` the E bit of an instruction (R110), `word` the
triad and the E bit of an instruction that must stand alone (R115). -/

namespace Sys2Proof

open Machine

inductive Instr where
  /-- INSTRUCTION_FETCH (R106): The leading lane fetches a bundle, translating and checking it and filling the L1I on a miss. -/
  | instructionFetch (t : Arrival) (wrongPath : Option Word)
  /-- ADD (R118): Writes the sum of two g registers, modulo 2^64. -/
  | add (t : TriadId) (e : Bool) (rd rs1 rs2 : Reg)
  /-- SUB (R118): Writes the difference of two g registers, modulo 2^64. -/
  | sub (t : TriadId) (e : Bool) (rd rs1 rs2 : Reg)
  /-- ADDV (R74): Adds, and raises the arithmetic exception on signed overflow. -/
  | addv (t : TriadId) (e : Bool) (rd rs1 rs2 : Reg)
  /-- SUBV (R74): Subtracts, and raises the arithmetic exception on signed overflow. -/
  | subv (t : TriadId) (e : Bool) (rd rs1 rs2 : Reg)
  /-- AND (R118): Writes the bitwise AND of two g registers. -/
  | and (t : TriadId) (e : Bool) (rd rs1 rs2 : Reg)
  /-- OR (R118): Writes the bitwise OR of two g registers. -/
  | or (t : TriadId) (e : Bool) (rd rs1 rs2 : Reg)
  /-- XOR (R118): Writes the bitwise XOR of two g registers. -/
  | xor (t : TriadId) (e : Bool) (rd rs1 rs2 : Reg)
  /-- ANDN (R118): Writes RS1 AND NOT RS2. -/
  | andn (t : TriadId) (e : Bool) (rd rs1 rs2 : Reg)
  /-- SLL (R118): Shifts left logically by RS2[5:0]. -/
  | sll (t : TriadId) (e : Bool) (rd rs1 rs2 : Reg)
  /-- SRL (R118): Shifts right logically by RS2[5:0]. -/
  | srl (t : TriadId) (e : Bool) (rd rs1 rs2 : Reg)
  /-- SRA (R118): Shifts right arithmetically by RS2[5:0]. -/
  | sra (t : TriadId) (e : Bool) (rd rs1 rs2 : Reg)
  /-- SLT (R118): Writes 1 if RS1 is less than RS2 signed, else 0. -/
  | slt (t : TriadId) (e : Bool) (rd rs1 rs2 : Reg)
  /-- SLTU (R118): Writes 1 if RS1 is less than RS2 unsigned, else 0. -/
  | sltu (t : TriadId) (e : Bool) (rd rs1 rs2 : Reg)
  /-- MIN (R118): Writes the signed minimum. -/
  | min (t : TriadId) (e : Bool) (rd rs1 rs2 : Reg)
  /-- MAX (R118): Writes the signed maximum. -/
  | max (t : TriadId) (e : Bool) (rd rs1 rs2 : Reg)
  /-- MINU (R118): Writes the unsigned minimum. -/
  | minu (t : TriadId) (e : Bool) (rd rs1 rs2 : Reg)
  /-- MAXU (R118): Writes the unsigned maximum. -/
  | maxu (t : TriadId) (e : Bool) (rd rs1 rs2 : Reg)
  /-- SXW (R118): Sign-extends RS1[31:0]. -/
  | sxw (t : TriadId) (e : Bool) (rd rs1 : Reg)
  /-- ZXW (R118): Zero-extends RS1[31:0]. -/
  | zxw (t : TriadId) (e : Bool) (rd rs1 : Reg)
  /-- ADDI (R125): Adds a sign-extended immediate. -/
  | addi (t : TriadId) (e : Bool) (rd rs1 : Reg) (imm : BitVec 16)
  /-- ANDI (R125): ANDs a zero-extended immediate. -/
  | andi (t : TriadId) (e : Bool) (rd rs1 : Reg) (imm : BitVec 16)
  /-- ORI (R125): ORs a zero-extended immediate. -/
  | ori (t : TriadId) (e : Bool) (rd rs1 : Reg) (imm : BitVec 16)
  /-- XORI (R125): XORs a zero-extended immediate. -/
  | xori (t : TriadId) (e : Bool) (rd rs1 : Reg) (imm : BitVec 16)
  /-- SLTI (R125): Compares with a sign-extended immediate, signed. -/
  | slti (t : TriadId) (e : Bool) (rd rs1 : Reg) (imm : BitVec 16)
  /-- SLTIU (R125): Compares with a sign-extended immediate, unsigned. -/
  | sltiu (t : TriadId) (e : Bool) (rd rs1 : Reg) (imm : BitVec 16)
  /-- SLLI (R125): Shifts left logically by an immediate. -/
  | slli (t : TriadId) (e : Bool) (rd rs1 : Reg) (sh : BitVec 6)
  /-- SRLI (R125): Shifts right logically by an immediate. -/
  | srli (t : TriadId) (e : Bool) (rd rs1 : Reg) (sh : BitVec 6)
  /-- SRAI (R125): Shifts right arithmetically by an immediate. -/
  | srai (t : TriadId) (e : Bool) (rd rs1 : Reg) (sh : BitVec 6)
  /-- LUI (R125): Writes the sign-extended immediate shifted left by 16. -/
  | lui (t : TriadId) (e : Bool) (rd : Reg) (imm : BitVec 16)
  /-- MUL (R71): Writes the signed 128-bit product into a p register. -/
  | mul (t : TriadId) (e : Bool) (pd : BitVec 2) (rs1 rs2 : Reg)
  /-- MULU (R71): Writes the unsigned 128-bit product into a p register. -/
  | mulu (t : TriadId) (e : Bool) (pd : BitVec 2) (rs1 rs2 : Reg)
  /-- MAC (R71): Adds the signed product to a p register read at issue. -/
  | mac (t : TriadId) (e : Bool) (pd : BitVec 2) (rs1 rs2 : Reg)
  /-- MACU (R71): Adds the unsigned product to a p register read at issue. -/
  | macu (t : TriadId) (e : Bool) (pd : BitVec 2) (rs1 rs2 : Reg)
  /-- DIV (R72): Starts a signed divide into q0 and q1, cancelling any divide in flight. -/
  | div (t : TriadId) (e : Bool) (rs1 rs2 : Reg)
  /-- DIVU (R72): Starts an unsigned divide into q0 and q1, cancelling any divide in flight. -/
  | divu (t : TriadId) (e : Bool) (rs1 rs2 : Reg)
  /-- MFPL (R119): Moves p[63:0] into a g register. -/
  | mfpl (t : TriadId) (e : Bool) (rd : Reg) (ps : BitVec 2)
  /-- MFPH (R119): Moves p[127:64] into a g register. -/
  | mfph (t : TriadId) (e : Bool) (rd : Reg) (ps : BitVec 2)
  /-- MTP (R119): Moves two g registers into a p register. -/
  | mtp (t : TriadId) (e : Bool) (pd : BitVec 2) (rs1 rs2 : Reg)
  /-- MFQ (R119): Moves q0 or q1 into a g register. -/
  | mfq (t : TriadId) (e : Bool) (rd : Reg) (second : Bool)
  /-- FADD (R121): Adds two FP operands. -/
  | fadd (t : TriadId) (e single : Bool) (rd rs1 rs2 : Reg)
  /-- FSUB (R121): Subtracts two FP operands. -/
  | fsub (t : TriadId) (e single : Bool) (rd rs1 rs2 : Reg)
  /-- FMUL (R121): Multiplies two FP operands. -/
  | fmul (t : TriadId) (e single : Bool) (rd rs1 rs2 : Reg)
  /-- FDIV (R75): Starts an FP divide, cancelling any divide or square root in flight. -/
  | fdiv (t : TriadId) (e single : Bool) (rd rs1 rs2 : Reg)
  /-- FSQRT (R75): Starts an FP square root, cancelling any divide or square root in flight. -/
  | fsqrt (t : TriadId) (e single : Bool) (rd rs1 : Reg)
  /-- FMA (R121): Computes RS1 times RS2 plus RS3 with one rounding. -/
  | fma (t : TriadId) (e single : Bool) (rd rs1 rs2 rs3 : Reg)
  /-- FMS (R121): Computes RS1 times RS2 minus RS3 with one rounding. -/
  | fms (t : TriadId) (e single : Bool) (rd rs1 rs2 rs3 : Reg)
  /-- FMIN (R123): Writes the smaller FP operand. -/
  | fmin (t : TriadId) (e single : Bool) (rd rs1 rs2 : Reg)
  /-- FMAX (R123): Writes the larger FP operand. -/
  | fmax (t : TriadId) (e single : Bool) (rd rs1 rs2 : Reg)
  /-- FNEG (R124): Inverts the sign of an FP operand. -/
  | fneg (t : TriadId) (e single : Bool) (rd rs1 : Reg)
  /-- FABS (R124): Clears the sign of an FP operand. -/
  | fabs (t : TriadId) (e single : Bool) (rd rs1 : Reg)
  /-- FMV (R124): Copies an FP register. -/
  | fmv (t : TriadId) (e single : Bool) (rd rs1 : Reg)
  /-- FCEQ (R123): Writes 1 to a g register if two FP operands are equal. -/
  | fceq (t : TriadId) (e single : Bool) (rd rs1 rs2 : Reg)
  /-- FCLT (R123): Writes 1 to a g register if RS1 is less than RS2. -/
  | fclt (t : TriadId) (e single : Bool) (rd rs1 rs2 : Reg)
  /-- FCLE (R123): Writes 1 to a g register if RS1 is less than or equal to RS2. -/
  | fcle (t : TriadId) (e single : Bool) (rd rs1 rs2 : Reg)
  /-- FCVTL (R122): Converts an FP value to a signed 64-bit integer. -/
  | fcvtl (t : TriadId) (e single : Bool) (rd rs1 : Reg)
  /-- FCVTFL (R121): Converts a signed 64-bit integer to FP. -/
  | fcvtfl (t : TriadId) (e single : Bool) (rd rs1 : Reg)
  /-- FCVTF (R121): Converts between binary32 and binary64. -/
  | fcvtf (t : TriadId) (e single : Bool) (rd rs1 : Reg)
  /-- FMVGF (R124): Moves the raw bits of an f register into a g register. -/
  | fmvgf (t : TriadId) (e single : Bool) (rd rs1 : Reg)
  /-- FMVFG (R124): Moves the raw bits of a g register into an f register. -/
  | fmvfg (t : TriadId) (e single : Bool) (rd rs1 : Reg)
  /-- LDB (R126): Loads a sign-extended byte. -/
  | ldb (t : TriadId) (e : Bool) (rt rb : Reg) (post : Bool) (off : BitVec 12)
  /-- LDBU (R126): Loads a zero-extended byte. -/
  | ldbu (t : TriadId) (e : Bool) (rt rb : Reg) (post : Bool) (off : BitVec 12)
  /-- LDH (R126): Loads a sign-extended halfword. -/
  | ldh (t : TriadId) (e : Bool) (rt rb : Reg) (post : Bool) (off : BitVec 12)
  /-- LDHU (R126): Loads a zero-extended halfword. -/
  | ldhu (t : TriadId) (e : Bool) (rt rb : Reg) (post : Bool) (off : BitVec 12)
  /-- LDW (R126): Loads a sign-extended word. -/
  | ldw (t : TriadId) (e : Bool) (rt rb : Reg) (post : Bool) (off : BitVec 12)
  /-- LDWU (R126): Loads a zero-extended word. -/
  | ldwu (t : TriadId) (e : Bool) (rt rb : Reg) (post : Bool) (off : BitVec 12)
  /-- LD (R126): Loads a doubleword. -/
  | ld (t : TriadId) (e : Bool) (rt rb : Reg) (post : Bool) (off : BitVec 12)
  /-- STB (R126): Stores a byte into the gate column. -/
  | stb (t : TriadId) (e : Bool) (rt rb : Reg) (post : Bool) (off : BitVec 12)
  /-- STH (R126): Stores a halfword into the gate column. -/
  | sth (t : TriadId) (e : Bool) (rt rb : Reg) (post : Bool) (off : BitVec 12)
  /-- STW (R126): Stores a word into the gate column. -/
  | stw (t : TriadId) (e : Bool) (rt rb : Reg) (post : Bool) (off : BitVec 12)
  /-- ST (R126): Stores a doubleword into the gate column. -/
  | st (t : TriadId) (e : Bool) (rt rb : Reg) (post : Bool) (off : BitVec 12)
  /-- FLW (R126): Loads a binary32 value into an f register. -/
  | flw (t : TriadId) (e : Bool) (rt rb : Reg) (post : Bool) (off : BitVec 12)
  /-- FSW (R126): Stores a binary32 value from an f register. -/
  | fsw (t : TriadId) (e : Bool) (rt rb : Reg) (post : Bool) (off : BitVec 12)
  /-- FLD (R126): Loads a binary64 value into an f register. -/
  | fld (t : TriadId) (e : Bool) (rt rb : Reg) (post : Bool) (off : BitVec 12)
  /-- FSD (R126): Stores a binary64 value from an f register. -/
  | fsd (t : TriadId) (e : Bool) (rt rb : Reg) (post : Bool) (off : BitVec 12)
  /-- LOAD_DATA_ARRIVAL (R729): The data of an outstanding load arrives and ends the freeze that waited for it. -/
  | loadDataArrival (t : Arrival)
  /-- PAGE_TABLE_WALK (R293): The TAPU walks three table levels for a translation and returns a leaf or a fault. -/
  | pageTableWalk (who : Walker) (va : Word)
  /-- BEQ (R131): Branches when RS1 equals RS2, after the delay slot. -/
  | beq (word : LoneWord) (annul : Bool) (rs1 rs2 : Reg) (off : BitVec 12)
  /-- BNE (R131): Branches when RS1 differs from RS2. -/
  | bne (word : LoneWord) (annul : Bool) (rs1 rs2 : Reg) (off : BitVec 12)
  /-- BLT (R131): Branches when RS1 is less than RS2, signed. -/
  | blt (word : LoneWord) (annul : Bool) (rs1 rs2 : Reg) (off : BitVec 12)
  /-- BGE (R131): Branches when RS1 is at least RS2, signed. -/
  | bge (word : LoneWord) (annul : Bool) (rs1 rs2 : Reg) (off : BitVec 12)
  /-- BLTU (R131): Branches when RS1 is less than RS2, unsigned. -/
  | bltu (word : LoneWord) (annul : Bool) (rs1 rs2 : Reg) (off : BitVec 12)
  /-- BGEU (R131): Branches when RS1 is at least RS2, unsigned. -/
  | bgeu (word : LoneWord) (annul : Bool) (rs1 rs2 : Reg) (off : BitVec 12)
  /-- BR (R130): Branches unconditionally to a relative target. -/
  | br (word : LoneWord) (off : BitVec 25)
  /-- CALL (R89): Branches and writes the return address into g31, pushing it onto the return-address stack. -/
  | call (word : LoneWord) (off : BitVec 25)
  /-- JR (R132): Jumps to the address in a register. -/
  | jr (word : LoneWord) (rs1 : Reg)
  /-- CALLR (R89): Calls the address in a register and writes g31. -/
  | callr (word : LoneWord) (rs1 : Reg)
  /-- RET (R93): Returns through g31 and pops the return-address stack. -/
  | ret (word : LoneWord)
  /-- REPI (R101): Latches an interruptible repeat count into RPC. -/
  | repi (word : LoneWord) (src : RepSrc)
  /-- REPN (R104): Latches a non-interruptible repeat count of at most 64. -/
  | repn (word : LoneWord) (src : RepSrc)
  /-- REPEAT_ITERATION (R102): Issues one iteration of the repeated instruction and decrements RPC. -/
  | repeatIteration (t : TriadId)
  /-- CLOSE (R204): Closes the current clause after its bundle. -/
  | close (word : LoneWord)
  /-- SYS (R161): Raises vector 10 with its service code. -/
  | sys (word : LoneWord) (code : BitVec 16)
  /-- MCALL (R161): Raises vector 11 through the M table with its service code. -/
  | mcall (word : LoneWord) (code : BitVec 16)
  /-- RETE (R184): Checks and returns from a handler bank, reloading a spill frame if one was written. -/
  | rete (word : LoneWord)
  /-- MFS (R54): Reads a system register or a register of another bank. -/
  | mfs (t : TriadId) (e : Bool) (rd : Reg) (sr : BitVec 12)
  /-- MTS (R54): Writes a system register or a register of another bank. -/
  | mts (word : LoneWord) (sr : BitVec 12) (rs : Reg)
  /-- IINV (R139): Invalidates one L1I line after the gate holds no closed-clause entry. -/
  | iinv (word : LoneWord) (rs : Reg)
  /-- IINVA (R139): Invalidates the whole L1I after the gate holds no closed-clause entry. -/
  | iinva (word : LoneWord)
  /-- DINV (R138): Invalidates one L1D line. -/
  | dinv (word : LoneWord) (rs : Reg)
  /-- DINVA (R137): Invalidates the whole L1D. -/
  | dinva (word : LoneWord)
  /-- RESULT_LANDS (R67): A pending result reaches its distance and lands in its register at the end of an issue slot. -/
  | resultLands (t : TriadId)
  /-- EXCEPTION_ENTRY (R172): After the clause closes and results drain, the core reads the vector and enters the handler bank. -/
  | exceptionEntry (t : TriadId)
  /-- BUDGET_OVERRUN (R181): An atomic handler's budget counter reaches its budget and vector 7 is taken. -/
  | budgetOverrun (t : TriadId)
  /-- EVENT_PULSE (R164): An event source pulses and sets its pending bit, or its overrun bit. -/
  | eventPulse (n : Fin 1024)
  /-- EVENT_ENTRY (R167): The highest deliverable event is taken at a clause boundary within 8 issue slots. -/
  | eventEntry (t : TriadId)
  /-- EVC_SWSET (R163): A write delivers a pulse to software event E0960 plus SRC. -/
  | evcSwset (src : BitVec 6)
  /-- EVC_DBSET (R171): A write rings an inter-triad doorbell and records the ringing triad. -/
  | evcDbset (who src : BitVec 6)
  /-- CLAUSE_CLOSE (R204): A close condition ends the open clause, hands the signature to the comparator and takes a checkpoint. -/
  | clauseClose (t : TriadId)
  /-- CLAUSE_TIMEOUT (R209): The clause timer reaches CMP_CLAUSE_TMAX and closes the clause. -/
  | clauseTimeout (t : TriadId)
  /-- COMPARE_RESULT (R213): The comparator's result for a clause becomes available and the triad reacts by mode and outcome. -/
  | compareResult (t : TriadId) (invalid : BitVec 3)
  /-- GATE_RELEASE (R219): The gate releases one entry of a committed clause to its slave. -/
  | gateRelease (t : TriadId)
  /-- WRITE_COMPLETION (R224): A released write completes at its slave and becomes visible to other observers. -/
  | writeCompletion (t : TriadId) (k : Nat) (collide : Bool)
  /-- COLLIDE_RETRY (R349): The bank performs the refused write in the next fabric cycle and sends its response. -/
  | collideRetry (bank : Fin 12)
  /-- ROLLBACK (R260): A failed compare returns every ACTIVE lane to the last committed checkpoint and re-executes. -/
  | rollback (t : TriadId)
  /-- REPAIR (R266): After the next clause commits, the outvoted lane receives a state copy and rejoins. -/
  | repair (t : TriadId)
  /-- SWAP_IN (R272): A SPARE_READY lane is reset, given a checkpoint copy and made ACTIVE at a clause boundary. -/
  | swapIn (t : TriadId) (l : LaneId)
  /-- ROTATION (R270): A SPARE_READY lane swaps in and the next lane becomes SPARE_TEST. -/
  | rotation (t : TriadId)
  /-- LANE_BIST_START (R271): A waiting spare or suspect lane is given a background logic BIST slot. -/
  | laneBistStart (t : TriadId) (l : LaneId)
  /-- LANE_BIST_DONE (R269): A lane's logic BIST ends, making it SPARE_READY or RETIRED. -/
  | laneBistDone (t : TriadId) (l : LaneId) (pass : Bool)
  /-- CHARGE_WINDOW_EXPIRY (R257): One second after a lane's first charge its charge count returns to 0. -/
  | chargeWindowExpiry (t : TriadId) (l : LaneId)
  /-- INVALID_CODE_WINDOW_EXPIRY (R277): The one-second window opened by an invalid code closes. -/
  | invalidCodeWindowExpiry (t : TriadId)
  /-- PIN_LEVEL_CHANGE (R243): A synchronised input pin changes level and reaches the agreed and voted values. -/
  | pinLevelChange (pin : Pin) (rails : BitVec 3)
  /-- TAPU_CTX_WRITE (R286): A triad's write sets its translation context and flushes prediction state on an ASID change. -/
  | tapuCtxWrite (w t : TriadId) (v : Word)
  /-- INVALIDATE_PAGE (R300): A TAPU_INVAL_t write of scope 0b00 starts an invalidation barrier for one page. -/
  | invalidatePage (w t : TriadId) (asid : BitVec 12) (vpn : BitVec 27)
  /-- INVALIDATE_ASID (R300): A TAPU_INVAL_t write of scope 0b01 starts an invalidation barrier for one ASID. -/
  | invalidateAsid (w t : TriadId) (asid : BitVec 12)
  /-- INVALIDATE_TRIAD (R300): A TAPU_INVAL_t write of scope 0b10 starts an invalidation barrier for the whole triad. -/
  | invalidateTriad (w t : TriadId)
  /-- INVALIDATION_BARRIER_END (R300): The barrier ends, the write response is sent and E0896 plus t pulses. -/
  | invalidationBarrierEnd (t : TriadId)
  /-- DOORBELL (R316): A DMAx_CHn_DB write from the owner stamps an IDLE channel and starts its descriptor fetch. -/
  | doorbell (w : TriadId) (c : Fin 32) (v : Word)
  /-- DESCRIPTOR_FETCH (R323): A fetched descriptor is checked and the channel becomes READY, ARMED or SUSPENDED. -/
  | descriptorFetch (c : Fin 32)
  /-- SEGMENT_START (R326): At a segment boundary the engine selects a channel and translates and issues its next segment. -/
  | segmentStart (x : Fin 2)
  /-- SEGMENT_COMPLETE (R327): A segment's last write completes, possibly completing the descriptor. -/
  | segmentComplete (seg : SegmentEnd)
  /-- RESUME (R333): An owner command moves a SUSPENDED channel to READY. -/
  | resume (w : TriadId) (c : Fin 32)
  /-- ABORT (R333): An owner command ends a channel's transfer and makes it IDLE. -/
  | abort (w : TriadId) (c : Fin 32)
  /-- ENGINE_COMPARISON_FAULT (R332): The two copies of a DMA engine disagree and every channel becomes ERROR. -/
  | engineComparisonFault (x : Fin 2)
  /-- ARM (R408): A TNS_ARM write with OP 0 reads, checks and arms a calendar entry. -/
  | arm (w : TriadId) (k : BitVec 14)
  /-- DISARM (R415): A TNS_ARM write with OP 1 disarms an entry's undispatched action. -/
  | disarm (w : TriadId) (k : BitVec 14)
  /-- ACTION_DISPATCH (R411): An armed action is dispatched to its target unit 1 us before its TIME. -/
  | actionDispatch (k : BitVec 14)
  /-- LATE_BY_CONGESTION (R412): An action not dispatched 100 ns before its TIME is handled by its late policy. -/
  | lateByCongestion (k : BitVec 14)
  /-- TMR_WRITE (R410): A timed write to a TMR register takes effect at its CLK_PER edge. -/
  | tmrWrite (k : BitVec 14)
  /-- LEG_WRITE (R410): A timed write to a LEG register takes effect at its CLK_PER edge. -/
  | legWrite (k : BitVec 14)
  /-- DMA_START (R324): A Tense start action moves an ARMED channel to READY. -/
  | dmaStart (k : BitVec 14)
  /-- FRAME_LAUNCH (R454): At its TIME a built cyclic frame is placed in its egress queue. -/
  | frameLaunch (k : BitVec 14)
  /-- INPUT_FLIP (R427): An input IMAGE_FLIP toggles the input buffer and updates device MISS counts. -/
  | inputFlip (k : BitVec 14)
  /-- OUTPUT_FLIP (R429): An output IMAGE_FLIP sends each ready region's new image or holds the previous one. -/
  | outputFlip (k : BitVec 14)
  /-- RAISE_EVENT (R410): A timed action pulses E0320 plus TGT. -/
  | raiseEvent (k : BitVec 14)
  /-- INSTANTIATION (R420): 2 us before a cycle start, a running table arms its list's entries for that cycle. -/
  | instantiation (j : Fin 64)
  /-- TABLE_START (R422): A write setting CTL.EN checks and starts a cycle table. -/
  | tableStart (j : Fin 64) (v : BitVec 32)
  /-- TABLE_STOP (R424): A write clearing CTL.EN stops instantiation from the next cycle. -/
  | tableStop (j : Fin 64) (v : BitVec 32)
  /-- REGION_ENABLE (R428): A write setting EN of an output region is checked and accepted or refused. -/
  | regionEnable (r : Fin 8) (v : Word)
  /-- TNS_ORR_RDY (R430): The owner writes the cycle whose output image is committed. -/
  | tnsOrrRdy (w : TriadId) (r : Fin 8) (v : BitVec 32)
  /-- STEP (R397): A TNS_STEP write adds a signed offset to TIME64 unless refused. -/
  | step (v : Word)
  /-- SYNC_TIMEOUT (R402): No sample for SYNCTO ms moves the servo to HOLDOVER or fails over. -/
  | syncTimeout
  /-- HOLDOVER_EXPIRY (R405): HOLDOVER lasting HOLDMAX ms is reported once to both FCUs. -/
  | holdoverExpiry
  /-- FRAME_RECEPTION (R440): A received frame is classified and handled by the bridge, gPTP engine or frame engine. -/
  | frameReception (p : Fin 8) (rxTime : Word) (octets : List Byte) (fcsOk : Bool)
  /-- FRAME_BUILD (R455): The frame engine finishes building a cyclic frame in staging. -/
  | frameBuild (slot : BitVec 12)
  /-- FRAME_TRANSMISSION_START (R448): A queued frame starts on its port when its gate is open and it fits. -/
  | frameTransmissionStart (p : Fin 8) (q : Fin 8)
  /-- FRAME_SENT (R480): A frame finishes transmission; an acyclic frame advances ADONE. -/
  | frameSent (p : Fin 8)
  /-- NET_PP_ATX (R480): A write queues an acyclic frame on a port or is refused. -/
  | netPpAtx (p : Fin 8) (v : Word)
  /-- GATE_SCHEDULE_RESTART (R446): At each cycle start the port's gate control list restarts. -/
  | gateScheduleRestart (p : Fin 8)
  /-- GATE_INTERVAL_END (R446): A gate list entry's interval ends and the next entry sets the gates. -/
  | gateIntervalEnd (p : Fin 8)
  /-- GATE_ENABLE (R447): A write setting GEN is checked and starts the gate schedule or is refused. -/
  | gateEnable (p : Fin 8) (v : BitVec 32)
  /-- SYNC_TRANSMISSION (R443): The gPTP engine sends Sync every 2^LOGSYNC s. -/
  | syncTransmission (p : Fin 8) (d : Fin 2)
  /-- PDELAY_REQ (R443): The gPTP engine sends Pdelay_Req once per second. -/
  | pdelayReq (p : Fin 8)
  /-- LINK_CHANGE (R483): A field port's link goes up or down. -/
  | linkChange (p : Fin 8) (up : Bool) (speed : BitVec 3)
  /-- STREAM_HISTORY_RESET (R469): A ring stream without frames for RTO ms has its history reset. -/
  | streamHistoryReset (q : Fin 4) (src : BitVec 48) (vid : BitVec 12)
  /-- FDB_AGEING (R437): A learned FDB entry ages out after 300 s. -/
  | fdbAgeing (mac : BitVec 48) (vid : BitVec 12)
  /-- SAFE_WATCHDOG_EXPIRY (R477): A consumer without acceptance for WDOG us enters FAILSAFE. -/
  | safeWatchdogExpiry (c : Fin 1024)
  /-- NET_SACK (R477): A write acknowledges FAILSAFE of one connection. -/
  | netSack (c : Fin 1024)
  /-- NET_SCLK_LK (R473): Setting LK copies every safe connection's configuration into use. -/
  | netSclkLk
  /-- SAFE_CHANNEL_COMPARISON_FAULT (R479): The two copies of the safe-channel logic disagree, forcing FAILSAFE and stopping producers. -/
  | safeChannelComparisonFault
  /-- ARP (R487): M0 answers an ARP or neighbour-discovery request. -/
  | arp (v6 : Bool) (target : BitVec 128) (src : BitVec 128) (payload : List Byte)
  /-- ECHO_REQUEST (R487): M0 answers an ICMP or ICMPv6 echo request. -/
  | echoRequest (v6 : Bool) (target : BitVec 128) (src : BitVec 128) (payload : List Byte)
  /-- OPEN (R499): An AOP OPEN authenticates a credential and opens a session with a new key. -/
  | aopOpen (via : HostVia) (m : AopMsg)
  /-- AOP_CLOSE (R502): An AOP CLOSE closes the session after its response. -/
  | aopClose (via : HostVia) (m : AopMsg)
  /-- PING (R504): An AOP PING is answered without payload. -/
  | aopPing (via : HostVia) (m : AopMsg)
  /-- READ (R505): An AOP READ returns a segment of an object's value. -/
  | aopRead (via : HostVia) (m : AopMsg)
  /-- WRITE (R505): An AOP WRITE sets a segment of an object's value. -/
  | aopWrite (via : HostVia) (m : AopMsg)
  /-- DESCRIBE (R504): An AOP DESCRIBE returns an object's type, access, keep and maximum length. -/
  | aopDescribe (via : HostVia) (m : AopMsg)
  /-- STORE (R656): An AOP STORE starts writing every stored object to serial memory. -/
  | aopStore (via : HostVia) (m : AopMsg)
  /-- STORE_DONE (R656): A STORE finishes programming and reading back, or fails. -/
  | storeDone (ok : Bool)
  /-- PROPOSE (R526): A PROPOSE is checked and takes a proposal slot with a new tag. -/
  | aopPropose (via : HostVia) (m : AopMsg)
  /-- COUNTERSIGN (R529): A second party's COUNTERSIGN approves a pending proposal and applies the change. -/
  | aopCountersign (via : HostVia) (m : AopMsg)
  /-- WITHDRAW (R531): The proposer's WITHDRAW frees its slot. -/
  | aopWithdraw (via : HostVia) (m : AopMsg)
  /-- HST_SOFTDONE (R513): The soft server's write completes an answer in a soft-queue entry. -/
  | hstSoftdone (w : TriadId) (entry : Fin 32)
  /-- SOFT_TIMEOUT (R513): A soft request unanswered within TMO ms is answered 0x000A. -/
  | softTimeout (entry : Fin 32)
  /-- SESSION_IDLE_TIMEOUT (R502): A session without an accepted request within the idle timeout closes. -/
  | sessionIdleTimeout (sess : Fin 8)
  /-- PCIE_LINK_DOWN (R492): A PCIe port loses link, clearing its ring header and closing its session. -/
  | pcieLinkDown (p : Fin 2)
  /-- RQ_PROD (R493): A host write advances the request ring producer index or is discarded. -/
  | rqProd (p : Fin 2) (v : HostStore)
  /-- RS_CONS (R493): A host write advances the response ring consumer index or is discarded. -/
  | rsCons (p : Fin 2) (v : HostStore)
  /-- SYS_RECAP (R516): A triad's write requests a RECAP to an address in bank 10. -/
  | sysRecap (w : TriadId) (v : Word)
  /-- RECAP_CAPTURE (R514): The engine captures the device summary in one fabric cycle and writes it out. -/
  | recapCapture (t : TriadId)
  /-- TRIAD_PROPOSE (R534): An LCS_PROPt write with OP 0 submits a triad's proposal block. -/
  | triadPropose (w : TriadId) (v : Word)
  /-- TRIAD_WITHDRAW (R534): An LCS_PROPt write with OP 1 withdraws a triad's slot. -/
  | triadWithdraw (w : TriadId) (v : Word)
  /-- KEY_SWITCH_APPROVAL (R530): KEYSW_N held asserted for 500 ms after release approves a key-switch proposal. -/
  | keySwitchApproval
  /-- PROPOSAL_TIMEOUT (R532): A pending proposal reaches its timeout and its slot is freed. -/
  | proposalTimeout (k : Fin 8)
  /-- TAMPER (R541): TAMPER_N or a detector reports tamper, wiping the secure region and closing sessions. -/
  | tamper (cause : BitVec 4)
  /-- WIPE_COMPLETE (R368): The wipe ends, held accesses are served and E0885 pulses. -/
  | wipeComplete (readBackOk : Bool)
  /-- WIDE_LO_READ (R547): A read of a _LO register returns bits [31:0] and latches bits [63:32]. -/
  | wideLoRead (q : Requester) (leg : Bool) (off : BitVec 16)
  /-- WIDE_LO_WRITE (R547): A write of a _LO register loads the requester's write latch. -/
  | wideLoWrite (q : Requester) (leg : Bool) (off : BitVec 16) (v : BitVec 32)
  /-- WIDE_HI_WRITE (R547): A write of a _HI register writes the whole value with the write latch. -/
  | wideHiWrite (q : Requester) (leg : Bool) (off : BitVec 16) (v : BitVec 32)
  /-- CAPTURE_FIFO_POP (R548): A 64-bit load of TMR_CHn_CAPF pops the head capture entry. -/
  | captureFifoPop (q : Requester) (n : Fin 64)
  /-- COUNT_STEP (R551): A channel takes a count step, wrapping at TOP and checking compares. -/
  | countStep (n : Fin 64)
  /-- INDEX_CLEAR (R551): A rising index edge clears CNT in QUAD with ZCLR set. -/
  | indexClear (n : Fin 64)
  /-- CHANNEL_START (R554): A write of EN from 0 to 1 starts a channel, driving its initial pin levels. -/
  | channelStart (q : Requester) (n : Fin 64) (v : BitVec 32)
  /-- CHANNEL_STOP (R554): A write of EN 0 stops counting with pins kept. -/
  | channelStop (q : Requester) (n : Fin 64) (v : BitVec 32)
  /-- FORCE (R553): A write of 1 to CTL.FORCEk acts as a match of compare unit k. -/
  | force (q : Requester) (n : Fin 64) (v : BitVec 32)
  /-- TMR_CHN_CFG (R732): A write of channel configuration takes effect in the next cycle, restarting the prescaler. -/
  | tmrChnCfg (w : Requester) (n : Fin 64) (pins : Bool) (v : BitVec 32)
  /-- GROUP_START (R557): A GO to TMR_GRPg_START schedules the staggered starts of the group's channels. -/
  | groupStart (q : Requester) (g : Fin 8)
  /-- STAGGERED_START (R557): A group member channel starts at its stagger delay. -/
  | staggeredStart (n : Fin 64)
  /-- SSI_START (R559): A GO starts an SSI transfer unless busy or the line is low. -/
  | ssiStart (q : Requester) (m : Fin 16)
  /-- SSI_TRANSFER_DONE (R560): After the last sample POS is written and DONE set. -/
  | ssiTransferDone (m : Fin 16) (samples : List Bool)
  /-- MONOFLOP_END (R559): The TMONO wait ends and BUSY clears. -/
  | monoflopEnd (m : Fin 16)
  /-- UART_TXD (R564): A write pushes a character into the transmit FIFO. -/
  | uartTxd (q : Requester) (u : Fin 8) (v : BitVec 32)
  /-- UART_START (R564): A GO sends the characters held at its effect edge. -/
  | uartStart (q : Requester) (u : Fin 8)
  /-- CHARACTER_SENT (R561): A UART finishes sending one character frame. -/
  | characterSent (u : Fin 8)
  /-- DE_RELEASE (R564): DE is released DEHOLD bit times after the last stop bit. -/
  | deRelease (u : Fin 8)
  /-- CHARACTER_RECEIVED (R562): A received character enters the receive FIFO. -/
  | characterReceived (u : Fin 8) (data : BitVec 9) (fe pe : Bool)
  /-- UART_IDLE_TIMEOUT (R563): The line idle for IDLE character times with data waiting pulses the receive event. -/
  | uartIdleTimeout (u : Fin 8)
  /-- UART_RXD (R562): A read of UART_u_RXD pops a character. -/
  | uartRxd (q : Requester) (u : Fin 8)
  /-- SDM_VAL (R567): A write of a sigma-delta value becomes active at once or awaits a group update. -/
  | sdmVal (q : Requester) (k : Fin 32) (v : BitVec 32)
  /-- SDM_UPD (R567): A write applies held values of the named groups. -/
  | sdmUpd (q : Requester) (mask : BitVec 8)
  /-- SDM_ENABLE (R566): Setting EN starts the modulator from zero integrators. -/
  | sdmEnable (q : Requester) (k : Fin 32) (v : BitVec 32)
  /-- SDM_WATCHDOG (R568): A channel without a new value for WDOG x 10 us modulates SAFE and reports. -/
  | sdmWatchdog (k : Fin 32)
  /-- GPIO_OUT (R569): A write sets the output levels of a GPIO group. -/
  | gpioOut (q : Requester) (g : Fin 8) (v : BitVec 32)
  /-- GPIO_SET (R569): A write sets the named output bits. -/
  | gpioSet (q : Requester) (g : Fin 8) (v : BitVec 32)
  /-- GPIO_CLR (R569): A write clears the named output bits. -/
  | gpioClr (q : Requester) (g : Fin 8) (v : BitVec 32)
  /-- GPIO_EDGE (R570): A selected edge writes a timestamp entry into the group FIFO. -/
  | gpioEdge (p : Fin 128) (rise : Bool)
  /-- TIMESTAMP_FIFO_POP (R548): A 64-bit load of GPIO_g_TSF pops the head timestamp entry. -/
  | timestampFifoPop (q : Requester) (g : Fin 8)
  /-- SAFE_CLEAR (R572): The owning triad writes 1 to its SAFE bit to return outputs to software. -/
  | safeClear (w : TriadId) (leg : Bool) (mask : BitVec 6)
  /-- YOBER_PING (R586): The island answers PING. -/
  | yoberPing
  /-- IDENT (R586): The island returns its checksums, version, slot and event counter. -/
  | ident
  /-- MEASURE (R590): The island measures a channel and makes a signed record. -/
  | measure
  /-- PREAD (R586): The island returns a parameter value. -/
  | pread
  /-- PWRITE (R597): An authenticated parameter write blows a counter fuse, logs and applies the change. -/
  | pwrite
  /-- KEYSET (R587): Sets or changes the metrology key. -/
  | keyset
  /-- FWBEGIN (R599): Clears the inactive firmware slot for an update. -/
  | fwbegin
  /-- FWDATA (R599): Writes a 32-octet block into the staged slot. -/
  | fwdata
  /-- FWEND (R599): Verifies the staged image's signature and returns its checksum. -/
  | fwend
  /-- FWACT (R599): Activates the verified slot, logs it and resets the island. -/
  | fwact
  /-- AUDIT (R596): Returns an audit trail entry. -/
  | audit
  /-- CQ_PROD (R585): A triad advances the command ring producer index or the write is ignored. -/
  | cqProd (w : TriadId) (v : BitVec 32)
  /-- RR_CONS (R592): A triad advances the record ring consumer index. -/
  | rrCons (w : TriadId) (v : BitVec 32)
  /-- RECORD_WRITE (R593): The island writes a backlog record into a freed ring slot. -/
  | recordWrite
  /-- SEAL_CHANGE (R594): A SEAL_N level held for 100 ms updates the seal state and logs it. -/
  | sealChange (intact : Bool)
  /-- ISLAND_RESET (R579): The island resets and its boot ROM starts. -/
  | islandReset (cause : IslandCause)
  /-- ISLAND_READY (R580): The island boot ends, setting READY or the fault state. -/
  | islandReady (bistOk : Bool)
  /-- FAULT_REPORT (R617): Each FCU records a fault, classifies it and carries out its class reaction. -/
  | faultReport (f : Byte) (info : BitVec 32) (route : FcuRoute)
  /-- FCU_SWREP (R631): A 64-bit write reports software fault F208 plus IDX. -/
  | fcuSwrep (idx : BitVec 4) (info : BitVec 32)
  /-- CROSS_CHECK_EXCHANGE (R609): The FCUs exchange and compare digests every 1,024 ROSC cycles. -/
  | crossCheckExchange
  /-- FCU_SELF_CHECK_ERROR (R611): An FCU's self-check finds an error and the unit becomes FAILED. -/
  | fcuSelfCheckError (u : FcuError)
  /-- PULSE_END (R621): The FAULT_N pulse width runs out and the decision window continues. -/
  | pulseEnd (u : FcuId)
  /-- DECISION_WINDOW_END (R621): A decision window ends without HOLD or REL and HWHOLD is set. -/
  | decisionWindowEnd (u : FcuId)
  /-- HOLD (R621): A write of HOLD to FCU_PINCTL sets the software hold. -/
  | hold
  /-- REL (R622): A write of REL releases FAULT_N when the rules allow. -/
  | rel
  /-- ACTIVE_FAULT_CLEAR (R629): Clearing active fault bits may move an FCU from FAULT to QUIET. -/
  | activeFaultClear (k : Fin 8) (v : BitVec 32)
  /-- QUIET_PERIOD_END (R629): The quiet period passes and the FCU becomes NORMAL. -/
  | quietPeriodEnd (u : FcuId)
  /-- ALIVE_TOGGLE (R624): FCU-A toggles ALIVE every 50 us while its conditions hold. -/
  | aliveToggle
  /-- PERMIT_TOGGLE (R625): An armed PERMIT pin toggles at its half-period. -/
  | permitToggle (u : FcuId)
  /-- PACK_N_ACKNOWLEDGEMENT (R627): PACK_N released after 20 ms to 2 s arms PERMIT when conditions hold. -/
  | packNAcknowledgement (heldMs : Nat)
  /-- CLOCK_MONITOR_WINDOW (R37): A 1,024-cycle window ends and each clock's count is judged against its ratio. -/
  | clockMonitorWindow (off : BitVec 6)
  /-- CLOCK_STOP (R37): A clock without a rising edge for 4 ROSC cycles is reported. -/
  | clockStop (c : Fin 6)
  /-- PLL_LOSS_OF_LOCK (R37): The root PLL reports loss of lock to the monitor. -/
  | pllLossOfLock
  /-- BANK_POWER_REQUEST (R360): An SRB_PWR write starts a bank's change of power state. -/
  | bankPowerRequest (v : BitVec 32)
  /-- BANK_POWER_CHANGE_DONE (R360): A bank finishes its change, pulsing E0883 on reaching On. -/
  | bankPowerChangeDone (n : Fin 12)
  /-- ECC_WRITE_BACK (R345): A corrected SRAM word is written back when the port is free. -/
  | eccWriteBack (word : BitVec 40)
  /-- BACKGROUND_TEST_REGION (R356): The background test saves, march-tests and restores one 256-byte region. -/
  | backgroundTestRegion (run : RegionTest)
  /-- SCRUB_READ (R382): The patrol scrubber reads a DDR line and corrects it if needed. -/
  | scrubRead (read : LineRead)
  /-- ZQ_CALIBRATION (R377): ZQ calibration runs every 128 ms. -/
  | zqCalibration
  /-- COMMAND_REPEAT (R381): A parity or write-CRC alert makes the controller repeat a command. -/
  | commandRepeat (rep : RepeatedCommand)
  /-- CHANNEL_LOSS (R387): A lost DDR channel becomes a hole and is reported. -/
  | channelLoss (c : Fin 4)
  /-- TRACE_ENTRY_WRITE (R687): The trace unit drains a FIFO entry into the trace buffer. -/
  | traceEntryWrite
  /-- TRACE_PORT_SEND (R688): The trace port sends one entry, idle or SYNC. -/
  | tracePortSend
  /-- TRACE_ENABLE (R687): A write of TRC_CTL.EN 1 resets the buffer pointer and flags. -/
  | traceEnable (v : BitVec 32)
  /-- COUNTER_WRITE (R694): A gated write sets an event counter. -/
  | counterWrite (w t : TriadId) (n : Fin 32) (v : Word)
  /-- HALT_REQUEST (R697): A debugger requests a halt, taken at the next committed clause boundary. -/
  | haltRequest (t : TriadId)
  /-- DEBUG_RESUME (R697): A debugger resumes a halted triad. -/
  | debugResume (t : TriadId)
  /-- SINGLE_STEP (R283): A debugger single-steps a halted triad by one clause. -/
  | singleStep (t : TriadId)
  /-- DEBUG_REGISTER_ACCESS (R697): A debugger reads or writes a register of a halted triad in every lane. -/
  | debugRegisterAccess (t : TriadId) (num : BitVec 12) (write : Option Word)
  /-- DEBUG_MEMORY_ACCESS (R697): A debugger has a halted triad load or store as a one-bundle clause. -/
  | debugMemoryAccess (t : TriadId) (va : Word) (size : BitVec 2) (write : Option Word)
  /-- MODE_REQUEST_COMMISSION (R666): A SYS_MODEREQ write requests COMMISSION. -/
  | modeRequestCommission (w : TriadId)
  /-- MODE_REQUEST_OPERATE (R665): A SYS_MODEREQ write requests OPERATE and is checked in order. -/
  | modeRequestOperate (w : TriadId)
  /-- MODE_REQUEST_SAFE_HOLD (R666): A SYS_MODEREQ write requests SAFE HOLD. -/
  | modeRequestSafeHold (w : TriadId)
  /-- DORMANT_RETAIN_REQUEST (R675): A SYS_MODEREQ write requests DORMANT-RETAIN. -/
  | dormantRetainRequest (w : TriadId)
  /-- DORMANT_OFF_REQUEST (R675): A SYS_MODEREQ write requests DORMANT-OFF. -/
  | dormantOffRequest (w : TriadId)
  /-- DORMANT_ENTRY (R676): After triads stop at clause boundaries, state is saved and domains power down. -/
  | dormantEntry
  /-- WAKE (R678): WAKE_N held low for 64 ROSC cycles wakes the device. -/
  | wake
  /-- WAKE_TIME (R678): TNS_NOW reaching SYS_WAKET wakes the device. -/
  | wakeTime
  /-- DEGRADED_LIMIT (R668): The DEGRADED clock reaches its limit and F169 is reported. -/
  | degradedLimit
  /-- POR (R670): Power-on or a supply monitor resets the whole device except the island. -/
  | por
  /-- PIN_RESET (R671): RESET_N held low for 64 ROSC cycles applies a pin reset. -/
  | pinReset
  /-- DEVICE_RESET (R670): A class X reaction, reset command, life-cycle transition or DORMANT-OFF wake resets the device. -/
  | deviceReset (cause : DevCause)
  /-- TRIAD_RESET (R673): A SYS_TRST write or triple fault resets one triad. -/
  | triadReset (t : TriadId)
  /-- BOOT_SEQUENCE (R634): The boot sequencer tests, repairs, loads and authenticates, then releases the triads. -/
  | bootSequence (found : BootFindings)
  /-- REGISTER_WRITE (R15): A write to a register without a row of its own acts by its fields' access codes. -/
  | registerWrite (w : TriadId) (addr : BitVec 40) (dbl : Bool) (v : Word)
  /-- ATTRIBUTION_WINDOW_EXPIRY (R279): One second after a lane's attributed mismatch, measured on CLK_TNS, the window in which a second one retires the lane closes. -/
  | attributionWindowExpiry (t : TriadId) (l : LaneId)
  /-- DOMAIN_WINDOW_EXPIRY (R619): A class R or D report leaves its domain's 3,600 s window, and FCU_DOMCNTd.COUNT falls. -/
  | domainWindowExpiry (u : FcuId) (d : Fin 7)
  /-- PLL_LOCK_REGAINED (R37): The root PLL regains lock, which sets SYS_CLKSTAT.LOCK and rearms the monitor's loss-of-lock report. -/
  | pllLockRegained
  /-- PCIE_LINK_UP (R492): A PCIe port trains and gains link, which sets HST_PSTATp.LINK, GEN and WIDTH; READY becomes 1 once the session engine runs. -/
  | pcieLinkUp (p : Fin 2) (gen : BitVec 3) (width : PcieSetup)
  /-- TAMPER_CONDITION_END (R541): TAMPER_N is deasserted or a detector condition ends, which clears LCS_TAMPER.ACTIVE and lets OPEN requests be accepted again. -/
  | tamperConditionEnd
  /-- KEYSW_N_CHANGE (R530): KEYSW_N changes level; a deassertion is recorded as seen for pending key-switch proposals, and an assertion starts the 500 ms timing. -/
  | keyswNChange (asserted : Bool)
  /-- IMAGE_WRITE_DONE (R653): The write of a firmware image into the slot not booted finishes its check under R651, and 0x1110.02 becomes 2 or 3. -/
  | imageWriteDone
  /-- FIRMWARE_RECORD (R590): The island firmware makes a record of its own, for example at the end of a length cut, and writes it to the ring or the backlog. -/
  | firmwareRecord (chan : Byte)
deriving DecidableEq, Repr

end Sys2Proof
end

