-- ==== Sys2Proof/Machine/Bits.lean ====
section
/-! DEFINITION. Bit fields, byte orders and saturating counts, as the spec's tables use them (R6, R8, R9). -/

namespace Sys2Proof.Machine

/-- Field [hi:lo] of a word as a number (R8). -/
def field (w : Word) (hi lo : Nat) : Nat := (w.toNat / 2 ^ lo) % 2 ^ (hi + 1 - lo)

/-- Bit i of a word. -/
def bitOf (w : Word) (i : Nat) : Bool := w.getLsbD i

/-- The word with field [hi:lo] replaced by v, cut to the field's width. -/
def setField (w : Word) (hi lo v : Nat) : Word :=
  let n := 2 ^ (hi + 1 - lo)
  BitVec.ofNat 64 (w.toNat - ((w.toNat / 2 ^ lo) % n) * 2 ^ lo + (v % n) * 2 ^ lo)

/-- The word with bit i set or cleared. -/
def putBit (w : Word) (i : Nat) (b : Bool) : Word := setField w i i b.toNat

/-- The bits of `mask` set in w. -/
def setBits (w mask : Word) : Word := w ||| mask

/-- v + 1, saturating at m (the counters that saturate). -/
def satSucc (v m : Nat) : Nat := if v < m then v + 1 else m

/-- Field [hi:lo] raised by one, saturating at all ones. -/
def satField (w : Word) (hi lo : Nat) : Word :=
  setField w hi lo (satSucc (field w hi lo) (2 ^ (hi + 1 - lo) - 1))

/-- Field [hi:lo] raised by one, wrapping to 0. -/
def wrapField (w : Word) (hi lo : Nat) : Word := setField w hi lo (field w hi lo + 1)

/-- A number as n octets, least significant first (R9). -/
def bytesLE : Nat → Nat → List Byte
  | 0, _ => []
  | n + 1, v => BitVec.ofNat 8 v :: bytesLE n (v / 256)

/-- A number as n octets, most significant first (R9). -/
def bytesBE (n v : Nat) : List Byte := (bytesLE n v).reverse

/-- Octets, least significant first, as a number. -/
def natLE : List Byte → Nat
  | [] => 0
  | b :: bs => b.toNat + 256 * natLE bs

/-- Octets, most significant first, as a number. -/
def natBE (bs : List Byte) : Nat := natLE bs.reverse

/-- n octets of a list from an offset; octets past its end read 0. -/
def sliceOf (l : List Byte) (off n : Nat) : List Byte := (List.range n).map fun i => l.getD (off + i) 0

/-- Little-endian and big-endian numbers at an offset of a list. -/
def leAt (l : List Byte) (off n : Nat) : Nat := natLE (sliceOf l off n)
def beAt (l : List Byte) (off n : Nat) : Nat := natBE (sliceOf l off n)

/-- Replaces one element of a list. -/
def listSet {α : Type} (l : List α) (i : Nat) (x : α) : List α := l.set i x

/-- A list cut or padded with zero octets to length n. -/
def padTo (l : List Byte) (n : Nat) : List Byte := (l ++ List.replicate n 0).take n

/-- Truth of a Prop-valued test as a bit of a word. -/
def b2w (b : Bool) (i : Nat) : Word := if b then BitVec.ofNat 64 (2 ^ i) else 0

/-- A signed reading of the low n bits of a number. -/
def signed (n v : Nat) : Int :=
  let m := v % 2 ^ n
  if m < 2 ^ (n - 1) then m else (m : Int) - 2 ^ n

/-- An integer cut to n bits, two's complement. -/
def unsigned (n : Nat) (i : Int) : Nat := (i % (2 ^ n : Int)).toNat

/-- An integer held within -m to m. -/
def clampInt (i m : Int) : Int := if i < -m then -m else if m < i then m else i

/-- The update of one element of a vector. -/
def vmod {α : Type} {n : Nat} (v : Vector α n) (i : Fin n) (f : α → α) : Vector α n :=
  v.set i.val (f v[i]) i.isLt

/-- The numbers 0 to 5 and 0 to 2 and 0 to 31. -/
def allTriads : List TriadId := [0, 1, 2, 3, 4, 5]
def allLanes : List LaneId := [0, 1, 2]
def allFin32 : List (Fin 32) := List.finRange 32

end Sys2Proof.Machine
end

