-- ==== Sys2Proof/Config.lean ====
section
/-! DEFINITION. What an implementation fixes and the free values: values the spec leaves open. Each is opaque, so no
statement can rest on what it is (log 6, 12). -/

namespace Sys2Proof

/-- The n-th free value drawn: a random number, a measured value, any value the spec leaves open. DESIGN CHOICE: the
counter `State.free` is the argument, so that two draws are unrelated (log 6). -/
opaque Config.freeWord : Nat → Word

/-- Fuses of the device that no rule gives a value (R520, R538): serial number, revision, station address of M0. -/
opaque Config.fuseSerial : Word
opaque Config.fuseRev : BitVec 32
opaque Config.fuseMac : BitVec 48

/-- The fuse field REPAIR, programmed at manufacture (R538, R639). -/
opaque Config.fuseRepair : BitVec 2304

/-- The provisioning key of a BLANK device and the device secret (R499, R538), 32 octets each as a number. -/
opaque Config.fuseProvKey : BitVec 256
opaque Config.fuseDevSecret : BitVec 256

/-- Whether an ECDSA P-256 signature is valid: key digest or key (octets), message digest, signature octets (R650,
R600). The arithmetic of the curve is FIPS 186, not this spec's; log 23. -/
opaque Config.ecdsaValid : List Byte → List Byte → List Byte → Bool

/-- The state of the random bit generator after a draw, by the free value drawn for it: no rule gives the generator (R540;
log 25). -/
opaque Config.rbgAfter : Word → BitVec 2048

/-- How the mean of R404 is brought to a whole number when it is none: up or down, by the sum and the count (log 19). -/
opaque Config.meanRoundsUp : Int → Nat → Bool

/-- What binary floating point leaves to an implementation and the spec does not settle (R78, R121): whether an operand
that is a signaling NaN raises NV, whether infinity times zero plus a quiet NaN does, whether underflow is judged before
rounding (log 22). -/
opaque Config.snanRaisesNv : Bool
opaque Config.fmaInfZeroNanNv : Bool
opaque Config.tinyBeforeRounding : Bool

/-- What FP operations do under the rounding modes 0b100 to 0b111, which PSW.RM reserves and a frame can load (R185): whether
a magnitude is raised (mode, sign, last bit odd, lost part and its unit's exponent), whether an overflow gives infinity, the
sign of an exact zero sum (log 22). -/
opaque Config.reservedRoundsUp : Nat → Bool → Bool → Nat → Nat → Bool
opaque Config.reservedToInf : Nat → Bool → Bool
opaque Config.reservedZeroNeg : Nat → Bool

/-- What the island's firmware, which no rule gives, decides: whether a parameter identifier exists and a value is
legal for it, whether a channel and mode can be measured (R590, R597; log 21). -/
opaque Config.yoberParamOk : Nat → List Byte → Bool
opaque Config.yoberMeasureOk : Byte → Byte → Bool

/-- The counting mode the island firmware sets for channel YTCn: 0 QUAD, 1 STEPDIR, else PULSE (R578; log 21), and the
key hash in the island's own fuses (R599), 32 octets as a number. -/
opaque Config.yoberMode : Nat → Nat
opaque Config.fuseYoberKeyHash : BitVec 256

/-- FILT of channel YTCn as the island firmware sets it (R550, R578; log 21). -/
opaque Config.yoberFilt : Nat → BitVec 4

end Sys2Proof
end

