-- ==== Sys2Proof/Machine/RegTable.lean ====
section
/-! DEFINITION. The map of the device's registers (R10, R41, R42): one row per register heading of chapters 01 to 19,
with its address, width, reset value, survival letter, access masks, reserved encodings and lock (R12, R15, R18, R19).
Written from the field tables of spec/. A 48-bit or 64-bit register of the TMR and LEG blocks that R547 splits into a
_LO and a _HI half has no row here: its home is its unit. -/

namespace Sys2Proof.Machine

/-- Survival letters (R19). -/
inductive Survival where
  | p | h | d | t
deriving DecidableEq, Repr

/-- One register heading. An instance with indices i, j stands at `base + i * s1 + j * s2`. `rsv` lists the fields with
reserved encodings, as (high bit, low bit, allowed ranges); `lock` is (address, stride, bit, stride of the bit) of the
lock bit, by the first index. -/
structure RegDesc where
  base : Nat
  n1 : Nat
  s1 : Nat
  n2 : Nat
  s2 : Nat
  wide : Bool
  reset : Nat
  resetStep : Nat
  surv : Survival
  rw : Nat
  rwl : Nat
  w1c : Nat
  w1s : Nat
  rsv : List (Nat × Nat × List (Nat × Nat))
  lock : Option (Nat × Nat × Nat × Nat)
deriving DecidableEq, Repr

namespace Adr

/-- SYS_MODE -/
abbrev sysMode : Nat := 0x80000000
/-- SYS_MODEREQ -/
abbrev sysModereq : Nat := 0x80000008
/-- SYS_WAKET -/
abbrev sysWaket : Nat := 0x80000010
/-- SYS_RSTCAUSE -/
abbrev sysRstcause : Nat := 0x80000018
/-- SYS_TRST -/
abbrev sysTrst : Nat := 0x80000020
/-- SYS_DEGSTAT -/
abbrev sysDegstat : Nat := 0x80000028
/-- SYS_WAKECFG -/
abbrev sysWakecfg : Nat := 0x80000030
/-- SYS_CLKSTAT -/
abbrev sysClkstat : Nat := 0x80000040
/-- SYS_RSTVECn -/
abbrev sysRstvec (i : Nat) : Nat := 0x80000100 + 0x8 * i
/-- SYS_LSTAT -/
abbrev sysLstat : Nat := 0x80000200
/-- SYS_RECAP -/
abbrev sysRecap : Nat := 0x80000300
/-- SYS_RECAPSTAT -/
abbrev sysRecapstat : Nat := 0x80000308
/-- FCU_STATE -/
abbrev fcuState : Nat := 0x80010000
/-- FCU_CFG -/
abbrev fcuCfg : Nat := 0x80010008
/-- FCU_PINCTL -/
abbrev fcuPinctl : Nat := 0x80010010
/-- FCU_PERMIT -/
abbrev fcuPermit : Nat := 0x80010018
/-- FCU_XCHK -/
abbrev fcuXchk : Nat := 0x80010020
/-- FCU_ACTk -/
abbrev fcuAct (i : Nat) : Nat := 0x80010040 + 0x4 * i
/-- FCU_RCNT0 -/
abbrev fcuRcnt0 : Nat := 0x80010060
/-- FCU_RCNT1 -/
abbrev fcuRcnt1 : Nat := 0x80010068
/-- FCU_DOM -/
abbrev fcuDom : Nat := 0x80010070
/-- FCU_DOMCNTd -/
abbrev fcuDomcnt (i : Nat) : Nat := 0x80010080 + 0x4 * i
/-- FCU_SWREP -/
abbrev fcuSwrep : Nat := 0x800100A0
/-- FCU_LOGPTR -/
abbrev fcuLogptr : Nat := 0x800100A8
/-- FCU_LOGn_W0 -/
abbrev fcuLogW0 (i : Nat) : Nat := 0x80011000 + 0x10 * i
/-- FCU_LOGn_W1 -/
abbrev fcuLogW1 (i : Nat) : Nat := 0x80011008 + 0x10 * i
/-- TST_STAT -/
abbrev tstStat : Nat := 0x80020000
/-- TST_BANK -/
abbrev tstBank : Nat := 0x80020008
/-- TST_LANE -/
abbrev tstLane : Nat := 0x80020010
/-- TST_UNC -/
abbrev tstUnc : Nat := 0x80020018
/-- LCS_LCSTATE -/
abbrev lcsLcstate : Nat := 0x80030000
/-- LCS_PROPt -/
abbrev lcsProp (i : Nat) : Nat := 0x80030100 + 0x8 * i
/-- LCS_PRESt -/
abbrev lcsPres (i : Nat) : Nat := 0x80030180 + 0x8 * i
/-- LCS_PTAGt -/
abbrev lcsPtag (i : Nat) : Nat := 0x80030200 + 0x8 * i
/-- LCS_TAMPER -/
abbrev lcsTamper : Nat := 0x80030300
/-- EVC_ROUTE_n -/
abbrev evcRoute (i : Nat) : Nat := 0x80040000 + 0x4 * i
/-- EVC_PEND_k -/
abbrev evcPend (i : Nat) : Nat := 0x80041000 + 0x4 * i
/-- EVC_OVR_k -/
abbrev evcOvr (i : Nat) : Nat := 0x80041080 + 0x4 * i
/-- EVC_SWSET -/
abbrev evcSwset : Nat := 0x80041100
/-- EVC_LOCK -/
abbrev evcLock : Nat := 0x80041104
/-- EVC_DBSET -/
abbrev evcDbset : Nat := 0x80041108
/-- EVC_DBFROM_k -/
abbrev evcDbfrom (i : Nat) : Nat := 0x80041140 + 0x4 * i
/-- EVC_STAT_t -/
abbrev evcStat (i : Nat) : Nat := 0x80041200 + 0x4 * i
/-- TAPU_PWFRZ -/
abbrev tapuPwfrz : Nat := 0x80050080
/-- TAPU_CTX_t -/
abbrev tapuCtx (i : Nat) : Nat := 0x80050100 + 0x8 * i
/-- TAPU_FREC_t -/
abbrev tapuFrec (i : Nat) : Nat := 0x80050200 + 0x10 * i
/-- TAPU_FVA_t -/
abbrev tapuFva (i : Nat) : Nat := 0x80050208 + 0x10 * i
/-- TAPU_INVAL_t -/
abbrev tapuInval (i : Nat) : Nat := 0x80050300 + 0x8 * i
/-- TAPU_PWB_t_w -/
abbrev tapuPwb (i j : Nat) : Nat := 0x80051000 + 0x100 * i + 0x10 * j
/-- TAPU_PWL_t_w -/
abbrev tapuPwl (i j : Nat) : Nat := 0x80051008 + 0x100 * i + 0x10 * j
/-- DMAx_ENG_CTL -/
abbrev dmaEngCtl (i : Nat) : Nat := 0x80060000 + 0x10000 * i
/-- DMAx_ENG_STAT -/
abbrev dmaEngStat (i : Nat) : Nat := 0x80060008 + 0x10000 * i
/-- DMAx_CHn_CFG -/
abbrev dmaCfg (i j : Nat) : Nat := 0x80061000 + 0x10000 * i + 0x100 * j
/-- DMAx_CHn_DB -/
abbrev dmaDb (i j : Nat) : Nat := 0x80061008 + 0x10000 * i + 0x100 * j
/-- DMAx_CHn_CMD -/
abbrev dmaCmd (i j : Nat) : Nat := 0x80061010 + 0x10000 * i + 0x100 * j
/-- DMAx_CHn_STAT -/
abbrev dmaStat (i j : Nat) : Nat := 0x80061018 + 0x10000 * i + 0x100 * j
/-- DMAx_CHn_CTX -/
abbrev dmaCtx (i j : Nat) : Nat := 0x80061020 + 0x10000 * i + 0x100 * j
/-- DMAx_CHn_RES0 -/
abbrev dmaRes0 (i j : Nat) : Nat := 0x80061028 + 0x10000 * i + 0x100 * j
/-- DMAx_CHn_RES1 -/
abbrev dmaRes1 (i j : Nat) : Nat := 0x80061030 + 0x10000 * i + 0x100 * j
/-- DMAx_CHn_RES2 -/
abbrev dmaRes2 (i j : Nat) : Nat := 0x80061038 + 0x10000 * i + 0x100 * j
/-- SRB_PWR -/
abbrev srbPwr : Nat := 0x80080000
/-- SRB_PSTAT -/
abbrev srbPstat : Nat := 0x80080008
/-- SRB_ECCSTAT -/
abbrev srbEccstat : Nat := 0x80080010
/-- SRB_ECCADDR -/
abbrev srbEccaddr : Nat := 0x80080018
/-- SRB_COLCNT -/
abbrev srbColcnt : Nat := 0x80080020
/-- SRB_BGTCTL -/
abbrev srbBgtctl : Nat := 0x80080028
/-- SRB_BGTSTAT -/
abbrev srbBgtstat : Nat := 0x80080030
/-- SRB_BGTFAIL -/
abbrev srbBgtfail : Nat := 0x80080038
/-- SRB_WIPESTAT -/
abbrev srbWipestat : Nat := 0x80080040
/-- DDR_CFG -/
abbrev ddrCfg : Nat := 0x80090000
/-- DDR_STAT -/
abbrev ddrStat : Nat := 0x80090008
/-- DDR_TOP -/
abbrev ddrTop : Nat := 0x80090010
/-- DDR_ECCSTAT -/
abbrev ddrEccstat : Nat := 0x80090018
/-- DDR_ECCADDR -/
abbrev ddrEccaddr : Nat := 0x80090020
/-- DDR_RETRY -/
abbrev ddrRetry : Nat := 0x80090028
/-- DDR_SCRUB -/
abbrev ddrScrub : Nat := 0x80090030
/-- DDR_CAND -/
abbrev ddrCand : Nat := 0x80090038
/-- DDR_RETn -/
abbrev ddrRet (i : Nat) : Nat := 0x80090100 + 0x8 * i
/-- TNS_CTL -/
abbrev tnsCtl : Nat := 0x800A0000
/-- TNS_NOW -/
abbrev tnsNow : Nat := 0x800A0008
/-- TNS_RATE -/
abbrev tnsRate : Nat := 0x800A0010
/-- TNS_STEP -/
abbrev tnsStep : Nat := 0x800A0018
/-- TNS_EPOCH -/
abbrev tnsEpoch : Nat := 0x800A0020
/-- TNS_SERVO -/
abbrev tnsServo : Nat := 0x800A0028
/-- TNS_SLIM -/
abbrev tnsSlim : Nat := 0x800A0030
/-- TNS_SSTAT -/
abbrev tnsSstat : Nat := 0x800A0038
/-- TNS_STAT -/
abbrev tnsStat : Nat := 0x800A0040
/-- TNS_LATECNT -/
abbrev tnsLatecnt : Nat := 0x800A0048
/-- TNS_ARM -/
abbrev tnsArm : Nat := 0x800A0050
/-- TNS_ARMRES_t -/
abbrev tnsArmres (i : Nat) : Nat := 0x800A0060 + 0x4 * i
/-- TNS_CYCj_CTL -/
abbrev tnsCycCtl (i : Nat) : Nat := 0x800A0100 + 0x20 * i
/-- TNS_CYCj_PERIOD -/
abbrev tnsCycPeriod (i : Nat) : Nat := 0x800A0108 + 0x20 * i
/-- TNS_CYCj_START -/
abbrev tnsCycStart (i : Nat) : Nat := 0x800A0110 + 0x20 * i
/-- TNS_CYCj_NUM -/
abbrev tnsCycNum (i : Nat) : Nat := 0x800A0118 + 0x20 * i
/-- TNS_ORr_CFG -/
abbrev tnsOrCfg (i : Nat) : Nat := 0x800A1000 + 0x20 * i
/-- TNS_ORr_RDY -/
abbrev tnsOrRdy (i : Nat) : Nat := 0x800A1008 + 0x20 * i
/-- TNS_ORr_STAT -/
abbrev tnsOrStat (i : Nat) : Nat := 0x800A1010 + 0x20 * i
/-- TNS_ORr_LATE -/
abbrev tnsOrLate (i : Nat) : Nat := 0x800A1018 + 0x20 * i
/-- TNS_ICFG -/
abbrev tnsIcfg : Nat := 0x800A1200
/-- TNS_ISTAT -/
abbrev tnsIstat : Nat := 0x800A1208
/-- TNS_ARMED_k -/
abbrev tnsArmed (i : Nat) : Nat := 0x800A2000 + 0x4 * i
/-- NET_CTL -/
abbrev netCtl : Nat := 0x800B0000
/-- NET_STAT -/
abbrev netStat : Nat := 0x800B0008
/-- NET_MAC -/
abbrev netMac : Nat := 0x800B0010
/-- NET_SCLK -/
abbrev netSclk : Nat := 0x800B0018
/-- NET_SACK -/
abbrev netSack : Nat := 0x800B0020
/-- NET_MISS_k -/
abbrev netMiss (i : Nat) : Nat := 0x800B0100 + 0x4 * i
/-- NET_GPTPd -/
abbrev netGptp (i : Nat) : Nat := 0x800B0400 + 0x8 * i
/-- NET_RINGq -/
abbrev netRing (i : Nat) : Nat := 0x800B0600 + 0x8 * i
/-- NET_Pp_CFG -/
abbrev netPCfg (i : Nat) : Nat := 0x800B1000 + 0x400 * i
/-- NET_Pp_TSC -/
abbrev netPTsc (i : Nat) : Nat := 0x800B1008 + 0x400 * i
/-- NET_Pp_STAT -/
abbrev netPStat (i : Nat) : Nat := 0x800B1010 + 0x400 * i
/-- NET_Pp_GCFG -/
abbrev netPGcfg (i : Nat) : Nat := 0x800B1018 + 0x400 * i
/-- NET_Pp_ATX -/
abbrev netPAtx (i : Nat) : Nat := 0x800B1020 + 0x400 * i
/-- NET_Pp_ARX -/
abbrev netPArx (i : Nat) : Nat := 0x800B1028 + 0x400 * i
/-- NET_Pp_ARXP -/
abbrev netPArxp (i : Nat) : Nat := 0x800B1030 + 0x400 * i
/-- NET_Pp_CNT -/
abbrev netPCnt (i : Nat) : Nat := 0x800B1038 + 0x400 * i
/-- NET_Pp_GCL_e -/
abbrev netPGcl (i j : Nat) : Nat := 0x800B1100 + 0x400 * i + 0x8 * j
/-- HST_CTL -/
abbrev hstCtl : Nat := 0x800C0000
/-- HST_SOFTCFG -/
abbrev hstSoftcfg : Nat := 0x800C0008
/-- HST_SOFTPEND -/
abbrev hstSoftpend : Nat := 0x800C0010
/-- HST_SOFTDONE -/
abbrev hstSoftdone : Nat := 0x800C0018
/-- HST_STAT -/
abbrev hstStat : Nat := 0x800C0020
/-- HST_SESSs_STAT -/
abbrev hstSess (i : Nat) : Nat := 0x800C0100 + 0x8 * i
/-- HST_PSTATp -/
abbrev hstPstat (i : Nat) : Nat := 0x800C0200 + 0x8 * i
/-- TMR_CHn_CFG -/
abbrev tmrCfg (i : Nat) : Nat := 0x800D0000 + 0x80 * i
/-- TMR_CHn_PINCFG -/
abbrev tmrPincfg (i : Nat) : Nat := 0x800D0004 + 0x80 * i
/-- TMR_CHn_CTL -/
abbrev tmrCtl (i : Nat) : Nat := 0x800D0008 + 0x80 * i
/-- TMR_CHn_STAT -/
abbrev tmrStat (i : Nat) : Nat := 0x800D000C + 0x80 * i
/-- TMR_GRPg_CFG -/
abbrev tmrGrpCfg (i : Nat) : Nat := 0x800D2000 + 0x10 * i
/-- TMR_GRPg_START -/
abbrev tmrGrpStart (i : Nat) : Nat := 0x800D2008 + 0x10 * i
/-- TMR_BSTAT -/
abbrev tmrBstat : Nat := 0x800D3000
/-- SSI_m_CFG -/
abbrev ssiCfg (i : Nat) : Nat := 0x800E0000 + 0x40 * i
/-- SSI_m_TIM -/
abbrev ssiTim (i : Nat) : Nat := 0x800E0004 + 0x40 * i
/-- SSI_m_START -/
abbrev ssiStart (i : Nat) : Nat := 0x800E0008 + 0x40 * i
/-- SSI_m_STAT -/
abbrev ssiStat (i : Nat) : Nat := 0x800E000C + 0x40 * i
/-- UART_u_CFG -/
abbrev uartCfg (i : Nat) : Nat := 0x800E1000 + 0x40 * i
/-- UART_u_START -/
abbrev uartStart (i : Nat) : Nat := 0x800E100C + 0x40 * i
/-- UART_u_THR -/
abbrev uartThr (i : Nat) : Nat := 0x800E1010 + 0x40 * i
/-- UART_u_STAT -/
abbrev uartStat (i : Nat) : Nat := 0x800E1014 + 0x40 * i
/-- SDM_k_CFG -/
abbrev sdmCfg (i : Nat) : Nat := 0x800E2000 + 0x10 * i
/-- SDM_k_VAL -/
abbrev sdmVal (i : Nat) : Nat := 0x800E2004 + 0x10 * i
/-- SDM_k_SAFE -/
abbrev sdmSafe (i : Nat) : Nat := 0x800E2008 + 0x10 * i
/-- SDM_k_ACT -/
abbrev sdmAct (i : Nat) : Nat := 0x800E200C + 0x10 * i
/-- SDM_UPD -/
abbrev sdmUpd : Nat := 0x800E2200
/-- GPIO_g_CFG -/
abbrev gpioCfg (i : Nat) : Nat := 0x800E3000 + 0x40 * i
/-- GPIO_g_EDGE -/
abbrev gpioEdge (i : Nat) : Nat := 0x800E3004 + 0x40 * i
/-- GPIO_g_SAFE -/
abbrev gpioSafe (i : Nat) : Nat := 0x800E3008 + 0x40 * i
/-- GPIO_g_IN -/
abbrev gpioIn (i : Nat) : Nat := 0x800E300C + 0x40 * i
/-- GPIO_g_OUT -/
abbrev gpioOut (i : Nat) : Nat := 0x800E3010 + 0x40 * i
/-- GPIO_g_SET -/
abbrev gpioSet (i : Nat) : Nat := 0x800E3014 + 0x40 * i
/-- GPIO_g_CLR -/
abbrev gpioClr (i : Nat) : Nat := 0x800E3018 + 0x40 * i
/-- GPIO_g_STAT -/
abbrev gpioStat (i : Nat) : Nat := 0x800E301C + 0x40 * i
/-- LEG_BSTAT -/
abbrev legBstat : Nat := 0x800E3800
/-- TRC_CTL -/
abbrev trcCtl : Nat := 0x800F0000
/-- TRC_WPTR -/
abbrev trcWptr : Nat := 0x800F0008
/-- TRC_TCFGt -/
abbrev trcTcfg (i : Nat) : Nat := 0x800F0100 + 0x8 * i
/-- TRC_LOSTt -/
abbrev trcLost (i : Nat) : Nat := 0x800F0200 + 0x8 * i
/-- TRC_SELt_n -/
abbrev trcSel (i j : Nat) : Nat := 0x800F1000 + 0x200 * i + 0x8 * j
/-- TRC_CNTt_n -/
abbrev trcCnt (i j : Nat) : Nat := 0x800F1100 + 0x200 * i + 0x8 * j
/-- TRC_OVFt -/
abbrev trcOvf (i : Nat) : Nat := 0x800F3000 + 0x8 * i
/-- CMP_CTL -/
abbrev cmpCtl (i : Nat) : Nat := 0x80100000 + 0x10000 * i
/-- CMP_CLAUSE_LEN -/
abbrev cmpClauseLen (i : Nat) : Nat := 0x80100008 + 0x10000 * i
/-- CMP_CLAUSE_TMAX -/
abbrev cmpClauseTmax (i : Nat) : Nat := 0x8010000C + 0x10000 * i
/-- CMP_PARSE_INTERVAL -/
abbrev cmpParseInterval (i : Nat) : Nat := 0x80100010 + 0x10000 * i
/-- CMP_STAT -/
abbrev cmpStat (i : Nat) : Nat := 0x80100020 + 0x10000 * i
/-- CMP_LASTCLOSE -/
abbrev cmpLastclose (i : Nat) : Nat := 0x80100024 + 0x10000 * i
/-- CMP_SEQ -/
abbrev cmpSeq (i : Nat) : Nat := 0x80100028 + 0x10000 * i
/-- CMP_SIG_A -/
abbrev cmpSig (i j : Nat) : Nat := 0x80100040 + 0x10000 * i + 0x8 * j
/-- CMP_RESULT -/
abbrev cmpResult (i : Nat) : Nat := 0x80100058 + 0x10000 * i
/-- CMP_ERRCNT -/
abbrev cmpErrcnt (i : Nat) : Nat := 0x80100060 + 0x10000 * i
/-- CMP_RCTL -/
abbrev cmpRctl (i : Nat) : Nat := 0x80100068 + 0x10000 * i
/-- CMP_LANESTAT -/
abbrev cmpLanestat (i : Nat) : Nat := 0x8010006C + 0x10000 * i
/-- CMP_RECCNT -/
abbrev cmpReccnt (i : Nat) : Nat := 0x80100070 + 0x10000 * i
/-- CMP_DRSTAT -/
abbrev cmpDrstat (i : Nat) : Nat := 0x80100078 + 0x10000 * i
/-- CMP_FCAUSE -/
abbrev cmpFcause (i : Nat) : Nat := 0x8010007C + 0x10000 * i

end Adr

/-- The registers of the SYS block. -/
def regsSys : List RegDesc := [
  -- SYS_MODE
  ⟨0x80000000, 1, 0x0, 1, 0x0, false, 0x0, 0x0, .d, 0x0, 0x0, 0x8000, 0x0,
    [], none⟩,
  -- SYS_MODEREQ
  ⟨0x80000008, 1, 0x0, 1, 0x0, false, 0x0, 0x0, .d, 0x0, 0x0, 0x0, 0x0,
    [], none⟩,
  -- SYS_WAKET
  ⟨0x80000010, 1, 0x0, 1, 0x0, true, 0x0, 0x0, .d, 0xFFFFFFFFFFFFFFFF, 0x0, 0x0, 0x0,
    [], none⟩,
  -- SYS_RSTCAUSE
  ⟨0x80000018, 1, 0x0, 1, 0x0, false, 0x1, 0x0, .p, 0x0, 0x0, 0x0, 0x0,
    [], none⟩,
  -- SYS_TRST
  ⟨0x80000020, 1, 0x0, 1, 0x0, false, 0x0, 0x0, .d, 0x0, 0x0, 0x0, 0x0,
    [], none⟩,
  -- SYS_DEGSTAT
  ⟨0x80000028, 1, 0x0, 1, 0x0, false, 0x0, 0x0, .d, 0x0, 0x0, 0x0, 0x0,
    [], none⟩,
  -- SYS_WAKECFG
  ⟨0x80000030, 1, 0x0, 1, 0x0, false, 0x0, 0x0, .d, 0x3, 0x0, 0x0, 0x0,
    [], none⟩,
  -- SYS_CLKSTAT
  ⟨0x80000040, 1, 0x0, 1, 0x0, false, 0x0, 0x0, .p, 0x0, 0x0, 0x403F3F00, 0x0,
    [], none⟩,
  -- SYS_RSTVECn
  ⟨0x80000100, 6, 0x8, 1, 0x0, true, 0x0, 0x200000, .d, 0x0, 0xFFFFFFFFFC, 0x0, 0x1,
    [], some (0x80000100, 0x8, 0, 0)⟩,
  -- SYS_LSTAT
  ⟨0x80000200, 1, 0x0, 1, 0x0, false, 0x0, 0x0, .p, 0x0, 0x0, 0x0, 0x0,
    [], none⟩,
  -- SYS_RECAP
  ⟨0x80000300, 1, 0x0, 1, 0x0, true, 0x0, 0x0, .d, 0x0, 0x0, 0x0, 0x0,
    [], none⟩,
  -- SYS_RECAPSTAT
  ⟨0x80000308, 1, 0x0, 1, 0x0, false, 0x0, 0x0, .d, 0x0, 0x0, 0x3F003F00, 0x0,
    [], none⟩]

/-- The registers of the FCU block. -/
def regsFcu : List RegDesc := [
  -- FCU_STATE
  ⟨0x80010000, 1, 0x0, 1, 0x0, false, 0x0, 0x0, .d, 0x0, 0x0, 0x0, 0x0,
    [], none⟩,
  -- FCU_CFG
  ⟨0x80010008, 1, 0x0, 1, 0x0, true, 0x800FA0064, 0x0, .d, 0x0, 0x0, 0x0, 0x0,
    [], none⟩,
  -- FCU_PINCTL
  ⟨0x80010010, 1, 0x0, 1, 0x0, false, 0x8C000000, 0x0, .d, 0x0, 0x0, 0x0, 0x0,
    [], none⟩,
  -- FCU_PERMIT
  ⟨0x80010018, 1, 0x0, 1, 0x0, false, 0x0, 0x0, .d, 0x0, 0x0, 0x0, 0x0,
    [], none⟩,
  -- FCU_XCHK
  ⟨0x80010020, 1, 0x0, 1, 0x0, false, 0x0, 0x0, .h, 0x0, 0x0, 0x0, 0x0,
    [], none⟩,
  -- FCU_ACTk
  ⟨0x80010040, 8, 0x4, 1, 0x0, false, 0x0, 0x0, .d, 0x0, 0x0, 0xFFFFFFFF, 0x0,
    [], none⟩,
  -- FCU_RCNT0
  ⟨0x80010060, 1, 0x0, 1, 0x0, true, 0x0, 0x0, .p, 0x0, 0x0, 0x0, 0x0,
    [], none⟩,
  -- FCU_RCNT1
  ⟨0x80010068, 1, 0x0, 1, 0x0, false, 0x0, 0x0, .p, 0x0, 0x0, 0x0, 0x0,
    [], none⟩,
  -- FCU_DOM
  ⟨0x80010070, 1, 0x0, 1, 0x0, false, 0x0, 0x0, .p, 0x0, 0x0, 0x0, 0x0,
    [], none⟩,
  -- FCU_DOMCNTd
  ⟨0x80010080, 7, 0x4, 1, 0x0, false, 0x0, 0x0, .p, 0x0, 0x0, 0x0, 0x0,
    [], none⟩,
  -- FCU_SWREP
  ⟨0x800100A0, 1, 0x0, 1, 0x0, true, 0x0, 0x0, .d, 0x0, 0x0, 0x0, 0x0,
    [], none⟩,
  -- FCU_LOGPTR
  ⟨0x800100A8, 1, 0x0, 1, 0x0, false, 0x0, 0x0, .p, 0x0, 0x0, 0x0, 0x0,
    [], none⟩,
  -- FCU_LOGn_W0
  ⟨0x80011000, 64, 0x10, 1, 0x0, true, 0x0, 0x0, .p, 0x0, 0x0, 0x0, 0x0,
    [], none⟩,
  -- FCU_LOGn_W1
  ⟨0x80011008, 64, 0x10, 1, 0x0, true, 0x0, 0x0, .p, 0x0, 0x0, 0x0, 0x0,
    [], none⟩]

/-- The registers of the TST block. -/
def regsTst : List RegDesc := [
  -- TST_STAT
  ⟨0x80020000, 1, 0x0, 1, 0x0, false, 0x0, 0x0, .d, 0x0, 0x0, 0x0, 0x0,
    [], none⟩,
  -- TST_BANK
  ⟨0x80020008, 1, 0x0, 1, 0x0, false, 0xFFFFFF, 0x0, .d, 0x0, 0x0, 0x0, 0x0,
    [], none⟩,
  -- TST_LANE
  ⟨0x80020010, 1, 0x0, 1, 0x0, true, 0xFFFFFFFFF, 0x0, .d, 0x0, 0x0, 0x0, 0x0,
    [], none⟩,
  -- TST_UNC
  ⟨0x80020018, 1, 0x0, 1, 0x0, false, 0x0, 0x0, .d, 0x0, 0x0, 0x0, 0x0,
    [], none⟩]

/-- The registers of the LCS block. -/
def regsLcs : List RegDesc := [
  -- LCS_LCSTATE
  ⟨0x80030000, 1, 0x0, 1, 0x0, false, 0x0, 0x0, .p, 0x0, 0x0, 0x0, 0x0,
    [], none⟩,
  -- LCS_PROPt
  ⟨0x80030100, 6, 0x8, 1, 0x0, true, 0x0, 0x0, .d, 0x0, 0x0, 0x0, 0x0,
    [], none⟩,
  -- LCS_PRESt
  ⟨0x80030180, 6, 0x8, 1, 0x0, true, 0x0, 0x0, .d, 0x0, 0x0, 0x8000000000000000, 0x0,
    [], none⟩,
  -- LCS_PTAGt
  ⟨0x80030200, 6, 0x8, 1, 0x0, true, 0x0, 0x0, .d, 0x0, 0x0, 0x0, 0x0,
    [], none⟩,
  -- LCS_TAMPER
  ⟨0x80030300, 1, 0x0, 1, 0x0, false, 0x0, 0x0, .p, 0x0, 0x0, 0x0, 0x0,
    [], none⟩]

/-- The registers of the EVC block. -/
def regsEvc : List RegDesc := [
  -- EVC_ROUTE_n
  ⟨0x80040000, 1024, 0x4, 1, 0x0, false, 0x0, 0x0, .d, 0x0, 0xC0001F07, 0x0, 0x0,
    [(2, 0, [(0, 5)])], some (0x80041104, 0x0, 0, 0)⟩,
  -- EVC_PEND_k
  ⟨0x80041000, 32, 0x4, 1, 0x0, false, 0x0, 0x0, .d, 0x0, 0x0, 0xFFFFFFFF, 0x0,
    [], none⟩,
  -- EVC_OVR_k
  ⟨0x80041080, 32, 0x4, 1, 0x0, false, 0x0, 0x0, .d, 0x0, 0x0, 0xFFFFFFFF, 0x0,
    [], none⟩,
  -- EVC_SWSET
  ⟨0x80041100, 1, 0x0, 1, 0x0, false, 0x0, 0x0, .d, 0x0, 0x0, 0x0, 0x0,
    [], none⟩,
  -- EVC_LOCK
  ⟨0x80041104, 1, 0x0, 1, 0x0, false, 0x0, 0x0, .d, 0x0, 0x0, 0x0, 0x1,
    [], none⟩,
  -- EVC_DBSET
  ⟨0x80041108, 1, 0x0, 1, 0x0, false, 0x0, 0x0, .d, 0x0, 0x0, 0x0, 0x0,
    [], none⟩,
  -- EVC_DBFROM_k
  ⟨0x80041140, 8, 0x4, 1, 0x0, false, 0x0, 0x0, .d, 0x0, 0x0, 0x0, 0x0,
    [], none⟩,
  -- EVC_STAT_t
  ⟨0x80041200, 6, 0x4, 1, 0x0, false, 0x0, 0x0, .d, 0x0, 0x0, 0x0, 0x0,
    [], none⟩]

/-- The registers of the TAPU block. -/
def regsTapu : List RegDesc := [
  -- TAPU_PWFRZ
  ⟨0x80050080, 1, 0x0, 1, 0x0, false, 0x0, 0x0, .d, 0x0, 0x0, 0x0, 0x0,
    [], none⟩,
  -- TAPU_CTX_t
  ⟨0x80050100, 6, 0x8, 1, 0x0, true, 0x0, 0x0, .t, 0x800FFFFFFFFFF000, 0x0, 0x0, 0x0,
    [], none⟩,
  -- TAPU_FREC_t
  ⟨0x80050200, 6, 0x10, 1, 0x0, false, 0x0, 0x0, .t, 0x0, 0x0, 0xC0000000, 0x0,
    [], none⟩,
  -- TAPU_FVA_t
  ⟨0x80050208, 6, 0x10, 1, 0x0, true, 0x0, 0x0, .t, 0x0, 0x0, 0x0, 0x0,
    [], none⟩,
  -- TAPU_INVAL_t
  ⟨0x80050300, 6, 0x8, 1, 0x0, true, 0x0, 0x0, .t, 0x0, 0x0, 0x0, 0x0,
    [], none⟩,
  -- TAPU_PWB_t_w
  ⟨0x80051000, 6, 0x100, 16, 0x10, true, 0x0, 0x0, .d, 0x0, 0xFFFFFFF03F, 0x0, 0x0,
    [], some (0x80050080, 0x0, 0, 1)⟩,
  -- TAPU_PWL_t_w
  ⟨0x80051008, 6, 0x100, 16, 0x10, true, 0x0, 0x0, .d, 0x0, 0xFFFFFFF000, 0x0, 0x0,
    [], some (0x80050080, 0x0, 0, 1)⟩]

/-- The registers of the DMA blocks. -/
def regsDma : List RegDesc := [
  -- DMAx_ENG_CTL
  ⟨0x80060000, 2, 0x10000, 1, 0x0, false, 0x1000, 0x0, .d, 0x0, 0xFF00, 0x0, 0x1,
    [(15, 8, [(1, 255)])], some (0x80060000, 0x10000, 0, 0)⟩,
  -- DMAx_ENG_STAT
  ⟨0x80060008, 2, 0x10000, 1, 0x0, false, 0x0, 0x0, .d, 0x0, 0x0, 0x0, 0x0,
    [], none⟩,
  -- DMAx_CHn_CFG
  ⟨0x80061000, 2, 0x10000, 16, 0x100, false, 0x0, 0x0, .d, 0x0, 0x717, 0x0, 0x0,
    [(2, 0, [(0, 5)])], some (0x80060000, 0x10000, 0, 0)⟩,
  -- DMAx_CHn_DB
  ⟨0x80061008, 2, 0x10000, 16, 0x100, true, 0x0, 0x0, .d, 0x0, 0x0, 0x0, 0x0,
    [], none⟩,
  -- DMAx_CHn_CMD
  ⟨0x80061010, 2, 0x10000, 16, 0x100, false, 0x0, 0x0, .d, 0x0, 0x0, 0x0, 0x0,
    [], none⟩,
  -- DMAx_CHn_STAT
  ⟨0x80061018, 2, 0x10000, 16, 0x100, false, 0x0, 0x0, .d, 0x0, 0x0, 0xF00, 0x0,
    [], none⟩,
  -- DMAx_CHn_CTX
  ⟨0x80061020, 2, 0x10000, 16, 0x100, true, 0x0, 0x0, .d, 0x0, 0x0, 0x0, 0x0,
    [], none⟩,
  -- DMAx_CHn_RES0
  ⟨0x80061028, 2, 0x10000, 16, 0x100, true, 0x0, 0x0, .d, 0x0, 0x0, 0x0, 0x0,
    [], none⟩,
  -- DMAx_CHn_RES1
  ⟨0x80061030, 2, 0x10000, 16, 0x100, true, 0x0, 0x0, .d, 0x0, 0x0, 0x0, 0x0,
    [], none⟩,
  -- DMAx_CHn_RES2
  ⟨0x80061038, 2, 0x10000, 16, 0x100, true, 0x0, 0x0, .d, 0x0, 0x0, 0x0, 0x0,
    [], none⟩]

/-- The registers of the SRB block. -/
def regsSrb : List RegDesc := [
  -- SRB_PWR
  ⟨0x80080000, 1, 0x0, 1, 0x0, false, 0x0, 0x0, .d, 0x0, 0x3FFFFF, 0x0, 0x80000000,
    [(1, 0, [(0, 2)]), (3, 2, [(0, 2)]), (5, 4, [(0, 2)]), (7, 6, [(0, 2)]), (9, 8, [(0, 2)]), (11, 10, [(0, 2)]), (13, 12, [(0, 2)]), (15, 14, [(0, 2)]), (17, 16, [(0, 2)]), (19, 18, [(0, 2)]), (21, 20, [(0, 2)])], some (0x80080000, 0x0, 31, 0)⟩,
  -- SRB_PSTAT
  ⟨0x80080008, 1, 0x0, 1, 0x0, true, 0x0, 0x0, .d, 0x0, 0x0, 0x1000000000000, 0x0,
    [], none⟩,
  -- SRB_ECCSTAT
  ⟨0x80080010, 1, 0x0, 1, 0x0, false, 0x0, 0x0, .d, 0x0, 0x0, 0xC0000000, 0x0,
    [], none⟩,
  -- SRB_ECCADDR
  ⟨0x80080018, 1, 0x0, 1, 0x0, true, 0x0, 0x0, .d, 0x0, 0x0, 0x0, 0x0,
    [], none⟩,
  -- SRB_COLCNT
  ⟨0x80080020, 1, 0x0, 1, 0x0, false, 0x0, 0x0, .d, 0x0, 0x0, 0x0, 0x0,
    [], none⟩,
  -- SRB_BGTCTL
  ⟨0x80080028, 1, 0x0, 1, 0x0, false, 0x10726, 0x0, .d, 0x0, 0x1FFFF, 0x0, 0x80000000,
    [(15, 0, [(20, 65535)])], some (0x80080028, 0x0, 31, 0)⟩,
  -- SRB_BGTSTAT
  ⟨0x80080030, 1, 0x0, 1, 0x0, true, 0x0, 0x0, .d, 0x0, 0x0, 0x8000000000000000, 0x0,
    [], none⟩,
  -- SRB_BGTFAIL
  ⟨0x80080038, 1, 0x0, 1, 0x0, true, 0x0, 0x0, .d, 0x0, 0x0, 0x0, 0x0,
    [], none⟩,
  -- SRB_WIPESTAT
  ⟨0x80080040, 1, 0x0, 1, 0x0, false, 0x0, 0x0, .p, 0x0, 0x0, 0x40000000, 0x0,
    [], none⟩]

/-- The registers of the DDR block. -/
def regsDdr : List RegDesc := [
  -- DDR_CFG
  ⟨0x80090000, 1, 0x0, 1, 0x0, false, 0x102, 0x0, .d, 0x0, 0x303, 0x0, 0x80000000,
    [(9, 8, [(0, 1)]), (1, 0, [(0, 2)])], some (0x80090000, 0x0, 31, 0)⟩,
  -- DDR_STAT
  ⟨0x80090008, 1, 0x0, 1, 0x0, false, 0x0, 0x0, .d, 0x0, 0x0, 0x0, 0x0,
    [], none⟩,
  -- DDR_TOP
  ⟨0x80090010, 1, 0x0, 1, 0x0, false, 0x0, 0x0, .d, 0x0, 0x0, 0x0, 0x0,
    [], none⟩,
  -- DDR_ECCSTAT
  ⟨0x80090018, 1, 0x0, 1, 0x0, false, 0x0, 0x0, .d, 0x0, 0x0, 0xC0000000, 0x0,
    [], none⟩,
  -- DDR_ECCADDR
  ⟨0x80090020, 1, 0x0, 1, 0x0, true, 0x0, 0x0, .d, 0x0, 0x0, 0x0, 0x0,
    [], none⟩,
  -- DDR_RETRY
  ⟨0x80090028, 1, 0x0, 1, 0x0, false, 0x0, 0x0, .d, 0x0, 0x0, 0x0, 0x0,
    [], none⟩,
  -- DDR_SCRUB
  ⟨0x80090030, 1, 0x0, 1, 0x0, false, 0x10418, 0x0, .d, 0x0, 0x1FFFF, 0x0, 0x80000000,
    [(15, 8, [(1, 255)]), (7, 0, [(1, 255)])], some (0x80090030, 0x0, 31, 0)⟩,
  -- DDR_CAND
  ⟨0x80090038, 1, 0x0, 1, 0x0, true, 0x0, 0x0, .d, 0x0, 0x0, 0xC000000000000000, 0x0,
    [], none⟩,
  -- DDR_RETn
  ⟨0x80090100, 64, 0x8, 1, 0x0, true, 0x0, 0x0, .d, 0x800000FFFFFFF000, 0x0, 0x0, 0x0,
    [], none⟩]

/-- The registers of the TNS block. -/
def regsTns : List RegDesc := [
  -- TNS_CTL
  ⟨0x800A0000, 1, 0x0, 1, 0x0, false, 0xA00, 0x0, .d, 0x0, 0xFF00, 0x0, 0x80000000,
    [(15, 8, [(2, 255)])], some (0x800A0000, 0x0, 31, 0)⟩,
  -- TNS_NOW
  ⟨0x800A0008, 1, 0x0, 1, 0x0, true, 0x0, 0x0, .h, 0x0, 0x0, 0x0, 0x0,
    [], none⟩,
  -- TNS_RATE
  ⟨0x800A0010, 1, 0x0, 1, 0x0, false, 0x0, 0x0, .h, 0xFFFFFFFF, 0x0, 0x0, 0x0,
    [], none⟩,
  -- TNS_STEP
  ⟨0x800A0018, 1, 0x0, 1, 0x0, true, 0x0, 0x0, .d, 0x0, 0x0, 0x0, 0x0,
    [], none⟩,
  -- TNS_EPOCH
  ⟨0x800A0020, 1, 0x0, 1, 0x0, true, 0x60000000, 0x0, .h, 0x0, 0x7FFFFFFFFFFFFFFF, 0x0, 0x8000000000000000,
    [], some (0x800A0020, 0x0, 63, 0)⟩,
  -- TNS_SERVO
  ⟨0x800A0028, 1, 0x0, 1, 0x0, false, 0x20E38064, 0x0, .d, 0x0, 0x7FFFFFFF, 0x0, 0x80000000,
    [(27, 26, [(0, 1)]), (7, 0, [(1, 255)])], some (0x800A0028, 0x0, 31, 0)⟩,
  -- TNS_SLIM
  ⟨0x800A0030, 1, 0x0, 1, 0x0, false, 0x3E80320, 0x0, .d, 0x0, 0xFFFFFFFF, 0x0, 0x0,
    [], some (0x800A0028, 0x0, 31, 0)⟩,
  -- TNS_SSTAT
  ⟨0x800A0038, 1, 0x0, 1, 0x0, true, 0x0, 0x0, .d, 0x0, 0x0, 0x0, 0x0,
    [], none⟩,
  -- TNS_STAT
  ⟨0x800A0040, 1, 0x0, 1, 0x0, false, 0x0, 0x0, .d, 0x0, 0x0, 0x1F, 0x0,
    [], none⟩,
  -- TNS_LATECNT
  ⟨0x800A0048, 1, 0x0, 1, 0x0, false, 0x0, 0x0, .d, 0x0, 0x0, 0x0, 0x0,
    [], none⟩,
  -- TNS_ARM
  ⟨0x800A0050, 1, 0x0, 1, 0x0, false, 0x0, 0x0, .d, 0x0, 0x0, 0x0, 0x0,
    [], none⟩,
  -- TNS_ARMRES_t
  ⟨0x800A0060, 6, 0x4, 1, 0x0, false, 0x0, 0x0, .d, 0x0, 0x0, 0x0, 0x0,
    [], none⟩,
  -- TNS_CYCj_CTL
  ⟨0x800A0100, 64, 0x20, 1, 0x0, false, 0x0, 0x0, .d, 0x0, 0x70107FF, 0x40000000, 0x80000000,
    [(26, 24, [(0, 5)])], some (0x800A0100, 0x20, 31, 0)⟩,
  -- TNS_CYCj_PERIOD
  ⟨0x800A0108, 64, 0x20, 1, 0x0, true, 0x0, 0x0, .d, 0x0, 0x3FFFFFFFF, 0x0, 0x0,
    [], some (0x800A0100, 0x20, 31, 0)⟩,
  -- TNS_CYCj_START
  ⟨0x800A0110, 64, 0x20, 1, 0x0, true, 0x0, 0x0, .d, 0x0, 0xFFFFFFFFFFFFFFFF, 0x0, 0x0,
    [], some (0x800A0100, 0x20, 31, 0)⟩,
  -- TNS_CYCj_NUM
  ⟨0x800A0118, 64, 0x20, 1, 0x0, true, 0x0, 0x0, .d, 0x0, 0x0, 0x0, 0x0,
    [], none⟩,
  -- TNS_ORr_CFG
  ⟨0x800A1000, 8, 0x20, 1, 0x0, true, 0x300000000, 0x0, .d, 0x0, 0x40073F003FFF1FFF, 0x0, 0x8000000000000000,
    [(50, 48, [(0, 5)]), (29, 16, [(0, 8192)])], some (0x800A1000, 0x20, 63, 0)⟩,
  -- TNS_ORr_RDY
  ⟨0x800A1008, 8, 0x20, 1, 0x0, false, 0x0, 0x0, .d, 0xFFFFFFFF, 0x0, 0x0, 0x0,
    [], none⟩,
  -- TNS_ORr_STAT
  ⟨0x800A1010, 8, 0x20, 1, 0x0, true, 0x0, 0x0, .d, 0x0, 0x0, 0x0, 0x0,
    [], none⟩,
  -- TNS_ORr_LATE
  ⟨0x800A1018, 8, 0x20, 1, 0x0, false, 0x0, 0x0, .d, 0x0, 0x0, 0x0, 0x0,
    [], none⟩,
  -- TNS_ICFG
  ⟨0x800A1200, 1, 0x0, 1, 0x0, false, 0x0, 0x0, .d, 0x0, 0x1003F, 0x0, 0x80000000,
    [], some (0x800A1200, 0x0, 31, 0)⟩,
  -- TNS_ISTAT
  ⟨0x800A1208, 1, 0x0, 1, 0x0, true, 0x0, 0x0, .d, 0x0, 0x0, 0x0, 0x0,
    [], none⟩,
  -- TNS_ARMED_k
  ⟨0x800A2000, 512, 0x4, 1, 0x0, false, 0x0, 0x0, .d, 0x0, 0x0, 0x0, 0x0,
    [], none⟩]

/-- The registers of the NET block. -/
def regsNet : List RegDesc := [
  -- NET_CTL
  ⟨0x800B0000, 1, 0x0, 1, 0x0, false, 0x388B5, 0x0, .d, 0x0, 0x40FFFFFF, 0x0, 0x80000000,
    [(23, 16, [(1, 255)])], some (0x800B0000, 0x0, 31, 0)⟩,
  -- NET_STAT
  ⟨0x800B0008, 1, 0x0, 1, 0x0, false, 0x0, 0x0, .d, 0x0, 0x0, 0x37, 0x0,
    [], none⟩,
  -- NET_MAC
  ⟨0x800B0010, 1, 0x0, 1, 0x0, true, 0x0, 0x0, .d, 0x0, 0xFFFFFFFFFFFF, 0x0, 0x8000000000000000,
    [], some (0x800B0010, 0x0, 63, 0)⟩,
  -- NET_SCLK
  ⟨0x800B0018, 1, 0x0, 1, 0x0, false, 0x0, 0x0, .d, 0x0, 0x0, 0x0, 0x1,
    [], none⟩,
  -- NET_SACK
  ⟨0x800B0020, 1, 0x0, 1, 0x0, false, 0x0, 0x0, .d, 0x0, 0x0, 0x0, 0x0,
    [], none⟩,
  -- NET_MISS_k
  ⟨0x800B0100, 128, 0x4, 1, 0x0, false, 0x0, 0x0, .d, 0x0, 0x0, 0x0, 0x0,
    [], none⟩,
  -- NET_GPTPd
  ⟨0x800B0400, 2, 0x8, 1, 0x0, true, 0x20FFF8F8000B0000, 0x1000000, .d, 0x0, 0x60FFFFFFFF0F0000, 0x0, 0x8000000000000000,
    [(31, 24, [(0, 127)]), (19, 16, [(0, 0), (8, 15)])], some (0x800B0400, 0x8, 63, 0)⟩,
  -- NET_RINGq
  ⟨0x800B0600, 4, 0x8, 1, 0x0, true, 0x200A, 0x0, .d, 0x0, 0x4000FFFF, 0x0, 0x80000000,
    [(15, 8, [(2, 32)]), (7, 0, [(1, 255)])], some (0x800B0600, 0x8, 31, 0)⟩,
  -- NET_Pp_CFG
  ⟨0x800B1000, 8, 0x400, 1, 0x0, false, 0x1000, 0x0, .d, 0x0, 0x7CFFF000, 0x0, 0x80000000,
    [], some (0x800B1000, 0x400, 31, 0)⟩,
  -- NET_Pp_TSC
  ⟨0x800B1008, 8, 0x400, 1, 0x0, false, 0x0, 0x0, .d, 0x0, 0xFFFFFFFF, 0x0, 0x0,
    [], some (0x800B1000, 0x400, 31, 0)⟩,
  -- NET_Pp_STAT
  ⟨0x800B1010, 8, 0x400, 1, 0x0, false, 0x0, 0x0, .d, 0x0, 0x0, 0x7C0000, 0x0,
    [], none⟩,
  -- NET_Pp_GCFG
  ⟨0x800B1018, 8, 0x400, 1, 0x0, false, 0x387F01, 0x0, .d, 0x0, 0x1FF8FF7F, 0x40000000, 0x80000000,
    [(6, 0, [(1, 64)])], some (0x800B1018, 0x400, 31, 0)⟩,
  -- NET_Pp_ATX
  ⟨0x800B1020, 8, 0x400, 1, 0x0, true, 0x0, 0x0, .d, 0x0, 0x0, 0x0, 0x0,
    [], none⟩,
  -- NET_Pp_ARX
  ⟨0x800B1028, 8, 0x400, 1, 0x0, false, 0x0, 0x0, .d, 0x0, 0x40FFF8FF, 0x0, 0x80000000,
    [(7, 0, [(2, 255)])], some (0x800B1028, 0x400, 31, 0)⟩,
  -- NET_Pp_ARXP
  ⟨0x800B1030, 8, 0x400, 1, 0x0, false, 0x0, 0x0, .d, 0xFF, 0x0, 0x0, 0x0,
    [], none⟩,
  -- NET_Pp_CNT
  ⟨0x800B1038, 8, 0x400, 1, 0x0, true, 0x0, 0x0, .d, 0x0, 0x0, 0x0, 0x0,
    [], none⟩,
  -- NET_Pp_GCL_e
  ⟨0x800B1100, 8, 0x400, 64, 0x8, true, 0xFF00000000000000, 0x0, .d, 0x0, 0xFF000003FFFFFFFF, 0x0, 0x0,
    [], some (0x800B1018, 0x400, 31, 0)⟩]

/-- The registers of the HST block. -/
def regsHst : List RegDesc := [
  -- HST_CTL
  ⟨0x800C0000, 1, 0x0, 1, 0x0, false, 0x1E, 0x0, .d, 0x0, 0xFFFF, 0x0, 0x80000000,
    [(15, 0, [(2, 600)])], some (0x800C0000, 0x0, 31, 0)⟩,
  -- HST_SOFTCFG
  ⟨0x800C0008, 1, 0x0, 1, 0x0, false, 0x64, 0x0, .d, 0x0, 0x7FFFF, 0x0, 0x80000000,
    [(18, 16, [(0, 5)]), (15, 0, [(1, 10000)])], some (0x800C0008, 0x0, 31, 0)⟩,
  -- HST_SOFTPEND
  ⟨0x800C0010, 1, 0x0, 1, 0x0, false, 0x0, 0x0, .d, 0x0, 0x0, 0x0, 0x0,
    [], none⟩,
  -- HST_SOFTDONE
  ⟨0x800C0018, 1, 0x0, 1, 0x0, false, 0x0, 0x0, .d, 0x0, 0x0, 0x0, 0x0,
    [], none⟩,
  -- HST_STAT
  ⟨0x800C0020, 1, 0x0, 1, 0x0, false, 0x0, 0x0, .d, 0x0, 0x0, 0x7, 0x0,
    [], none⟩,
  -- HST_SESSs_STAT
  ⟨0x800C0100, 8, 0x8, 1, 0x0, true, 0x0, 0x0, .d, 0x0, 0x0, 0x0, 0x0,
    [], none⟩,
  -- HST_PSTATp
  ⟨0x800C0200, 2, 0x8, 1, 0x0, false, 0x0, 0x0, .d, 0x0, 0x0, 0x20000, 0x0,
    [], none⟩]

/-- The registers of the TMR block. -/
def regsTmr : List RegDesc := [
  -- TMR_CHn_CFG
  ⟨0x800D0000, 64, 0x80, 1, 0x0, false, 0x0, 0x0, .d, 0x0, 0x7F7FFFC0, 0x0, 0x80000000,
    [(30, 28, [(0, 5)]), (22, 20, [(0, 4)])], some (0x800D0000, 0x80, 31, 0)⟩,
  -- TMR_CHn_PINCFG
  ⟨0x800D0004, 64, 0x80, 1, 0x0, false, 0x0, 0x0, .d, 0x0, 0x7F0FFF, 0x0, 0x0,
    [], some (0x800D0000, 0x80, 31, 0)⟩,
  -- TMR_CHn_CTL
  ⟨0x800D0008, 64, 0x80, 1, 0x0, false, 0x0, 0x0, .d, 0x3, 0x0, 0x0, 0x0,
    [], none⟩,
  -- TMR_CHn_STAT
  ⟨0x800D000C, 64, 0x80, 1, 0x0, false, 0x0, 0x0, .d, 0x0, 0x0, 0x30, 0x0,
    [], none⟩,
  -- TMR_GRPg_CFG
  ⟨0x800D2000, 8, 0x10, 1, 0x0, false, 0x0, 0x0, .d, 0x0, 0xFFFF, 0x0, 0x80000000,
    [], some (0x800D2000, 0x10, 31, 0)⟩,
  -- TMR_GRPg_START
  ⟨0x800D2008, 8, 0x10, 1, 0x0, false, 0x0, 0x0, .d, 0x0, 0x0, 0x0, 0x0,
    [], none⟩,
  -- TMR_BSTAT
  ⟨0x800D3000, 1, 0x0, 1, 0x0, false, 0x0, 0x0, .d, 0x0, 0x0, 0x3F01, 0x0,
    [], none⟩]

/-- The registers of the LEG block. -/
def regsLeg : List RegDesc := [
  -- SSI_m_CFG
  ⟨0x800E0000, 16, 0x40, 1, 0x0, false, 0x19, 0x0, .d, 0x0, 0x7000073F, 0x0, 0x80000000,
    [(30, 28, [(0, 5)]), (5, 0, [(8, 48)])], some (0x800E0000, 0x40, 31, 0)⟩,
  -- SSI_m_TIM
  ⟨0x800E0004, 16, 0x40, 1, 0x0, false, 0x140013, 0x0, .d, 0x0, 0xFF3FFF, 0x0, 0x0,
    [(23, 16, [(1, 255)]), (7, 0, [(9, 255)])], some (0x800E0000, 0x40, 31, 0)⟩,
  -- SSI_m_START
  ⟨0x800E0008, 16, 0x40, 1, 0x0, false, 0x0, 0x0, .d, 0x0, 0x0, 0x0, 0x0,
    [], none⟩,
  -- SSI_m_STAT
  ⟨0x800E000C, 16, 0x40, 1, 0x0, false, 0x0, 0x0, .d, 0x0, 0x0, 0x17, 0x0,
    [], none⟩,
  -- UART_u_CFG
  ⟨0x800E1000, 8, 0x40, 1, 0x0, false, 0x2006C8, 0x0, .d, 0x0, 0x7FFFFFFF, 0x0, 0x80000000,
    [(30, 28, [(0, 5)]), (25, 24, [(0, 2)]), (22, 21, [(0, 2)])], some (0x800E1000, 0x40, 31, 0)⟩,
  -- UART_u_START
  ⟨0x800E100C, 8, 0x40, 1, 0x0, false, 0x0, 0x0, .d, 0x0, 0x0, 0x0, 0x0,
    [], none⟩,
  -- UART_u_THR
  ⟨0x800E1010, 8, 0x40, 1, 0x0, false, 0x1, 0x0, .d, 0x0, 0xFF3F, 0x0, 0x0,
    [(5, 0, [(1, 63)])], some (0x800E1000, 0x40, 31, 0)⟩,
  -- UART_u_STAT
  ⟨0x800E1014, 8, 0x40, 1, 0x0, false, 0x0, 0x0, .d, 0x0, 0x0, 0xE, 0x0,
    [], none⟩,
  -- SDM_k_CFG
  ⟨0x800E2000, 32, 0x10, 1, 0x0, false, 0x0, 0x0, .d, 0x1000000, 0x700780FF, 0x0, 0x80000000,
    [(30, 28, [(0, 5)])], some (0x800E2000, 0x10, 31, 0)⟩,
  -- SDM_k_VAL
  ⟨0x800E2004, 32, 0x10, 1, 0x0, false, 0x0, 0x0, .d, 0xFFFFFF, 0x0, 0x0, 0x0,
    [], none⟩,
  -- SDM_k_SAFE
  ⟨0x800E2008, 32, 0x10, 1, 0x0, false, 0x0, 0x0, .d, 0x0, 0xFFFFFF, 0x0, 0x0,
    [], some (0x800E2000, 0x10, 31, 0)⟩,
  -- SDM_k_ACT
  ⟨0x800E200C, 32, 0x10, 1, 0x0, false, 0x0, 0x0, .d, 0x0, 0x0, 0x0, 0x0,
    [], none⟩,
  -- SDM_UPD
  ⟨0x800E2200, 1, 0x0, 1, 0x0, false, 0x0, 0x0, .d, 0x0, 0x0, 0x0, 0x0,
    [], none⟩,
  -- GPIO_g_CFG
  ⟨0x800E3000, 8, 0x40, 1, 0x0, false, 0x0, 0x0, .d, 0x0, 0x7000FFFF, 0x0, 0x80000000,
    [(30, 28, [(0, 5)])], some (0x800E3000, 0x40, 31, 0)⟩,
  -- GPIO_g_EDGE
  ⟨0x800E3004, 8, 0x40, 1, 0x0, false, 0x0, 0x0, .d, 0x0, 0xFFFFFFFF, 0x0, 0x0,
    [], some (0x800E3000, 0x40, 31, 0)⟩,
  -- GPIO_g_SAFE
  ⟨0x800E3008, 8, 0x40, 1, 0x0, false, 0x0, 0x0, .d, 0x0, 0xFFFF, 0x0, 0x0,
    [], some (0x800E3000, 0x40, 31, 0)⟩,
  -- GPIO_g_IN
  ⟨0x800E300C, 8, 0x40, 1, 0x0, false, 0x0, 0x0, .d, 0x0, 0x0, 0x0, 0x0,
    [], none⟩,
  -- GPIO_g_OUT
  ⟨0x800E3010, 8, 0x40, 1, 0x0, false, 0x0, 0x0, .d, 0xFFFF, 0x0, 0x0, 0x0,
    [], none⟩,
  -- GPIO_g_SET
  ⟨0x800E3014, 8, 0x40, 1, 0x0, false, 0x0, 0x0, .d, 0x0, 0x0, 0x0, 0x0,
    [], none⟩,
  -- GPIO_g_CLR
  ⟨0x800E3018, 8, 0x40, 1, 0x0, false, 0x0, 0x0, .d, 0x0, 0x0, 0x0, 0x0,
    [], none⟩,
  -- GPIO_g_STAT
  ⟨0x800E301C, 8, 0x40, 1, 0x0, false, 0x0, 0x0, .d, 0x0, 0x0, 0x1, 0x0,
    [], none⟩,
  -- LEG_BSTAT
  ⟨0x800E3800, 1, 0x0, 1, 0x0, false, 0x0, 0x0, .d, 0x0, 0x0, 0x3F01, 0x0,
    [], none⟩]

/-- The registers of the TRC block. -/
def regsTrc : List RegDesc := [
  -- TRC_CTL
  ⟨0x800F0000, 1, 0x0, 1, 0x0, false, 0x1, 0x0, .d, 0x0, 0x1F, 0x0, 0x80000000,
    [], some (0x800F0000, 0x0, 31, 0)⟩,
  -- TRC_WPTR
  ⟨0x800F0008, 1, 0x0, 1, 0x0, false, 0x0, 0x0, .d, 0x0, 0x0, 0x0, 0x0,
    [], none⟩,
  -- TRC_TCFGt
  ⟨0x800F0100, 6, 0x8, 1, 0x0, false, 0x0, 0x0, .d, 0x0, 0xF, 0x0, 0x0,
    [], some (0x800F0000, 0x0, 31, 0)⟩,
  -- TRC_LOSTt
  ⟨0x800F0200, 6, 0x8, 1, 0x0, false, 0x0, 0x0, .d, 0x0, 0x0, 0x0, 0x0,
    [], none⟩,
  -- TRC_SELt_n
  ⟨0x800F1000, 6, 0x200, 32, 0x8, false, 0x0, 0x0, .t, 0x8000077F, 0x0, 0x0, 0x0,
    [], none⟩,
  -- TRC_CNTt_n
  ⟨0x800F1100, 6, 0x200, 32, 0x8, true, 0x0, 0x0, .t, 0xFFFFFFFFFFFFFFFF, 0x0, 0x0, 0x0,
    [], none⟩,
  -- TRC_OVFt
  ⟨0x800F3000, 6, 0x8, 1, 0x0, false, 0x0, 0x0, .t, 0x0, 0x0, 0xFFFFFFFF, 0x0,
    [], none⟩]

/-- The registers of the CMP blocks. -/
def regsCmp : List RegDesc := [
  -- CMP_CTL
  ⟨0x80100000, 6, 0x10000, 1, 0x0, false, 0x30, 0x0, .d, 0x0, 0x0, 0x0, 0x100,
    [], none⟩,
  -- CMP_CLAUSE_LEN
  ⟨0x80100008, 6, 0x10000, 1, 0x0, false, 0x80, 0x0, .d, 0x0, 0x7FF, 0x0, 0x0,
    [(10, 0, [(16, 1024)])], some (0x80100000, 0x10000, 8, 0)⟩,
  -- CMP_CLAUSE_TMAX
  ⟨0x8010000C, 6, 0x10000, 1, 0x0, false, 0xC80, 0x0, .d, 0x0, 0xFFF, 0x0, 0x0,
    [(11, 0, [(160, 3200)])], some (0x80100000, 0x10000, 8, 0)⟩,
  -- CMP_PARSE_INTERVAL
  ⟨0x80100010, 6, 0x10000, 1, 0x0, false, 0x400, 0x0, .d, 0x0, 0xFFFF, 0x0, 0x0,
    [], some (0x80100000, 0x10000, 8, 0)⟩,
  -- CMP_STAT
  ⟨0x80100020, 6, 0x10000, 1, 0x0, false, 0x0, 0x0, .d, 0x0, 0x0, 0x0, 0x0,
    [], none⟩,
  -- CMP_LASTCLOSE
  ⟨0x80100024, 6, 0x10000, 1, 0x0, false, 0x0, 0x0, .d, 0x0, 0x0, 0x0, 0x0,
    [], none⟩,
  -- CMP_SEQ
  ⟨0x80100028, 6, 0x10000, 1, 0x0, true, 0x0, 0x0, .d, 0x0, 0x0, 0x0, 0x0,
    [], none⟩,
  -- CMP_SIG_A
  ⟨0x80100040, 6, 0x10000, 3, 0x8, true, 0x0, 0x0, .d, 0x0, 0x0, 0x0, 0x0,
    [], none⟩,
  -- CMP_RESULT
  ⟨0x80100058, 6, 0x10000, 1, 0x0, false, 0x0, 0x0, .d, 0x0, 0x0, 0x0, 0x0,
    [], none⟩,
  -- CMP_ERRCNT
  ⟨0x80100060, 6, 0x10000, 1, 0x0, false, 0x0, 0x0, .d, 0x0, 0x0, 0x0, 0x0,
    [], none⟩,
  -- CMP_RCTL
  ⟨0x80100068, 6, 0x10000, 1, 0x0, false, 0x3100, 0x0, .d, 0x0, 0xFFF103, 0x0, 0x80000000,
    [(15, 12, [(2, 15)]), (1, 0, [(0, 1)])], some (0x80100068, 0x10000, 31, 0)⟩,
  -- CMP_LANESTAT
  ⟨0x8010006C, 6, 0x10000, 1, 0x0, false, 0x0, 0x0, .d, 0x0, 0x0, 0x0, 0x0,
    [], none⟩,
  -- CMP_RECCNT
  ⟨0x80100070, 6, 0x10000, 1, 0x0, true, 0x0, 0x0, .d, 0x0, 0x0, 0x0, 0x0,
    [], none⟩,
  -- CMP_DRSTAT
  ⟨0x80100078, 6, 0x10000, 1, 0x0, false, 0x0, 0x0, .d, 0x0, 0x0, 0x7, 0x0,
    [], none⟩,
  -- CMP_FCAUSE
  ⟨0x8010007C, 6, 0x10000, 1, 0x0, false, 0x0, 0x0, .d, 0x0, 0x0, 0x0, 0x0,
    [], none⟩]

end Sys2Proof.Machine
end

