-- ==== Sys2Proof/Machine/Units.lean ====
section
/-! DEFINITION. The parts State is made of, one structure per unit of the spec, each field naming the rule that gives
it. A register that software addresses has its home in `State.regs` or, where a docstring here says so, in the unit. -/

namespace Sys2Proof.Machine

/-! ### Cores (02, 04) -/

/-- A shadow bank (R145): g1 to g31 (g0 is kept zero, R52), PC, PSW, RPC, EPRIV and the busy flag (R146). -/
structure Bank where
  g : Vector Word 32
  pc : Word
  psw : Word
  rpc : BitVec 32
  epriv : Word
  busy : Bool
  /-- the pending repeat is a REPN, which no interrupt divides (R104) -/
  repn : Bool
deriving DecidableEq, Repr

/-- Where a result lands: a g register of the current bank, an f or p register, or q0 and q1 together. -/
inductive Dest where
  | g (r : Reg)
  | f (r : Reg)
  | p (r : BitVec 2)
  | q
deriving DecidableEq, Repr

/-- The unit a result comes from: R72 and R75 cancel by unit, and a load lands only once its data has arrived. -/
inductive ResUnit where
  | plain | load | divide | fpDivide
deriving DecidableEq, Repr

/-- A result in flight (R66, R67): it lands at the end of the slot in which `left` reaches 0. -/
structure Result where
  dest : Dest
  val : BitVec 128
  left : Nat
  /-- FFLAGS bits set at landing (R78) -/
  flags : BitVec 5
  unit : ResUnit
  /-- false only for a load whose data is still outstanding (R729) -/
  arrived : Bool
  /-- address and slot of the instruction, for its retirement record (R201) -/
  pc : Word
  slot : Nat
deriving DecidableEq, Repr

/-- A retirement record (R201), before it is laid out in 32 bytes. -/
structure Rec where
  pc : Word
  addr : Word
  val : Word
  kind : Byte
  dest : Byte
  size : Byte
  slot : Byte
deriving DecidableEq, Repr

/-- An entry of a lane's gate column (R216). `id` counts the triad's stores, so that the copies of one store in the
three columns are known; `be` enables the octets from `pa` upward. -/
structure GateEntry where
  id : Nat
  pa : BitVec 40
  data : Word
  be : Byte
  dev : Bool
  /-- 0 plain, 1 bit-set alias, 2 bit-clear alias (R352) -/
  aliasK : BitVec 2
  clause : Nat
deriving DecidableEq, Repr

/-- The architectural state of a lane, which a checkpoint holds (R211). -/
structure LaneCore where
  banks : Vector Bank 4
  /-- the bank in use, PSW.BANK -/
  cur : Fin 4
  f : Vector Word 32
  p : Vector (BitVec 128) 4
  q0 : Word
  q1 : Word
  vbr : Word
  vbrM : Word
  dfsp : Word
  /-- results in flight, earliest issued first (R81) -/
  flight : List Result
  /-- core cycles left of an atomic budget, 0 when none runs (R179, R239) -/
  budget : Nat
deriving DecidableEq, Repr

/-- Lane states and their codes (R251). -/
inductive LaneState where
  | active | spareTest | spareReady | suspect | retired
deriving DecidableEq, Repr

/-- A lane: its architectural state and what the checking machinery keeps for it. -/
structure Lane where
  core : LaneCore
  state : LaneState
  /-- signature of the open clause (R203) -/
  sig : Word
  /-- the signature is marked invalid: an uncorrectable delay-register error came in this clause (R196, R278) -/
  bad : Bool
  /-- records of the bundle whose issue slot has not ended yet (R198), and the MTS that its end carries out (R54) -/
  bundleRecs : List Rec
  mts : Option (BitVec 12 × Word)
  /-- records of the open clause, oldest first, kept for trace (R682) -/
  recs : List Rec
  /-- gate column, oldest entry first (R215), and before it the lane's own copies of committed stores that have not
  completed at their slaves (R222, R224) -/
  gate : List GateEntry
  held : List GateEntry
  /-- charge count of the current window (R257); the window is open while it is not 0 -/
  chg : Nat
  /-- entries into SUSPECT since device reset (R258) -/
  susn : Nat
  /-- the charge limit is reached and the lane awaits its clause boundary (R257) -/
  suspectDue : Bool
  /-- the attribution window of R279 is open -/
  attrib : Bool
  /-- background logic BIST is running; when a lane that waits for it asked, in ticks of `Sys.upTicks` (R271) -/
  bistRun : Bool
  bistWait : Option Nat
  /-- return-address stack, newest first, at most 16 (R92) -/
  ras : List Word
deriving DecidableEq, Repr

/-- What a faulting core access leaves for TAPU_FREC_t and TAPU_FVA_t (R311 to R313). -/
structure Frec where
  kind : Nat
  priv : Nat
  level : Nat
  cause : Nat
  va : Word
deriving DecidableEq, Repr

/-- An entry to come: raised by a synchronous exception, or recorded in a checkpoint (R172, R211, R248). -/
structure PendEntry where
  vec : Nat
  /-- the M table is used (R161, R167) -/
  mTable : Bool
  /-- IMM16 of SYS or MCALL (R177) -/
  code : BitVec 16
  /-- PC left for the interrupted context (R161) -/
  pc : Word
  event : Option (Fin 1024)
  prio : BitVec 4
  nmx : Bool
  /-- the fault record it writes when it is taken (R311) -/
  frec : Option Frec
deriving DecidableEq, Repr

/-- A branch whose delay slot has not issued yet (R83): the branch's bundle, the address to go on at after the delay
slot, none for the bundle behind it, and whether the delay slot is annulled (R85). -/
structure Delay where
  branchPc : Word
  target : Option Word
  annul : Bool
deriving DecidableEq, Repr

/-- An entry of the replay log (R233). -/
structure LogEntry where
  pa : BitVec 40
  size : Nat
  val : Word
  clause : Nat
deriving DecidableEq, Repr

/-- A checkpoint at a clause boundary (R211). -/
structure Ckpt where
  cores : Vector LaneCore 3
  /-- parse counter, and whether the clause behind begins with a parse (R238) -/
  parse : Nat
  parsed : Bool
  /-- the clause behind was opened by a SENS close (R230) -/
  sens : Bool
  logPos : Nat
  timer : Nat
  entry : Option PendEntry
  /-- CLAUSE_LEN, CLAUSE_TMAX, PARSE_INTERVAL and RCTL as the clause behind took them when it opened (R249, R254) -/
  len : Nat
  tmax : Nat
  interval : Nat
  rctl : Word
deriving DecidableEq, Repr

/-- A closed clause that awaits its compare (R212): its number, the checkpoint in front of it, each lane's signature,
invalid mark and records, the lane left out of the compare for its repair (R266). -/
structure Closed where
  num : Nat
  ckpt : Ckpt
  sigs : Vector Word 3
  bad : Vector Bool 3
  recs : Vector (List Rec) 3
  excluded : Option LaneId
  /-- the compare fails whatever the signatures: SENS accesses disagreed (R231, R236) -/
  forced : Bool
  /-- class C counts of the clause: pairs of event code * 4 + privilege level and number (R690, R691) -/
  counts : List (Nat × Nat)
  /-- the event whose pending bit the clause, an entry at its start, had not cleared when it closed (R168) -/
  evClear : Option (Fin 1024)
  evGone : Bool
  /-- it closed with the replay log full, so the lanes stand at the boundary until it has committed (R234) -/
  full : Bool
  /-- debug split: it committed at its close, and its compare is only recorded (R283) -/
  done : Bool
deriving DecidableEq, Repr

/-- A triad (R50, R192 to R284). -/
structure Triad where
  /-- released by the boot (R636), not held in reset -/
  released : Bool
  /-- fenced, with CMP_FCAUSE in `regs` (R280) -/
  fenced : Bool
  /-- halted by a debugger; a halt is asked for (R697) -/
  halted : Bool
  haltReq : Bool
  lanes : Vector Lane 3
  /-- an issue slot has issued and its end, where results land, is still to come (R67) -/
  slotOpen : Bool
  /-- the first slot of a two-slot bundle, held until its last slot issues (R59, R64) -/
  first : Option Op
  /-- the bundle fetched last, and the fetch-ahead buffer (R95, R106) -/
  fetched : Option Bundle
  delay : Option Delay
  entry : Option PendEntry
  /-- the entry at the start of the open clause has been made (R172); the vector entry of one that waits in front of
  step 4 for room in the gate (R218) -/
  entered : Bool
  entryWait : Option (Word × Word)
  /-- an event has been deliverable in the open clause: slots of R245 issued since -/
  evSeen : Option Nat
  /-- an event was deliverable at the boundary behind which the open clause stands (R167, R246) -/
  eventAt : Bool
  /-- the column held 48 entries at the end of the last slot and has held them since (R204, R218) -/
  colFull : Bool
  /-- entries of events whose pending bit had cleared when a rollback discarded their clauses (R248) -/
  owed : List PendEntry
  /-- the pending bit of the event whose entry opened the open clause has cleared -/
  evGone : Bool
  /-- an event entered whose pending bit clears as the first bundle of its handler issues (R168) -/
  evClear : Option (Fin 1024)
  /-- the open clause: number, issue slots issued, timer in core cycles (R204, R208, R209) -/
  clause : Nat
  slots : Nat
  timer : Nat
  /-- opened by a SENS close (R230) -/
  sensOpen : Bool
  /-- SENS accesses of the open clause disagreed (R231, R236) -/
  forced : Bool
  /-- conditions of R204 that are due for the boundary to come, one bit each -/
  closeDue : BitVec 10
  /-- parse counter, and whether the open clause began with a parse (R238) -/
  parse : Nat
  parsed : Bool
  /-- class C counts of the open clause (R691) -/
  counts : List (Nat × Nat)
  ckpt : Ckpt
  closed : Option Closed
  /-- replay log, oldest first, and the next entry to consume (R233, R235) -/
  log : List LogEntry
  logPos : Nat
  /-- number of stores issued, which numbers gate entries -/
  stores : Nat
  /-- committed entries of the chosen columns awaiting release, and released ones in flight (R219) -/
  toRelease : List GateEntry
  flying : List GateEntry
  /-- rollbacks to one checkpoint without a commit between (R264) -/
  rollbacks : Nat
  /-- a failed compare asks for a rollback (R255) -/
  rollbackDue : Bool
  /-- the spare that joined for an arbitration clause (R275) -/
  arb : Option LaneId
  /-- the outvoted lane that awaits its repair (R266), and that its clause has committed -/
  repair : Option LaneId
  repairReady : Bool
  /-- the lane left out of the compare of the open clause -/
  excluded : Option LaneId
  /-- the window of R277 is open -/
  invalidOpen : Bool
  /-- the previous rotation, in ticks of `Sys.upTicks` (R270), and the SPARE_READY lane that a swap-in (R254) and a rotation (R270) found at
  the boundary behind which the open clause stands -/
  lastRotation : Option Nat
  swapAt : Option LaneId
  rotAt : Option LaneId
  /-- values in use of CLAUSE_LEN, CLAUSE_TMAX, PARSE_INTERVAL and RCTL, which change at clause openings (R249, R254) -/
  lenUse : Nat
  tmaxUse : Nat
  intervalUse : Nat
  rctlUse : Word
  /-- lines of the L1I: line address and its 16 words as filled (R31); lines the L1D holds (R30) -/
  l1i : List (Nat × List (BitVec 32))
  l1d : List Nat
  /-- agreed GPIO levels (R242), and runs of disagreeing samples by pin (R244) -/
  agreed : BitVec 128
  inRun : List (Nat × Nat)
  /-- trace FIFO, oldest first (R685); entries dropped since the last accepted one and the time of the first -/
  trace : List (Rec × TriadId × LaneId)
  traceDrop : Nat
  traceDropTime : Word
deriving DecidableEq, Repr

/-! ### TAPU and DMA (07) -/

/-- An entry of the translation cache (R298): triad, ASID, virtual page number, leaf PTE and its level. -/
structure TlbEntry where
  triad : TriadId
  asid : BitVec 12
  vpn : BitVec 27
  pte : Word
  level : Nat
deriving DecidableEq, Repr

/-- A running invalidation barrier (R300): its scope, ASID and page, and the segments that were in flight under a
matching translation when the write arrived, by channel and `Seg.id`; and the triad's own writes, by gate entry, whose
response it holds back. -/
structure Barrier where
  scope : BitVec 2
  asid : BitVec 12
  vpn : BitVec 27
  segs : List (Fin 32 × Nat)
  waits : List Nat
deriving DecidableEq, Repr

/-- Channel states and their codes (R315). -/
inductive ChanState where
  | idle | armed | ready | running | suspended | error
deriving DecidableEq, Repr

/-- A descriptor as loaded (R319). -/
structure Desc where
  src : Word
  dst : Word
  len : BitVec 32
  ctl : BitVec 32
  next : Word
deriving DecidableEq, Repr

/-- A segment in flight (R325 to R327): its place among all segments of its channel, its number, its length, the
physical accesses it makes on each side (address, octets), and what its translations used (R300): triad, ASID, and each
virtual page with its G bit; no page where translation is off. -/
structure Seg where
  id : Nat
  num : Nat
  bytes : Nat
  src : List (Nat × Nat)
  dst : List (Nat × Nat)
  triad : TriadId
  asid : BitVec 12
  pages : List (Nat × Bool)
  /-- false once its transfer has been aborted: its accesses complete, its channel's record does not move -/
  live : Bool
  /-- its accesses have been made; how many of its writes banks still keep (R348, R349) -/
  moved : Bool
  kept : Nat
deriving DecidableEq, Repr

/-- A fault of a channel's next segment or descriptor, as RES1 and RES2 will show it (R331). -/
structure ChanFail where
  cause : Nat
  side : Nat
  level : Nat
  fva : Word
deriving DecidableEq, Repr

/-- A DMA channel. Its stamp, current descriptor address, DONE and fault fields stand in the registers
DMAx_CHn_CTX, RES0, RES1 and RES2 of `regs`. -/
structure Chan where
  state : ChanState
  desc : Option Desc
  /-- next segment to start -/
  nextSeg : Nat
  flying : List Seg
  /-- ABORT accepted while RUNNING (R333) -/
  abortDue : Bool
  /-- the descriptor at RES0 is to be fetched and checked -/
  fetchDue : Bool
  /-- segments run in the present turn (R328) -/
  turn : Nat
  /-- the next segment has failed its checks; the channel suspends when none is in flight (R331) -/
  failed : Option ChanFail
  /-- segments started so far, which numbers them in `Seg.id` -/
  started : Nat
deriving DecidableEq, Repr

/-! ### SRAM and DDR (08, 09) -/

/-- Who waits for a write that a bank keeps: a released store of a triad, a segment of a DMA channel. -/
inductive KeptFor where
  | gate (t : TriadId) (id : Nat)
  | seg (c : Fin 32) (id : Nat)
deriving DecidableEq, Repr

/-- A write that a bank has refused and keeps (R348): its address and octets with their enables. -/
structure Kept where
  writer : KeptFor
  pa : Nat
  octets : List (Byte × Bool)
deriving DecidableEq, Repr

/-- The SRAM banks (R339): power state code of each bank (R359) and the state asked for, the words of which cells have
flipped since they were written (word address; bits [63:0] data cells, [71:64] check cells; R343), words in the
write-back buffer (R345), the write a bank refused and keeps (R348), a wipe in progress (R367). -/
structure Sram where
  power : Vector (BitVec 3) 12
  goal : Vector (BitVec 2) 12
  errors : List (Nat × BitVec 72)
  writeBack : List Nat
  collided : Vector (Option Kept) 12
  wiping : Bool
deriving DecidableEq, Repr

/-- A command that a DDR channel repeats (R381): the line it concerns, whether it writes it, repeats so far. -/
structure Repeat where
  line : Option Nat
  write : Bool
  tries : Nat
deriving DecidableEq, Repr

/-- The DDR controller: lines of which symbols have gone wrong (the 4-bit positions of the sub-channel; R378),
corrected errors per page in the scrub period (R384), the lines read by the running sweep (R382), the capacity of one
channel in GB (R373), ×8 devices, the commands each channel repeats, the times of each channel's latest uncorrectable
errors in ticks of `Sys.upTicks`, newest first (R386). -/
structure Ddr where
  errors : List (Nat × List Nat)
  pageCe : List (Nat × Nat)
  swept : List Nat
  perChannel : Nat
  wide8 : Bool
  repeats : Vector (List Repeat) 4
  ueTimes : Vector (List Nat) 4
deriving DecidableEq, Repr

/-! ### Tense (10) -/

/-- An armed action: the unit's own copy of its entry (R413). -/
structure Armed where
  idx : Nat
  time : Word
  kind : Byte
  tgt : BitVec 16
  owner : Nat
  late : BitVec 2
  arg0 : Word
  arg1 : BitVec 32
  /-- the table and cycle of an instance (R420) -/
  cyc : Option (Nat × Nat)
  dispatched : Bool
  /-- it was found late (R416) -/
  isLate : Bool
deriving DecidableEq, Repr

/-- The Tense unit beyond its registers: fraction F (R393), servo integrator, the last 16 ADJ values it computed,
runs of samples inside and outside the thresholds (R402), times that the servo compares with (R402, R404, R405), armed
actions in the order of arming, next cycle to instantiate of each table and the entries its list names (R420). -/
structure Tense where
  frac : BitVec 32
  integ : Int
  adjHist : List Int
  good : Nat
  badRun : Nat
  holdReported : Bool
  /-- the last sample o, all 64 bits (object 0x3000.03, R435) -/
  lastOfs : Word
  /-- time of the last sample of each domain (R404) -/
  seenAt : Vector (Option Word) 2
  /-- when SYNCTO began to run: the last sample of the followed domain, or the start of following it (R402) -/
  sampleAt : Word
  /-- when HOLDOVER began (R405) -/
  holdAt : Word
  /-- until when the unit instantiates elements already taken (R426) -/
  instAt : Option Word
  armed : List Armed
  nextN : Vector Nat 64
  owned : Vector (List Nat) 64
deriving DecidableEq, Repr

/-! ### Field network (11) -/

/-- What the transmission of a gPTP message brings with it (R441 to R444): nothing; the time of a Pdelay_Req; a message
that carries the transmit time of this one; the Follow_Up of a forwarded Sync with its correction so far and its rate
ratio minus 1 (in 2^-16 ns and 2^-41), and the receive time of that Sync. -/
inductive GptpNote where
  | plain
  | req
  | follow (msg : List Byte)
  | relay (msg : List Byte) (corr rate : Int) (rx : Word)
deriving DecidableEq, Repr

/-- Whose frame an egress queue or port holds. -/
inductive FrameKind where
  /-- a cyclic frame: its slot, CYCLE, and the STATUS bits of its launch -/
  | cyclic (slot cyc flags : Nat)
  | acyclic
  | bridged
  | gptp (note : GptpNote)
deriving DecidableEq, Repr

/-- A frame, without its FCS. -/
structure Frame where
  kind : FrameKind
  octets : List Byte
deriving DecidableEq, Repr

/-- The path-delay measurement of a port (R444; times of the other end and delays in 2^-16 ns): the running exchange's
sequence number, transmit time of its request, receive time and t2 of its response; receive time and t3 of the last
exchange, neighbour rate ratio minus 1 in 2^-41, mean link delay. -/
structure Peer where
  seq : BitVec 16
  t1 : Option Word
  resp : Option (Word × Int)
  last : Option (Word × Int)
  rate : Int
  delay : Option Int
deriving DecidableEq, Repr

/-- A field port: egress queues 0 to 7, the frame in transmission, gate list as copied at the cycle start (R446),
the entry that sets the gates now, the present gates. LINK stands in NET_Pp_STAT. -/
structure Port where
  queues : Vector (List Frame) 8
  sending : Option Frame
  /-- of the frame in transmission: its queue (8 for the gPTP path), octets sent before the present fragment, start of
  that fragment -/
  txQueue : Nat
  txSent : Nat
  txAt : Word
  /-- the preempted frame: queue, octets sent, frame (R437) -/
  cut : Option (Nat × Nat × Frame)
  gcl : List Word
  gclPos : Nat
  gates : Byte
  /-- the T_start at which the schedule restarted last, and whether the checks made last passed (R446, R447) -/
  cycStart : Word
  gateOk : Bool
  /-- gPTP messages waiting for the path that no gate closes (R443) -/
  gptp : List Frame
  peer : Peer
  /-- sequence numbers of the next Sync and the next Announce of each domain -/
  syncSeq : Vector (BitVec 16) 2
  annSeq : Vector (BitVec 16) 2
deriving DecidableEq, Repr

/-- A learned address (R437). -/
structure FdbEntry where
  mac : BitVec 48
  vid : BitVec 12
  port : Fin 8
deriving DecidableEq, Repr

/-- A recovered stream of a ring pair (R469): the latest sequence number and the history below it. -/
structure Stream where
  pair : Fin 4
  src : BitVec 48
  vid : BitVec 12
  latest : BitVec 16
  seen : List (BitVec 16)
deriving DecidableEq, Repr

/-- A safe connection as copied at LK (R470, R473), with the engine's own fields. -/
structure SafeConn where
  num : Nat
  ncid : BitVec 16
  cuid : BitVec 32
  produce : Bool
  enabled : Bool
  len : Nat
  dev : Nat
  sofs : Nat
  maxAge : Word
  wdog : BitVec 32
  lastSeq : BitVec 32
  accepted : Bool
  failsafe : Bool
  /-- FAILSAFE came from the watchdog, so that only NET_SACK ends it (R477) -/
  wdogFail : Bool
  /-- WDOG or MAXAGE is 0 (R478) -/
  never : Bool
  crcErr : Bool
  staleErr : Bool
  ncidErr : Bool
  /-- a container was accepted since the watchdog expired -/
  freshOk : Bool
  /-- LASTC and LASTT as the engine keeps them (R470, R476, R477) -/
  lastC : List Byte
  lastT : Word
deriving DecidableEq, Repr

/-- A cyclic frame being built in staging (R454, R455). -/
structure Built where
  slot : Nat
  cyc : Nat
  port : Fin 8
  queue : Fin 8
  time : Word
  octets : List Byte
  rtag : Bool
  done : Bool
  /-- its TIME has come: it is queued as soon as it is built (R455) -/
  launched : Bool
deriving DecidableEq, Repr

/-- The last Announce of a domain at a port (R441): root system identity, steps removed, source port, and the time
until which it holds. -/
structure Announce where
  dom : Fin 2
  port : Fin 8
  root : BitVec 112
  steps : Nat
  source : BitVec 80
  expires : Word
deriving DecidableEq, Repr

/-- A two-step Sync whose Follow_Up has not come: domain, port, sequence number, source port, receive time, correction
in 2^-16 ns. -/
structure HeardSync where
  dom : Fin 2
  port : Fin 8
  seq : BitVec 16
  source : BitVec 80
  rx : Word
  corr : Int
deriving DecidableEq, Repr

structure Net where
  ports : Vector Port 8
  fdb : List FdbEntry
  streams : List Stream
  /-- R-TAG sequence numbers by slot (R468) -/
  slotSeq : List (Nat × BitVec 16)
  staging : List Built
  conns : List SafeConn
  /-- devices with a record accepted since the last input flip (R465) -/
  accepted : List Nat
  /-- clock identity of the grandmaster of domain d as last selected, 0 for none (R441, E0550) -/
  grandmaster : Vector (BitVec 64) 2
  announces : List Announce
  /-- Sync messages that wait for their Follow_Up -/
  syncs : List HeardSync
deriving DecidableEq, Repr

/-! ### Host ports and sessions (12) -/

/-- A session H0 to H7 (R497 to R502). OPEN, ROLE and CRED show in HST_SESSs_STAT. -/
structure Session where
  isOpen : Bool
  role : Nat
  cred : Nat
  key : List Byte
  last : BitVec 32
  /-- the last four responses, newest first (R497) -/
  held : List (BitVec 32 × List Byte)
  /-- SEQ of the request still executing, for a soft object or a STORE (R497, R498) -/
  executing : Option (BitVec 32)
  tagFails : Nat
  /-- tag failures since opening, object 0x6000 + s .05 -/
  tagFailTotal : BitVec 32
  /-- the value a segmented WRITE is building (R505): object key, octets -/
  building : Option (Nat × List Byte)
  via : Option HostVia
  /-- accepted requests that wait, at most four, M0 only (R498) -/
  waiting : List (Byte × AopMsg)
deriving DecidableEq, Repr

/-- A soft-queue entry in use (R512): the session it answers, if it is still open, and its request. -/
structure SoftEntry where
  entry : Fin 32
  sess : Option (Fin 8)
  seq : BitVec 32
  op : Byte
deriving DecidableEq, Repr

/-- A STORE or an approval's STORE in progress (R656): who waits for its response, what it captured. -/
structure StoreJob where
  sess : Option (Fin 8)
  seq : BitVec 32
  op : Byte
  /-- working copies captured (R656 step 1) -/
  captured : List (Nat × List Byte)
  /-- the proposal slot whose approval runs this STORE, and the former value of its object (R529) -/
  slot : Option (Fin 8)
  former : List Byte
  /-- the deferred response is for a triad or the key switch: none is sent -/
  silent : Bool
deriving DecidableEq, Repr

/-- The function of a PCIe port (R489) as a host sees it: vendor and device ID, class code, size of BAR0 (no other BAR
exists), largest payload, which never change; the base of BAR0 and the MSI vector as the host sets them, and the MSIs
signalled, newest first. -/
structure PcieFunction where
  vendor : BitVec 16
  device : BitVec 16
  cls : BitVec 24
  barSize : Nat
  maxPayload : Nat
  bar0 : BitVec 32
  msi : Option (BitVec 64 × BitVec 16)
  signalled : List (BitVec 64 × BitVec 16)
deriving DecidableEq, Repr

structure Hosts where
  sessions : Vector Session 8
  soft : List SoftEntry
  softCount : BitVec 32
  /-- working copies that differ from the defaults, by index * 256 + sub-index (R509) -/
  objs : List (Nat × List Byte)
  job : Option StoreJob
  /-- generation counters 0 to 11 (R515) -/
  gens : Vector (BitVec 32) 12
  rgen : BitVec 32
  /-- addresses of the RECAP requests of the triads (R516) -/
  recapAddr : Vector (BitVec 40) 6
  /-- CLK_TNS tick (`Sys.upTicks`) at which each was accepted (R517) -/
  recapAt : Vector Nat 6
  storesDone : BitVec 32
  storeState : Byte
  /-- datagrams M0 has sent, newest first: destination address, UDP port (0 for none), octets -/
  m0Sent : List (BitVec 128 × BitVec 16 × List Byte)
  /-- a DEVICE reset is due, 10 ms after a response (R520, R537) -/
  resetDue : Option DevCause
  /-- soft-queue entries whose request timed out and for which no late write has come yet (R513) -/
  softLate : List (Fin 32)
  /-- M0's addresses and AOP port as the boot loaded them from 0x1220 (R487, R509) -/
  ip4 : BitVec 32
  /-- highest PCIe generation of each port, as loaded from 0x1230 + p .02 -/
  pcieGen : Vector (BitVec 3) 2
  ip6 : BitVec 128
  udp : BitVec 16
  /-- seconds of a proposal's timeout as the boot loaded them from 0x1200.04 (R509, R532) -/
  proposalS : BitVec 16
  pcie : Vector PcieFunction 2
deriving DecidableEq, Repr

/-! ### Countersign and life cycle (13) -/

/-- The proposer of a slot (R522). -/
inductive Proposer where
  | session (s : Fin 8)
  | triad (t : TriadId)
deriving DecidableEq, Repr

/-- A pending or applying proposal (R526, R528). -/
structure Proposal where
  applying : Bool
  proposer : Proposer
  cred : BitVec 16
  index : BitVec 16
  sub : Byte
  party : Byte
  value : List Byte
  tag : Word
  /-- acceptance, in ticks of `Sys.upTicks` (R532) -/
  since : Nat
  /-- KEYSW_N has been seen deasserted since acceptance (R530) -/
  keyOff : Bool
  /-- KEYSW_N was asserted after that and has stayed so -/
  keyOn : Bool
  /-- a credential's value unwrapped, else the value again (R521) -/
  plain : List Byte
deriving DecidableEq, Repr

/-- A credential in the secure region (R540). -/
structure Cred where
  role : Nat
  enabled : Bool
  key : List Byte
deriving DecidableEq, Repr

/-- A write to the secure region that waits for the end of a wipe (R367, R368): a credential or a session key. -/
inductive SecureWrite where
  | cred (k : Fin 32) (c : Cred)
  | key (s : Fin 8) (octets : List Byte)
deriving DecidableEq, Repr

structure Lcs where
  /-- life-cycle fuses: bit 0 DEVELOPMENT, bit 1 FIELD, bit 2 RETIRED (R538) -/
  fuses : BitVec 3
  /-- those fuses as the boot sensed them, whose state holds until the next reset (R634 step 1; log 25) -/
  sensed : BitVec 3
  keyHash : Option (List Byte)
  creds : Vector Cred 32
  /-- credentials 1 to 31 as serial memory keeps them: wrapped octets (R539) -/
  wrapped : List (Nat × List Byte)
  /-- state of the random bit generator in the secure region, 256 octets (R540) -/
  rbg : BitVec 2048
  /-- writes held while the region is wiped, oldest first (R368) -/
  held : List SecureWrite
  slots : Vector (Option Proposal) 8
  pnum : BitVec 32
  /-- synchronised levels: KEYSW_N asserted, TAMPER_N asserted -/
  keySw : Bool
  tamperN : Bool
  /-- approvals that wait for an earlier approval or a running STORE (R533): the slot and the countersigning session with
  its SEQ -/
  waiting : List (Fin 8 × Option (Fin 8 × BitVec 32))
deriving DecidableEq, Repr

/-! ### Legacy edge (14) -/

/-- A timer channel beyond TMR_CHn_CFG, PINCFG and CTL: CNT, the active TOP and compare values and the values last
written (R551), prescaler, pin levels it drives and filtered input levels, capture FIFO (R555). -/
structure Timer where
  cnt : BitVec 48
  top : BitVec 48
  cmp0 : BitVec 48
  cmp1 : BitVec 48
  topW : BitVec 48
  cmp0W : BitVec 48
  cmp1W : BitVec 48
  /-- peripheral cycles since the last TIMER step or restart of the prescaler -/
  presc : Nat
  dir : Bool
  /-- levels of A and B at the last counted sample, A in bit 0 (R549) -/
  last : BitVec 2
  outA : Bool
  outB : Bool
  fifo : List Word
  lost : Bool
  /-- peripheral cycles left before a staggered start falls due, none where none is pending (R557) -/
  startDue : Option Nat
  /-- peripheral cycles for which the voted levels of A and B have held, up to 16 (R550) -/
  holdA : Nat
  holdB : Nat
deriving DecidableEq, Repr

structure Ssi where
  transfer : Bool
  busy : Bool
  pos : BitVec 48
  time : Word
  /-- peripheral cycles since the start edge s, while BUSY; data bits sampled so far, in their order (R559) -/
  age : Nat
  samples : List Bool
deriving DecidableEq, Repr

/-- What a busy transmitter does (R564): the bit time before the first start bit, a character, the hold of DE. -/
inductive SendPhase where
  | lead | char | hold
deriving DecidableEq, Repr

structure Uart where
  tx : List (BitVec 9)
  rx : List (BitVec 32)
  busy : Bool
  de : Bool
  /-- characters a GO has still to send (R564) -/
  toSend : Nat
  /-- the transmitter's phase and the peripheral cycles spent in it -/
  phase : SendPhase
  cyc : Nat
  /-- the receiver (R562): cycles since the falling edge it found, bits taken so far, latest first, the last three voted
  levels, latest in bit 0 -/
  rxCyc : Option Nat
  rxBits : List Bool
  rxLast : BitVec 3
  /-- characters received that have not entered the FIFO: data, FE, PE -/
  found : List (BitVec 9 × Bool × Bool)
  /-- cycles of idle line since the last stop bit, and whether the idle timeout has come in them (R563) -/
  quiet : Nat
  idleDone : Bool
deriving DecidableEq, Repr

structure Sdm where
  i1 : Int
  i2 : Int
  act : BitVec 24
  held : Option (BitVec 24)
  wdx : Bool
  out : Bool
  /-- peripheral cycles since the channel received its last new ACT (R568) -/
  age : Nat
deriving DecidableEq, Repr

structure Gpio where
  fifo : List Word
  lost : Bool
deriving DecidableEq, Repr

structure Legacy where
  timers : Vector Timer 64
  ssi : Vector Ssi 16
  uart : Vector Uart 8
  sdm : Vector Sdm 32
  gpio : Vector Gpio 8
  /-- read and write latches of the TMR and LEG blocks by requester: triads 0-5, DMA engines 6-7, Tense for each owner
  8-13 (R547) -/
  latchR : Vector (Vector (BitVec 32) 14) 2
  latchW : Vector (Vector (BitVec 32) 14) 2
  /-- voted levels of the inputs the units use (R544) -/
  gpioIn : BitVec 128
  tmrAIn : BitVec 64
  tmrBIn : BitVec 64
  ssiIn : BitVec 16
  uartIn : BitVec 8
  /-- runs of samples in which a rail differs from the vote: pin, rail, length (R544) -/
  railRun : List (Pin × Nat × Nat)
  /-- safe state of the outputs of triad t (R571), the SAFE bits of TMR_BSTAT and LEG_BSTAT -/
  safeTmr : BitVec 6
  safeLeg : BitVec 6
  /-- CLK_PER phase of the tick (R33) -/
  half : Bool
deriving DecidableEq, Repr

/-! ### Yober island (15) -/

/-- An ADC port YADCn of the island (R574, R577, R578): the levels of its pins and its latest conversion. -/
structure AdcPort where
  sclk : Bool
  csN : Bool
  din : Bool
  conv : BitVec 24
deriving DecidableEq, Repr

/-- The filtering of a counter channel's inputs (R550, R578): the levels of its pins now and the cycles they have held. -/
structure YtcFilter where
  a : Bool
  b : Bool
  heldA : Nat
  heldB : Nat
deriving DecidableEq, Repr

structure Yober where
  /-- 0 resetting, 1 ready, 2 fault (0x5000.01) -/
  status : BitVec 2
  /-- mailbox bytes by offset from 0x00_9000_0000 (R583, R592) -/
  mbox : List Host.Cell
  seq : Word
  backlog : List (List Byte)
  /-- blown event-counter fuses (R595) -/
  events : Nat
  sealed : Bool
  mkey : Option (List Byte)
  nonce : BitVec 32
  params : List (Nat × List Byte)
  audit : List (List Byte)
  fwA : List Byte
  fwB : List Byte
  activeB : Bool
  /-- size of the staged image (FWBEGIN) and whether FWEND verified it -/
  staged : Option Nat
  verified : Bool
  restart : Bool
  cgap : Bool
  lastRecord : List Byte
  /-- counter channels YTC0 to YTC7 (R578) and the levels last counted -/
  ytc : Vector (BitVec 48) 8
  ytcA : BitVec 8
  ytcB : BitVec 8
  ytcIn : Vector YtcFilter 8
  adc : Vector AdcPort 4
  /-- the two cores in lockstep and the 512 KB SRAM (R574), a word for each: no rule lays out what they hold (log 21) -/
  cores : Vector Word 2
  sram : Word
  /-- CLK_TNS is stopped (R581) -/
  clkStopped : Bool
deriving DecidableEq, Repr

/-! ### FCUs (16) -/

/-- States of an FCU and their codes (R607). -/
inductive FcuState where
  | init | normal | fault | quiet | failed
deriving DecidableEq, Repr

/-- One FCU's own copy (R604). -/
structure FcuUnit where
  state : FcuState
  active : BitVec 240
  /-- the active faults whose latest report took class D, and class S or X (R607, R617; log 24) -/
  actD : BitVec 240
  actS : BitVec 240
  /-- recovery counters N, R, D, S, X (R620) -/
  counters : Vector Nat 5
  /-- reports in each domain's window, and disabled domains (R619) -/
  domCount : Vector Nat 7
  dis : BitVec 7
  swHold : Bool
  hwHold : Bool
  pulse : Bool
  window : Bool
  relDue : Bool
  holdReq : Bool
  armed : Bool
  /-- a class X reaction is pending (R622) -/
  xPending : Bool
  /-- digest exchanges in which the partner's digest agreed since reset, up to 2 (R608) -/
  agreed : Nat
  permit : Bool
  /-- no digest leaves the unit (R611) -/
  silent : Bool
deriving DecidableEq, Repr

structure Fcu where
  a : FcuUnit
  b : FcuUnit
  /-- consecutive differing exchanges (R610), and whether the latest agreed (R624) -/
  differ : Nat
  /-- consecutive exchanges in which no digest came from one of the units, up to 3 (R611) -/
  missed : Nat
  /-- the reaction table as both units hold it: the entries of objects 0x2100 + f that the boot or an approval has loaded,
  by index * 256 + sub-index (R616, R635) -/
  table : List (Nat × List Byte)
  lastAgreed : Bool
  alive : Bool
  /-- reports of each fault since device reset (0x2100 + f .03) -/
  reports : List (Nat × Nat)
  /-- time and identity of the most recent fault (R514) -/
  lastFault : Option Nat
  lastTime : Word
deriving DecidableEq, Repr

/-! ### Boot, serial memory, modes (17, 18) -/

/-- A configuration slot as its octets spell it (R655): GEN and its records, each with its object (index * 256 + sub-index),
TYPE and value. -/
structure CfgSlot where
  gen : BitVec 32
  recs : List (Nat × Nat × List Byte)
deriving DecidableEq, Repr

/-- The boot header being rewritten (R654): its new octets, CLK_TNS ticks until its copy holds them, none once it does, and
ticks that the header itself takes after that. -/
structure HeaderWrite where
  octets : List Byte
  copyLeft : Option Nat
  left : Nat
deriving DecidableEq, Repr

structure Boot where
  /-- octets of the serial memory's regions (R647): boot header and copy, configuration and firmware slots, crash records -/
  header : List Byte
  headerCopy : List Byte
  headerWrite : Option HeaderWrite
  /-- the read mode the boot has changed to, as XMODE codes it (R646) -/
  readMode : BitVec 2
  cfgA : List Byte
  cfgB : List Byte
  /-- the configuration slot in use is B, as it counts with none in use, so that a STORE takes A (R656; log 26) -/
  cfgUseB : Bool
  fwA : List Byte
  fwB : List Byte
  crash : List (List Byte)
  crashCount : BitVec 32
  /-- 0x1001, 0x1110 and 0x7044 -/
  version : BitVec 32
  bootedB : Bool
  triedB : Bool
  anyBooted : Bool
  imgState : Byte
  imgReason : Byte
  fallback : Byte
  imgWriting : Bool
  bistUs : BitVec 32
  /-- the soft repairs of the last memory BIST, held until the next reset (R640) -/
  soft : List SpareUse
  /-- repairs per bank (0x7041) and ms from reset to release (0x7044.04), as the last boot found them -/
  spares : List (BitVec 32)
  releaseMs : BitVec 32
  /-- the last DDR training used cached results (0x7044.05) -/
  cached : Bool
deriving DecidableEq, Repr

structure Sys where
  /-- DEGRADED clock and limit in CLK_TNS ticks (R668) -/
  degTicks : Nat
  degLimit : Nat
  degReported : Bool
  /-- CLK_TNS ticks since the last device reset or stronger (R514) -/
  upTicks : Nat
  /-- mode left for DORMANT and its kind (R679), a request accepted (R676) -/
  dormantFrom : BitVec 3
  dormantOff : Bool
  dormantDue : Option Bool
  /-- a wake source that arrived during the entry into DORMANT, by its SYS_RSTCAUSE.WAKE code (R678) -/
  wakeDue : Option (BitVec 2)
  /-- clock-monitor conditions reported and not yet cleared, by clock: frequency, stop; loss of lock (R37) -/
  freqSeen : BitVec 6
  stopSeen : BitVec 6
  lolSeen : Bool
  /-- the class S or D reaction that came in SELFTEST (R667) -/
  holdDue : Bool
  /-- entries sent on the trace port since the last SYNC and the last entry sent (R688); the triad whose trace FIFO
  was drained last (R686) -/
  portCount : Nat
  portLast : List Byte
  traceTurn : TriadId
  /-- the triads of the entries in the trace FIFOs, in the order of their commits (R683) -/
  traceOrder : List TriadId
deriving DecidableEq, Repr

end Sys2Proof.Machine
end

