-- ==== Sys2Proof/Machine/State.lean ====
section
/-! DEFINITION. The state of the block, its stops, and the state right after power-on (R634, R670, R681): the triads
are held, the boot sequence is still to run. Values the spec does not give are named in log 8, 9, 12, 13. -/

namespace Sys2Proof.Machine

/-- Why a command stops the machine: none does, every command of the table has an effect the spec gives (log 5). -/
inductive Fault where
deriving DecidableEq, Repr

/-- Why a command has no meaning. -/
inductive Refusal where
  /-- The command's meaning is not written. Raised only in exec's own arms. Safe: nothing is proved of it. -/
  | notModelled (mnemonic : String)
deriving DecidableEq, Repr

structure State where
  /-- commands waiting, first in, first out (log 1) -/
  pending : List Instr
  /-- registers of the register blocks, one home each: address and value, rising addresses, none at its reset value -/
  regs : List (Nat × Word)
  /-- SRAM and DDR: address and octet, rising addresses, none zero (log 9) -/
  mem : List Host.Cell
  triads : Vector Triad 6
  /-- the translation cache (R298) -/
  tlb : List TlbEntry
  /-- running invalidation barriers by triad (R300) -/
  barriers : Vector (Option Barrier) 6
  chans : Vector Chan 32
  /-- the channel each DMA engine ran last (R328) -/
  engCur : Vector (Option (Fin 16)) 2
  sram : Sram
  ddr : Ddr
  tense : Tense
  net : Net
  hosts : Hosts
  lcs : Lcs
  legacy : Legacy
  yob : Yober
  fcu : Fcu
  boot : Boot
  sys : Sys
  /-- the value that the last read command returned to its requester -/
  busData : Word
  /-- free values drawn so far: the MODEL's own field (log 6) -/
  free : Nat
deriving DecidableEq, Repr

/-! ### Reset values of the units -/

/-- A bank after a TRIAD reset (R146, R191, R51); PC of banks 1 to 3 is DESIGN CHOICE 0 (log 8). -/
def Bank.reset (pc : Word) (isZero : Bool) : Bank :=
  { g := Vector.replicate 32 0, pc := pc, psw := 3, rpc := 0, epriv := if isZero then 3 else 0, busy := isZero,
    repn := false }

/-- A lane's registers after a TRIAD reset (R51, R191). -/
def LaneCore.reset (pc : Word) : LaneCore :=
  { banks := (Vector.replicate 4 (Bank.reset 0 false)).set 0 (Bank.reset pc true), cur := 0,
    f := Vector.replicate 32 0, p := Vector.replicate 4 0, q0 := 0, q1 := 0, vbr := 0, vbrM := 0, dfsp := 0,
    flight := [], budget := 0 }

/-- The signature of an open clause before any record (R203). -/
def sigInit : Word := 0xFFFFFFFFFFFFFFFF

/-- A lane after a device reset. ACTIVE in every lane: DESIGN CHOICE, log 8. -/
def Lane.reset (pc : Word) : Lane :=
  { core := LaneCore.reset pc, state := .active, sig := sigInit, bad := false, bundleRecs := [], mts := none, recs := [], gate := [], held := [],
    chg := 0, susn := 0, suspectDue := false, attrib := false, bistRun := false, bistWait := none, ras := [] }

def Ckpt.reset (pc : Word) : Ckpt :=
  { cores := Vector.replicate 3 (LaneCore.reset pc), parse := 0, parsed := false, sens := false, logPos := 0,
    timer := 0, entry := none, len := 0x80, tmax := 0xC80, interval := 0x400, rctl := 0x3100 }

/-- A triad after a device reset, held until the boot releases it (R636). -/
def Triad.reset (pc : Word) : Triad :=
  { released := false, fenced := false, halted := false, haltReq := false,
    lanes := Vector.replicate 3 (Lane.reset pc), slotOpen := false, first := none, fetched := none, delay := none,
    entry := none, entered := false, entryWait := none, evSeen := none, eventAt := false, colFull := false, owed := [], evGone := false,
    evClear := none, clause := 0, slots := 0, timer := 0, sensOpen := false, forced := false, closeDue := 0,
    parse := 0, parsed := false, counts := [], ckpt := Ckpt.reset pc, closed := none, log := [], logPos := 0,
    stores := 0, toRelease := [], flying := [], rollbacks := 0, rollbackDue := false, arb := none, repair := none,
    repairReady := false, excluded := none, invalidOpen := false, lastRotation := none,
    swapAt := none, rotAt := none, lenUse := 0x80,
    tmaxUse := 0xC80, intervalUse := 0x400, rctlUse := 0x3100, l1i := [], l1d := [], agreed := 0, inRun := [],
    trace := [], traceDrop := 0, traceDropTime := 0 }

/-- The reset value of SYS_RSTVECn (R191). -/
def rstvecReset (t : TriadId) : Word := BitVec.ofNat 64 (t.val * 0x200000)

def Chan.reset : Chan :=
  { state := .idle, desc := none, nextSeg := 0, flying := [], abortDue := false, fetchDue := false, turn := 0,
    failed := none, started := 0 }

def Sram.reset : Sram :=
  { power := Vector.replicate 12 0, goal := Vector.replicate 12 0, errors := [], writeBack := [],
    collided := Vector.replicate 12 none, wiping := false }

def Ddr.reset : Ddr :=
  { errors := [], pageCe := [], swept := [], perChannel := 0, wide8 := false, repeats := Vector.replicate 4 [],
    ueTimes := Vector.replicate 4 [] }

def Tense.reset : Tense :=
  { frac := 0, integ := 0, adjHist := [], good := 0, badRun := 0, holdReported := false, lastOfs := 0,
    seenAt := Vector.replicate 2 none, sampleAt := 0, holdAt := 0, instAt := none, armed := [], nextN := Vector.replicate 64 0, owned := Vector.replicate 64 [] }

def Port.reset : Port :=
  { queues := Vector.replicate 8 [], sending := none, txQueue := 0, txSent := 0, txAt := 0, cut := none, gcl := [], gclPos := 0, gates := 0xFF, cycStart := 0,
    gateOk := false, gptp := [], syncSeq := Vector.replicate 2 0, annSeq := Vector.replicate 2 0,
    peer := { seq := 0, t1 := none, resp := none, last := none, rate := 0, delay := none } }

def Net.reset : Net :=
  { ports := Vector.replicate 8 Port.reset, fdb := [], streams := [], slotSeq := [], staging := [], conns := [],
    accepted := [], grandmaster := Vector.replicate 2 0, announces := [], syncs := [] }

def Session.reset : Session :=
  { isOpen := false, role := 0, cred := 0, key := [], last := 0, held := [], executing := none, tagFails := 0,
    tagFailTotal := 0, building := none, via := none, waiting := [] }

/-- A PCIe function as R489 fixes it, not yet configured by a host. -/
def PcieFunction.reset : PcieFunction :=
  { vendor := 0x1F6C, device := 0x1806, cls := 0xFF0000, barSize := 0x10000, maxPayload := 256, bar0 := 0, msi := none,
    signalled := [] }

/-- Hosts after a power-on; the generation counters and RGEN start at 0 (log 8). -/
def Hosts.reset : Hosts :=
  { sessions := Vector.replicate 8 Session.reset, soft := [], softCount := 0, objs := [], job := none,
    gens := Vector.replicate 12 0, rgen := 0, recapAddr := Vector.replicate 6 0,
    recapAt := Vector.replicate 6 0, storesDone := 0, storeState := 0,
    m0Sent := [], resetDue := none, softLate := [], pcieGen := Vector.replicate 2 4, ip4 := 0, ip6 := 0, udp := 40412,
    proposalS := 30, pcie := Vector.replicate 2 PcieFunction.reset }

/-- No fuse blown: a BLANK device (log 12). -/
def Lcs.reset : Lcs :=
  { fuses := 0, sensed := 0, keyHash := none, creds := Vector.replicate 32 { role := 0, enabled := false, key := [] },
    wrapped := [], rbg := 0, held := [], slots := Vector.replicate 8 none, pnum := 0, keySw := false, tamperN := false, waiting := [] }

def Timer.reset : Timer :=
  { cnt := 0, top := 0xFFFFFFFFFFFF, cmp0 := 0, cmp1 := 0, topW := 0xFFFFFFFFFFFF, cmp0W := 0, cmp1W := 0, presc := 0,
    dir := false, last := 0, outA := false, outB := false, fifo := [], lost := false, startDue := none,
    holdA := 16, holdB := 16 }

def Uart.reset : Uart :=
  { tx := [], rx := [], busy := false, de := false, toSend := 0, phase := .lead, cyc := 0, rxCyc := none, rxBits := [],
    rxLast := 0, found := [], quiet := 0, idleDone := false }

def Legacy.reset : Legacy :=
  { timers := Vector.replicate 64 Timer.reset,
    ssi := Vector.replicate 16 { transfer := false, busy := false, pos := 0, time := 0, age := 0, samples := [] },
    uart := Vector.replicate 8 Uart.reset,
    sdm := Vector.replicate 32 { i1 := 0, i2 := 0, act := 0, held := none, wdx := false, out := false, age := 0 },
    gpio := Vector.replicate 8 { fifo := [], lost := false },
    latchR := Vector.replicate 2 (Vector.replicate 14 0), latchW := Vector.replicate 2 (Vector.replicate 14 0),
    gpioIn := 0, tmrAIn := 0, tmrBIn := 0, ssiIn := 0, uartIn := 0, railRun := [], safeTmr := 0, safeLeg := 0,
    half := false }

/-- A new island: nothing sealed, no key, no record made (log 12). -/
def Yober.reset : Yober :=
  { status := 0, mbox := [], seq := 0, backlog := [], events := 0, sealed := false, mkey := none, nonce := 0,
    params := [], audit := [], fwA := [], fwB := [], activeB := false, staged := none, verified := false,
    restart := true, cgap := false, lastRecord := [], ytc := Vector.replicate 8 0, ytcA := 0, ytcB := 0,
    ytcIn := Vector.replicate 8 { a := false, b := false, heldA := 16, heldB := 16 },
    adc := Vector.replicate 4 { sclk := false, csN := false, din := false, conv := 0 }, cores := Vector.replicate 2 0,
    sram := 0, clkStopped := false }

/-- An FCU after a reset down to DEVICE (R608, R628). -/
def FcuUnit.reset : FcuUnit :=
  { state := .init, active := 0, actD := 0, actS := 0, counters := Vector.replicate 5 0, domCount := Vector.replicate 7 0, dis := 0,
    swHold := false, hwHold := true, pulse := false, window := false, relDue := false, holdReq := false,
    armed := false, xPending := false, agreed := 0, permit := false, silent := false }

def Fcu.reset : Fcu :=
  { a := FcuUnit.reset, b := FcuUnit.reset, differ := 0, missed := 0, table := [], lastAgreed := false, alive := false, reports := [],
    lastFault := none, lastTime := 0 }

/-- An empty serial memory (log 13). -/
def Boot.reset : Boot :=
  { header := [], headerCopy := [], headerWrite := none, readMode := 0, cfgA := [], cfgB := [], cfgUseB := true, fwA := [], fwB := [], crash := [],
    crashCount := 0, version := 0, bootedB := false, triedB := false, anyBooted := false, imgState := 0,
    imgReason := 0, fallback := 0, imgWriting := false, bistUs := 0, soft := [], spares := [], releaseMs := 0, cached := false }

def Sys.reset : Sys :=
  { degTicks := 0, degLimit := 0, degReported := false, upTicks := 0, dormantFrom := 0, dormantOff := false,
    dormantDue := none, wakeDue := none, freqSeen := 0, stopSeen := 0, lolSeen := false, holdDue := false, portCount := 0,
    portLast := [], traceTurn := 5, traceOrder := [] }

/-- The machine right after power-on, before the boot sequence (R634, R670). -/
def State.reset : State :=
  { pending := [], regs := [], mem := [],
    triads := Vector.ofFn fun t => Triad.reset (rstvecReset t),
    tlb := [], barriers := Vector.replicate 6 none, chans := Vector.replicate 32 Chan.reset,
    engCur := Vector.replicate 2 none, sram := Sram.reset, ddr := Ddr.reset, tense := Tense.reset, net := Net.reset,
    hosts := Hosts.reset, lcs := Lcs.reset, legacy := Legacy.reset, yob := Yober.reset, fcu := Fcu.reset,
    boot := Boot.reset, sys := Sys.reset, busData := 0, free := 0 }

end Sys2Proof.Machine
end

