-- ==== Sys2Proof/Machine/Ops.lean ====
section
/-! DEFINITION. The shared operations over registers and memory, the address map (R40 to R43), event pulses (R164)
and free values (log 6). -/

namespace Sys2Proof.Machine

/-! ### Sparse lists: registers, memory, mailbox -/

/-- The value at key k, d where the list has none. -/
def sparseGet {α : Type} (l : List (Nat × α)) (k : Nat) (d : α) : α :=
  match l with
  | [] => d
  | p :: t => if p.1 = k then p.2 else sparseGet t k d

/-- The list without key k. -/
def sparseErase {α : Type} (l : List (Nat × α)) (k : Nat) : List (Nat × α) :=
  l.filter fun p => decide (p.1 ≠ k)

/-- The list with (k, v) put in front of the first greater key. -/
def sparseInsert {α : Type} (l : List (Nat × α)) (k : Nat) (v : α) : List (Nat × α) :=
  match l with
  | [] => [(k, v)]
  | p :: t => if k < p.1 then (k, v) :: p :: t else p :: sparseInsert t k v

/-- A write of v at k, where an unlisted key reads d: the canonical form is kept. -/
def sparsePut {α : Type} [DecidableEq α] (l : List (Nat × α)) (k : Nat) (v d : α) : List (Nat × α) :=
  if v = d then sparseErase l k else sparseInsert (sparseErase l k) k v

/-! ### Registers -/

/-- The register headings of the 64 KB block that holds an address (R41, R42). -/
def blockRegs (a : Nat) : List RegDesc :=
  match a / 0x10000 with
  | 0x8000 => regsSys
  | 0x8001 => regsFcu
  | 0x8002 => regsTst
  | 0x8003 => regsLcs
  | 0x8004 => regsEvc
  | 0x8005 => regsTapu
  | 0x8006 => regsDma
  | 0x8007 => regsDma
  | 0x8008 => regsSrb
  | 0x8009 => regsDdr
  | 0x800A => regsTns
  | 0x800B => regsNet
  | 0x800C => regsHst
  | 0x800D => regsTmr
  | 0x800E => regsLeg
  | 0x800F => regsTrc
  | n => if 0x8010 ≤ n ∧ n ≤ 0x8015 then regsCmp else []

/-- The indices of a heading's instance at address a. -/
def RegDesc.at? (d : RegDesc) (a : Nat) : Option (Nat × Nat) :=
  if a < d.base then none
  else
    let o := a - d.base
    let i := if d.s1 = 0 then 0 else o / d.s1
    let r := o - i * d.s1
    let j := if d.s2 = 0 then 0 else r / d.s2
    if i < d.n1 ∧ j < d.n2 ∧ r = j * d.s2 then some (i, j) else none

/-- The first heading of a list with an instance at address a. -/
def findReg (l : List RegDesc) (a : Nat) : Option (RegDesc × Nat × Nat) :=
  match l with
  | [] => none
  | d :: t =>
    match d.at? a with
    | some (i, j) => some (d, i, j)
    | none => findReg t a

/-- The register at exactly address a. -/
def regAt (a : Nat) : Option (RegDesc × Nat × Nat) := findReg (blockRegs a) a

/-- The reset value of the register at address a (R10). -/
def resetValue (a : Nat) : Word :=
  match regAt a with
  | some (d, i, _) => BitVec.ofNat 64 (d.reset + i * d.resetStep)
  | none => 0

/-- The survival letter of the register at address a (R19). -/
def survivalOf (a : Nat) : Survival :=
  match regAt a with
  | some (d, _, _) => d.surv
  | none => .d

/-- The stored value of a register. -/
def State.rd (s : State) (a : Nat) : Word := sparseGet s.regs a (resetValue a)

/-- The state with a register's stored value replaced. -/
def State.wr (s : State) (a : Nat) (v : Word) : State :=
  { s with regs := sparsePut s.regs a v (resetValue a) }

/-- The stored value changed by f. -/
def State.up (s : State) (a : Nat) (f : Word → Word) : State := s.wr a (f (s.rd a))

/-- One bit of a register set. -/
def State.setBitR (s : State) (a i : Nat) : State := s.up a fun w => putBit w i true

/-- Whether a register's lock bit is set (R15, R18). -/
def lockedAt (s : State) (d : RegDesc) (i : Nat) : Bool :=
  match d.lock with
  | some (la, ls, bit, bs) => bitOf (s.rd (la + i * ls)) (bit + i * bs)
  | none => false

/-- A field keeps its previous value where the new one is a reserved encoding (R12). -/
def keepReserved (old : Word) (rsv : List (Nat × Nat × List (Nat × Nat))) (w : Word) : Word :=
  match rsv with
  | [] => w
  | (hi, lo, ok) :: t =>
    let v := field w hi lo
    keepReserved old t (if ok.any fun r => decide (r.1 ≤ v ∧ v ≤ r.2) then w else setField w hi lo (field old hi lo))

/-- The value a register takes when software writes it (R11, R12, R15). `half` masks the bits the access covers. -/
def writeValue (d : RegDesc) (locked : Bool) (half old new : Word) : Word :=
  let rw := (BitVec.ofNat 64 d.rw ||| (if locked then 0 else BitVec.ofNat 64 d.rwl)) &&& half
  let w := (old &&& ~~~ rw) ||| (new &&& rw)
  let w := keepReserved old d.rsv w
  let w := w &&& ~~~ (new &&& BitVec.ofNat 64 d.w1c &&& half)
  w ||| (new &&& BitVec.ofNat 64 d.w1s &&& half)

/-- The bits a write of the low 32, the high 32 or all 64 bits covers. -/
def maskLo : Word := 0xFFFFFFFF
def maskHi : Word := 0xFFFFFFFF00000000
def maskAll : Word := 0xFFFFFFFFFFFFFFFF

/-- A software write of the whole register at address a by its access codes (R15); an offset without a register
ignores it (R13). -/
def State.sw (s : State) (a : Nat) (v : Word) : State :=
  match regAt a with
  | some (d, i, _) => s.wr a (writeValue d (lockedAt s d i) maskAll (s.rd a) v)
  | none => s

/-- A software write of 32 bits at address a, which may be the high half of a 64-bit register (R730). -/
def State.sw32 (s : State) (a : Nat) (v : BitVec 32) : State :=
  match regAt a with
  | some (d, i, _) => s.wr a (writeValue d (lockedAt s d i) maskLo (s.rd a) (v.setWidth 64))
  | none =>
    match regAt (a - 4) with
    | some (d, i, _) =>
      if d.wide then s.wr (a - 4) (writeValue d (lockedAt s d i) maskHi (s.rd (a - 4)) (v.setWidth 64 <<< 32)) else s
    | none => s

/-- Registers kept by a reset of the given strength: those whose letter names a stronger reset (R19). -/
def Survival.keptBy (x : Survival) : Survival → Bool
  -- letter of the register, then the weakest letter the reset clears: POR p, PIN h, DEVICE d, TRIAD t
  | .p => false
  | .h => match x with | .p => true | _ => false
  | .d => match x with | .p => true | .h => true | _ => false
  | .t => match x with | .t => false | _ => true

/-! ### Memory -/

/-- One octet of SRAM or DDR; an unlisted address reads 0 (R640; DDR: log 9). -/
def rdByte (s : State) (a : Nat) : Byte := sparseGet s.mem a 0

/-- The state with one octet stored. -/
def wrByte (s : State) (a : Nat) (b : Byte) : State := { s with mem := sparsePut s.mem a b 0 }

/-- n octets from an address. -/
def rdBytes (s : State) (a n : Nat) : List Byte := (List.range n).map fun i => rdByte s (a + i)

/-- Octets stored from an address upward. -/
def wrBytes (s : State) (a : Nat) (bs : List Byte) : State :=
  match bs with
  | [] => s
  | b :: t => wrBytes (wrByte s a b) (a + 1) t

/-- A little-endian number of n octets (R9). -/
def rdMem (s : State) (a n : Nat) : Nat := natLE (rdBytes s a n)

/-- A little-endian number of n octets stored (R9). -/
def wrMem (s : State) (a n v : Nat) : State := wrBytes s a (bytesLE n v)

/-- Memory without the octets from lo up to, not including, hi: they read 0. -/
def clearRange (s : State) (lo hi : Nat) : State :=
  { s with mem := s.mem.filter fun c => decide (c.1 < lo ∨ hi ≤ c.1) }

/-! ### The address map (R40) -/

inductive Region where
  | sram | setAlias | clearAlias | regs | mailbox | ddr | hole
deriving DecidableEq, Repr

def sramSize : Nat := 0x1800000
def setBase : Nat := 0x40000000
def clearBase : Nat := 0x60000000
def ddrBase : Nat := 0x8000000000

/-- The SRAM address behind an SRAM or alias address. -/
def plainAddr (a : Nat) : Nat :=
  if setBase ≤ a ∧ a < setBase + sramSize then a - setBase
  else if clearBase ≤ a ∧ a < clearBase + sramSize then a - clearBase
  else a

/-- Channels in use, ascending (R373). -/
def usedChannels (s : State) : List Nat := (List.range 4).filter fun c => bitOf (s.rd Adr.ddrStat) (16 + c)

/-- The channel that serves a DDR address (R373). -/
def channelOf (s : State) (a : Nat) : Nat :=
  let o := a - ddrBase
  let us := usedChannels s
  let n := us.length
  let pos :=
    if field (s.rd Adr.ddrCfg) 9 8 = 0 then (if s.ddr.perChannel = 0 then 0 else o / (s.ddr.perChannel * 0x40000000))
    else if n = 4 then o / 256 % 4 else if n = 2 then o / 256 % 2 else 0
  us.getD pos 0

/-- A DDR address at or above the top of installed memory, of a lost channel, or of a retired page is a hole (R43,
R374, R385, R387). -/
def ddrHole (s : State) (a : Nat) : Bool :=
  decide (ddrBase + field (s.rd Adr.ddrTop) 9 0 * 0x40000000 ≤ a)
  || (let lost := field (s.rd Adr.ddrStat) 31 28
      if field (s.rd Adr.ddrCfg) 9 8 = 0 then (lost / 2 ^ channelOf s a) % 2 == 1 else lost != 0)
  || (List.range 64).any fun n =>
      bitOf (s.rd (Adr.ddrRet n)) 63 && decide (field (s.rd (Adr.ddrRet n)) 39 12 = a / 4096)

/-- An SRAM address is a hole while its bank is not On, or in the secure region (R361, R366). -/
def sramHole (s : State) (a : Nat) : Bool :=
  (match s.sram.power.toList[a / 0x200000]? with | some p => p != 0 | none => true)
  || decide (0x1600000 ≤ a ∧ a < 0x1640000)

/-- The region of a physical address (R40, R43). -/
def regionOf (s : State) (a : Nat) : Region :=
  if a < sramSize then (if sramHole s a then .hole else .sram)
  else if setBase ≤ a ∧ a < setBase + sramSize then (if sramHole s (a - setBase) then .hole else .setAlias)
  else if clearBase ≤ a ∧ a < clearBase + sramSize then (if sramHole s (a - clearBase) then .hole else .clearAlias)
  else if 0x80000000 ≤ a ∧ a < 0x80160000 then .regs
  else if (0x90000000 ≤ a ∧ a < 0x90001000) ∨ (0x90004000 ≤ a ∧ a < 0x90008000) then .mailbox
  else if ddrBase ≤ a ∧ a < 2 ^ 40 then (if ddrHole s a then .hole else .ddr)
  else .hole

/-! ### Small state updates -/

def State.setTriad (s : State) (t : TriadId) (f : Triad → Triad) : State := { s with triads := vmod s.triads t f }

def State.tri (s : State) (t : TriadId) : Triad := s.triads[t]

def Triad.setLane (x : Triad) (l : LaneId) (f : Lane → Lane) : Triad := { x with lanes := vmod x.lanes l f }

def Triad.lane (x : Triad) (l : LaneId) : Lane := x.lanes[l]

/-- A free value (log 6): the next one, and the state that has drawn it. -/
def State.draw (s : State) : Word × State := (Config.freeWord s.free, { s with free := s.free + 1 })

/-- The present TIME64 (R390). -/
def now (s : State) : Word := s.rd Adr.tnsNow

/-- The present operating mode (R662). -/
def modeOf (s : State) : Nat := field (s.rd Adr.sysMode) 2 0

/-- What a part that is powered down in DORMANT does (R677): nothing while the mode is DORMANT. -/
def State.powered (s : State) (f : State → State) : State := if modeOf s = 5 then s else f s

/-! ### Events (R163, R164) -/

/-- Event n becomes pending: its pending bit is set, and its overrun bit where it was set already. -/
def pend (s : State) (n : Nat) : State :=
  let k := n / 32
  let j := n % 32
  let s := if bitOf (s.rd (Adr.evcPend k)) j then s.setBitR (Adr.evcOvr k) j else s
  s.setBitR (Adr.evcPend k) j

/-- A pulse of event n; in DORMANT the event controller is powered down (R677). -/
def pulse (s : State) (n : Nat) : State := s.powered fun s => pend s n

/-- Pulses of several events in order. -/
def pulses (s : State) (l : List Nat) : State := l.foldl pulse s

/-- The life-cycle state: the highest fuse blown when the boot sensed them (R535, R538, R634; log 25). -/
def lcState (s : State) : Nat :=
  if s.lcs.sensed.getLsbD 2 then 3 else if s.lcs.sensed.getLsbD 1 then 2 else if s.lcs.sensed.getLsbD 0 then 1 else 0

end Sys2Proof.Machine
end

