-- ==== Sys2Proof/Machine/Reset.lean ====
section
/-! DEFINITION. Resets of kind DEVICE and stronger (R670, R681), operating-mode changes (R663, R664), the safe state of
the outputs (R571), and the objects the reactions read. -/

namespace Sys2Proof.Machine

/-! ### Generation counters and objects -/

/-- Generation counter g rises by one (R515). -/
def genUp (s : State) (g : Fin 12) : State :=
  { s with hosts := { s.hosts with gens := vmod s.hosts.gens g fun x => x + 1 } }

/-- The key of object 0xIIII.ss in the list of working copies. -/
def objKey (idx sub : Nat) : Nat := idx * 256 + sub

/-- The working copy of an object, where it differs from its default (R509). -/
def objStored (s : State) (idx sub : Nat) : Option (List Byte) := s.hosts.objs.lookup (objKey idx sub)

/-- The working copy as a number, most significant octet first (R486). -/
def objNat (s : State) (idx sub dflt : Nat) : Nat :=
  match objStored s idx sub with
  | some bs => natBE bs
  | none => dflt

/-- Replaces a working copy. -/
def objPut (s : State) (idx sub : Nat) (bs : List Byte) : State :=
  let k := objKey idx sub
  { s with hosts := { s.hosts with objs := (k, bs) :: s.hosts.objs.filter fun p => decide (p.1 ≠ k) } }

/-! ### Safe state of the outputs (R571) -/

/-- Owner triad of UART u. -/
def uartOwner (s : State) (u : Nat) : Nat := field (s.rd (Adr.uartCfg u)) 30 28

/-- The outputs owned by the triads of a mask enter the safe state. -/
def enterSafe (s : State) (mask : BitVec 6) : State :=
  let uarts := Vector.ofFn fun u : Fin 8 =>
    if mask.getLsbD (uartOwner s u) then { s.legacy.uart[u] with tx := [], de := false, busy := false, toSend := 0 }
    else s.legacy.uart[u]
  let s := { s with legacy := { s.legacy with uart := uarts, safeTmr := s.legacy.safeTmr ||| mask,
                                              safeLeg := s.legacy.safeLeg ||| mask } }
  pulse s 314

/-! ### Mode changes (R664) -/

/-- The seconds-limited DEGRADED clock's limit in CLK_TNS ticks, from object 0x2004 in minutes (R668). -/
def degradedLimitTicks (s : State) : Nat := objNat s 0x2004 0 480 * 60 * 400000000

/-- SYS_MODE takes mode m; PREV keeps the mode left, and the counters that a change moves are moved (R515, R668). The
disarming of PERMIT that R626 asks for follows in Machine/Faults.lean. -/
def putMode (s : State) (m : Nat) : State :=
  let old := modeOf s
  if old = m then s
  else
    let s := s.up Adr.sysMode fun w => setField (setField w 10 8 old) 2 0 m
    let s := genUp s 2
    let s := if m = 2 then { s with sys := { s.sys with degTicks := 0, degReported := false } } else s
    let s := if m = 3 then { s with sys := { s.sys with degLimit := degradedLimitTicks s } } else s
    if m = 4 then enterSafe s 0x3F else s

/-! ### Resets of kind DEVICE and stronger -/

/-- An FCU across a reset down to DEVICE: INIT, counters and domains kept until POR, FAILED kept across a DEVICE reset
(R608, R612, R619, R620). -/
def fcuAfter (strength : Survival) (u : FcuUnit) : FcuUnit :=
  let f : FcuUnit := match strength with
    | .p => FcuUnit.reset
    | _ => { FcuUnit.reset with counters := u.counters, domCount := u.domCount, dis := u.dis }
  match strength, u.state with
  | .d, .failed => { f with state := .failed }
  | _, _ => f

/-- The serial memory and the boot results across a reset, which interrupts what is being written (R659): a STORE has
erased its target slot, an image write leaves its slot as far as it was written, a header that was being rewritten is
invalid, or its copy is. -/
def bootAfter (s : State) : Boot :=
  { Boot.reset with
    header := s.boot.header, headerCopy := s.boot.headerCopy, cfgA := s.boot.cfgA, cfgB := s.boot.cfgB
    cfgUseB := s.boot.cfgUseB, fwA := s.boot.fwA, fwB := s.boot.fwB, crash := s.boot.crash, crashCount := s.boot.crashCount }

/-- A reset of kind POR (.p), PIN (.h) or DEVICE (.d) with its SYS_RSTCAUSE code (R670, R681). The island, fuses and
serial memory keep their contents; SRAM and DDR read zero (R640, R674; log 9). -/
def resetTo (s : State) (strength : Survival) (cause : Nat) : State :=
  let r : State := State.reset
  let regs := s.regs.filter fun p => (survivalOf p.1).keptBy strength
  let gens := (Vector.replicate 12 (0 : BitVec 32)).set 11
    (match strength with | .p => 0 | _ => s.hosts.gens[11] + 1)
  let s' : State :=
    { r with
      pending := s.pending
      regs := regs
      tense := { r.tense with frac := match strength with | .d => s.tense.frac | _ => 0 }
      hosts := { r.hosts with gens := gens }
      lcs := { r.lcs with fuses := s.lcs.fuses, sensed := s.lcs.fuses, keyHash := s.lcs.keyHash, wrapped := s.lcs.wrapped,
                          keySw := s.lcs.keySw, tamperN := s.lcs.tamperN }
      legacy := { r.legacy with gpioIn := s.legacy.gpioIn, tmrAIn := s.legacy.tmrAIn, tmrBIn := s.legacy.tmrBIn,
                                ssiIn := s.legacy.ssiIn, uartIn := s.legacy.uartIn, half := s.legacy.half }
      sram := { r.sram with wiping := match strength with | .p => false | _ => s.sram.wiping }
      yob := s.yob
      fcu := { r.fcu with a := fcuAfter strength s.fcu.a, b := fcuAfter strength s.fcu.b }
      boot := bootAfter s
      busData := s.busData
      free := s.free }
  s'.up Adr.sysRstcause fun w => setField w 3 0 cause

/-- A wake from DORMANT-RETAIN (R679): each bank that reaches On pulses E0883 (R360); what the save area holds is what
the registers and lanes of the state have kept (log 35). -/
def wakeRetain (s : State) (toMode wakeCode : Nat) : State :=
  let up (n : Fin 12) : Bool := s.sram.power[n] == 1 && (n.val == 11 || s.sram.goal[n] == 0)
  let s := putMode (s.up Adr.sysRstcause fun w => setField w 7 4 wakeCode) toMode
  (List.finRange 12).foldl (fun s n => if up n then pulse s 883 else s)
    { s with sram := { s.sram with power := Vector.ofFn fun n : Fin 12 => if up n then 0 else s.sram.power[n] } }

/-- A wake of a dormant device: back to a mode from RETAIN; from OFF a DEVICE reset of cause 6 is due (R678 to R680). -/
def wakeWith (s : State) (toMode wakeCode : Nat) : State :=
  if s.sys.dormantOff then
    let s := s.up Adr.sysRstcause fun w => setField w 7 4 wakeCode
    { s with hosts := { s.hosts with resetDue := some .dormantOffWake } }
  else
    wakeRetain s toMode wakeCode

end Sys2Proof.Machine
end

