-- ==== Sys2Proof/Machine/Faults.lean ====
section
/-! DEFINITION. Reports to the two FCUs and the reactions of their classes (R604 to R629), shared by every unit. -/

namespace Sys2Proof.Machine

/-- Class codes N, R, D, S, X (R616) as 0 to 4. Default class of fault f (R614, R615). -/
def defaultClass (f : Nat) : Nat :=
  if f < 96 then
    match f % 16 with
    | 0 => 1 | 1 => 1 | 2 => 2 | 3 => 2 | 4 => 2 | 5 => 3 | 6 => 1 | 7 => 1 | 8 => 0 | 9 => 3 | 10 => 3 | 11 => 3
    | _ => 0
  else if 208 ≤ f ∧ f ≤ 223 then 3
  else
    match f with
    | 96 => 3 | 97 => 2 | 98 => 3 | 99 => 3 | 100 => 2 | 101 => 2 | 102 => 3 | 131 => 3 | 132 => 3 | 133 => 3
    | 160 => 4 | 161 => 3 | 162 => 3 | 163 => 3 | 164 => 3 | 165 => 3 | 166 => 3 | 169 => 3 | 170 => 3
    | _ => 0

/-- Lowest permitted class of fault f (R614). -/
def lowestClass (f : Nat) : Nat :=
  if f < 96 then
    match f % 16 with
    | 0 => 1 | 1 => 1 | 2 => 1 | 3 => 1 | 4 => 2 | 5 => 2 | 6 => 1 | 7 => 1 | 9 => 2 | 10 => 2
    | _ => 0
  else
    match f with
    | 96 => 2 | 98 => 2 | 99 => 3 | 101 => 2 | 102 => 2 | 131 => 3 | 132 => 2 | 133 => 2
    | 160 => 4 | 161 => 3 | 162 => 3 | 163 => 3 | 164 => 3 | 165 => 3 | 166 => 3 | 169 => 3 | 170 => 3
    | _ => 0

/-- Faults that are never reported (R615). -/
def faultExists (f : Nat) : Bool :=
  if f < 96 then decide (f % 16 ≤ 12)
  else decide (f ≤ 102) || decide (128 ≤ f ∧ f ≤ 134) || decide (160 ≤ f ∧ f ≤ 170) || decide (192 ≤ f ∧ f ≤ 197)
    || decide (208 ≤ f ∧ f ≤ 223)

/-- The recovery domain of a fault (R619). -/
def domainOf (f : Nat) : Fin 7 :=
  if f < 16 then 0 else if f < 32 then 1 else if f < 48 then 2 else if f < 64 then 3 else if f < 80 then 4
  else if f < 96 then 5 else 6

/-- An entry of the reaction table: as loaded, else its reset value (R616, R635). -/
def tableNat (s : State) (idx sub dflt : Nat) : Nat :=
  match s.fcu.table.lookup (objKey idx sub) with
  | some bs => natBE bs
  | none => dflt

/-- The class the reaction table holds for f, and PULSE (R616). -/
def classOf (s : State) (f : Nat) : Nat := tableNat s (0x2100 + f) 1 (defaultClass f)
def pulseOf (s : State) (f : Nat) : Bool := tableNat s (0x2100 + f) 2 0 != 0

/-- The reaction table takes the working copies of its objects (R616, R635). -/
def loadTable (s : State) : State :=
  { s with fcu := { s.fcu with table := s.hosts.objs.filter fun p => decide (0x2100 * 256 ≤ p.1 ∧ p.1 < 0x21F0 * 256) } }

/-- Whether an active fault of class S or X exists in a unit: the class its latest report took (R607, R616, R629). -/
def anySX (u : FcuUnit) : Bool := u.actS != 0

/-- Whether an active fault of class D, S or X exists (R665). -/
def anyDSX (s : State) : Bool := [s.fcu.a, s.fcu.b].any fun u => u.actD != 0 || u.actS != 0

/-- Bit f of a set of faults. -/
def faultBit (w : BitVec 240) (f : Nat) (b : Bool) : BitVec 240 :=
  let m := BitVec.ofNat 240 (2 ^ f)
  if b then w ||| m else w &&& ~~~ m

/-- The device is NORMAL while both FCUs are (R613). -/
def deviceNormal (s : State) : Bool := s.fcu.a.state == .normal && s.fcu.b.state == .normal

/-- A unit in NORMAL, FAULT or QUIET (R613, R624). -/
def fcuServing (u : FcuUnit) : Bool := u.state == .normal || u.state == .fault || u.state == .quiet

/-- Automatic recovery of a domain is enabled (R613, R619). -/
def recoveryEnabled (s : State) (d : Fin 7) : Bool :=
  fcuServing s.fcu.a && fcuServing s.fcu.b && !s.fcu.a.dis.getLsbD d && !s.fcu.b.dis.getLsbD d

/-- What one unit does with a report (R617, R618, R619, R623): the unit, the class it applied, ESC, whether it left its
state, whether it disabled the domain. -/
structure UnitReact where
  unit : FcuUnit
  cls : Nat
  esc : Bool
  moved : Bool
  disabled : Bool

/-- A new reaction starts a pulse; the window, REL and HOLD written earlier no longer count (R621, R623). -/
def startPulse (u : FcuUnit) : FcuUnit :=
  { u with pulse := true, window := false, relDue := false, holdReq := false }

/-- A unit leaves FAULT for QUIET when no active fault of class S or X remains; a class X reaction keeps it there until its
reset (R618, R629). -/
def unitSettles (u : FcuUnit) : FcuUnit :=
  if u.state = .fault ∧ anySX u = false ∧ u.xPending = false then { u with state := .quiet } else u

def unitReport (u : FcuUnit) (f c0 limit : Nat) (wantPulse : Bool) : UnitReact :=
  let d := domainOf f
  let esc := (c0 == 1 || c0 == 2) && u.dis.getLsbD d
  let c := if esc then 3 else c0
  let u := { u with active := u.active ||| BitVec.ofNat 240 (2 ^ f),
                    actD := faultBit u.actD f (c == 2), actS := faultBit u.actS f (decide (3 ≤ c)) }
  let u := if h : c < 5 then { u with counters := vmod u.counters ⟨c, h⟩ fun n => satSucc n 0xFFFF } else u
  let counts := c == 1 || c == 2
  let u := if counts then { u with domCount := vmod u.domCount d fun n => satSucc n 256 } else u
  let disabled := counts && u.domCount[d] == limit + 1 && !u.dis.getLsbD d
  let u := if disabled then { u with dis := u.dis ||| BitVec.ofNat 7 (2 ^ d.val) } else u
  let old := u.state
  let u := match c with
    | 1 => if wantPulse then startPulse u else u
    | 2 => startPulse u
    | 3 => { startPulse u with armed := false, permit := false, state := if u.state = .init then .init else .fault }
    | 4 => { u with hwHold := true, pulse := false, window := false, relDue := false, armed := false, permit := false,
                    xPending := true, state := if u.state = .init then .init else .fault }
    | _ => u
  let u := unitSettles u
  { unit := u, cls := c, esc := esc, moved := u.state != old, disabled := disabled }

/-- Whether PERMIT is armed in either unit (R626). -/
def armedAny (s : State) : Bool := s.fcu.a.armed || s.fcu.b.armed

/-- Both units disarm PERMIT; a disarm of an armed PERMIT is counted once and pulses E0777 (R626). -/
def countDisarm (s : State) (was : Bool) : State :=
  if was && !armedAny s then pulse (s.up Adr.fcuPermit fun w => satField w 31 16) 777 else s

def disarm (s : State) : State :=
  let was := armedAny s
  let off (u : FcuUnit) : FcuUnit := { u with armed := false, permit := false }
  countDisarm { s with fcu := { s.fcu with a := off s.fcu.a, b := off s.fcu.b } } was

/-- A change of mode with the disarming of R626. -/
def setMode (s : State) (m : Nat) : State :=
  if modeOf s = m then s
  else
    let s := putMode s m
    if m = 2 ∨ m = 3 then s else disarm s

/-- The device action of class c (R618, R667, R678): D asks for DEGRADED, S for SAFE HOLD, in SELFTEST at the release. -/
def classAction (s : State) (c : Nat) : State :=
  let m := modeOf s
  let blank := lcState s == 0
  let s := if (c = 2 ∨ c = 3) ∧ s.sys.dormantDue.isSome then { s with sys := { s.sys with wakeDue := some 3 } } else s
  if c = 2 ∨ c = 3 then
    if m = 5 then wakeWith s 4 3
    else if blank then s
    else if c = 2 then (if m = 2 then setMode s 3 else s)
    else if m = 0 then { s with sys := { s.sys with holdDue := true } }
    else if m = 1 ∨ m = 2 ∨ m = 3 then setMode s 4
    else s
  else s

/-- A log entry of a report (R617, FCU_LOGn): TIME in W0; INFO, ESC, ONE, CLASS and ID in W1. -/
def logEntry (s : State) (f info c : Nat) (esc one : Bool) : State :=
  let ptr := s.rd Adr.fcuLogptr
  let n := field ptr 5 0
  let w1 := BitVec.ofNat 64 ((info % 2 ^ 32) * 2 ^ 32 + esc.toNat * 2 ^ 21 + one.toNat * 2 ^ 20 + c * 2 ^ 16 + f)
  let s := (s.wr (Adr.fcuLogW0 n) (now s)).wr (Adr.fcuLogW1 n) w1
  s.wr Adr.fcuLogptr (setField (satField ptr 31 16) 5 0 (n + 1))

/-- Entries of the log in ascending order of their IDs. -/
def insertEntry (e : Word × Word) : List (Word × Word) → List (Word × Word)
  | [] => [e]
  | x :: t => if field e.2 15 0 < field x.2 15 0 then e :: x :: t else x :: insertEntry e t

/-- The entries that reports of one cycle have added since `old` stand in ascending order of ID, and the last of them is the
most recent fault (R514, R630). -/
def inIdOrder (old s : State) : State :=
  let p := field (old.rd Adr.fcuLogptr) 5 0
  let n := (field (s.rd Adr.fcuLogptr) 5 0 + 64 - p) % 64
  if n < 2 then s
  else
    let slot (i : Nat) : Nat := (p + i) % 64
    let es := (List.range n).map fun i => (s.rd (Adr.fcuLogW0 (slot i)), s.rd (Adr.fcuLogW1 (slot i)))
    let l := es.foldl (fun l e => insertEntry e l) []
    let s := l.zipIdx.foldl (fun s e => (s.wr (Adr.fcuLogW0 (slot e.2)) e.1.1).wr (Adr.fcuLogW1 (slot e.2)) e.1.2) s
    { s with fcu := { s.fcu with lastFault := l.getLast?.map fun e => field e.2 15 0 } }

/-- Object 0x2100 + f .03 rises by one (R617). -/
def countReport (s : State) (f : Nat) : State :=
  let n := (s.fcu.reports.lookup f).getD 0
  { s with fcu := { s.fcu with reports := (f, n + 1) :: s.fcu.reports.filter (fun p => decide (p.1 ≠ f)),
                                lastFault := some f, lastTime := now s } }

/-- The recovery limit of object 0x2002, as FCU_CFG holds it (R619, R633). -/
def recoveryLimit (s : State) : Nat := field (s.rd Adr.fcuCfg) 39 32

/-- One report, handled by the units that receive it and are not FAILED (R604, R612, R617). The second component says
that a unit disabled the domain. -/
def reportOnce (s : State) (f info : Nat) (toA toB : Bool) : State × Bool :=
  let useA := toA && s.fcu.a.state != .failed
  let useB := toB && s.fcu.b.state != .failed
  let c0 := classOf s f
  let ra := unitReport s.fcu.a f c0 (recoveryLimit s) (pulseOf s f)
  let rb := unitReport s.fcu.b f c0 (recoveryLimit s) (pulseOf s f)
  if !useA && !useB then (s, false)
  else
    let was := armedAny s
    let cls := Nat.max (if useA then ra.cls else 0) (if useB then rb.cls else 0)
    let shown := if useA then ra.cls else rb.cls
    let esc := if useA then ra.esc else rb.esc
    let s := logEntry s f info shown esc (toA != toB)
    let s := countReport s f
    let s := { s with fcu := { s.fcu with a := if useA then ra.unit else s.fcu.a, b := if useB then rb.unit else s.fcu.b } }
    let s := genUp s 1
    let s := pulse s (768 + shown)
    let s := if useA && useB && ra.cls != rb.cls then pulse s (768 + rb.cls) else s
    let s := if cls = 4 then pulse s 775 else s
    let s := if (useA && ra.moved) || (useB && rb.moved) then pulse s 773 else s
    let s := countDisarm s was
    let s := classAction s cls
    (s, (useA && ra.disabled) || (useB && rb.disabled))

/-- A report and, where it disables its domain, F170 and E0774 (R619). -/
def reportVia (s : State) (f info : Nat) (toA toB : Bool) : State :=
  if !faultExists f then s
  else
    let r := reportOnce s f info toA toB
    if r.2 then inIdOrder s (pulse (reportOnce r.1 170 0 true true).1 774) else r.1

end Sys2Proof.Machine
end

