-- ==== Sys2Proof/Machine/Cells.lean ====
section
/-! DEFINITION. The words of the SRAM banks and their error-correcting code (R343 to R347), and a report to the FCUs with
the READY fields that a wake writes (R676, R679). -/

namespace Sys2Proof.Machine

/-! ### Words of SRAM -/

/-- The bank of a plain SRAM address is On (R359). -/
def bankOn (s : State) (a : Nat) : Bool :=
  match s.sram.power.toList[a / 0x200000]? with
  | some p => p == 0
  | none => false

/-- Records an ECC error at word w in SRB_ECCSTAT and SRB_ECCADDR (R345, R346). -/
def sramUe (s : State) (w : Nat) : State :=
  let s := s.up Adr.srbEccstat fun x => satField (putBit x 31 true) 23 16
  let s := s.wr Adr.srbEccaddr (putBit (BitVec.ofNat 64 w) 63 true)
  reportVia (pulse s 880) 96 (w / 256) true true

def sramCe (s : State) (w : Nat) : State :=
  let held := bitOf (s.rd Adr.srbEccstat) 31
  let s := s.up Adr.srbEccstat fun x => satField (putBit x 30 true) 15 0
  let s := if held then s else s.wr Adr.srbEccaddr (BitVec.ofNat 64 w)
  let s := { s with sram := { s.sram with writeBack := w :: s.sram.writeBack } }
  pulse s 881

/-- The error a word holds, as its check bits show it: one flipped cell is correctable, more are not (R343, R345, R346;
log 18). The check bits cover the address too, so a word of another row would show as uncorrectable. A word that waits
for its write-back is served from the buffer, without error (R345). -/
def sramError (s : State) (w : Nat) : Option Bool :=
  if s.sram.writeBack.contains w then none else
  match s.sram.errors.lookup w with
  | none => none
  | some cells =>
    match ((List.range 72).filter fun i => cells.getLsbD i).length with
    | 0 => none
    | 1 => some false
    | _ => some true

/-- Cells of a word flip, as a mask of its 72 cells. No row of the table is about a flip: they stand with the background
test (DESIGN CHOICE, log 36). -/
def sramFlip (s : State) (p : BitVec 40 × BitVec 72) : State :=
  let w := p.1.toNat / 8 * 8
  if w < sramSize then
    let cells := (s.sram.errors.lookup w).getD 0 ^^^ p.2
    { s with sram := { s.sram with errors := (w, cells) :: s.sram.errors.filter fun q => decide (q.1 ≠ w) } }
  else s

/-- A read meets word w: its error is counted once, until the write-back (R345, R346). -/
def sramTouch (s : State) (w : Nat) : State :=
  match sramError s w with
  | some true => sramUe s w
  | some false => sramCe s w
  | none => s

/-- Drops the error a word holds. -/
def sramHeal (s : State) (w : Nat) : State :=
  { s with sram := { s.sram with errors := s.sram.errors.filter (fun p => decide (p.1 ≠ w)),
                                  writeBack := s.sram.writeBack.filter fun x => decide (x ≠ w) } }

/-- The octet an enabled byte of a store leaves: plain, bit-set alias, bit-clear alias (R352). -/
def aliasOctet (kind : BitVec 2) (old new : Byte) : Byte :=
  if kind = 1 then old ||| new else if kind = 2 then old &&& ~~~ new else new

/-- Octets stored with byte enables. -/
def storeOctets (s : State) (a : Nat) (kind : BitVec 2) : List (Byte × Bool) → State
  | [] => s
  | (b, en) :: t =>
    storeOctets (if en then wrByte s a (aliasOctet kind (rdByte s a) b) else s) (a + 1) kind t

/-- One write to one SRAM word w: R347 for a word with an uncorrectable error, R345 for a correctable one. -/
def sramWriteWord (s : State) (w : Nat) (kind : BitVec 2) (bs : List (Byte × Bool)) : State :=
  let full := kind = 0 ∧ bs.length = 8 ∧ bs.all fun p => p.2
  match sramError s w with
  | some true => if full then storeOctets (sramHeal s w) w kind bs else sramUe s w
  | some false => if full then storeOctets (sramHeal s w) w kind bs else storeOctets (sramTouch s w) w kind bs
  | none => storeOctets s w kind bs

/-! ### READY and reports -/

/-- READY of both rings, written by the port as any partial write of a word of bank 10 (R347, R491). -/
def writeReady (s : State) (v : Nat) : State :=
  if !bankOn s 0x1400000 then s
  else
    let put (s : State) (w : Nat) : State :=
      sramWriteWord s w 0 ((bytesLE 4 v).map (fun b => (b, true)) ++ List.replicate 4 (0, false))
    put (put s 0x1400010) 0x1410010

/-- A report; a reaction that wakes a device in DORMANT-RETAIN raises READY of both rings again (R678, R679). -/
def reportWakes (s : State) (f info : Nat) (toA toB : Bool) : State :=
  let s' := reportVia s f info toA toB
  if modeOf s = 5 ∧ modeOf s' ≠ 5 then writeReady s' 1 else s'

/-- A report to both FCUs (R32). -/
def report (s : State) (f info : Nat) : State := reportWakes s f info true true

/-- A report of triad t's fault k with the lane it concerns, 3 for none (R614, FCU_LOGn). -/
def reportTriad (s : State) (t : TriadId) (k lane : Nat) : State := report s (16 * t.val + k) lane

end Sys2Proof.Machine
end

