-- ==== Sys2Proof/Machine/Legacy.lean ====
section
/-! DEFINITION. The legacy edge (R541 to R573, R732): timers, SSI masters, UARTs, sigma-delta outputs and GPIO, and the
32-bit bus accesses to the TMR and LEG blocks. -/

namespace Sys2Proof.Machine

/-! ### Small updates -/

def State.upTimer (s : State) (n : Fin 64) (f : Timer → Timer) : State :=
  { s with legacy := { s.legacy with timers := vmod s.legacy.timers n f } }

def State.upSsi (s : State) (m : Fin 16) (f : Ssi → Ssi) : State :=
  { s with legacy := { s.legacy with ssi := vmod s.legacy.ssi m f } }

def State.upUart (s : State) (u : Fin 8) (f : Uart → Uart) : State :=
  { s with legacy := { s.legacy with uart := vmod s.legacy.uart u f } }

def State.upSdm (s : State) (k : Fin 32) (f : Sdm → Sdm) : State :=
  { s with legacy := { s.legacy with sdm := vmod s.legacy.sdm k f } }

def State.upGpio (s : State) (g : Fin 8) (f : Gpio → Gpio) : State :=
  { s with legacy := { s.legacy with gpio := vmod s.legacy.gpio g f } }

/-- The first address of the TMR and LEG blocks (R41). -/
def legBase (leg : Bool) : Nat := if leg then 0x800E0000 else 0x800D0000

def bstatOf (leg : Bool) : Nat := if leg then Adr.legBstat else Adr.tmrBstat

/-- A refused access: ACCERR and E0312 (R546, R548). -/
def accErr (s : State) (leg : Bool) : State := pulse (s.setBitR (bstatOf leg) 0) 312

/-- The triad for which a requester acts: a DMA channel's stamp names it (R317, R546). -/
def reqTriad (s : State) (q : Requester) : Nat :=
  match q with
  | .triad t => t.val
  | .dma c => field (s.rd (Adr.dmaCtx (c.val / 16) (c.val % 16))) 54 52
  | .tense t => t.val

/-- The OWNER field that every unit's configuration register holds in bits [30:28] (R546). -/
def ownerAt (s : State) (a : Nat) : Nat := field (s.rd a) 30 28

/-- A write to a register of a unit whose configuration register is at a (R546). -/
def ownedBy (s : State) (q : Requester) (a : Nat) : Bool := reqTriad s q == ownerAt s a

/-- A write to the configuration register itself: any triad while LK = 0, else the OWNER (R546; DEDUCED, log 17). -/
def cfgAllowed (s : State) (q : Requester) (a : Nat) : Bool :=
  ownedBy s q a || (!bitOf (s.rd a) 31 && (match q with | .triad _ => true | _ => false))

/-- A write that R546 accepts acts, another one is refused. -/
def guarded (s : State) (leg ok : Bool) (f : State → State) : State := if ok then f s else accErr s leg

/-- Outputs of the owner of the unit at a are in the safe state (R571). -/
def safeTmrAt (s : State) (a : Nat) : Bool := s.legacy.safeTmr.getLsbD (ownerAt s a)
def safeLegAt (s : State) (a : Nat) : Bool := s.legacy.safeLeg.getLsbD (ownerAt s a)

/-! ### Timer channels (R549 to R557) -/

def tmrMode (s : State) (n : Fin 64) : Nat := field (s.rd (Adr.tmrCfg n)) 22 20

/-- Pin A (false) or B (true) of a channel is an output: its DIR bit is 1 and the mode does not force it to input
(R549). -/
def tmrDrives (s : State) (n : Fin 64) (pinB : Bool) : Bool :=
  let w := s.rd (Adr.tmrPincfg n)
  let m := tmrMode s n
  if pinB then bitOf w 6 && m != 2 && m != 3 else bitOf w 7 && m != 2 && m != 3 && m != 4

/-- The levels of A and B that a channel drives as outputs (R553, R554, R571). -/
def timerPins (s : State) (n : Fin 64) : Bool × Bool :=
  let w := s.rd (Adr.tmrPincfg n)
  let x := s.legacy.timers[n]
  if safeTmrAt s (Adr.tmrCfg n) then (bitOf w 11, bitOf w 10) else (x.outA, x.outB)

/-- The voted levels of A and B, A in bit 0. -/
def tmrLevels (s : State) (n : Fin 64) : BitVec 2 :=
  BitVec.ofNat 2 ((s.legacy.tmrAIn.getLsbD n.val).toNat + 2 * (s.legacy.tmrBIn.getLsbD n.val).toNat)

/-- A capture writes one entry, or is lost (R555); c is the count after the step of its cycle. -/
def capture (s : State) (n : Fin 64) (rising : Bool) (c : BitVec 48) : State :=
  let x := s.legacy.timers[n]
  let v := if bitOf (s.rd (Adr.tmrCfg n)) 19 then field (now s) 47 0 else c.toNat
  if x.fifo.length < 8 then
    let w := BitVec.ofNat 64 (2 ^ 63 + x.lost.toNat * 2 ^ 62 + rising.toNat * 2 ^ 61 + v)
    pulse (s.upTimer n fun x => { x with fifo := x.fifo ++ [w], lost := false }) (4 * n.val + 2)
  else (s.upTimer n fun x => { x with lost := true }).setBitR (Adr.tmrStat n) 4

def capSrc (s : State) (n : Fin 64) : Nat := field (s.rd (Adr.tmrCfg n)) 18 16

/-- The level a pin action leaves: none, set, clear, toggle. -/
def pinAction (act : Nat) (b : Bool) : Bool :=
  match act with | 1 => true | 2 => false | 3 => !b | _ => b

/-- A match of compare unit k (false 0, true 1), or FORCEk (R553). -/
def tmrMatch (s : State) (n : Fin 64) (k : Bool) : State :=
  let w := s.rd (Adr.tmrPincfg n)
  let onB := bitOf w (if k then 5 else 4)
  let act := if k then field w 3 2 else field w 1 0
  let s := pulse s (4 * n.val + k.toNat)
  let s := if tmrDrives s n onB && !safeTmrAt s (Adr.tmrCfg n) then
      s.upTimer n fun x => if onB then { x with outB := pinAction act x.outB } else { x with outA := pinAction act x.outA }
    else s
  if k && capSrc s n == 7 then capture s n false s.legacy.timers[n].cnt else s

/-- One count step (R551, R552): the wrap, the preload at a wrap, the compares. -/
def countOnce (s : State) (n : Fin 64) (up : Bool) : State :=
  let x := s.legacy.timers[n]
  let wrap := if up then decide (x.top.toNat ≤ x.cnt.toNat) else x.cnt == 0
  let c : BitVec 48 := if up then (if wrap then 0 else x.cnt + 1) else (if wrap then x.top else x.cnt - 1)
  let pre := wrap && bitOf (s.rd (Adr.tmrCfg n)) 6
  let s := s.upTimer n fun x =>
    let x := { x with cnt := c, dir := up }
    if pre then { x with top := x.topW, cmp0 := x.cmp0W, cmp1 := x.cmp1W } else x
  let s := if wrap then pulse s (4 * n.val + 3) else s
  let y := s.legacy.timers[n]
  let s := if y.cmp0 = c then tmrMatch s n false else s
  if y.cmp1 = c then tmrMatch s n true else s

/-- The QUAD step between two states of (A, B), A in bit 0: up along 00, 10, 11, 01 as R549 writes (A, B). -/
def quadUp (old new : BitVec 2) : Bool :=
  match old.toNat, new.toNat with
  | 0, 1 => true | 1, 3 => true | 3, 2 => true | 2, 0 => true
  | _, _ => false

/-- The levels of A and B as counted: a voted level counts once it has held for FILT + 1 cycles (R550; B in STEPDIR too:
DEDUCED, log 17). -/
def tmrCounted (s : State) (n : Fin 64) : BitVec 2 :=
  let x := s.legacy.timers[n]
  let f := field (s.rd (Adr.tmrCfg n)) 27 24
  let pick (i held : Nat) : Nat := if f < held then ((tmrLevels s n).getLsbD i).toNat else (x.last.getLsbD i).toNat
  BitVec.ofNat 2 (pick 0 x.holdA + 2 * pick 1 x.holdB)

/-- The peripheral cycles of a TIMER step (R549). -/
def tmrPeriod (s : State) (n : Fin 64) : Nat := field (s.rd (Adr.tmrCfg n)) 15 8 + 1

/-- COUNT_STEP (R549 to R552): the sample in which a step of the channel falls. In TIMER it comes PRESC + 1 cycles after the
last one; in the input modes the step and its direction follow from the counted levels against those before. -/
def countSample (s : State) (n : Fin 64) : State :=
  if !bitOf (s.rd (Adr.tmrCtl n)) 0 then s
  else
    let old := s.legacy.timers[n].last
    let new := tmrCounted s n
    let rise := !old.getLsbD 0 && new.getLsbD 0
    let s' := s.upTimer n fun x => { x with last := new }
    match tmrMode s n with
    | 1 =>
      if s.legacy.timers[n].presc < tmrPeriod s n then s
      else countOnce (s.upTimer n fun x => { x with presc := x.presc - tmrPeriod s n }) n true
    | 2 =>
      if old = new then s
      else if old ^^^ new = 3 then s'.setBitR (Adr.tmrStat n) 5
      else countOnce s' n (quadUp old new)
    | 3 => if rise then countOnce s' n (new.getLsbD 1) else s'
    | 4 => if rise then countOnce s' n true else s'
    | _ => s

/-- The count after the step of the sample in which an input edge of the channel falls: with FILT = 0 the step that the
edge makes belongs to this sample and COUNT_STEP follows it, a longer filter counts it later (R550, R555). -/
def countAtEdge (s : State) (n : Fin 64) : BitVec 48 :=
  let m := tmrMode s n
  if field (s.rd (Adr.tmrCfg n)) 27 24 = 0 ∧ 2 ≤ m ∧ m ≤ 4 then (countSample s n).legacy.timers[n].cnt
  else s.legacy.timers[n].cnt

def execCountStep (n : Fin 64) (s : State) : Host.Outcome State Fault Refusal := .next (s.powered fun s => countSample s n)

/-- The GPIO pin that a channel takes as its index (R551). -/
def indexPin (s : State) (n : Fin 64) : Nat := field (s.rd (Adr.tmrPincfg n)) 22 16

/-- INDEX_CLEAR (R551): the rising index edge in QUAD with ZCLR; a step of the same sample is discarded. -/
def execIndexClear (n : Fin 64) (s : State) : Host.Outcome State Fault Refusal :=
  .next (s.powered fun s => if tmrMode s n = 2 ∧ bitOf (s.rd (Adr.tmrCfg n)) 7 ∧ s.legacy.gpioIn.getLsbD (indexPin s n) then
      s.upTimer n fun x => { x with cnt := 0, last := tmrLevels s n }
    else s)

/-- The start of a channel (R554). -/
def tmrStart (s : State) (n : Fin 64) : State :=
  let w := s.rd (Adr.tmrPincfg n)
  let safe := safeTmrAt s (Adr.tmrCfg n)
  let a := tmrDrives s n false && !safe
  let b := tmrDrives s n true && !safe
  s.upTimer n fun x =>
    { x with presc := 0, last := tmrLevels s n, startDue := none,
             outA := if a then bitOf w 9 else x.outA, outB := if b then bitOf w 8 else x.outB }

/-- A write of TMR_CHn_CTL (R553, R554): GRP is judged as it stood, then FORCE0 and FORCE1 act. -/
def writeTmrCtl (s : State) (q : Requester) (n : Fin 64) (v : BitVec 32) : State :=
  guarded s false (ownedBy s q (Adr.tmrCfg n)) fun s =>
    let old := s.rd (Adr.tmrCtl n)
    let en := if bitOf old 1 then bitOf old 0 else v.getLsbD 0
    let s := s.wr (Adr.tmrCtl n) (b2w en 0 ||| b2w (v.getLsbD 1) 1)
    let s := if en && !bitOf old 0 then tmrStart s n else s
    let s := if v.getLsbD 2 then tmrMatch s n false else s
    if v.getLsbD 3 then tmrMatch s n true else s

/-- CHANNEL_START (R554): a write of TMR_CHn_CTL that sets EN. -/
def execChannelStart (q : Requester) (n : Fin 64) (v : BitVec 32) (s : State) : Host.Outcome State Fault Refusal :=
  .next (writeTmrCtl s q n (v ||| 1))

/-- CHANNEL_STOP (R554): a write of TMR_CHn_CTL that clears EN. -/
def execChannelStop (q : Requester) (n : Fin 64) (v : BitVec 32) (s : State) : Host.Outcome State Fault Refusal :=
  .next (writeTmrCtl s q n (v &&& ~~~ 1))

/-- FORCE (R553): a write of TMR_CHn_CTL. -/
def execForce (q : Requester) (n : Fin 64) (v : BitVec 32) (s : State) : Host.Outcome State Fault Refusal :=
  .next (writeTmrCtl s q n v)

/-- A write of TMR_CHn_CFG or TMR_CHn_PINCFG (R732): a change of MODE or PRESC restarts the prescaler. -/
def writeTmrCfg (s : State) (q : Requester) (n : Fin 64) (pins : Bool) (v : BitVec 32) : State :=
  if pins then
    guarded s false (ownedBy s q (Adr.tmrCfg n)) fun s => s.sw32 (Adr.tmrPincfg n) v
  else
    guarded s false (cfgAllowed s q (Adr.tmrCfg n)) fun s =>
      let old := s.rd (Adr.tmrCfg n)
      let s := s.sw32 (Adr.tmrCfg n) v
      let new := s.rd (Adr.tmrCfg n)
      if field old 22 20 != field new 22 20 || field old 15 8 != field new 15 8 then
        s.upTimer n fun x => { x with presc := 0, last := tmrLevels s n }
      else s

def execTmrChnCfg (w : Requester) (n : Fin 64) (pins : Bool) (v : BitVec 32) (s : State) :
    Host.Outcome State Fault Refusal := .next (writeTmrCfg s w n pins v)

/-- The channels of stagger group g. -/
def groupChannels (g : Fin 8) : List (Fin 64) := (List.finRange 64).filter fun n => decide (n.val / 8 = g.val)

def inMask (s : State) (g : Fin 8) (n : Fin 64) : Bool := bitOf (s.rd (Adr.tmrGrpCfg g)) (8 + n.val % 8)

/-- The start of a group member: EN := 1 with the start of R554. -/
def groupMemberStart (s : State) (n : Fin 64) : State := tmrStart (s.setBitR (Adr.tmrCtl n) 0) n

/-- A GO to TMR_GRPg_START (R557): accepted for every channel of MASK; members without stagger start at once, the
others are due; earlier pending starts of the group are cancelled. -/
def groupStart (s : State) (q : Requester) (g : Fin 8) : State :=
  let ns := (groupChannels g).filter (inMask s g)
  guarded s false (ns.all fun n => ownedBy s q (Adr.tmrCfg n)) fun s =>
    let step := field (s.rd (Adr.tmrGrpCfg g)) 7 0
    let s := (groupChannels g).foldl (fun s n => s.upTimer n fun x => { x with startDue := none }) s
    let s := pulse s (304 + g.val)
    (ns.filter fun (n : Fin 64) => bitOf (s.rd (Adr.tmrCtl n.val)) 1).foldl
      (fun s (n : Fin 64) => if n.val % 8 * step = 0 then groupMemberStart s n else s.upTimer n fun x => { x with startDue := some (n.val % 8 * step) }) s

def execGroupStart (q : Requester) (g : Fin 8) (s : State) : Host.Outcome State Fault Refusal :=
  .next (groupStart s q g)

/-- STAGGERED_START (R557): a pending start falls due, i * STEP cycles after the group's. -/
def execStaggeredStart (n : Fin 64) (s : State) : Host.Outcome State Fault Refusal :=
  .next (s.powered fun s => if s.legacy.timers[n].startDue = some 0 then groupMemberStart s n else s)

/-- A peripheral cycle of a channel: the prescaler in TIMER, the times its input levels have held, a staggered start. -/
def timerCycle (s : State) (n : Fin 64) : Timer :=
  let x := s.legacy.timers[n]
  { x with
    presc := if bitOf (s.rd (Adr.tmrCtl n)) 0 && tmrMode s n == 1 then x.presc + 1 else x.presc
    holdA := Nat.min 16 (x.holdA + 1), holdB := Nat.min 16 (x.holdB + 1), startDue := x.startDue.map (· - 1) }

/-! ### SSI masters (R559, R560) -/

/-- The clock period T in peripheral cycles, the number N of data bits, the sample delay (R559). -/
def ssiPeriod (s : State) (m : Fin 16) : Nat := 2 * (field (s.rd (Adr.ssiTim m)) 7 0 + 1)
def ssiBits (s : State) (m : Fin 16) : Nat :=
  let cfg := s.rd (Adr.ssiCfg m)
  if bitOf cfg 10 then 2 * field cfg 5 0 else field cfg 5 0
def ssiDelay (s : State) (m : Fin 16) : Nat := field (s.rd (Adr.ssiTim m)) 13 8

/-- The level of SSI_CLK: low for half a period from each fall at s + j * T, j = 0 to N, else high (R559). -/
def ssiClk (s : State) (m : Fin 16) : Bool :=
  let x := s.legacy.ssi[m]
  let t := ssiPeriod s m
  !(x.busy && decide (x.age / t ≤ ssiBits s m ∧ x.age % t < t / 2))

/-- A peripheral cycle of a master: data bit j is sampled DLY cycles after the fall at j, for j = 1 to N (R559). -/
def ssiCycle (s : State) (m : Fin 16) : Ssi :=
  let x := s.legacy.ssi[m]
  if !x.busy then x
  else
    let a := x.age + 1
    let t := ssiPeriod s m
    let d := ssiDelay s m
    let due := x.transfer && decide (t + d ≤ a ∧ (a - d) % t = 0 ∧ x.samples.length < ssiBits s m)
    { x with age := a, samples := if due then x.samples ++ [s.legacy.ssiIn.getLsbD m.val] else x.samples }

/-- The last rise of SSI_CLK and the last sample are past, and TMONO us with them (R559). -/
def ssiRested (s : State) (m : Fin 16) : Bool :=
  let t := ssiPeriod s m
  decide (ssiBits s m * t + Nat.max (t / 2) (ssiDelay s m) + field (s.rd (Adr.ssiTim m)) 23 16 * 200 ≤ s.legacy.ssi[m].age)

/-- A GO to SSI_m_START. -/
def ssiStart (s : State) (q : Requester) (m : Fin 16) : State :=
  guarded s true (ownedBy s q (Adr.ssiCfg m)) fun s =>
    if s.legacy.ssi[m].busy || safeLegAt s (Adr.ssiCfg m) then s.setBitR (Adr.ssiStat m) 1
    else if !s.legacy.ssiIn.getLsbD m.val then s.setBitR (Adr.ssiStat m) 4
    else s.upSsi m fun x => { x with transfer := true, busy := true, time := now s, age := 0, samples := [] }

def execSsiStart (q : Requester) (m : Fin 16) (s : State) : Host.Outcome State Fault Refusal := .next (ssiStart s q m)

/-- Bits, first least significant, as a number. -/
def natBitsLE (l : List Bool) : Nat := l.foldr (fun b a => 2 * a + b.toNat) 0

/-- Bits, first most significant, as a number. -/
def bitsMsb (l : List Bool) : Nat := l.foldl (fun a b => 2 * a + b.toNat) 0

/-- Gray code to binary, first bit most significant. -/
def grayBits : Bool → List Bool → List Bool
  | _, [] => []
  | acc, b :: t => (acc ^^ b) :: grayBits (acc ^^ b) t

/-- The end of a transfer (R559 step 4, R560): `samples` names the data bits that the master has sampled, N of them. EFLAG
is cleared where no error bit is sent: DESIGN CHOICE, log 17. -/
def ssiDone (s : State) (m : Fin 16) (samples : List Bool) : State :=
  let cfg := s.rd (Adr.ssiCfg m)
  let n := field cfg 5 0
  let dbl := bitOf cfg 10
  let x := s.legacy.ssi[m]
  if x.transfer && samples == x.samples && decide (ssiBits s m ≤ samples.length) then
    let samples := samples.take (ssiBits s m)
    let one := samples.take n
    let errb := bitOf cfg 9
    let vals := if errb then one.take (n - 1) else one
    let pos := bitsMsb (if bitOf cfg 8 then grayBits false vals else vals)
    let s := s.upSsi m fun x => { x with transfer := false, pos := BitVec.ofNat 48 pos }
    let s := s.up (Adr.ssiStat m) fun w => putBit (putBit w 0 true) 3 (errb && one.getD (n - 1) false)
    let s := if dbl && samples.drop n != one then s.setBitR (Adr.ssiStat m) 2 else s
    pulse s (256 + m.val)
  else s

def execSsiTransferDone (m : Fin 16) (samples : List Bool) (s : State) : Host.Outcome State Fault Refusal :=
  .next (s.powered fun s => ssiDone s m samples)

/-- MONOFLOP_END (R559 step 5). -/
def execMonoflopEnd (m : Fin 16) (s : State) : Host.Outcome State Fault Refusal :=
  .next (s.powered fun s => if s.legacy.ssi[m].transfer || !ssiRested s m then s else s.upSsi m fun x => { x with busy := false })

/-! ### UARTs (R561 to R564) -/

/-- Data bits, parity code, stop bits and cycles per bit of a UART's frame (R561). -/
def uartData (s : State) (u : Fin 8) : Nat := 7 + field (s.rd (Adr.uartCfg u)) 22 21
def uartPar (s : State) (u : Fin 8) : Nat := field (s.rd (Adr.uartCfg u)) 25 24
def uartStops (s : State) (u : Fin 8) : Nat := if bitOf (s.rd (Adr.uartCfg u)) 23 then 2 else 1
def uartBit (s : State) (u : Fin 8) : Nat := field (s.rd (Adr.uartCfg u)) 15 0

/-- The bits of a frame, and its length in peripheral cycles. -/
def uartBits (s : State) (u : Fin 8) : Nat := 1 + uartData s u + (if uartPar s u = 0 then 0 else 1) + uartStops s u
def uartChar (s : State) (u : Fin 8) : Nat := uartBits s u * uartBit s u

/-- The parity bit of data bits: even makes the number of ones even (R561). -/
def parityBit (par : Nat) (data : List Bool) : Bool := data.foldl (fun a b => a ^^ b) (par == 2)

/-- The levels of a frame: start bit, data bits least significant first, parity, stop bits (R561). -/
def uartFrame (s : State) (u : Fin 8) (c : BitVec 9) : List Bool :=
  let data := (List.range (uartData s u)).map fun i => c.getLsbD i
  false :: data ++ (if uartPar s u = 0 then [] else [parityBit (uartPar s u) data]) ++ List.replicate (uartStops s u) true

/-- The level of UART_TX: the bit of the character being sent, else high (R561, R564, R571). -/
def uartTx (s : State) (u : Fin 8) : Bool :=
  let x := s.legacy.uart[u]
  if x.busy && x.phase == .char then (uartFrame s u (x.tx.headD 0)).getD (x.cyc / uartBit s u) true else true

/-- A transmission begins: DE is asserted, the first start bit follows one bit time later (R564). -/
def Uart.begin (x : Uart) : Uart := { x with de := true, busy := true, phase := .lead, cyc := 0 }

/-- A push into the transmit FIFO. One that comes while DE is held after the last character is sent at once (DESIGN CHOICE,
log 17). -/
def uartPush (s : State) (q : Requester) (u : Fin 8) (v : BitVec 32) : State :=
  guarded s true (ownedBy s q (Adr.uartCfg u)) fun s =>
    if s.legacy.uart[u].tx.length < 64 then
      let s := s.upUart u fun x => { x with tx := x.tx ++ [v.setWidth 9] }
      if !bitOf (s.rd (Adr.uartCfg u)) 27 && !safeLegAt s (Adr.uartCfg u) then
        s.upUart u fun x => if !x.busy then x.begin else if x.phase = .hold then { x with phase := .char, cyc := 0 } else x
      else s
    else s.setBitR (Adr.uartStat u) 3

def execUartTxd (q : Requester) (u : Fin 8) (v : BitVec 32) (s : State) : Host.Outcome State Fault Refusal :=
  .next (uartPush s q u v)

/-- A GO to UART_u_START: with TSTART = 1 the characters held are sent (R564). -/
def uartGo (s : State) (q : Requester) (u : Fin 8) : State :=
  guarded s true (ownedBy s q (Adr.uartCfg u)) fun s =>
    let x := s.legacy.uart[u]
    if bitOf (s.rd (Adr.uartCfg u)) 27 && !x.busy && !x.tx.isEmpty && !safeLegAt s (Adr.uartCfg u) then
      s.upUart u fun x => { x.begin with toSend := x.tx.length }
    else s

def execUartStart (q : Requester) (u : Fin 8) (s : State) : Host.Outcome State Fault Refusal := .next (uartGo s q u)

/-- Characters are still to be sent in the running transmission. -/
def uartMore (s : State) (u : Fin 8) : Bool :=
  let x := s.legacy.uart[u]
  if bitOf (s.rd (Adr.uartCfg u)) 27 then decide (0 < x.toSend) && !x.tx.isEmpty else !x.tx.isEmpty

/-- CHARACTER_SENT (R561, R564): the frame of the character at the head has left; the next one follows without a gap, or DE
is held. -/
def characterSent (s : State) (u : Fin 8) : State :=
  let x := s.legacy.uart[u]
  if x.busy && x.phase == .char && uartMore s u && decide (uartChar s u ≤ x.cyc) then
    let s := s.upUart u fun x => { x with tx := x.tx.drop 1, toSend := x.toSend - 1, cyc := x.cyc - uartChar s u }
    if uartMore s u then s else s.upUart u fun x => { x with phase := .hold }
  else s

def execCharacterSent (u : Fin 8) (s : State) : Host.Outcome State Fault Refusal := .next (s.powered fun s => characterSent s u)

/-- DE_RELEASE (R564): DEHOLD bit times after the last stop bit, with E0273 + 2u. -/
def deRelease (s : State) (u : Fin 8) : State :=
  let x := s.legacy.uart[u]
  if x.busy && x.phase == .hold && !uartMore s u && decide (field (s.rd (Adr.uartCfg u)) 20 16 * uartBit s u ≤ x.cyc) then
    pulse (s.upUart u fun x => { x with de := false, busy := false, toSend := 0 }) (273 + 2 * u.val)
  else s

def execDeRelease (u : Fin 8) (s : State) : Host.Outcome State Fault Refusal := .next (s.powered fun s => deRelease s u)

/-- The receiver has taken the last bit of a frame: the character with FE for a low stop bit and PE for a wrong parity
(R562). -/
def uartFound (s : State) (u : Fin 8) (x : Uart) (bits : List Bool) : Uart :=
  let d := uartData s u
  let data := (bits.drop 1).take d
  let pe := uartPar s u != 0 && bits.getD (1 + d) false != parityBit (uartPar s u) data
  let fe := (bits.drop (uartBits s u - uartStops s u)).any fun b => !b
  { x with rxCyc := none, rxBits := [], quiet := 0, idleDone := false,
           found := x.found ++ [(BitVec.ofNat 9 (natBitsLE data), fe, pe)] }

/-- A peripheral cycle of a receiver (R562): a start bit at a falling edge of the voted UART_RX, confirmed as any bit is
taken, by the majority of the cycles about its middle; nothing is received while UART_DE is asserted and ECHO = 0. -/
def uartRxCycle (s : State) (u : Fin 8) (x : Uart) : Uart :=
  let v := s.legacy.uartIn.getLsbD u.val
  let fell := x.rxLast.getLsbD 0 && !v
  let last : BitVec 3 := BitVec.ofNat 3 (2 * x.rxLast.toNat + v.toNat)
  let x := { x with rxLast := last, quiet := if v then x.quiet + 1 else 0 }
  if x.de && !bitOf (s.rd (Adr.uartCfg u)) 26 then { x with rxCyc := none, rxBits := [] }
  else
    match x.rxCyc with
    | none => if fell then { x with rxCyc := some 0 } else x
    | some c =>
      let x := { x with rxCyc := some (c + 1) }
      if (c + 1) % uartBit s u = uartBit s u / 2 + 1 then
        let b := decide (2 ≤ (last.getLsbD 0).toNat + (last.getLsbD 1).toNat + (last.getLsbD 2).toNat)
        let bits := b :: x.rxBits
        if x.rxBits.isEmpty && b then { x with rxCyc := none }
        else if uartBits s u ≤ bits.length then uartFound s u x bits.reverse
        else { x with rxBits := bits }
      else x

/-- A peripheral cycle of a UART. -/
def uartCycle (s : State) (u : Fin 8) : Uart :=
  let x := s.legacy.uart[u]
  let x := if x.busy then { x with cyc := x.cyc + 1 } else x
  let x := if x.busy && x.phase == .lead && decide (uartBit s u ≤ x.cyc) then { x with phase := .char, cyc := 0 } else x
  uartRxCycle s u x

/-- A received character enters the FIFO (R562, R563): the oldest one that the receiver has found. -/
def uartReceive (s : State) (u : Fin 8) (data : BitVec 9) (fe pe : Bool) : State :=
  let x := s.legacy.uart[u]
  match x.found with
  | [] => s
  | c :: rest =>
    if c != (data, fe, pe) then s
    else
      let s := s.upUart u fun x => { x with found := rest }
      let s := if fe || pe then s.setBitR (Adr.uartStat u) 1 else s
      if x.rx.length < 64 then
        let w := BitVec.ofNat 32 (2 ^ 31 + fe.toNat * 2 ^ 10 + pe.toNat * 2 ^ 9 + data.toNat)
        let s := s.upUart u fun x => { x with rx := x.rx ++ [w] }
        if x.rx.length + 1 = field (s.rd (Adr.uartThr u)) 5 0 then pulse s (272 + 2 * u.val) else s
      else s.setBitR (Adr.uartStat u) 2

def execCharacterReceived (u : Fin 8) (data : BitVec 9) (fe pe : Bool) (s : State) :
    Host.Outcome State Fault Refusal := .next (s.powered fun s => uartReceive s u data fe pe)

/-- UART_IDLE_TIMEOUT (R563): the line has been idle for IDLE character times since the end of the last stop bit, which the
receiver took in its middle. -/
def uartIdle (s : State) (u : Fin 8) : State :=
  let x := s.legacy.uart[u]
  let idle := field (s.rd (Adr.uartThr u)) 15 8
  let b := uartBit s u
  if idle != 0 && !x.rx.isEmpty && !x.idleDone && x.rxCyc.isNone && decide (idle * uartChar s u + (b - b / 2 - 2) ≤ x.quiet) then
    pulse (s.upUart u fun x => { x with idleDone := true }) (272 + 2 * u.val)
  else s

def execUartIdleTimeout (u : Fin 8) (s : State) : Host.Outcome State Fault Refusal := .next (s.powered fun s => uartIdle s u)

/-- A pop of the receive FIFO (R562, UART_u_RXD). -/
def uartPop (s : State) (u : Fin 8) : State × BitVec 32 :=
  match s.legacy.uart[u].rx with
  | [] => (s, 0)
  | c :: t => (s.upUart u fun x => { x with rx := t }, c)

/-- UART_RXD: the character goes to the requester. -/
def execUartRxd (_q : Requester) (u : Fin 8) (s : State) : Host.Outcome State Fault Refusal :=
  let (s, v) := uartPop s u
  .next { s with busData := v.setWidth 64 }

/-! ### Sigma-delta outputs (R565 to R568) -/

/-- The clamp of R565. -/
def sdmClamp (v : BitVec 24) : BitVec 24 := BitVec.ofInt 24 (clampInt v.toInt 7549747)

/-- A write of SDM_k_VAL (R567). -/
def sdmWrite (s : State) (q : Requester) (k : Fin 32) (v : BitVec 32) : State :=
  guarded s true (ownedBy s q (Adr.sdmCfg k)) fun s =>
    let s := s.sw32 (Adr.sdmVal k) v
    let a := sdmClamp (v.setWidth 24)
    if bitOf (s.rd (Adr.sdmCfg k)) 15 then s.upSdm k fun x => { x with held := some a }
    else s.upSdm k fun x => { x with act := a, wdx := false, held := none, age := 0 }

def execSdmVal (q : Requester) (k : Fin 32) (v : BitVec 32) (s : State) : Host.Outcome State Fault Refusal :=
  .next (sdmWrite s q k v)

/-- A held value becomes active. -/
def sdmApply (x : Sdm) : Sdm :=
  match x.held with
  | some a => { x with act := a, held := none, wdx := false, age := 0 }
  | none => x

/-- A write of SDM_UPD (R567): the channels of the writer's triad in the named groups; E0288 + GRP per group named. -/
def sdmUpdate (s : State) (q : Requester) (mask : BitVec 8) : State :=
  let s := allFin32.foldl (fun s (k : Fin 32) =>
    let w := s.rd (Adr.sdmCfg k)
    if mask.getLsbD (field w 18 16) && bitOf w 15 && ownedBy s q (Adr.sdmCfg k) then s.upSdm k sdmApply else s) s
  pulses s (((List.range 8).filter fun g => mask.getLsbD g).map fun g => 288 + g)

def execSdmUpd (q : Requester) (mask : BitVec 8) (s : State) : Host.Outcome State Fault Refusal :=
  .next (sdmUpdate s q mask)

/-- A write of SDM_k_CFG: a change of EN holds or starts the integrators at 0 (R566). -/
def writeSdmCfg (s : State) (q : Requester) (k : Fin 32) (v : BitVec 32) : State :=
  guarded s true (cfgAllowed s q (Adr.sdmCfg k)) fun s =>
    let old := bitOf (s.rd (Adr.sdmCfg k)) 24
    let s := s.sw32 (Adr.sdmCfg k) v
    if old != bitOf (s.rd (Adr.sdmCfg k)) 24 then s.upSdm k fun x => { x with i1 := 0, i2 := 0 } else s

def execSdmEnable (q : Requester) (k : Fin 32) (v : BitVec 32) (s : State) : Host.Outcome State Fault Refusal :=
  .next (writeSdmCfg s q k v)

/-- WDOG * 10 us in peripheral cycles (R568). -/
def sdmLimit (s : State) (k : Fin 32) : Nat := field (s.rd (Adr.sdmCfg k)) 7 0 * 2000

/-- SDM_WATCHDOG (R568): WDX, E0313, F168, where no new ACT has come for WDOG * 10 us. -/
def execSdmWatchdog (k : Fin 32) (s : State) : Host.Outcome State Fault Refusal :=
  .next (s.powered fun s => if sdmLimit s k != 0 && !s.legacy.sdm[k].wdx && decide (sdmLimit s k ≤ s.legacy.sdm[k].age) then
      report (pulse (s.upSdm k fun x => { x with wdx := true }) 313) 168 0
    else s)

/-- The value a channel modulates (R567, R568, R571). -/
def sdmInUse (s : State) (k : Fin 32) : BitVec 24 :=
  let x := s.legacy.sdm[k]
  if x.wdx || safeLegAt s (Adr.sdmCfg k) then sdmClamp ((s.rd (Adr.sdmSafe k)).setWidth 24) else x.act

/-- One peripheral cycle of a modulator (R565, R566). -/
def sdmCycle (s : State) (k : Fin 32) : Sdm :=
  let x := { s.legacy.sdm[k] with age := s.legacy.sdm[k].age + 1 }
  if bitOf (s.rd (Adr.sdmCfg k)) 24 then
    let f : Int := 8388608
    let y : Int := if 0 ≤ x.i2 then 1 else -1
    let i1 := clampInt (x.i1 + (sdmInUse s k).toInt - y * f) 2147483648
    let i2 := clampInt (x.i2 + i1 - y * f) 2147483648
    { x with i1 := i1, i2 := i2, out := decide (y = 1) }
  else { x with i1 := 0, i2 := 0, out := !x.out }

/-! ### GPIO (R569, R570) -/

/-- A write of GPIO_g_OUT, SET or CLR: the new OUT bits from the old ones. -/
def gpioWrite (s : State) (q : Requester) (g : Fin 8) (f : Word → Word) : State :=
  guarded s true (ownedBy s q (Adr.gpioCfg g)) fun s => s.up (Adr.gpioOut g) fun w => f w &&& 0xFFFF

def gpioPutOut (s : State) (q : Requester) (g : Fin 8) (v : BitVec 32) : State :=
  gpioWrite s q g fun _ => v.setWidth 64

def gpioPutSet (s : State) (q : Requester) (g : Fin 8) (v : BitVec 32) : State :=
  gpioWrite s q g fun w => w ||| v.setWidth 64

def gpioPutClr (s : State) (q : Requester) (g : Fin 8) (v : BitVec 32) : State :=
  gpioWrite s q g fun w => w &&& ~~~ v.setWidth 64

def execGpioOut (q : Requester) (g : Fin 8) (v : BitVec 32) (s : State) : Host.Outcome State Fault Refusal :=
  .next (gpioPutOut s q g v)

def execGpioSet (q : Requester) (g : Fin 8) (v : BitVec 32) (s : State) : Host.Outcome State Fault Refusal :=
  .next (gpioPutSet s q g v)

def execGpioClr (q : Requester) (g : Fin 8) (v : BitVec 32) (s : State) : Host.Outcome State Fault Refusal :=
  .next (gpioPutClr s q g v)

/-- The output pins of group g: its DIR bits (R569). -/
def gpioDir (s : State) (g : Fin 8) : BitVec 16 := (s.rd (Adr.gpioCfg g)).setWidth 16

/-- The levels that group g drives on its output pins (R569, R571). -/
def gpioDriven (s : State) (g : Fin 8) : BitVec 16 :=
  if safeLegAt s (Adr.gpioCfg g) then (s.rd (Adr.gpioSafe g)).setWidth 16 else (s.rd (Adr.gpioOut g)).setWidth 16

/-- GPIO_EDGE (R570): a selected edge of the voted level, which stands at its new level. -/
def gpioStamp (s : State) (p : Fin 128) (rise : Bool) : State :=
  let g : Fin 8 := ⟨p.val / 16, by omega⟩
  let i := p.val % 16
  let sel := bitOf (s.rd (Adr.gpioEdge g)) (if rise then i else 16 + i)
  if sel && s.legacy.gpioIn.getLsbD p.val == rise then
    let x := s.legacy.gpio[g]
    if x.fifo.length < 16 then
      let w := BitVec.ofNat 64 (2 ^ 63 + x.lost.toNat * 2 ^ 62 + rise.toNat * 2 ^ 61 + i * 2 ^ 56 + field (now s) 55 0)
      pulse (s.upGpio g fun x => { fifo := x.fifo ++ [w], lost := false }) (296 + g.val)
    else (s.upGpio g fun x => { x with lost := true }).setBitR (Adr.gpioStat g) 0
  else s

def execGpioEdge (p : Fin 128) (rise : Bool) (s : State) : Host.Outcome State Fault Refusal := .next (s.powered fun s => gpioStamp s p rise)

/-! ### FIFO pops (R548) -/

/-- A 64-bit load of TMR_CHn_CAPF. -/
def popCapture (s : State) (q : Requester) (n : Fin 64) : State × Word :=
  if ownedBy s q (Adr.tmrCfg n) then
    match s.legacy.timers[n].fifo with
    | [] => (s, 0)
    | w :: t => (s.upTimer n fun x => { x with fifo := t }, w)
  else (accErr s false, 0)

/-- A 64-bit load of GPIO_g_TSF. -/
def popStamp (s : State) (q : Requester) (g : Fin 8) : State × Word :=
  if ownedBy s q (Adr.gpioCfg g) then
    match s.legacy.gpio[g].fifo with
    | [] => (s, 0)
    | w :: t => (s.upGpio g fun x => { x with fifo := t }, w)
  else (accErr s true, 0)

def execCaptureFifoPop (q : Requester) (n : Fin 64) (s : State) : Host.Outcome State Fault Refusal :=
  let (s, v) := popCapture s q n
  .next { s with busData := v }

def execTimestampFifoPop (q : Requester) (g : Fin 8) (s : State) : Host.Outcome State Fault Refusal :=
  let (s, v) := popStamp s q g
  .next { s with busData := v }

/-! ### Safe state (R571, R572) -/

/-- Timer levels that stay on the pins of the triads of a mask after a clear. -/
def keepSafeLevels (s : State) (mask : BitVec 6) : Vector Timer 64 :=
  Vector.ofFn fun n : Fin 64 =>
    let x := s.legacy.timers[n]
    if mask.getLsbD (ownerAt s (Adr.tmrCfg n)) then
      let w := s.rd (Adr.tmrPincfg n)
      { x with outA := bitOf w 11, outB := bitOf w 10 }
    else x

/-- A write of 1 to SAFE bits by triad w: only its own bit, outside SAFE HOLD, while it is not fenced (R572). -/
def safeClear (s : State) (w : TriadId) (leg : Bool) (mask : BitVec 6) : State :=
  if mask.getLsbD w.val && modeOf s != 4 && !(s.tri w).fenced then
    let own : BitVec 6 := BitVec.ofNat 6 (2 ^ w.val)
    if leg then { s with legacy := { s.legacy with safeLeg := s.legacy.safeLeg &&& ~~~ own } }
    else { s with legacy := { s.legacy with timers := keepSafeLevels s (own &&& s.legacy.safeTmr),
                                            safeTmr := s.legacy.safeTmr &&& ~~~ own } }
  else s

def execSafeClear (w : TriadId) (leg : Bool) (mask : BitVec 6) (s : State) : Host.Outcome State Fault Refusal :=
  .next (safeClear s w leg mask)

/-- A write of TMR_BSTAT or LEG_BSTAT: SAFE under R572, ACCERR by any writer. -/
def writeBstat (s : State) (q : Requester) (leg : Bool) (v : BitVec 32) : State :=
  let s := match q with
    | .triad t => safeClear s t leg (v.extractLsb' 8 6)
    | _ => s
  if v.getLsbD 0 then s.up (bstatOf leg) fun w => putBit w 0 false else s

/-! ### Wide registers and bus accesses (R46, R547) -/

/-- The place of a requester's latches: triads 0 to 5, DMA engines 6 and 7, Tense for each OWNER 8 to 13. -/
def latchIx : Requester → Fin 14
  | .triad t => ⟨t.val, by omega⟩
  | .dma c => ⟨6 + c.val / 16, by omega⟩
  | .tense t => ⟨8 + t.val, by omega⟩

def blkIx (leg : Bool) : Fin 2 := if leg then 1 else 0

/-- The _LO offset of a wide register, none for an offset that is no half of one; and whether it is the _HI half. -/
def wideAt (leg : Bool) (off : Nat) : Option (Nat × Bool) :=
  let hi := off % 8 == 4
  let lo := off / 8 * 8
  if off % 4 != 0 then none
  else if leg then (if off < 0x400 ∧ (lo % 0x40 = 0x10 ∨ lo % 0x40 = 0x18) then some (lo, hi) else none)
  else if off < 0x2000 ∧ 0x10 ≤ lo % 0x80 ∧ lo % 0x80 ≤ 0x28 then some (lo, hi) else none

def timerOf (off : Nat) : Fin 64 := ⟨off / 0x80 % 64, Nat.mod_lt _ (by decide)⟩
def ssiOf (off : Nat) : Fin 16 := ⟨off / 0x40 % 16, Nat.mod_lt _ (by decide)⟩
def unit8Of (off : Nat) : Fin 8 := ⟨off / 0x40 % 8, Nat.mod_lt _ (by decide)⟩
def sdmOf (off : Nat) : Fin 32 := ⟨off / 0x10 % 32, Nat.mod_lt _ (by decide)⟩

/-- The value of a wide register as read (R551: the value last written). -/
def wideValue (s : State) (leg : Bool) (lo : Nat) : Word :=
  if leg then
    let x := s.legacy.ssi[ssiOf lo]
    if lo % 0x40 = 0x10 then x.pos.setWidth 64 else x.time
  else
    let x := s.legacy.timers[timerOf lo]
    match lo % 0x80 with
    | 0x10 => x.cnt.setWidth 64
    | 0x18 => x.topW.setWidth 64
    | 0x20 => x.cmp0W.setWidth 64
    | _ => x.cmp1W.setWidth 64

/-- A write of a whole wide register of the TMR block (R547, R551, R552). -/
def wideStore (s : State) (lo : Nat) (v : BitVec 48) : State :=
  let n := timerOf lo
  let pld := bitOf (s.rd (Adr.tmrCfg n)) 6
  s.upTimer n fun x =>
    match lo % 0x80 with
    | 0x10 => { x with cnt := v }
    | 0x18 => { x with topW := v, top := if pld then x.top else v }
    | 0x20 => { x with cmp0W := v, cmp0 := if pld then x.cmp0 else v }
    | _ => { x with cmp1W := v, cmp1 := if pld then x.cmp1 else v }

def State.setLatchR (s : State) (leg : Bool) (q : Requester) (v : BitVec 32) : State :=
  { s with legacy := { s.legacy with latchR := vmod s.legacy.latchR (blkIx leg) fun l => vmod l (latchIx q) fun _ => v } }

def State.setLatchW (s : State) (leg : Bool) (q : Requester) (v : BitVec 32) : State :=
  { s with legacy := { s.legacy with latchW := vmod s.legacy.latchW (blkIx leg) fun l => vmod l (latchIx q) fun _ => v } }

/-- A read of either half. -/
def wideRead (s : State) (q : Requester) (leg : Bool) (lo : Nat) (hi : Bool) : State × BitVec 32 :=
  if hi then (s, s.legacy.latchR[blkIx leg][latchIx q])
  else
    let v := wideValue s leg lo
    (s.setLatchR leg q (v.extractLsb' 32 32), v.setWidth 32)

/-- A write of either half, from the OWNER (R546, R547); SSI positions and times are read-only. -/
def wideWrite (s : State) (q : Requester) (leg : Bool) (lo : Nat) (hi : Bool) (v : BitVec 32) : State :=
  let cfg := if leg then Adr.ssiCfg (ssiOf lo) else Adr.tmrCfg (timerOf lo)
  guarded s leg (ownedBy s q cfg) fun s =>
    if hi then
      if leg then s
      else wideStore s lo (BitVec.ofNat 48 (v.toNat * 2 ^ 32 + s.legacy.latchW[blkIx leg][latchIx q].toNat))
    else s.setLatchW leg q v

/-- WIDE_LO_READ (R547). -/
def execWideLoRead (q : Requester) (leg : Bool) (off : BitVec 16) (s : State) : Host.Outcome State Fault Refusal :=
  .next (match wideAt leg off.toNat with
    | some (lo, false) => let (s, v) := wideRead s q leg lo false; { s with busData := v.setWidth 64 }
    | _ => s)

/-- WIDE_LO_WRITE (R547). -/
def execWideLoWrite (q : Requester) (leg : Bool) (off : BitVec 16) (v : BitVec 32) (s : State) :
    Host.Outcome State Fault Refusal :=
  .next (match wideAt leg off.toNat with
    | some (lo, false) => wideWrite s q leg lo false v
    | _ => s)

/-- WIDE_HI_WRITE (R547). -/
def execWideHiWrite (q : Requester) (leg : Bool) (off : BitVec 16) (v : BitVec 32) (s : State) :
    Host.Outcome State Fault Refusal :=
  .next (match wideAt leg off.toNat with
    | some (lo, true) => wideWrite s q leg lo true v
    | _ => s)

/-- TMR_CHn_STAT as read. -/
def tmrStatView (s : State) (n : Fin 64) : Word :=
  let x := s.legacy.timers[n]
  let run := bitOf (s.rd (Adr.tmrCtl n)) 0 && tmrMode s n != 0
  (s.rd (Adr.tmrStat n)) ||| b2w run 7 ||| b2w x.dir 6 ||| BitVec.ofNat 64 x.fifo.length

/-- SSI_m_STAT, UART_u_STAT, SDM_k_ACT, GPIO_g_STAT and the block status as read. -/
def ssiStatView (s : State) (m : Fin 16) : Word := (s.rd (Adr.ssiStat m)) ||| b2w s.legacy.ssi[m].busy 31

def uartStatView (s : State) (u : Fin 8) : Word :=
  let x := s.legacy.uart[u]
  (s.rd (Adr.uartStat u)) ||| BitVec.ofNat 64 (x.tx.length * 2 ^ 24 + x.rx.length * 2 ^ 16 + x.busy.toNat * 2 ^ 4)

def sdmActView (s : State) (k : Fin 32) : Word :=
  let x := s.legacy.sdm[k]
  b2w x.wdx 31 ||| b2w (safeLegAt s (Adr.sdmCfg k)) 30 ||| x.act.setWidth 64

def gpioStatView (s : State) (g : Fin 8) : Word :=
  (s.rd (Adr.gpioStat g)) ||| BitVec.ofNat 64 (s.legacy.gpio[g].fifo.length * 2 ^ 16)

def bstatView (s : State) (leg : Bool) : Word :=
  (s.rd (bstatOf leg)) ||| BitVec.ofNat 64 ((if leg then s.legacy.safeLeg else s.legacy.safeTmr).toNat * 256)

/-- A 32-bit read of the TMR block. -/
def tmrRead32 (s : State) (off : Nat) : State × Word :=
  if off < 0x2000 then
    match off % 0x80 with
    | 0x0C => (s, tmrStatView s (timerOf off))
    | 0x30 => (accErr s false, 0)
    | 0x34 => (accErr s false, 0)
    | _ => (s, s.rd (legBase false + off))
  else if off = 0x3000 then (s, bstatView s false)
  else (s, s.rd (legBase false + off))

/-- The agreed levels of a GPIO group as the requester's triad reads them (R242, R569). -/
def gpioAgreed (s : State) (q : Requester) (g : Fin 8) : Word :=
  let t : TriadId := if h : reqTriad s q < 6 then ⟨reqTriad s q, h⟩ else 0
  ((s.tri t).agreed.extractLsb' (16 * g.val) 16).setWidth 64

/-- A 32-bit read of the LEG block. -/
def legRead32 (s : State) (q : Requester) (off : Nat) : State × Word :=
  if off < 0x400 then
    (s, if off % 0x40 = 0x0C then ssiStatView s (ssiOf off) else s.rd (legBase true + off))
  else if 0x1000 ≤ off ∧ off < 0x1200 then
    match off % 0x40 with
    | 0x08 => let (s, v) := uartPop s (unit8Of off); (s, v.setWidth 64)
    | 0x14 => (s, uartStatView s (unit8Of off))
    | _ => (s, s.rd (legBase true + off))
  else if 0x2000 ≤ off ∧ off < 0x2200 then
    (s, if off % 0x10 = 0x0C then sdmActView s (sdmOf off) else s.rd (legBase true + off))
  else if 0x3000 ≤ off ∧ off < 0x3200 then
    match off % 0x40 with
    | 0x0C => (s, gpioAgreed s q (unit8Of off))
    | 0x1C => (s, gpioStatView s (unit8Of off))
    | 0x20 => (accErr s true, 0)
    | 0x24 => (accErr s true, 0)
    | _ => (s, s.rd (legBase true + off))
  else if off = 0x3800 then (s, bstatView s true)
  else (s, s.rd (legBase true + off))

/-- A 32-bit read of either block (R547, R548). -/
def perRead32 (s : State) (q : Requester) (leg : Bool) (off : Nat) : State × Word :=
  match wideAt leg off with
  | some (lo, hi) => let (s, v) := wideRead s q leg lo hi; (s, v.setWidth 64)
  | none => if leg then legRead32 s q off else tmrRead32 s off

/-- A 64-bit read: a FIFO pop, or two 32-bit reads, the lower first (R46, R548). -/
def perRead64 (s : State) (q : Requester) (leg : Bool) (off : Nat) : State × Word :=
  if !leg && decide (off < 0x2000 ∧ off % 0x80 = 0x30) then popCapture s q (timerOf off)
  else if leg && decide (0x3000 ≤ off ∧ off < 0x3200 ∧ off % 0x40 = 0x20) then popStamp s q (unit8Of off)
  else
    let (s, lo) := perRead32 s q leg off
    let (s, hi) := perRead32 s q leg (off + 4)
    (s, lo ||| (hi <<< 32))

/-- A register stands at an address, or the high half of a 64-bit one. -/
def hasReg (a : Nat) : Bool := (regAt a).isSome || (regAt (a - 4)).any fun r => r.1.wide

/-- UART_u_RXD, TMR_CHn_CAPF and GPIO_g_TSF, whose reads pop a FIFO. -/
def popReg (leg : Bool) (off : Nat) : Bool :=
  if leg then decide (0x1000 ≤ off ∧ off < 0x1200 ∧ off % 0x40 = 0x08)
    || decide (0x3000 ≤ off ∧ off < 0x3200 ∧ (off % 0x40 = 0x20 ∨ off % 0x40 = 0x24))
  else decide (off < 0x2000 ∧ (off % 0x80 = 0x30 ∨ off % 0x80 = 0x34))

/-- A write to a plain register of a unit with configuration register cfg; an offset that holds no register ignores it
(R13). -/
def unitWrite (s : State) (q : Requester) (leg : Bool) (cfg off : Nat) (v : BitVec 32) : State :=
  if hasReg (legBase leg + off) || popReg leg off then guarded s leg (ownedBy s q cfg) fun s => s.sw32 (legBase leg + off) v else s

def unitCfgWrite (s : State) (q : Requester) (leg : Bool) (cfg : Nat) (v : BitVec 32) : State :=
  guarded s leg (cfgAllowed s q cfg) fun s => s.sw32 cfg v

/-- A 32-bit write to the TMR block. A stagger group's configuration has no owner (R546). -/
def tmrWrite32 (s : State) (q : Requester) (off : Nat) (v : BitVec 32) : State :=
  if off < 0x2000 then
    let n := timerOf off
    match off % 0x80 with
    | 0x00 => writeTmrCfg s q n false v
    | 0x04 => writeTmrCfg s q n true v
    | 0x08 => writeTmrCtl s q n v
    | _ => unitWrite s q false (Adr.tmrCfg n) off v
  else if off < 0x2080 then
    if off % 0x10 = 0 then s.sw32 (legBase false + off) v
    else if off % 0x10 = 8 ∧ v.getLsbD 0 then groupStart s q ⟨off / 0x10 % 8, Nat.mod_lt _ (by decide)⟩
    else s
  else if off = 0x3000 then writeBstat s q false v
  else s

/-- A 32-bit write to the LEG block. -/
def legWrite32 (s : State) (q : Requester) (off : Nat) (v : BitVec 32) : State :=
  if off < 0x400 then
    let m := ssiOf off
    match off % 0x40 with
    | 0x00 => unitCfgWrite s q true (Adr.ssiCfg m) v
    | 0x08 => if v.getLsbD 0 then ssiStart s q m else unitWrite s q true (Adr.ssiCfg m) off v
    | _ => unitWrite s q true (Adr.ssiCfg m) off v
  else if 0x1000 ≤ off ∧ off < 0x1200 then
    let u := unit8Of off
    match off % 0x40 with
    | 0x00 => unitCfgWrite s q true (Adr.uartCfg u) v
    | 0x04 => uartPush s q u v
    | 0x0C => if v.getLsbD 0 then uartGo s q u else unitWrite s q true (Adr.uartCfg u) off v
    | _ => unitWrite s q true (Adr.uartCfg u) off v
  else if 0x2000 ≤ off ∧ off < 0x2200 then
    let k := sdmOf off
    match off % 0x10 with
    | 0x00 => writeSdmCfg s q k v
    | 0x04 => sdmWrite s q k v
    | _ => unitWrite s q true (Adr.sdmCfg k) off v
  else if off = 0x2200 then sdmUpdate s q (v.setWidth 8)
  else if 0x3000 ≤ off ∧ off < 0x3200 then
    let g := unit8Of off
    match off % 0x40 with
    | 0x00 => unitCfgWrite s q true (Adr.gpioCfg g) v
    | 0x10 => gpioPutOut s q g v
    | 0x14 => gpioPutSet s q g v
    | 0x18 => gpioPutClr s q g v
    | _ => unitWrite s q true (Adr.gpioCfg g) off v
  else if off = 0x3800 then writeBstat s q true v
  else s

/-- A 32-bit write to either block. -/
def perWrite32 (s : State) (q : Requester) (leg : Bool) (off : Nat) (v : BitVec 32) : State :=
  match wideAt leg off with
  | some (lo, hi) => wideWrite s q leg lo hi v
  | none => if leg then legWrite32 s q off v else tmrWrite32 s q off v

/-- A 64-bit write: two 32-bit writes, the lower first (R46). -/
def perWrite64 (s : State) (q : Requester) (leg : Bool) (off : Nat) (v : Word) : State :=
  perWrite32 (perWrite32 s q leg off (v.setWidth 32)) q leg (off + 4) (v.extractLsb' 32 32)

/-! ### Levels at the pins (R543, R545) -/

/-- The level that a pin of the legacy edge drives, none where its unit does not drive it. In DORMANT every pin is high
impedance (R662, R676). -/
def padLevel (s : State) (driven level : Bool) : Option Bool := if driven && modeOf s != 5 then some level else none

/-- TMR_A and TMR_B: outputs by PINCFG and MODE (R549, R554, R571). -/
def padTmr (s : State) (n : Fin 64) (pinB : Bool) : Option Bool :=
  padLevel s (tmrDrives s n pinB) (if pinB then (timerPins s n).2 else (timerPins s n).1)

def padSsiClk (s : State) (m : Fin 16) : Option Bool := padLevel s true (ssiClk s m)

def padUartTx (s : State) (u : Fin 8) : Option Bool := padLevel s true (uartTx s u)

def padUartDe (s : State) (u : Fin 8) : Option Bool := padLevel s true s.legacy.uart[u].de

def padSdm (s : State) (k : Fin 32) : Option Bool := padLevel s true s.legacy.sdm[k].out

/-- GPIO: an output where its DIR bit is 1 (R569). -/
def padGpio (s : State) (p : Fin 128) : Option Bool :=
  let g : Fin 8 := ⟨p.val / 16, by omega⟩
  padLevel s ((gpioDir s g).getLsbD (p.val % 16)) ((gpioDriven s g).getLsbD (p.val % 16))

/-! ### Timed writes (R410, R558) -/

/-- The registers that take TMR_WRITE and LEG_WRITE actions, by offset (R558). -/
def timedWritable (leg : Bool) (off : Nat) : Bool :=
  if leg then
    decide (off < 0x400 ∧ off % 0x40 = 0x08) || decide (0x1000 ≤ off ∧ off < 0x1200 ∧ off % 0x40 = 0x0C)
    || decide (0x2000 ≤ off ∧ off < 0x2200 ∧ off % 0x10 = 0x04) || decide (off = 0x2200)
    || decide (0x3000 ≤ off ∧ off < 0x3200 ∧ (off % 0x40 = 0x10 ∨ off % 0x40 = 0x14 ∨ off % 0x40 = 0x18))
  else
    decide (off < 0x2000 ∧ off % 4 = 0 ∧ (off % 0x80 = 0x08 ∨ (0x18 ≤ off % 0x80 ∧ off % 0x80 ≤ 0x2C)))
    || decide (0x2000 ≤ off ∧ off < 0x2080 ∧ off % 0x10 = 0x08)

end Sys2Proof.Machine
end

