-- ==== Sys2Proof/Machine/Flags.lean ====
section
/-! DEFINITION. PSW fields (02, PSW) and the flag computations: FFLAGS with their traps (R78), the overflow of ADDV and
SUBV (R74), the comparisons of the conditional branches (R131). -/

namespace Sys2Proof.Machine

/-! ### PSW fields -/

def pswPriv (p : Word) : Nat := field p 1 0
def pswIE (p : Word) : Bool := bitOf p 2
def pswIPL (p : Word) : Nat := field p 7 4
def pswBank (p : Word) : Nat := field p 9 8
def pswRP (p : Word) : Bool := bitOf p 10
def pswNI (p : Word) : Bool := bitOf p 11
def pswFlags (p : Word) : Nat := field p 20 16
def pswRM (p : Word) : Nat := field p 23 21
def pswFEN (p : Word) : Nat := field p 28 24

/-- The fields that MTS writes at every level: FEN, RM and FFLAGS; a reserved RM stays (R12, R55, R56). -/
def pswFpFields (old new : Word) : Word :=
  let w := setField old 28 24 (pswFEN new)
  let w := if pswRM new < 4 then setField w 23 21 (pswRM new) else w
  setField w 20 16 (pswFlags new)

/-- An MTS to the current PSW at S or M level (R56). -/
def pswMts (old new : Word) : Word :=
  putBit (setField (pswFpFields old new) 7 4 (pswIPL new)) 2 (pswIE new)

/-- Whether an MTS to PSW would change a field other than FEN, RM and FFLAGS (R55). -/
def pswOtherChange (old new : Word) : Bool :=
  pswPriv old != pswPriv new || pswIE old != pswIE new || pswIPL old != pswIPL new || pswBank old != pswBank new
  || pswRP old != pswRP new || pswNI old != pswNI new

/-- A landed FP result sets its flags (R78). -/
def addFlags (p : Word) (fl : Nat) : Word := setField p 20 16 (pswFlags p ||| fl)

/-- Whether a flag set by a result has its trap enabled (R78). -/
def fpTraps (p : Word) (fl : Nat) : Bool := (fl &&& pswFEN p) != 0

/-- Signed overflow of a sum and of a difference (R74). -/
def addOverflows (a b : Word) : Bool :=
  let t := a.toInt + b.toInt
  decide (t < -(2 ^ 63 : Int) ∨ (2 ^ 63 : Int) ≤ t)

def subOverflows (a b : Word) : Bool :=
  let t := a.toInt - b.toInt
  decide (t < -(2 ^ 63 : Int) ∨ (2 ^ 63 : Int) ≤ t)

/-- The comparison of a conditional branch (R131). -/
def condHolds (c : Cond) (a b : Word) : Bool :=
  match c with
  | .beq => a == b
  | .bne => a != b
  | .blt => a.slt b
  | .bge => !a.slt b
  | .bltu => a.ult b
  | .bgeu => !a.ult b

end Sys2Proof.Machine
end

