-- ==== Sys2Proof/Machine/Float.lean ====
section
/-! DEFINITION. Floating-point results and flags (R76 to R78, R121 to R124): every operation is computed exactly on
integers and rounded once by PSW.RM. -/

namespace Sys2Proof.Machine

/-- A binary format: exponent and fraction bits. -/
structure FpFmt where
  eb : Nat
  mb : Nat

def binary64 : FpFmt := ⟨11, 52⟩
def binary32 : FpFmt := ⟨8, 23⟩
def fmtOf (single : Bool) : FpFmt := if single then binary32 else binary64

/-- A value: NaN (signaling or quiet), infinity, or (-1)^neg * m * 2^e. -/
inductive FVal where
  | nan (sig : Bool)
  | inf (neg : Bool)
  | fin (neg : Bool) (m : Nat) (e : Int)
deriving DecidableEq, Repr

/-- A result with its FFLAGS: NV 16, DZ 8, OF 4, UF 2, NX 1 (PSW[20:16]). -/
structure FRes where
  bits : Nat
  flags : Nat
deriving DecidableEq, Repr

def FpFmt.bias (f : FpFmt) : Nat := 2 ^ (f.eb - 1) - 1
def FpFmt.expMax (f : FpFmt) : Nat := 2 ^ f.eb - 1
/-- The canonical quiet NaN (R77). -/
def FpFmt.qnan (f : FpFmt) : Nat := f.expMax * 2 ^ f.mb + 2 ^ (f.mb - 1)
def FpFmt.signBit (f : FpFmt) (neg : Bool) : Nat := if neg then 2 ^ (f.eb + f.mb) else 0
def FpFmt.infBits (f : FpFmt) (neg : Bool) : Nat := f.signBit neg + f.expMax * 2 ^ f.mb
def FpFmt.maxBits (f : FpFmt) (neg : Bool) : Nat := f.signBit neg + f.expMax * 2 ^ f.mb - 1
/-- Exponent of the least bit of a subnormal. -/
def FpFmt.minExp (f : FpFmt) : Int := 1 - (f.bias : Int) - f.mb

/-- The operand's value; binary32 reads bits [31:0] (R76). -/
def FpFmt.unpack (f : FpFmt) (w : Nat) : FVal :=
  let frac := w % 2 ^ f.mb
  let ex := (w / 2 ^ f.mb) % 2 ^ f.eb
  let neg := (w / 2 ^ (f.eb + f.mb)) % 2 == 1
  if ex = f.expMax then
    if frac = 0 then .inf neg else .nan (frac < 2 ^ (f.mb - 1))
  else if ex = 0 then .fin neg frac f.minExp
  else .fin neg (2 ^ f.mb + frac) (f.minExp + (ex : Int) - 1)

/-- Whether rounding raises the magnitude: lost part r of a unit 2^k, last kept bit odd (PSW.RM: 0 nearest even,
1 toward zero, 2 down, 3 up; a reserved mode as it likes, log 22). -/
def roundsUp (rm : Nat) (neg odd : Bool) (r k : Nat) : Bool :=
  match rm with
  | 0 => decide (2 ^ k < 2 * r) || (decide (2 * r = 2 ^ k) && odd)
  | 1 => false
  | 2 => neg && decide (r ≠ 0)
  | 3 => !neg && decide (r ≠ 0)
  | _ => decide (r ≠ 0) && Config.reservedRoundsUp rm neg odd r k

/-- m * 2^e brought to unit 2^u: the rounded count of units and whether it is inexact. -/
def roundAt (rm : Nat) (neg : Bool) (m : Nat) (e u : Int) : Nat × Bool :=
  if u ≤ e then (m * 2 ^ (e - u).toNat, false)
  else
    let k := (u - e).toNat
    let q := m / 2 ^ k
    let r := m % 2 ^ k
    (if roundsUp rm neg (q % 2 == 1) r k then q + 1 else q, decide (r ≠ 0))

/-- The format's nearest value by the rounding mode, with OF, UF and NX (R78). -/
def FpFmt.pack (f : FpFmt) (rm : Nat) (neg : Bool) (m : Nat) (e : Int) : FRes :=
  if m = 0 then ⟨f.signBit neg, 0⟩
  else
    let top : Int := e + (Nat.log2 m : Int)
    let emin : Int := f.minExp + f.mb
    let unit : Int := if top < emin then f.minExp else top - f.mb
    let (q, nx) := roundAt rm neg m e unit
    let tinyAfter := decide (top < emin) && decide ((roundAt rm neg m e (top - f.mb)).1 * 2 ^ (f.mb + 1) <
      2 ^ (2 * f.mb + 2) ∨ top + 1 < emin)
    let tiny := if Config.tinyBeforeRounding then decide (top < emin) else tinyAfter
    let field : Int := if q < 2 ^ f.mb then 0 else unit - f.minExp + 1
    let bits : Nat := if q < 2 ^ f.mb then q else (field.toNat - 1) * 2 ^ f.mb + q
    if f.expMax * 2 ^ f.mb ≤ bits then
      let toInf := match rm with
        | 0 => true | 1 => false | 2 => neg | 3 => !neg
        | _ => Config.reservedToInf rm neg
      ⟨if toInf then f.infBits neg else f.maxBits neg, 4 + 1⟩
    else ⟨f.signBit neg + bits, (if nx && tiny then 2 else 0) + nx.toNat⟩

/-- NV for a signaling NaN among the operands (log 22). -/
def nanFlags (vs : List FVal) : Nat :=
  if vs.any fun v => v == .nan true then (if Config.snanRaisesNv then 16 else 0) else 0

def isNan : FVal → Bool
  | .nan _ => true
  | _ => false

/-- The sign of an exact zero sum: negative only when rounding down, or when both parts are negative. -/
def zeroSign (rm : Nat) (a b : Bool) : Bool := if a = b then a else if rm < 4 then rm == 2 else Config.reservedZeroNeg rm

/-- The sum of two finite values, rounded once. -/
def finAdd (f : FpFmt) (rm : Nat) (n1 : Bool) (m1 : Nat) (e1 : Int) (n2 : Bool) (m2 : Nat) (e2 : Int) : FRes :=
  let e := if e1 ≤ e2 then e1 else e2
  let x : Int := (m1 * 2 ^ (e1 - e).toNat : Nat)
  let y : Int := (m2 * 2 ^ (e2 - e).toNat : Nat)
  let t := (if n1 then -x else x) + (if n2 then -y else y)
  if t = 0 then ⟨f.signBit (zeroSign rm n1 n2), 0⟩ else f.pack rm (t < 0) t.natAbs e

def fAdd (f : FpFmt) (rm : Nat) (a b : FVal) : FRes :=
  match a, b with
  | .inf x, .inf y => if x = y then ⟨f.infBits x, 0⟩ else ⟨f.qnan, 16⟩
  | .inf x, .fin .. => ⟨f.infBits x, 0⟩
  | .fin .., .inf y => ⟨f.infBits y, 0⟩
  | .fin n1 m1 e1, .fin n2 m2 e2 => finAdd f rm n1 m1 e1 n2 m2 e2
  | _, _ => ⟨f.qnan, nanFlags [a, b]⟩

def fNegV : FVal → FVal
  | .inf x => .inf (!x)
  | .fin n m e => .fin (!n) m e
  | v => v

/-- The exact product, none for infinity times zero. -/
def mulV (a b : FVal) : Option FVal :=
  match a, b with
  | .inf x, .inf y => some (.inf (x != y))
  | .inf x, .fin n m _ => if m = 0 then none else some (.inf (x != n))
  | .fin n m _, .inf y => if m = 0 then none else some (.inf (n != y))
  | .fin n1 m1 e1, .fin n2 m2 e2 => some (.fin (n1 != n2) (m1 * m2) (e1 + e2))
  | _, _ => some (.nan false)

def fMul (f : FpFmt) (rm : Nat) (a b : FVal) : FRes :=
  if isNan a || isNan b then ⟨f.qnan, nanFlags [a, b]⟩
  else
    match mulV a b with
    | none => ⟨f.qnan, 16⟩
    | some (.inf n) => ⟨f.infBits n, 0⟩
    | some (.fin n m e) => f.pack rm n m e
    | some (.nan _) => ⟨f.qnan, 0⟩

/-- a * b + c with one rounding (R121). -/
def fMa (f : FpFmt) (rm : Nat) (a b c : FVal) : FRes :=
  if isNan a || isNan b then ⟨f.qnan, nanFlags [a, b, c]⟩
  else
    match mulV a b with
    | none =>
      if isNan c then ⟨f.qnan, if Config.fmaInfZeroNanNv then 16 else nanFlags [c]⟩ else ⟨f.qnan, 16⟩
    | some p => if isNan c then ⟨f.qnan, nanFlags [c]⟩ else fAdd f rm p c

def fDiv (f : FpFmt) (rm : Nat) (a b : FVal) : FRes :=
  match a, b with
  | .inf _, .inf _ => ⟨f.qnan, 16⟩
  | .inf x, .fin n _ _ => ⟨f.infBits (x != n), 0⟩
  | .fin n _ _, .inf y => ⟨f.signBit (n != y), 0⟩
  | .fin n1 m1 e1, .fin n2 m2 e2 =>
    let neg := n1 != n2
    if m2 = 0 then (if m1 = 0 then ⟨f.qnan, 16⟩ else ⟨f.infBits neg, 8⟩)
    else if m1 = 0 then ⟨f.signBit neg, 0⟩
    else
      let k := f.mb + 3 + Nat.log2 m2
      let q := m1 * 2 ^ k / m2
      let sticky := if m1 * 2 ^ k % m2 = 0 then 0 else 1
      f.pack rm neg (2 * q + sticky) (e1 - e2 - k - 1)
  | _, _ => ⟨f.qnan, nanFlags [a, b]⟩

/-- The integer square root, bit by bit from bit n down. -/
def isqrt : Nat → Nat → Nat → Nat
  | 0, _, r => r
  | n + 1, x, r =>
    let r' := r + 2 ^ n
    isqrt n x (if r' * r' ≤ x then r' else r)

def fSqrt (f : FpFmt) (rm : Nat) (a : FVal) : FRes :=
  match a with
  | .nan _ => ⟨f.qnan, nanFlags [a]⟩
  | .inf n => if n then ⟨f.qnan, 16⟩ else ⟨f.infBits false, 0⟩
  | .fin n m e =>
    if m = 0 then ⟨f.signBit n, 0⟩
    else if n then ⟨f.qnan, 16⟩
    else
      let k := 2 * (f.mb + 3) + (if e % 2 = 0 then 0 else 1)
      let x := m * 2 ^ k
      let r := isqrt (Nat.log2 x / 2 + 1) x 0
      f.pack rm false (2 * r + if r * r = x then 0 else 1) ((e - k) / 2 - 1)

/-- a < b and a = b of two values that are no NaN. -/
def fLt (a b : FVal) : Bool :=
  match a, b with
  | .inf x, .inf y => x && !y
  | .inf x, .fin .. => x
  | .fin .., .inf y => !y
  | .fin n1 m1 e1, .fin n2 m2 e2 =>
    let e := if e1 ≤ e2 then e1 else e2
    let x : Int := (m1 * 2 ^ (e1 - e).toNat : Nat)
    let y : Int := (m2 * 2 ^ (e2 - e).toNat : Nat)
    decide ((if n1 then -x else x) < (if n2 then -y else y))
  | _, _ => false

def fEq (a b : FVal) : Bool := !isNan a && !isNan b && !fLt a b && !fLt b a

/-- Comparisons (R123). -/
def fCmp (fn : FpFn) (a b : FVal) : FRes :=
  let nan := isNan a || isNan b
  match fn with
  | .fceq => ⟨(fEq a b).toNat, nanFlags [a, b]⟩
  | .fclt => if nan then ⟨0, 16⟩ else ⟨(fLt a b).toNat, 0⟩
  | _ => if nan then ⟨0, 16⟩ else ⟨(fLt a b || fEq a b).toNat, 0⟩

/-- FMIN and FMAX on operand bits (R123): -0 is smaller than +0; the operand's bits are delivered. -/
def fMinMax (f : FpFmt) (max : Bool) (x y : Nat) : FRes :=
  let a := f.unpack x
  let b := f.unpack y
  let fl := nanFlags [a, b]
  if isNan a && isNan b then ⟨f.qnan, fl⟩
  else if isNan a then ⟨y, fl⟩
  else if isNan b then ⟨x, fl⟩
  else
    let negX := (x / 2 ^ (f.eb + f.mb)) % 2 == 1
    let less := fLt a b || (fEq a b && negX)
    ⟨if less != max then x else y, fl⟩

/-- FCVTL (R122): the rounded signed 64-bit integer as its 64 bits. -/
def fToInt (rm : Nat) (a : FVal) : FRes :=
  let lim : Nat := 2 ^ 63
  match a with
  | .nan _ => ⟨0, 16⟩
  | .inf n => ⟨if n then lim else lim - 1, 16⟩
  | .fin n m e =>
    let (q, nx) := roundAt rm n m e 0
    if n then (if lim < q then ⟨lim, 16⟩ else ⟨(2 ^ 64 - q) % 2 ^ 64, nx.toNat⟩)
    else (if lim ≤ q then ⟨lim - 1, 16⟩ else ⟨q, nx.toNat⟩)

/-- FCVTFL: a signed 64-bit integer into the format. -/
def fFromInt (f : FpFmt) (rm : Nat) (w : Nat) : FRes :=
  let i := signed 64 w
  f.pack rm (i < 0) i.natAbs 0

/-- FCVTF: from the other format into the format. -/
def fConv (f : FpFmt) (rm : Nat) (a : FVal) : FRes :=
  match a with
  | .nan _ => ⟨f.qnan, nanFlags [a]⟩
  | .inf n => ⟨f.infBits n, 0⟩
  | .fin n m e => f.pack rm n m e

/-- The result of a floating-point function on register contents x, y, z (f registers, or g for FCVTFL and FMVFG), as
64 bits with its flags (R76, R121 to R124). -/
def fpResult (fn : FpFn) (single : Bool) (rm : Nat) (x y z : Word) : FRes :=
  let f := fmtOf single
  let cut (w : Word) : Nat := if single then w.toNat % 2 ^ 32 else w.toNat
  let a := f.unpack (cut x)
  let b := f.unpack (cut y)
  let c := f.unpack (cut z)
  let signPos := 2 ^ (f.eb + f.mb)
  match fn with
  | .fadd => fAdd f rm a b
  | .fsub => fAdd f rm a (fNegV b)
  | .fmul => fMul f rm a b
  | .fdiv => fDiv f rm a b
  | .fsqrt => fSqrt f rm a
  | .fma => fMa f rm a b c
  | .fms => fMa f rm a b (fNegV c)
  | .fmin => fMinMax f false (cut x) (cut y)
  | .fmax => fMinMax f true (cut x) (cut y)
  | .fneg => ⟨(cut x + signPos) % (2 * signPos), 0⟩
  | .fabs => ⟨cut x % signPos, 0⟩
  | .fmv => ⟨cut x, 0⟩
  | .fceq => fCmp fn a b
  | .fclt => fCmp fn a b
  | .fcle => fCmp fn a b
  | .fcvtl => fToInt rm a
  | .fcvtfl => fFromInt f rm x.toNat
  | .fcvtf => let g := fmtOf (!single); fConv f rm (g.unpack (if single then x.toNat else x.toNat % 2 ^ 32))
  | .fmvgf => ⟨cut x, 0⟩
  | .fmvfg => ⟨cut x, 0⟩

end Sys2Proof.Machine
end

