-- ==== Sys2Proof/Machine/Operands.lean ====
section
/-! DEFINITION. Operands of Witik instructions: registers as read at issue (R52, R63, R68), addresses (R127, R130),
access sizes (R126), and the results of the register instructions (R71 to R74, R118 to R125). -/

namespace Sys2Proof.Machine

/-! ### Registers of a lane -/

/-- The bank in use. -/
def LaneCore.bank (c : LaneCore) : Bank := c.banks[c.cur]

def LaneCore.setBank (c : LaneCore) (b : Fin 4) (f : Bank → Bank) : LaneCore := { c with banks := vmod c.banks b f }

def LaneCore.setCur (c : LaneCore) (f : Bank → Bank) : LaneCore := c.setBank c.cur f

/-- A bank's g register; g0 reads zero (R52). -/
def Bank.rg (b : Bank) (r : Reg) : Word := if r = 0 then 0 else b.g[r.toNat]

/-- A bank's g register written; g0 discards (R52). -/
def Bank.wg (b : Bank) (r : Reg) (v : Word) : Bank := if r = 0 then b else { b with g := b.g.set r.toNat v }

def LaneCore.rg (c : LaneCore) (r : Reg) : Word := c.bank.rg r
def LaneCore.rf (c : LaneCore) (r : Reg) : Word := c.f[r.toNat]
def LaneCore.rp (c : LaneCore) (r : BitVec 2) : BitVec 128 := c.p[r.toNat]
def LaneCore.psw (c : LaneCore) : Word := c.bank.psw
def LaneCore.pc (c : LaneCore) : Word := c.bank.pc
def LaneCore.priv (c : LaneCore) : Nat := pswPriv c.psw

/-! ### Integer results (R118, R125) -/

def aluResult (fn : AluFn) (a b : Word) : Word :=
  match fn with
  | .add => a + b
  | .sub => a - b
  | .addv => a + b
  | .subv => a - b
  | .and => a &&& b
  | .or => a ||| b
  | .xor => a ^^^ b
  | .andn => a &&& ~~~ b
  | .sll => a <<< (b.toNat % 64)
  | .srl => a >>> (b.toNat % 64)
  | .sra => a.sshiftRight (b.toNat % 64)
  | .slt => if a.slt b then 1 else 0
  | .sltu => if a.ult b then 1 else 0
  | .min => if a.slt b then a else b
  | .max => if a.slt b then b else a
  | .minu => if a.ult b then a else b
  | .maxu => if a.ult b then b else a
  | .sxw => (a.setWidth 32).signExtend 64
  | .zxw => (a.setWidth 32).setWidth 64

def immResult (fn : ImmFn) (a : Word) (i : BitVec 16) : Word :=
  let sx : Word := i.signExtend 64
  let zx : Word := i.setWidth 64
  match fn with
  | .addi => a + sx
  | .andi => a &&& zx
  | .ori => a ||| zx
  | .xori => a ^^^ zx
  | .slti => if a.slt sx then 1 else 0
  | .sltiu => if a.ult sx then 1 else 0
  | .slli => a <<< (i.toNat % 64)
  | .srli => a >>> (i.toNat % 64)
  | .srai => a.sshiftRight (i.toNat % 64)
  | .lui => sx <<< 16

/-- Products and accumulations, modulo 2^128 (R71). -/
def mulResult (fn : MulFn) (a b : Word) (acc : BitVec 128) : BitVec 128 :=
  let s : BitVec 128 := a.signExtend 128 * b.signExtend 128
  let u : BitVec 128 := a.setWidth 128 * b.setWidth 128
  match fn with
  | .mul => s
  | .mulu => u
  | .mac => acc + s
  | .macu => acc + u

/-- Quotient and remainder, truncated toward zero, the remainder with the dividend's sign (R72, R73, R120); the divisor
is not zero. -/
def divResult (sgn : Bool) (a b : Word) : Word × Word :=
  if sgn then (a.sdiv b, a.srem b) else (a / b, a % b)

/-! ### Loads and stores (R126, R127) -/

/-- log2 of the access size. -/
def memSize : MemFn → Nat
  | .ldb => 0 | .ldbu => 0 | .stb => 0
  | .ldh => 1 | .ldhu => 1 | .sth => 1
  | .ldw => 2 | .ldwu => 2 | .stw => 2 | .flw => 2 | .fsw => 2
  | .ld => 3 | .st => 3 | .fld => 3 | .fsd => 3

def memIsLoad : MemFn → Bool
  | .ldb => true | .ldbu => true | .ldh => true | .ldhu => true | .ldw => true | .ldwu => true | .ld => true
  | .flw => true | .fld => true
  | _ => false

/-- A load's register value from the octets it read (R126). -/
def loadExtend (fn : MemFn) (v : Nat) : Word :=
  match fn with
  | .ldb => (BitVec.ofNat 8 v).signExtend 64
  | .ldh => (BitVec.ofNat 16 v).signExtend 64
  | .ldw => (BitVec.ofNat 32 v).signExtend 64
  | .ldbu => BitVec.ofNat 64 (v % 2 ^ 8)
  | .ldhu => BitVec.ofNat 64 (v % 2 ^ 16)
  | .ldwu => BitVec.ofNat 64 (v % 2 ^ 32)
  | .flw => BitVec.ofNat 64 (v % 2 ^ 32)
  | _ => BitVec.ofNat 64 v

def memDest (fn : MemFn) (rt : Reg) : Dest :=
  match fn with
  | .flw => .f rt
  | .fld => .f rt
  | _ => .g rt

/-- The data a store takes at issue, as many octets as its size (R126). -/
def storeData (c : LaneCore) (fn : MemFn) (rt : Reg) : Word :=
  let v := match fn with | .fsw => c.rf rt | .fsd => c.rf rt | _ => c.rg rt
  BitVec.ofNat 64 (v.toNat % 2 ^ (8 * 2 ^ memSize fn))

/-- The access address: base, or base plus offset (R127). -/
def memAddr (c : LaneCore) (rb : Reg) (post : Bool) (off : BitVec 12) : Word :=
  if post then c.rg rb else c.rg rb + off.signExtend 64

/-- The base after a post-increment (R127). -/
def memBase (c : LaneCore) (rb : Reg) (off : BitVec 12) : Word := c.rg rb + off.signExtend 64

/-! ### Branch targets (R130) -/

def wordOff12 (off : BitVec 12) : Word := off.signExtend 64 <<< 2
def wordOff25 (off : BitVec 25) : Word := off.signExtend 64 <<< 2
def regTarget (v : Word) : Word := v &&& ~~~ (3 : Word)

/-- Distances (R66). -/
def fpDistance : FpFn → Nat
  | .fdiv => 16
  | .fsqrt => 22
  | _ => 4

/-- Whether an FP function writes a g register (R121). -/
def fpToG : FpFn → Bool
  | .fceq => true | .fclt => true | .fcle => true | .fcvtl => true | .fmvgf => true
  | _ => false

/-- Whether its source is a g register (R121). -/
def fpFromG : FpFn → Bool
  | .fcvtfl => true | .fmvfg => true
  | _ => false

end Sys2Proof.Machine
end

