-- ==== Sys2Proof/Machine/Triads.lean ====
section
/-! DEFINITION. What a triad's lanes add up to: its mode, its lanes in use, its leading lane, and the CMP registers as
read (R250 to R254, R284); the event counters (R690 to R692). -/

namespace Sys2Proof.Machine

/-- Codes of the lane states (R251). -/
def laneCode : LaneState → Nat
  | .active => 0 | .spareTest => 1 | .spareReady => 2 | .suspect => 3 | .retired => 4

def Triad.act (x : Triad) (l : LaneId) : Bool := x.lanes[l].state == .active

/-- The ACTIVE lanes, ascending. -/
def Triad.actives (x : Triad) : List LaneId := allLanes.filter x.act

/-- The mode code (R253): 0 VOTE3, 1 PAIR+SPARE, 2 PAIR, 3 FENCED. Two lanes in use are PAIR where the third is
RETIRED. -/
def Triad.mode (x : Triad) : Nat :=
  if x.fenced then 3
  else if x.actives.length = 3 then 0
  else if allLanes.any fun l => x.lanes[l].state == .retired then 2
  else 1

/-- The lane that is not ACTIVE, 3 for none (XLANE). -/
def Triad.xlane (x : Triad) : Nat :=
  match allLanes.find? fun l => !x.act l with
  | some l => l.val
  | none => 3

/-- The lowest ACTIVE lane, which leads (R195). -/
def Triad.lead (x : Triad) : LaneId := (x.actives.head?).getD 0

/-- The triad issues: released, not fenced, not halted (R284, R636, R697). -/
def Triad.runs (x : Triad) : Bool := x.released && !x.fenced && !x.halted

/-! ### Counters (R690 to R694) -/

/-- Counter n of triad t rises by k, its overflow bit set on a wrap (R690). -/
def bumpCounter (s : State) (t : TriadId) (n k : Nat) : State :=
  let v := (s.rd (Adr.trcCnt t.val n)).toNat + k
  let s := s.wr (Adr.trcCnt t.val n) (BitVec.ofNat 64 v)
  if 2 ^ 64 ≤ v then s.setBitR (Adr.trcOvf t.val) n else s

/-- Whether a TRC_SELt_n value counts event `code` at a privilege level (R690). -/
def selCounts (w : Word) (code priv : Nat) : Bool :=
  bitOf w 31 && decide (field w 6 0 = code) && bitOf w (if priv = 3 then 10 else 8 + priv)

/-- k events of one code at one level, counted at once (R691); a halted triad's counters hold (R695). -/
def countAt (s : State) (t : TriadId) (code priv k : Nat) : State :=
  if (s.tri t).halted then s
  else (List.range 32).foldl (fun s n =>
    if selCounts (s.rd (Adr.trcSel t.val n)) code priv then bumpCounter s t n k else s) s

/-- The privilege level of the leading lane. -/
def Triad.priv (x : Triad) : Nat := x.lanes[x.lead].core.priv

/-- k events of class L, counted as they happen on the leading lane (R691). -/
def countL (s : State) (t : TriadId) (code k : Nat) : State := countAt s t code (s.tri t).priv k

end Sys2Proof.Machine
end

