-- ==== Sys2Proof/Machine/Memory.lean ====
section
/-! DEFINITION. What a read or a write does at an SRAM bank or the DDR controller: power states, ECC, aliases, the
retirement of pages (R343 to R368, R378 to R387), and the commands of these two families. -/

namespace Sys2Proof.Machine

/-! ### SRAM -/

/-- An access reached a bank that is not On (R362). -/
def lateAccess (s : State) : State := report (pulse (s.setBitR Adr.srbPstat 48) 884) 98 0

/-- The 8-byte words an access of n octets covers, ascending. -/
def wordsOf (a n : Nat) : List Nat := (List.range ((a + n + 7) / 8 - a / 8)).map fun i => (a / 8 + i) * 8

/-- Octets of SRAM as a read delivers them: zero from an uncorrectable word and from a bank that is not On (R346,
R362). -/
def sramOctets (s : State) (a n : Nat) : List Byte :=
  (List.range n).map fun i => if !bankOn s (a + i) || sramError s ((a + i) / 8 * 8) == some true then 0 else rdByte s (a + i)

/-- The accesses that n octets make: each within one 64-byte row (R342). -/
def rowPieces : Nat → Nat → Nat → List (Nat × Nat)
  | 0, _, _ => []
  | k + 1, a, n => if n = 0 then [] else let m := Nat.min n (64 - a % 64); (a, m) :: rowPieces k (a + m) (n - m)

def rowsOf (a n : Nat) : List (Nat × Nat) := rowPieces (n / 64 + 2) a n

/-- A read within one row (R345, R346, R362). -/
def rowRead (s : State) (a n : Nat) : State := if bankOn s a then (wordsOf a n).foldl sramTouch s else lateAccess s

/-- Octets with enables from address a laid out over whole words. -/
def padWord (a : Nat) (bs : List (Byte × Bool)) : List (Byte × Bool) :=
  let front := List.replicate (a % 8) ((0 : Byte), false)
  let l := front ++ bs
  l ++ List.replicate ((8 - l.length % 8) % 8) (0, false)

def sramWords (s : State) (w : Nat) (kind : BitVec 2) : Nat → List (Byte × Bool) → State
  | 0, _ => s
  | n + 1, bs =>
    let chunk := bs.take 8
    let s := if chunk.any fun p => p.2 then sramWriteWord s w kind chunk else s
    sramWords s (w + 8) kind n (bs.drop 8)

/-- A write within one row (R347, R352, R362); one that enables no octet is none. -/
def rowWrite (s : State) (a : Nat) (kind : BitVec 2) (bs : List (Byte × Bool)) : State :=
  if !bs.any fun p => p.2 then s
  else if bankOn s a then
    let l := padWord a bs
    sramWords s (a / 8 * 8) kind (l.length / 8) l
  else lateAccess s

/-- The alias kind of a physical address (R352). -/
def aliasKind (pa : Nat) : BitVec 2 :=
  if setBase ≤ pa ∧ pa < setBase + sramSize then 1 else if clearBase ≤ pa ∧ pa < clearBase + sramSize then 2 else 0

/-- The secure region: a request by any master but the secure-store engine has no effect (R366). -/
def inSecure (a : Nat) : Bool := decide (0x1600000 ≤ a ∧ a < 0x1640000)

/-- The device table of the cyclic exchange (R449). -/
def devTable : Nat := 0x1320000

/-- A store that writes EN of a device-table entry to 1 clears its IV; a store that the bank did not perform clears
nothing (R347, R362, R451). -/
def deviceHook (s : State) (a : Nat) (bs : List (Byte × Bool)) : State :=
  if a + bs.length ≤ devTable ∨ devTable + 0x10000 ≤ a then s
  else
    (List.range bs.length).foldl (fun s i =>
      let b := a + i
      if devTable ≤ b ∧ b < devTable + 0x10000 ∧ b % 16 = 3 ∧ (bs.getD i (0, false)).2 = true ∧ bankOn s b = true
          ∧ sramError s (b / 8 * 8) ≠ some true ∧ 128 ≤ (rdByte s b).toNat then
        rowWrite s (b + 12) 2 [(0x80, true)]
      else s) s

/-- A write to SRAM as its rows take it, a device-table entry watched. -/
def rowsWrite (s : State) (a : Nat) (kind : BitVec 2) (bs : List (Byte × Bool)) : State :=
  deviceHook ((rowsOf a bs.length).foldl (fun (p : State × List (Byte × Bool)) r =>
    (rowWrite p.1 r.1 kind (p.2.take r.2), p.2.drop r.2)) (s, bs)).1 a bs

/-! ### The ports of a bank (R339, R341, R348 to R350) -/

/-- The owner-port master of bank b (R339). -/
def ownerOf (b : Nat) : Master :=
  if h : b < 6 then .triad ⟨b, h⟩ else match b with | 8 => .tense | 10 => .host | 11 => .store | _ => .frame

/-- A triad's released write has completed: it is in flight no more, and no lane forwards its copy (R222, R224). -/
def Triad.landed (x : Triad) (id : Nat) : Triad :=
  { x with
    flying := x.flying.filter fun g => g.id != id
    lanes := x.lanes.map fun (l : Lane) => { l with held := l.held.filter fun g => g.id != id } }

/-- The writer of a kept write has its response (R349). -/
def keptDone (s : State) (w : KeptFor) : State :=
  match w with
  | .gate t id => s.setTriad t fun x => x.landed id
  | .seg c id => { s with chans := vmod s.chans c fun k =>
      { k with flying := k.flying.map fun g => if g.id = id then { g with kept := g.kept - 1 } else g } }

/-- The bank performs the write it kept (R348 to R350). -/
def collideRetry (s : State) (b : Fin 12) : State :=
  match s.sram.collided[b] with
  | none => s
  | some k =>
    let s := { s with sram := { s.sram with collided := s.sram.collided.set b.val none b.isLt } }
    keptDone (rowsWrite s (plainAddr k.pa) (aliasKind k.pa) k.octets) k.writer

def execCollideRetry (bank : Fin 12) (s : State) : Host.Outcome State Fault Refusal := .next (collideRetry s bank)

/-- The write that the bank of a plain address keeps, where it holds back an access by master m: every access of the
fabric port, and a write of the owner port to the same row (R348). -/
def keptBefore (s : State) (m : Master) (a : Nat) (write : Bool) : Option (Fin 12) :=
  if h : a / 0x200000 < 12 then
    match s.sram.collided[a / 0x200000] with
    | some k => if ownerOf (a / 0x200000) != m || (write && plainAddr k.pa / 64 == a / 64) then some ⟨a / 0x200000, h⟩ else none
    | none => none
  else none

/-- An access that a kept write holds back comes after it (R348; log 18). -/
def portClear (s : State) (m : Master) (a : Nat) (write : Bool) : State :=
  match keptBefore s m a write with
  | some b => collideRetry s b
  | none => s

/-- A read of SRAM at a plain address (R342, R345, R346, R362). -/
def sramRead (s : State) (m : Master) (a n : Nat) : State × List Byte :=
  let s := (rowsOf a n).foldl (fun s r => rowRead (portClear s m r.1 false) r.1 r.2) s
  (s, sramOctets s a n)

/-- A write to SRAM at a plain address (R342, R347, R352, R362). -/
def sramWrite (s : State) (m : Master) (a : Nat) (kind : BitVec 2) (bs : List (Byte × Bool)) : State :=
  rowsWrite ((rowsOf a bs.length).foldl (fun s r => portClear s m r.1 true) s) a kind bs

/-- The bank whose fabric port takes a write at a physical address and can refuse it (R341, R348). -/
def refusingBank (s : State) (m : Master) (pa : Nat) : Option (Fin 12) :=
  let a := plainAddr pa
  if h : a / 0x200000 < 12 then
    if bankOn s a && !inSecure a && (aliasKind pa != 0 || ownerOf (a / 0x200000) != m) then some ⟨a / 0x200000, h⟩ else none
  else none

/-- COLLIDE: the bank keeps the refused write (R348, R349). -/
def collide (s : State) (b : Fin 12) (k : Kept) : State :=
  let s := { s with sram := { s.sram with collided := s.sram.collided.set b.val (some k) b.isLt } }
  s.up Adr.srbColcnt fun w => setField (satField w 27 0) 31 28 b.val

/-! ### DDR -/

/-- The error a line holds: confined to one device with ×4, to one 4-bit half of a device with ×8, it is correctable; a
wider one is not (R378; log 18). -/
def ddrError (s : State) (line : Nat) : Option Bool :=
  match s.ddr.errors.lookup line with
  | none => none
  | some ps => match ps.dedup.length with | 0 => none | 1 => some false | _ => some true

/-- A symbol of a line goes wrong; such happenings stand with the scrubber's reads (DESIGN CHOICE, log 36). -/
def ddrUpset (s : State) (p : BitVec 40 × Fin 10) : State :=
  let line := p.1.toNat / 64 * 64
  if ddrBase ≤ line then
    let ps := (s.ddr.errors.lookup line).getD []
    let ps := if ps.contains p.2.val then ps else p.2.val :: ps
    { s with ddr := { s.ddr with errors := (line, ps) :: s.ddr.errors.filter fun q => decide (q.1 ≠ line) } }
  else s

/-- A line comes to hold the codeword of another address, whose check symbols do not fit (R378; DESIGN CHOICE, log 36). -/
def ddrMisplace (s : State) (a : BitVec 40) : State :=
  (List.finRange 10).foldl (fun s d => ddrUpset s (a, d)) s

/-- The device of a corrected error: a ×8 device has two of the 4-bit positions (R378). -/
def ddrDevice (s : State) (line : Nat) : Nat :=
  let p := ((s.ddr.errors.lookup line).getD []).headD 0
  let d := if s.ddr.wide8 then p / 2 else p
  if d ≤ 9 then d else 0xF

/-- The page becomes a retirement candidate (R384). -/
def ddrCandidate (s : State) (page : Nat) (byUe : Bool) : State :=
  let s :=
    if bitOf (s.rd Adr.ddrCand) 63 then s.setBitR Adr.ddrCand 62
    else s.up Adr.ddrCand fun w => setField (putBit (putBit w 63 true) 61 byUe) 39 12 page
  pulse s 866

/-- A read or scrub finds a correctable error in a line: counted, written back (R379, R384). -/
def ddrCe (s : State) (line : Nat) : State :=
  let ch := channelOf s line
  let s := s.up Adr.ddrEccstat fun x => satField (setField (putBit x 30 true) 25 24 ch) 15 0
  let s := if bitOf (s.rd Adr.ddrEccstat) 31 then s
    else s.wr Adr.ddrEccaddr (setField (BitVec.ofNat 64 line) 51 48 (ddrDevice s line))
  let s := { s with ddr := { s.ddr with errors := s.ddr.errors.filter fun p => decide (p.1 ≠ line) } }
  let s := pulse s 865
  let page := line / 4096
  let n := (s.ddr.pageCe.lookup page).getD 0 + 1
  let s := { s with ddr := { s.ddr with pageCe := (page, n) :: s.ddr.pageCe.filter fun p => decide (p.1 ≠ page) } }
  if n = field (s.rd Adr.ddrScrub) 15 8 then ddrCandidate s page false else s

/-- CHANNEL_LOSS (R386, R387): a channel in use is marked lost once and reported; its commands are repeated no more. -/
def channelLoss (s : State) (c : Fin 4) : State :=
  let w := s.rd Adr.ddrStat
  if bitOf w (16 + c.val) && !bitOf w (28 + c.val) then
    let s := { s with ddr := { s.ddr with repeats := s.ddr.repeats.set c.val [] c.isLt } }
    genUp (report (pulse (s.setBitR Adr.ddrStat (28 + c.val)) 867) 102 0) 10
  else s

/-- 1 ms in ticks of `Sys.upTicks`, which no step of TIME64 changes. -/
def oneMs : Nat := 400000

/-- An uncorrectable error in a line (R380, R384); the sixteenth of a channel within 1 ms loses the channel (R386). -/
def ddrUe (s : State) (line : Nat) : State :=
  let ch := channelOf s line
  let c : Fin 4 := ⟨ch % 4, Nat.mod_lt _ (by decide)⟩
  let s := s.up Adr.ddrEccstat fun x => satField (setField (putBit x 31 true) 25 24 ch) 23 16
  let s := s.wr Adr.ddrEccaddr (setField (putBit (BitVec.ofNat 64 line) 63 true) 51 48 0xF)
  let s := pulse s 864
  let s := report s 100 (line / 256)
  let s := ddrCandidate s (line / 4096) true
  let l := (s.sys.upTicks :: s.ddr.ueTimes[c]).take 16
  let s := { s with ddr := { s.ddr with ueTimes := s.ddr.ueTimes.set c.val l c.isLt } }
  match l[15]? with
  | some first => if s.sys.upTicks - first ≤ oneMs then channelLoss s c else s
  | none => s

def ddrTouch (s : State) (line : Nat) : State :=
  match ddrError s line with
  | some true => ddrUe s line
  | some false => ddrCe s line
  | none => s

def linesOf (a n : Nat) : List Nat := (List.range ((a + n + 63) / 64 - a / 64)).map fun i => (a / 64 + i) * 64

/-- The channel of a DDR address is lost (R387). -/
def ddrLost (s : State) (a : Nat) : Bool := bitOf (s.rd Adr.ddrStat) (28 + channelOf s a)

/-- A read of DDR: zero from an uncorrectable line or a lost channel (R379, R380, R387). -/
def ddrRead (s : State) (a n : Nat) : State × List Byte :=
  let bs := (List.range n).map fun i =>
    if ddrLost s (a + i) || ddrError s ((a + i) / 64 * 64) == some true then 0 else rdByte s (a + i)
  ((linesOf a n).foldl ddrTouch s, bs)

/-- The lines of which a write stores every octet: each of them is a new codeword (R378). -/
def wholeLines (a : Nat) (kept : List (Byte × Bool)) : List Nat :=
  (linesOf a kept.length).filter fun l => (List.range 64).all fun i => decide (a ≤ l + i) && (kept.getD (l + i - a) (0, false)).2

/-- A write to DDR drops the lines it covers from the L1D of every triad but the writer (R30); a lost channel discards
its octets (R387). A line written whole has no wrong symbol left; any other keeps those it has (log 18). -/
def ddrWrite (s : State) (a : Nat) (bs : List (Byte × Bool)) (writer : Option TriadId) : State :=
  let kept := bs.mapIdx fun i p => (p.1, p.2 && !ddrLost s (a + i))
  if !kept.any fun p => p.2 then s
  else
    let s := storeOctets s a 0 kept
    let new := wholeLines a kept
    let s := { s with ddr := { s.ddr with errors := s.ddr.errors.filter fun p => !new.contains p.1 } }
    let ls := linesOf a bs.length
    let held (t : TriadId) : Nat := (s.triads[t].l1d.filter fun l => ls.contains l).length
    let s := allTriads.foldl (fun s t => if writer = some t ∨ held t = 0 then s else countL s t 0x1C (held t)) s
    { s with triads := Vector.ofFn fun t => let x := s.triads[t]
        if writer = some t then x else { x with l1d := x.l1d.filter fun l => !ls.contains l } }

/-- A read of these octets waits for a write of their line that the controller repeats (R381). -/
def ddrWaits (s : State) (pa n : Nat) : Bool :=
  decide (ddrBase ≤ pa) && s.ddr.repeats.toList.any fun rs => rs.any fun r =>
    r.write && r.line.any fun l => (linesOf pa n).contains l

/-! ### Physical memory as masters see it -/

/-- The port that an access at a physical address takes: an alias access goes through the fabric port (R341). -/
def portOf (m : Master) (pa : Nat) : Master := if aliasKind pa = 0 then m else .fabric

/-- A read of SRAM, an alias or DDR at a physical address (R354); the secure region reads zero to any master but its
engine (R366). -/
def memRead (s : State) (m : Master) (pa n : Nat) : State × List Byte :=
  if ddrBase ≤ pa then ddrRead s pa n
  else if inSecure (plainAddr pa) && m != .store then (s, List.replicate n 0)
  else sramRead s (portOf m pa) (plainAddr pa) n

/-- A write to SRAM, an alias or DDR at a physical address. -/
def memWrite (s : State) (m : Master) (pa : Nat) (bs : List (Byte × Bool)) : State :=
  if ddrBase ≤ pa then ddrWrite s pa bs (match m with | .triad t => some t | _ => none)
  else if inSecure (plainAddr pa) && m != .store then s
  else sramWrite s (portOf m pa) (plainAddr pa) (aliasKind pa) bs

/-- All octets enabled. -/
def enabled (bs : List Byte) : List (Byte × Bool) := bs.map fun b => (b, true)

/-! ### Commands of the SRAM banks and the DDR controller -/

/-- The errors of a range go with a new content, its check bits valid (R360, R367). -/
def dropErrors (s : State) (lo hi : Nat) : State :=
  let out (w : Nat) : Bool := !decide (lo ≤ w ∧ w < hi)
  { s with sram := { s.sram with errors := s.sram.errors.filter (fun p => out p.1), writeBack := s.sram.writeBack.filter out } }

/-- Applies one bank's requested state: code 0 On, 1 Retain, 2 Off (R360). Leaving On or Retain downward is done at
once, behind a write that the bank keeps; leaving Retain for On is Waking, leaving Off is Clearing. -/
def bankRequest (s : State) (n : Fin 12) (goal : BitVec 2) : State :=
  let cur := s.sram.power[n]
  let s := if cur = 0 ∧ goal ≠ 0 then collideRetry s n else s
  let s := { s with sram := { s.sram with goal := s.sram.goal.set n.val goal n.isLt } }
  let put (p : BitVec 3) : State := { s with sram := { s.sram with power := s.sram.power.set n.val p n.isLt } }
  let lose (s : State) : State := clearRange s (n.val * 0x200000) ((n.val + 1) * 0x200000)
  match cur.toNat, goal.toNat with
  | 0, 1 => put 1
  | 0, 2 => lose (put 2)
  | 1, 0 => put 3
  | 1, 2 => lose (put 2)
  | 2, 0 => put 4
  | 2, 1 => put 4
  | _, _ => s

def srbRequests (s : State) (old : Word) : List (Fin 11) → State
  | [] => s
  | n :: t =>
    let g := BitVec.ofNat 2 (field (s.rd Adr.srbPwr) (2 * n.val + 1) (2 * n.val))
    let s := if field old (2 * n.val + 1) (2 * n.val) = g.toNat then s else bankRequest s ⟨n.val, by omega⟩ g
    srbRequests s old t

/-- The write of SRB_PWR and the changes it starts (R360). -/
def writeSrbPwr (s : State) (v : Word) : State :=
  let old := s.rd Adr.srbPwr
  srbRequests (s.sw Adr.srbPwr v) old (List.finRange 11)

/-- BANK_POWER_REQUEST (R360). -/
def execBankPowerRequest (v : BitVec 32) (s : State) : Host.Outcome State Fault Refusal :=
  .next (writeSrbPwr s (v.setWidth 64))

/-- BANK_POWER_CHANGE_DONE (R360): Waking and Clearing end; a bank that reaches On pulses E0883. A request made
meanwhile starts then. -/
def bankDone (s : State) (n : Fin 12) : State :=
  let p := s.sram.power[n]
  let goal := s.sram.goal[n]
  if p = 3 ∨ p = 4 then
    let q : BitVec 3 := if p = 4 ∧ goal = 1 then 1 else 0
    let lo := n.val * 0x200000
    let s := if p = 4 then dropErrors (clearRange s lo (lo + 0x200000)) lo (lo + 0x200000) else s
    let s := { s with sram := { s.sram with power := s.sram.power.set n.val q n.isLt } }
    let s := if q = 0 then pulse s 883 else s
    if q.toNat = goal.toNat then s else bankRequest s n goal
  else s

def execBankPowerChangeDone (n : Fin 12) (s : State) : Host.Outcome State Fault Refusal := .next (bankDone s n)

/-- ECC_WRITE_BACK (R345): the corrected word of the write-back buffer is stored, which ends its error. -/
def execEccWriteBack (word : BitVec 40) (s : State) : Host.Outcome State Fault Refusal :=
  let w := word.toNat / 8 * 8
  .next (if s.sram.writeBack.contains w then sramHeal s w else s)

/-- The next region the background test takes: banks that are not On are skipped (R355). -/
def nextRegion : Nat → State → Nat → Nat
  | 0, _, r => r
  | n + 1, s, r => if bankOn s (r * 256) then r else nextRegion n s ((r / 8192 + 1) % 12 * 8192)

/-- The words of a region written back as R345 would correct them (R356 step 5). -/
def healRegion (s : State) (a : Nat) : State :=
  let held (w : Nat) : Bool := !decide (a ≤ w ∧ w < a + 256) || sramError s w == some true
  { s with sram := { s.sram with
      errors := s.sram.errors.filter (fun p => held p.1), writeBack := s.sram.writeBack.filter held } }

/-- BACKGROUND_TEST_REGION (R355 to R358): one region is tested, data kept; a failing cell is recorded. -/
def backgroundTest (s : State) (cellFail : Bool) : State :=
  if bitOf (s.rd Adr.srbBgtctl) 16 && modeOf s != 0 then
    let r := nextRegion 12 s (field (s.rd Adr.srbBgtstat) 16 0)
    if bankOn s (r * 256) then
      let s := healRegion s (r * 256)
      let s := if cellFail then
          let s := s.wr Adr.srbBgtfail (BitVec.ofNat 64 (r * 256))
          let s := s.setBitR Adr.srbBgtstat 63
          report (pulse s 882) 97 0
        else s
      let n := (r + 1) % 98304
      s.up Adr.srbBgtstat fun w => let w := setField w 16 0 n
        if n = 0 then wrapField w 47 32 else w
    else s
  else s

def execBackgroundTestRegion (run : RegionTest) (s : State) : Host.Outcome State Fault Refusal :=
  .next ((run.flips.foldl sramFlip s).powered fun s => backgroundTest s run.cellFail)

/-- The number of DDR lines a sweep reads. -/
def ddrLines (s : State) : Nat := field (s.rd Adr.ddrTop) 9 0 * 2 ^ 24

/-- SCRUB_READ (R382, R383): a line of a channel in use that the sweep has not read yet, one of a retired page among
them; the last line of a sweep pulses E0868 and starts the page counts of a new period (R384). A line whose write is being
repeated waits (R381). -/
def scrubRead (s : State) (line : BitVec 40) : State :=
  let a := line.toNat / 64 * 64
  if bitOf (s.rd Adr.ddrScrub) 16 && decide (ddrBase ≤ a ∧ a < ddrBase + ddrLines s * 64) && !s.ddr.swept.contains a
      && !ddrWaits s a 64 then
    let s := if ddrLost s a then s else ddrTouch s a
    let l := a :: s.ddr.swept
    if l.length = ddrLines s then pulse { s with ddr := { s.ddr with swept := [], pageCe := [] } } 868
    else { s with ddr := { s.ddr with swept := l } }
  else s

def execScrubRead (read : LineRead) (s : State) : Host.Outcome State Fault Refusal :=
  .next ((read.misplaced.foldl ddrMisplace (read.wrong.foldl ddrUpset s)).powered fun s => scrubRead s read.line)

/-- ZQ_CALIBRATION (R377): no state a program sees changes. -/
def execZqCalibration (s : State) : Host.Outcome State Fault Refusal := .next s

/-- A channel in use that is not lost. -/
def channelUp (s : State) (c : Fin 4) : Bool := bitOf (s.rd Adr.ddrStat) (16 + c.val) && !bitOf (s.rd Adr.ddrStat) (28 + c.val)

/-- COMMAND_REPEAT (R381, R386): one repeat of a command, counted by the kind of its alert with E0869; a fourth repeat
of one command that still fails loses the channel. -/
def commandRepeat (s : State) (r : RepeatedCommand) : State :=
  let c := r.chan
  if !channelUp s c then s
  else
    let l := r.line.map fun a => a.toNat / 64 * 64
    let same (q : Repeat) : Bool := q.line == l && q.write == r.write
    let n : Nat := ((s.ddr.repeats[c].find? same).elim 0 fun q => q.tries) + 1
    let s := pulse (s.up Adr.ddrRetry fun w => if r.crc then satField w 31 16 else satField w 15 0) 869
    let rest := s.ddr.repeats[c].filter fun q => !same q
    let next := if r.fails && decide (n < 4) then ⟨l, r.write, n⟩ :: rest else rest
    let s := { s with ddr := { s.ddr with repeats := s.ddr.repeats.set c.val next c.isLt } }
    if r.fails && decide (4 ≤ n) then channelLoss s c else s

def execCommandRepeat (rep : RepeatedCommand) (s : State) : Host.Outcome State Fault Refusal :=
  .next (s.powered fun s => commandRepeat s rep)

def execChannelLoss (c : Fin 4) (s : State) : Host.Outcome State Fault Refusal := .next (s.powered fun s => channelLoss s c)

/-! ### The wipe of the secure region (R367, R368) -/

/-- A write to the secure region: while it is wiped, the write is held (R367). -/
def secureWrite (s : State) (w : SecureWrite) : State :=
  if s.sram.wiping then { s with lcs := { s.lcs with held := s.lcs.held ++ [w] } }
  else
    match w with
    | .cred k c => { s with lcs := { s.lcs with creds := s.lcs.creds.set k.val c k.isLt } }
    | .key k o => { s with hosts := { s.hosts with sessions := vmod s.hosts.sessions k fun x => { x with key := o } } }

/-- A trigger starts the wipe, or starts it afresh: bank 11 comes On, and the region's credentials, session keys and the
state of the random bit generator are gone with its octets, while writes that are held stay so (R367, R368, R540; log 25). The cause is coded as SRB_WIPESTAT.CAUSE. -/
def startWipe (s : State) (cause : Nat) : State :=
  let s := if s.sram.power[11] = 0 then s else pulse s 883
  let s := { s with
    sram := { s.sram with wiping := true, power := s.sram.power.set 11 0 }
    lcs := { s.lcs with creds := Vector.replicate 32 { role := 0, enabled := false, key := [] }, rbg := 0 }
    hosts := { s.hosts with sessions := s.hosts.sessions.map fun (x : Session) => { x with key := [] } } }
  let s := dropErrors (clearRange s 0x1600000 0x1640000) 0x1600000 0x1640000
  let s := genUp s 5
  s.up Adr.srbWipestat fun w => satField (setField (putBit w 31 true) 19 16 cause) 15 0

/-- WIPE_COMPLETE (R368): the wipe ends, what it held is written, E0885; a read-back that fails sets WFAIL and is
reported. -/
def wipeComplete (s : State) (ok : Bool) : State :=
  if s.sram.wiping then
    let held := s.lcs.held
    let s := { s with sram := { s.sram with wiping := false }, lcs := { s.lcs with held := [] } }
    let s := held.foldl secureWrite s
    let s := s.up Adr.srbWipestat fun w => putBit w 31 false
    let s := if ok then s else report (s.setBitR Adr.srbWipestat 30) 99 0
    pulse s 885
  else s

def execWipeComplete (readBackOk : Bool) (s : State) : Host.Outcome State Fault Refusal :=
  .next (wipeComplete s readBackOk)

end Sys2Proof.Machine
end

