-- ==== Sys2Proof/Machine/Translate.lean ====
section
/-! DEFINITION. Translation and protection (R285 to R314): the walk, the checks in their order, the translation cache,
fault records, and the commands of the TAPU. -/

namespace Sys2Proof.Machine

/-- What an access does (R297, R305). -/
inductive XKind where
  | fetch | load | store | spill | reteRead | dmaRead | dmaWrite
deriving DecidableEq, Repr

/-- One access to translate: the context, and for the checks whether it acts at U (or a channel with PRIV = U) and
whether it acts at M. -/
structure Xreq where
  triad : TriadId
  ten : Bool
  asid : BitVec 12
  root : Nat
  kind : XKind
  user : Bool
  mLevel : Bool

/-- A translation: physical address, attributes as PTE bits [8:0], level of the leaf (0 without a walk). -/
structure Xlat where
  pa : Nat
  attr : Word
  level : Nat
deriving DecidableEq, Repr

/-- A failure: cause and level (R313). -/
structure Xfail where
  cause : Nat
  level : Nat
deriving DecidableEq, Repr

def attrR (w : Word) : Bool := bitOf w 1
def attrW (w : Word) : Bool := bitOf w 2
def attrX (w : Word) : Bool := bitOf w 3
def attrU (w : Word) : Bool := bitOf w 4
def attrDev (w : Word) : Bool := bitOf w 6
def attrSens (w : Word) : Bool := bitOf w 7
def attrCache (w : Word) : Bool := bitOf w 8

/-! ### Windows (R304 to R307) -/

def windowsActive (s : State) (t : TriadId) : Bool :=
  bitOf (s.rd Adr.tapuPwfrz) t.val || (List.range 16).any fun w => bitOf (s.rd (Adr.tapuPwb t.val w)) 0

/-- One window grants an access to a page (R305). -/
def windowGrants (b l : Word) (page : Nat) (kind : XKind) (mLevel walkRead : Bool) : Bool :=
  let base := field b 39 12
  let limit := field l 39 12
  let dma := kind == .dmaRead || kind == .dmaWrite
  bitOf b 0 && decide (base ≤ limit ∧ base ≤ page ∧ page ≤ limit)
  && (if walkRead then bitOf b 1
      else (match kind with
          | .fetch => bitOf b 3
          | .load => bitOf b 1
          | .reteRead => bitOf b 1
          | .store => bitOf b 2
          | .spill => bitOf b 2
          | .dmaRead => bitOf b 1
          | .dmaWrite => bitOf b 2)
        && (!bitOf b 4 || (mLevel && !dma)) && !(dma && bitOf b 5))

def windowOk (s : State) (t : TriadId) (pa : Nat) (kind : XKind) (mLevel walkRead : Bool) : Bool :=
  !windowsActive s t || (List.range 16).any fun w =>
    windowGrants (s.rd (Adr.tapuPwb t.val w)) (s.rd (Adr.tapuPwl t.val w)) (pa / 4096) kind mLevel walkRead

/-! ### The walk (R293) -/

/-- Reserved encodings of a PTE at a level (R292). -/
def pteReserved (p : Word) (level : Nat) : Bool :=
  let leaf := attrR p || attrW p || attrX p
  field p 63 40 != 0 || (attrW p && !attrR p) || (attrCache p && (attrDev p || attrSens p))
  || (!leaf && level == 3)
  || (!leaf && (attrU p || bitOf p 5 || attrDev p || attrSens p || attrCache p))
  || (leaf && level == 1 && field p 29 12 != 0) || (leaf && level == 2 && field p 20 12 != 0)

/-- An uncorrectable error where a PTE stands (R346, R380). -/
def pteBad (s : State) (pa : Nat) : Bool :=
  if ddrBase ≤ pa then ddrError s (pa / 64 * 64) == some true || ddrLost s pa
  else sramError s (plainAddr pa / 8 * 8) == some true

/-- A walk read may be made: a memory address that is no hole, inside the windows (R293). -/
def walkReadable (s : State) (t : TriadId) (pa : Nat) : Bool :=
  (match regionOf s pa with | .sram => true | .ddr => true | _ => false) && windowOk s t pa .load true true

/-- The walk from `table` at `level`, with the addresses of the PTEs it has read. -/
def walkFrom (s : State) (t : TriadId) (va : Nat) : Nat → Nat → Nat → List Nat → Except Xfail (Nat × Word × Nat) × List Nat
  | 0, _, level, seen => (.error ⟨0x3, level⟩, seen)
  | n + 1, table, level, seen =>
    let pa := table + 8 * (va / 2 ^ (39 - 9 * level) % 512)
    if !walkReadable s t pa then (.error ⟨0x8, level⟩, seen)
    else
      let seen := pa :: seen
      if pteBad s pa then (.error ⟨0x8, level⟩, seen)
      else
        let p := BitVec.ofNat 64 (rdMem (portClear s .fabric (plainAddr pa) false) (plainAddr pa) 8)
        if !bitOf p 0 then (.error ⟨0x2, level⟩, seen)
        else if pteReserved p level then (.error ⟨0x3, level⟩, seen)
        else if attrR p || attrW p || attrX p then
          let sh := 39 - 9 * level
          (.ok (field p 39 12 * 4096 / 2 ^ sh * 2 ^ sh + va % 2 ^ sh, p, level), seen)
        else walkFrom s t va n (field p 39 12 * 4096) (level + 1) seen

/-- The walk for a virtual address (R290, R293), and the PTE addresses read. -/
def walk (s : State) (t : TriadId) (root : Nat) (va : Word) : Except Xfail (Nat × Word × Nat) × List Nat :=
  if field va 63 39 ≠ 0 then (.error ⟨0x1, 0⟩, []) else walkFrom s t va.toNat 3 root 1 []

/-- What the walk's reads do at memory: errors they meet are counted and reported (R345, R346, R379, R380). -/
def walkTouch (s : State) (seen : List Nat) : State :=
  seen.reverse.foldl (fun s pa => if ddrBase ≤ pa then ddrTouch s (pa / 64 * 64) else sramTouch s (plainAddr pa / 8 * 8)) s

/-! ### The translation cache (R298, R299) -/

def tlbHit (s : State) (t : TriadId) (asid : BitVec 12) (vpn : Nat) : Option TlbEntry :=
  s.tlb.find? fun e => e.triad == t && e.asid == asid && decide (e.vpn.toNat = vpn)

/-- A leaf enters the cache under the 4 KiB page of its access, whatever its level; the oldest of 2,048 entries leaves
(DESIGN CHOICE, log 15). A walk that meets a running barrier of its triad does not enter (R300). -/
def tlbFill (s : State) (t : TriadId) (asid : BitVec 12) (vpn : Nat) (pte : Word) (level : Nat) : State :=
  if s.barriers[t].isSome then s
  else { s with tlb := (⟨t, asid, BitVec.ofNat 27 vpn, pte, level⟩ :: s.tlb).take 2048 }

/-- The physical address a cached leaf gives. -/
def leafAddr (pte : Word) (level : Nat) (va : Nat) : Nat :=
  let sh := 39 - 9 * level
  field pte 39 12 * 4096 / 2 ^ sh * 2 ^ sh + va % 2 ^ sh

/-! ### The checks in their order (R296, R297) -/

/-- Attributes implied with TEN = 0 (R288), as PTE bits. -/
def impliedAttr (s : State) (pa : Nat) (user : Bool) : Word :=
  let u : Word := if user then 0x10 else 0
  match regionOf s pa with
  | .regs => 0x47 ||| u
  | .mailbox => 0x47 ||| u
  | .hole => 0x0F ||| u
  | _ => 0x0F ||| u

def dmaKind (k : XKind) : Bool := k == .dmaRead || k == .dmaWrite

/-- The path check (R25): DMA reaches SRAM, its aliases, DDR, and the TMR and LEG blocks. -/
def pathOk (s : State) (k : XKind) (pa : Nat) : Bool :=
  !dmaKind k || (match regionOf s pa with
    | .sram => true | .setAlias => true | .clearAlias => true | .ddr => true
    | .regs => decide (0x800D0000 ≤ pa ∧ pa < 0x800F0000)
    | _ => false)

/-- Privilege, access kind, hole, path and windows (R296 steps 3 to 7). -/
def checkAccess (s : State) (q : Xreq) (pa : Nat) (attr : Word) (level : Nat) : Except Xfail Xlat :=
  let dev := attrDev attr || (match regionOf s pa with | .regs => true | .mailbox => true | _ => false)
  let privOk := match q.kind with
    | .fetch => attrU attr == q.user
    | _ => !q.user || attrU attr
  let kindOk := match q.kind with
    | .fetch => attrX attr && !attrDev attr && !attrSens attr
    | .load => attrR attr
    | .reteRead => attrR attr
    | .dmaRead => attrR attr
    | .store => attrW attr
    | .dmaWrite => attrW attr
    | .spill => attrW attr && !dev && !attrSens attr
  if !privOk then .error ⟨0x5, level⟩
  else if !kindOk then .error ⟨0x4, level⟩
  else if regionOf s pa == .hole then .error ⟨0x6, level⟩
  else if !pathOk s q.kind pa then .error ⟨0x9, level⟩
  else if !windowOk s q.triad pa q.kind q.mLevel false then .error ⟨0x7, level⟩
  else .ok ⟨pa, if dev then attr ||| 0x40 else attr, level⟩

/-- A translation with all its checks, as the state stands (R296). -/
def translate (s : State) (q : Xreq) (va : Word) : Except Xfail Xlat :=
  if !q.ten then
    if field va 63 40 ≠ 0 then .error ⟨0x1, 0⟩
    else checkAccess s q va.toNat (impliedAttr s va.toNat q.user) 0
  else if field va 63 39 ≠ 0 then .error ⟨0x1, 0⟩
  else
    match tlbHit s q.triad q.asid (va.toNat / 4096) with
    | some e => checkAccess s q (leafAddr e.pte e.level va.toNat) e.pte e.level
    | none =>
      match (walk s q.triad q.root va).1 with
      | .ok (pa, pte, level) => checkAccess s q pa pte level
      | .error f => .error f

/-- The walk that a translation makes reads a line whose write the DDR controller repeats, and waits for it (R381). -/
def walkWaits (s : State) (q : Xreq) (va : Word) : Bool :=
  q.ten && (tlbHit s q.triad q.asid (va.toNat / 4096)).isNone && (walk s q.triad q.root va).2.any fun pa => ddrWaits s pa 8

/-- What the translation leaves: a walk's reads, and its leaf in the cache (R299). -/
def translateFill (s : State) (q : Xreq) (va : Word) : State :=
  if !q.ten || field va 63 39 != 0 then s
  else
    match tlbHit s q.triad q.asid (va.toNat / 4096) with
    | some _ => s
    | none =>
      match walk s q.triad q.root va with
      | (.ok (_, pte, level), seen) => tlbFill (walkTouch s seen) q.triad q.asid (va.toNat / 4096) pte level
      | (.error _, seen) => walkTouch s seen

/-- A physical access of bank 3 or a vector read: hole rule and windows only (R157, R188). An address with a bit of [63:40]
set fails by its form, as with TEN = 0 (DEDUCED, log 14). -/
def checkPhysical (s : State) (q : Xreq) (pa : Nat) : Except Xfail Xlat :=
  if 2 ^ 40 ≤ pa then .error ⟨0x1, 0⟩
  else if regionOf s pa == .hole then .error ⟨0x6, 0⟩
  else if !windowOk s q.triad pa q.kind q.mLevel false then .error ⟨0x7, 0⟩
  else .ok ⟨pa, impliedAttr s pa q.user, 0⟩

/-- The context of a core access of triad t (R285, R288). -/
def coreReq (s : State) (t : TriadId) (priv : Nat) (kind : XKind) : Xreq :=
  let c := s.rd (Adr.tapuCtx t.val)
  { triad := t, ten := bitOf c 63, asid := BitVec.ofNat 12 (field c 51 40), root := field c 39 12 * 4096,
    kind := kind, user := priv == 0, mLevel := priv == 3 }

/-- A core access: physical while bank 3 is in use (R188). -/
def coreAccess (s : State) (t : TriadId) (bank3 : Bool) (priv : Nat) (kind : XKind) (va : Word) : Except Xfail Xlat :=
  let q := coreReq s t priv kind
  if bank3 then checkPhysical s q va.toNat else translate s q va

/-- A core access waits for the reads of its walk. -/
def coreWaits (s : State) (t : TriadId) (bank3 : Bool) (priv : Nat) (kind : XKind) (va : Word) : Bool :=
  !bank3 && walkWaits s (coreReq s t priv kind) va

def coreFill (s : State) (t : TriadId) (bank3 : Bool) (priv : Nat) (kind : XKind) (va : Word) : State :=
  if bank3 then s else translateFill s (coreReq s t priv kind) va

/-- Writes the fault record of triad t (R311, R313). -/
def writeFrec (s : State) (t : TriadId) (f : Frec) : State :=
  let old := s.rd (Adr.tapuFrec t.val)
  let w : Word := BitVec.ofNat 64 (2 ^ 31 + f.kind * 2 ^ 12 + f.priv * 2 ^ 8 + f.level * 2 ^ 4 + f.cause)
  let w := if bitOf old 30 || bitOf old 31 then putBit w 30 true else w
  (s.wr (Adr.tapuFrec t.val) w).wr (Adr.tapuFva t.val) f.va

/-! ### Commands -/

/-- The access kind and context of a DMA channel's stamp (R317, R318). -/
def chanReq (s : State) (c : Fin 32) (kind : XKind) : Xreq :=
  let x := s.rd (Adr.dmaCtx (c.val / 16) (c.val % 16))
  let t : TriadId := if h : field x 54 52 < 6 then ⟨field x 54 52, h⟩ else 0
  { triad := t, ten := bitOf x 63, asid := BitVec.ofNat 12 (field x 51 40), root := field x 39 12 * 4096,
    kind := kind, user := !bitOf x 56, mLevel := false }

/-- PAGE_TABLE_WALK (R293): the walk for a core or a channel, whose leaf enters the cache. The result is shown in
busData: the physical address of a leaf, or bit 63, level and cause of a fault. A line of DDR whose write is being
repeated holds it up (R381). A core's walk counts (R692). -/
def pageWalk (s : State) (who : Walker) (va : Word) : State :=
  let q := match who with
    | .core t => coreReq s t 3 .load
    | .chan c => chanReq s c .dmaRead
  let counted (s : State) : State := match who with
    | .core t => countL s t 0x1F 1
    | .chan _ => s
  if !q.ten || (walk s q.triad q.root va).2.any fun pa => ddrWaits s pa 8 then s
  else
    match walk s q.triad q.root va with
    | (.ok (pa, pte, level), seen) =>
      let s := counted (walkTouch s seen)
      let s := if (tlbHit s q.triad q.asid (va.toNat / 4096)).isSome then s
        else tlbFill s q.triad q.asid (va.toNat / 4096) pte level
      { s with busData := BitVec.ofNat 64 pa }
    | (.error f, seen) =>
      { counted (walkTouch s seen) with busData := BitVec.ofNat 64 (2 ^ 63 + f.level * 16 + f.cause) }

def execPageTableWalk (who : Walker) (va : Word) (s : State) : Host.Outcome State Fault Refusal :=
  .next (pageWalk s who va)

/-- A flush of prediction state (R95): return-address stack and fetch-ahead buffer of every lane. -/
def flushTriad (x : Triad) : Triad :=
  { x with fetched := none, lanes := x.lanes.map fun l => { l with ras := [] } }

/-- A write of TAPU_CTX_t, accepted from triad t only; a change of ASID flushes (R285, R286). -/
def writeCtx (s : State) (w t : TriadId) (v : Word) : State :=
  if w = t then
    let old := s.rd (Adr.tapuCtx t.val)
    let s := s.sw (Adr.tapuCtx t.val) v
    if field old 51 40 = field v 51 40 then s else s.setTriad t flushTriad
  else s

def execTapuCtxWrite (w t : TriadId) (v : Word) (s : State) : Host.Outcome State Fault Refusal :=
  .next (writeCtx s w t v)

/-- Whether an entry matches an invalidation's scope (R298 to R300). -/
def invMatches (t : TriadId) (b : Barrier) (e : TlbEntry) : Bool :=
  e.triad == t && (match b.scope.toNat with
    | 0 => e.vpn == b.vpn && (e.asid == b.asid || bitOf e.pte 5)
    | 1 => e.asid == b.asid && !bitOf e.pte 5
    | _ => true)

/-- Whether a segment in flight was made by a translation that an invalidation's scope matches (R300). -/
def segMatches (t : TriadId) (scope : BitVec 2) (asid : BitVec 12) (vpn : BitVec 27) (g : Seg) : Bool :=
  g.triad == t && g.pages.any fun p =>
    match scope.toNat with
    | 0 => p.1 == vpn.toNat && (g.asid == asid || p.2)
    | 1 => g.asid == asid && !p.2
    | _ => true

/-- The segments a barrier waits for: those in flight now whose translation matches (R300). -/
def barrierSegs (s : State) (t : TriadId) (scope : BitVec 2) (asid : BitVec 12) (vpn : BitVec 27) : List (Fin 32 × Nat) :=
  allFin32.flatMap fun c => (s.chans[c].flying.filter (segMatches t scope asid vpn)).map fun g => (c, g.id)

/-- A write of TAPU_INVAL_t from triad t starts the barrier: matching entries go at once (R300, R303). A further write
while a barrier runs widens it to the whole triad (DESIGN CHOICE, log 16). -/
def startInval (s : State) (w t : TriadId) (scope : BitVec 2) (asid : BitVec 12) (vpn : BitVec 27) : State :=
  if w = t then
    let scope := if s.barriers[t].isSome then 2 else scope
    let waits := match s.barriers[t] with | some b => b.waits | none => []
    let b : Barrier := ⟨scope, asid, vpn, barrierSegs s t scope asid vpn, waits⟩
    { s with tlb := s.tlb.filter (fun e => !invMatches t b e), barriers := s.barriers.set t.val (some b) t.isLt }
  else s

def execInvalidatePage (w t : TriadId) (asid : BitVec 12) (vpn : BitVec 27) (s : State) :
    Host.Outcome State Fault Refusal := .next (startInval s w t 0 asid vpn)

def execInvalidateAsid (w t : TriadId) (asid : BitVec 12) (s : State) : Host.Outcome State Fault Refusal :=
  .next (startInval s w t 1 asid 0)

def execInvalidateTriad (w t : TriadId) (s : State) : Host.Outcome State Fault Refusal :=
  .next (startInval s w t 2 0 0)

/-- Whether a segment of channel c that the barrier waits for is still in flight (R300). -/
def segHolds (s : State) (b : Barrier) (c : Fin 32) : Bool := s.chans[c].flying.any fun g => b.segs.contains (c, g.id)

/-- INVALIDATION_BARRIER_END (R300, R336): only when no segment in flight still uses a matching translation. The writes
that started it complete. -/
def endInval (s : State) (t : TriadId) : State :=
  match s.barriers[t] with
  | none => s
  | some b =>
    if allFin32.any (segHolds s b) then s
    else
      let s := { s with barriers := s.barriers.set t.val none t.isLt }
      pulse (s.setTriad t fun x => b.waits.foldl Triad.landed x) (896 + t.val)

def execInvalidationBarrierEnd (t : TriadId) (s : State) : Host.Outcome State Fault Refusal := .next (endInval s t)

end Sys2Proof.Machine
end

