-- ==== Sys2Proof/Machine/Dma.lean ====
section
/-! DEFINITION. The DMA engines (R315 to R338): doorbells, descriptors, segments, arbitration, suspension. -/

namespace Sys2Proof.Machine

def State.upChan (s : State) (c : Fin 32) (f : Chan → Chan) : State := { s with chans := vmod s.chans c f }

/-- The engine and the channel within it (R315: channel c is 16x + n). -/
def engOf (c : Fin 32) : Fin 2 := ⟨c.val / 16, by omega⟩
def chOf (c : Fin 32) : Fin 16 := ⟨c.val % 16, Nat.mod_lt _ (by decide)⟩

def cfgOf (c : Fin 32) : Nat := Adr.dmaCfg (c.val / 16) (c.val % 16)
def statOf (c : Fin 32) : Nat := Adr.dmaStat (c.val / 16) (c.val % 16)
def ctxOf (c : Fin 32) : Nat := Adr.dmaCtx (c.val / 16) (c.val % 16)
def res0Of (c : Fin 32) : Nat := Adr.dmaRes0 (c.val / 16) (c.val % 16)
def res1Of (c : Fin 32) : Nat := Adr.dmaRes1 (c.val / 16) (c.val % 16)
def res2Of (c : Fin 32) : Nat := Adr.dmaRes2 (c.val / 16) (c.val % 16)

def chanOwner (s : State) (c : Fin 32) : Nat := field (s.rd (cfgOf c)) 2 0
def chanPrio (s : State) (c : Fin 32) : Nat := field (s.rd (cfgOf c)) 10 8

/-- Bytes of the current descriptor completed (RES1.DONE). -/
def chanDone (s : State) (c : Fin 32) : Nat := field (s.rd (res1Of c)) 31 0

/-- The engine has stopped on a comparison fault (R332). -/
def engStopped (s : State) (x : Fin 2) : Bool := bitOf (s.rd (Adr.dmaEngStat x)) 31

/-- A channel becomes READY. Where none of its engine was READY or RUNNING, no channel holds the engine any more, and R328
takes those that become READY at once in ascending number. -/
def becomeReady (s : State) (c : Fin 32) (f : Chan → Chan) : State :=
  let rests := !allFin32.any fun d => d.val / 16 == c.val / 16 && (s.chans[d].state == .ready || s.chans[d].state == .running)
  let s := s.upChan c fun k => { f k with state := .ready }
  if rests then { s with engCur := s.engCur.set (engOf c).val none (engOf c).isLt } else s

/-- A doorbell (R316, R317, R320): the stamp, and a descriptor fetch that is due. -/
def doorbell (s : State) (w : TriadId) (c : Fin 32) (v : Word) : State :=
  if w.val = chanOwner s c ∧ s.chans[c].state = .idle then
    let x := s.rd (Adr.tapuCtx w.val)
    let stamp := setField (putBit x 56 (bitOf (s.rd (cfgOf c)) 4)) 54 52 w.val
    let s := s.wr (ctxOf c) stamp
    let s := s.wr (res0Of c) (v &&& ~~~ 0x3F)
    let s := s.wr (res1Of c) 0
    becomeReady s c fun k => { k with desc := none, nextSeg := 0, fetchDue := true, abortDue := false, failed := none, turn := 0 }
  else
    let s := s.setBitR (statOf c) 8
    if w.val = chanOwner s c then s else report s 134 0

def execDoorbell (w : TriadId) (c : Fin 32) (v : Word) (s : State) : Host.Outcome State Fault Refusal :=
  .next (doorbell s w c v)

/-- The channel becomes SUSPENDED and writes its resume record (R331, R335). -/
def suspend (s : State) (c : Fin 32) (f : ChanFail) : State :=
  let s := s.up (res1Of c) fun w => setField (setField (setField w 39 38 f.level) 37 36 f.side) 35 32 f.cause
  let s := s.wr (res2Of c) f.fva
  let s := s.upChan c fun k => { k with state := .suspended, fetchDue := false, failed := none }
  pulse s (480 + c.val)

/-- A descriptor from its 32 octets (R319). -/
def descOf (bs : List Byte) : Desc :=
  { src := BitVec.ofNat 64 (leAt bs 0 8), dst := BitVec.ofNat 64 (leAt bs 8 8), len := BitVec.ofNat 32 (leAt bs 16 4),
    ctl := BitVec.ofNat 32 (leAt bs 20 4), next := BitVec.ofNat 64 (leAt bs 24 8) }

/-- The octets of one access to a fixed address: 4 or 8 (R319, R322). -/
def Desc.unit (d : Desc) : Nat := if d.ctl.toNat / 16 % 4 = 3 then 8 else 4

/-- R323: an invalid descriptor. -/
def Desc.invalid (d : Desc) : Bool :=
  let sinc := d.ctl.getLsbD 2
  let dinc := d.ctl.getLsbD 3
  let coded := decide (2 ≤ d.ctl.toNat / 16 % 4)
  let u := d.unit
  d.ctl &&& ~~~ 0x13F#32 != 0
  || (!coded && !(sinc && dinc))
  || (coded && !sinc && (d.src.toNat % u != 0 || d.len.toNat % u != 0))
  || (coded && !dinc && (d.dst.toNat % u != 0 || d.len.toNat % u != 0))
  || (d.ctl.getLsbD 1 && d.next.toNat % 64 != 0)

/-- A completed descriptor (R321, R335): its done event, then the chain or IDLE. -/
def descDone (s : State) (c : Fin 32) (d : Desc) : State :=
  let s := if d.ctl.getLsbD 0 then pulse s (448 + c.val) else s
  if d.ctl.getLsbD 1 then
    let s := s.wr (res0Of c) d.next
    let s := s.up (res1Of c) fun w => setField w 31 0 0
    s.upChan c fun k => { k with desc := none, nextSeg := 0, fetchDue := true }
  else
    s.upChan c fun k => { k with state := .idle, desc := none, nextSeg := 0, fetchDue := false }

/-- A physical address in the TMR or LEG block: the block and the offset. -/
def perAddr (pa : Nat) : Option (Bool × Nat) :=
  if 0x800D0000 ≤ pa ∧ pa < 0x800E0000 then some (false, pa - 0x800D0000)
  else if 0x800E0000 ≤ pa ∧ pa < 0x800F0000 then some (true, pa - 0x800E0000)
  else none

/-- Bus reads that cover n octets of TMR or LEG from an aligned offset: one 64-bit access for 8 octets, else 32-bit
ones (DESIGN CHOICE, log 18). -/
def perReadOctets (s : State) (q : Requester) (leg : Bool) (off n : Nat) : Nat → State × List Byte
  | 0 => (s, [])
  | fuel + 1 =>
    if n = 0 then (s, [])
    else
      let wide := decide (n = 8 ∧ off % 8 = 0)
      let m := if wide then 8 else Nat.min n (4 - off % 4)
      let (s, w) := if wide then perRead64 s q leg off else perRead32 s q leg (off / 4 * 4)
      let bs := if wide then bytesLE 8 w.toNat else ((bytesLE 4 w.toNat).drop (off % 4)).take m
      let (s, rest) := perReadOctets s q leg (off + m) (n - m) fuel
      (s, bs ++ rest)

/-- Bus writes of octets to TMR or LEG: whole aligned words only (R45; DESIGN CHOICE, log 18). -/
def perWriteOctets (s : State) (q : Requester) (leg : Bool) (off : Nat) (bs : List Byte) : Nat → State
  | 0 => s
  | fuel + 1 =>
    if bs.isEmpty then s
    else if bs.length = 8 ∧ off % 8 = 0 then perWrite64 s q leg off (BitVec.ofNat 64 (natLE bs))
    else
      let m := 4 - off % 4
      let s := if m = 4 ∧ 4 ≤ bs.length then perWrite32 s q leg off (BitVec.ofNat 32 (natLE (bs.take 4))) else s
      perWriteOctets s q leg (off + m) (bs.drop m) fuel

/-- The octets a DMA read returns from one physical piece. -/
def dmaReadPiece (s : State) (c : Fin 32) (pa n : Nat) : State × List Byte :=
  match perAddr pa with
  | some (leg, off) => perReadOctets s (.dma c) leg off n 260
  | none => memRead s .fabric pa n

def dmaWritePiece (s : State) (c : Fin 32) (pa : Nat) (bs : List Byte) : State :=
  match perAddr pa with
  | some (leg, off) => perWriteOctets s (.dma c) leg off bs 260
  | none => memWrite s .fabric pa (enabled bs)

/-- DESCRIPTOR_FETCH (R317, R319 to R324): the due descriptor is read under the stamp and checked. A descriptor of
length 0 completes at once, TWAIT or not (DEDUCED, log 18). For an invalid descriptor no address fails, and RES2 holds the
descriptor's own (DESIGN CHOICE, log 18). A line of DDR that is being repeated holds the fetch up (R381). -/
def descFetch (s : State) (c : Fin 32) : State :=
  let k := s.chans[c]
  if !k.fetchDue || !k.flying.isEmpty then s
  else
    let va := s.rd (res0Of c)
    let q := chanReq s c .dmaRead
    if walkWaits s q va then s else
    let r := translate s q va
    let s := translateFill s q va
    match r with
    | .error f => suspend s c ⟨f.cause, 0, f.level, va⟩
    | .ok x =>
      if ddrWaits s x.pa 32 then s else
      let (s, bs) := dmaReadPiece s c x.pa 32
      let d := descOf bs
      if d.invalid then suspend s c ⟨0xA, 0, 0, va⟩
      else
        let s := s.upChan c fun k => { k with desc := some d, nextSeg := 0, fetchDue := false }
        if d.len = 0 then descDone s c d
        else if d.ctl.getLsbD 8 then s.upChan c fun k => { k with state := .armed }
        else s

def execDescriptorFetch (c : Fin 32) (s : State) : Host.Outcome State Fault Refusal := .next (descFetch s c)

/-! ### Segments -/

/-- The virtual accesses of segment k on one side: pieces within pages, or UNIT-wide accesses of a fixed address
(R322, R325, R326). -/
def pagePieces : Nat → Nat → Nat → List (Nat × Nat)
  | 0, _, _ => []
  | fuel + 1, va, n =>
    if n = 0 then []
    else
      let m := Nat.min n (4096 - va % 4096)
      (va, m) :: pagePieces fuel (va + m) (n - m)

def sidePieces (base : Word) (inc : Bool) (unit off n : Nat) : List (Nat × Nat) :=
  if inc then pagePieces 2 ((base.toNat + off) % 2 ^ 64) n
  else List.replicate (n / unit) (base.toNat, unit)

/-- Translates the pieces of one side in order: the physical pieces, or the first failure with its address. -/
def sideCheck (s : State) (q : Xreq) : List (Nat × Nat) → State × Except (Xfail × Nat) (List (Nat × Nat))
  | [] => (s, .ok [])
  | (va, n) :: t =>
    let r := translate s q (BitVec.ofNat 64 va)
    let s := translateFill s q (BitVec.ofNat 64 va)
    match r with
    | .error f => (s, .error (f, va))
    | .ok x =>
      match sideCheck s q t with
      | (s, .ok l) => (s, .ok ((x.pa, n) :: l))
      | (s, .error e) => (s, .error e)

/-- The channel takes part in the choice of R328: READY or RUNNING, whether or not a fetch or segments in flight hold up
its next segment; one that is to suspend or to go idle does not. -/
def runnable (s : State) (c : Fin 32) : Bool :=
  let k := s.chans[c]
  (k.state == .ready || k.state == .running) && !k.abortDue && k.failed == none

/-- The channel can start a segment now: its descriptor is fetched, bytes are left to start, fewer than four segments are
in flight (R327). -/
def canStart (s : State) (c : Fin 32) : Bool :=
  let k := s.chans[c]
  !k.fetchDue && decide (k.flying.length < 4)
  && (match k.desc with | some d => decide (k.nextSeg * 256 < d.len.toNat) | none => false)

/-- The channels of engine x. -/
def engChans (x : Fin 2) : List (Fin 32) := allFin32.filter fun c => decide (c.val / 16 = x.val)

/-- The channel keeps its engine: RUNNING there with segments of its turn left (R328). -/
def keepsEngine (s : State) (c : Fin 32) : Bool :=
  s.engCur[engOf c] == some (chOf c) && s.chans[c].state == .running
  && decide (s.chans[c].turn < field (s.rd (Adr.dmaEngCtl (engOf c))) 15 8)

/-- The channel R328 selects: highest PRIO, the running one for QUANT segments, then ascending and wrapping. -/
def selectChan (s : State) (x : Fin 2) : Option (Fin 32) :=
  let cs := (engChans x).filter (runnable s)
  let top := cs.foldl (fun m c => Nat.max m (chanPrio s c)) 0
  let cs := cs.filter fun c => decide (chanPrio s c = top)
  match cs.find? (keepsEngine s) with
  | some c => some c
  | none =>
    match s.engCur[x] with
    | none => cs.head?
    | some n => (cs.find? fun d => decide (n.val < (chOf d).val)).orElse fun _ => cs.head?

/-- A pre-empted channel is READY once it has no segment in flight (R301, R329; log 18). -/
def yieldEngine (s : State) (c : Fin 32) : State :=
  let k := s.chans[c]
  if k.state = .running ∧ k.flying = [] ∧ s.engCur[engOf c] ≠ some (chOf c) then
    s.upChan c fun k => { k with state := .ready }
  else s

/-- The engine turns to channel c, whose turn starts (R328, R329). -/
def turnTo (s : State) (c : Fin 32) : State :=
  if keepsEngine s c then s
  else
    let s := { s with engCur := s.engCur.set (engOf c).val (some (chOf c)) (engOf c).isLt }
    let s := (engChans (engOf c)).foldl yieldEngine s
    s.upChan c fun k => { k with state := .running, turn := 0 }

/-- The virtual pages of one side with their G bits, none where the stamp has translation off (R300). -/
def pagesUsed (s : State) (c : Fin 32) (ps : List (Nat × Nat)) (kind : XKind) : List (Nat × Bool) :=
  let q := chanReq s c kind
  if !q.ten then []
  else ps.map fun p => (p.1 / 4096, match translate s q (BitVec.ofNat 64 p.1) with | .ok x => bitOf x.attr 5 | .error _ => false)

/-- Starts the next segment of channel c (R325 to R327, R331). Where both sides fail their checks, the source is named
(DESIGN CHOICE, log 18). -/
def startSegment (s : State) (c : Fin 32) : State :=
  let k := s.chans[c]
  match k.desc with
  | none => s
  | some d =>
    if !canStart s c then s
    else
      let off := k.nextSeg * 256
      let n := Nat.min 256 (d.len.toNat - off)
      let ps := sidePieces d.src (d.ctl.getLsbD 2) d.unit off n
      let pd := sidePieces d.dst (d.ctl.getLsbD 3) d.unit off n
      let fail (s : State) (side : Nat) (f : Xfail) (va : Nat) : State :=
        let e : ChanFail := ⟨f.cause, side, f.level, BitVec.ofNat 64 va⟩
        if k.flying.isEmpty then suspend s c e else s.upChan c fun k => { k with failed := some e }
      if ps.any (fun p => walkWaits s (chanReq s c .dmaRead) (BitVec.ofNat 64 p.1))
          || pd.any fun p => walkWaits s (chanReq s c .dmaWrite) (BitVec.ofNat 64 p.1) then s else
      match sideCheck s (chanReq s c .dmaRead) ps with
      | (s, .error (f, va)) => fail s 1 f va
      | (s, .ok src) =>
        match sideCheck s (chanReq s c .dmaWrite) pd with
        | (s, .error (f, va)) => fail s 2 f va
        | (s, .ok dst) =>
          let q := chanReq s c .dmaRead
          let g : Seg := { id := k.started, num := k.nextSeg, bytes := n, src := src, dst := dst, triad := q.triad,
                           asid := q.asid, pages := pagesUsed s c ps .dmaRead ++ pagesUsed s c pd .dmaWrite, live := true
                           moved := false, kept := 0 }
          s.upChan c fun k => { k with nextSeg := k.nextSeg + 1, flying := k.flying ++ [g], turn := k.turn + 1,
                                       started := k.started + 1 }

/-- SEGMENT_START (R326 to R331): the selected channel takes the engine, and starts a segment unless a fetch or four
segments in flight hold it up. -/
def segmentStart (s : State) (x : Fin 2) : State :=
  if engStopped s x then s
  else
    match selectChan s x with
    | none => s
    | some c => startSegment (turnTo s c) c

def execSegmentStart (x : Fin 2) (s : State) : Host.Outcome State Fault Refusal := .next (segmentStart s x)

def dmaGather (s : State) (c : Fin 32) : List (Nat × Nat) → State × List Byte
  | [] => (s, [])
  | (pa, n) :: t =>
    let (s, a) := dmaReadPiece s c pa n
    let (s, b) := dmaGather s c t
    (s, a ++ b)

/-- The writes of a segment: each within one 64-byte row of a bank, or one piece of a register block (R342). -/
def segRows (g : Seg) (bs : List Byte) : List (Nat × List Byte) :=
  let rows := g.dst.flatMap fun p => if (perAddr p.1).isSome then [p] else rowsOf p.1 p.2
  (rows.foldl (fun (r : List (Nat × List Byte) × List Byte) p => (r.1 ++ [(p.1, r.2.take p.2)], r.2.drop p.2)) ([], bs)).1

/-- A write of segment id meets the owner port at its word: the bank keeps it (R338, R348, R349). -/
def segCollide (s : State) (c : Fin 32) (id : Nat) (b : Fin 12) (pa : Nat) (bs : List Byte) : State :=
  let s := collide (portClear s .fabric (plainAddr pa) true) b ⟨.seg c id, pa, enabled bs⟩
  s.upChan c fun k => { k with flying := k.flying.map fun g => if g.id = id then { g with kept := g.kept + 1 } else g }

/-- The accesses of a segment; the writes that `hit` numbers meet the owner port. -/
def moveSegment (s : State) (c : Fin 32) (g : Seg) (hit : List Nat) : State :=
  let s := s.upChan c fun k => { k with flying := k.flying.map fun h => if h.id = g.id then { h with moved := true } else h }
  let (s, bs) := dmaGather s c g.src
  (segRows g bs).zipIdx.foldl (fun s p =>
    match hit.contains p.2, refusingBank s .fabric p.1.1 with
    | true, some b => segCollide s c g.id b p.1.1 p.1.2
    | _, _ => dmaWritePiece s c p.1.1 p.1.2) s

/-- The end of an abort from RUNNING (R333, R334). -/
def abortDone (s : State) (c : Fin 32) : State :=
  let s := s.setBitR (statOf c) 10
  let s := s.upChan c fun k => { k with state := .idle, desc := none, fetchDue := false, abortDue := false, failed := none }
  pulse s (904 + c.val)

/-- A segment's last write has completed (R327, R331, R333, R335); a descriptor that completes under a pending ABORT has its
done event, and its chain ends. -/
def segmentEnds (s : State) (c : Fin 32) (g : Seg) : State :=
  let s := s.upChan c fun k => { k with flying := k.flying.filter fun h => decide (h.id ≠ g.id) }
  if !g.live then s
  else
    let s := s.up (res1Of c) fun w => setField w 31 0 (field w 31 0 + g.bytes)
    let k := s.chans[c]
    if !k.flying.isEmpty then s
    else if k.abortDue then
      abortDone (match k.desc with
        | some d => if d.ctl.getLsbD 0 && decide (d.len.toNat ≤ chanDone s c) then pulse s (448 + c.val) else s
        | none => s) c
    else
      match k.failed with
      | some f => suspend s c f
      | none =>
        let s := match k.desc with
          | some d => if d.len.toNat ≤ chanDone s c then descDone s c d else s
          | none => s
        yieldEngine s c

/-- SEGMENT_COMPLETE (R327): the accesses of the oldest segment in flight (DESIGN CHOICE, log 18) are made, which ends it; a
write of it that a bank keeps ends it only when the bank has performed that write (R349), and a line that the DDR
controller repeats holds it up (R381). -/
def segmentComplete (s : State) (c : Fin 32) (hit : List Nat) : State :=
  match s.chans[c].flying.head? with
  | none => s
  | some g =>
    if g.moved then (if g.kept = 0 then segmentEnds s c g else s)
    else if g.src.any fun p => ddrWaits s p.1 p.2 then s
    else
      let s := moveSegment s c g hit
      if (s.chans[c].flying.head?).any fun h => h.kept != 0 then s else segmentEnds s c g

def execSegmentComplete (seg : SegmentEnd) (s : State) : Host.Outcome State Fault Refusal :=
  .next (segmentComplete s seg.chan seg.collide)

/-! ### Commands (R333) -/

def cmdReject (s : State) (c : Fin 32) : State := s.setBitR (statOf c) 9

/-- RESUME: with SIDE 0b00 the descriptor is fetched again, else the channel goes on at segment DONE / 256. -/
def resumeChan (s : State) (w : TriadId) (c : Fin 32) : State :=
  if w.val = chanOwner s c ∧ s.chans[c].state = .suspended then
    let side := field (s.rd (res1Of c)) 37 36
    let s := becomeReady s c fun k =>
      if side = 0 then { k with fetchDue := true, desc := none, nextSeg := 0 } else { k with nextSeg := chanDone s c / 256 }
    pulse s (904 + c.val)
  else cmdReject s c

def execResume (w : TriadId) (c : Fin 32) (s : State) : Host.Outcome State Fault Refusal := .next (resumeChan s w c)

/-- The effect of an accepted ABORT by state (R333, R334, R337). -/
def abortChan (s : State) (c : Fin 32) : State :=
  let k := s.chans[c]
  let atOnce (s : State) : State :=
    let s := s.setBitR (statOf c) 10
    s.upChan c fun k => { k with state := .idle, desc := none, fetchDue := false, failed := none,
                                 flying := k.flying.map fun g => { g with live := false } }
  match k.state with
  | .armed => atOnce s
  | .ready => atOnce s
  | .suspended => pulse (atOnce s) (904 + c.val)
  | .running => if k.flying.isEmpty then abortDone s c else s.upChan c fun k => { k with abortDue := true }
  | _ => s

/-- ABORT from a triad. -/
def abortCmd (s : State) (w : TriadId) (c : Fin 32) : State :=
  let st := s.chans[c].state
  if w.val = chanOwner s c ∧ st ≠ .idle ∧ st ≠ .error then abortChan s c else cmdReject s c

def execAbort (w : TriadId) (c : Fin 32) (s : State) : Host.Outcome State Fault Refusal := .next (abortCmd s w c)

/-- A write of DMAx_CHn_CMD. -/
def writeDmaCmd (s : State) (w : TriadId) (c : Fin 32) (v : BitVec 32) : State :=
  match v.toNat % 4 with
  | 1 => resumeChan s w c
  | 2 => abortCmd s w c
  | _ => s

/-- A reset or the fencing of triad t: an ABORT from it to every channel it owns (R337). -/
def abortOwned (s : State) (t : TriadId) : State :=
  allFin32.foldl (fun s c => if chanOwner s c = t.val then abortCmd s t c else s) s

/-- A segment that the engine's stop cuts off: a free number of its writes, fewer than all, have been made, each of them
whole (R322, R332, R342; log 6). One whose writes have all completed counts in DONE. -/
def cutSegment (s : State) (c : Fin 32) (g : Seg) : State :=
  if g.moved then (if g.kept = 0 then segmentEnds s c g else s)
  else
    let (v, s) := s.draw
    let (s, bs) := dmaGather s c g.src
    let ws := segRows g bs
    (ws.take (v.toNat % ws.length)).foldl (fun s p => dmaWritePiece s c p.1 p.2) s

/-- ENGINE_COMPARISON_FAULT (R332): once per engine until a reset. -/
def engineFault (s : State) (x : Fin 2) : State :=
  if engStopped s x then s
  else
    let s := (engChans x).foldl (fun s c => s.chans[c].flying.foldl (fun s g => cutSegment s c g) s) s
    let s := (engChans x).foldl (fun s c =>
      let s := if s.chans[c].state = .running then
          s.up (res1Of c) fun w => setField (setField (setField w 39 38 0) 37 36 3) 35 32 0xB
        else s
      let s := s.upChan c fun k => { k with state := .error, flying := [], fetchDue := false, abortDue := false,
                                            failed := none }
      pulse s (480 + c.val)) s
    let s := s.setBitR (Adr.dmaEngStat x) 31
    report { s with engCur := s.engCur.set x.val none x.isLt } (132 + x.val) 0

def execEngineComparisonFault (x : Fin 2) (s : State) : Host.Outcome State Fault Refusal := .next (s.powered fun s => engineFault s x)

/-- A Tense start action aimed at channel c (R324). -/
def startArmed (s : State) (c : Fin 32) : State :=
  if s.chans[c].state = .armed then becomeReady s c id else s.setBitR (statOf c) 11

/-- Channel states' codes (R315). -/
def chanCode : ChanState → Nat
  | .idle => 0 | .armed => 1 | .ready => 2 | .running => 3 | .suspended => 4 | .error => 5

/-- DMAx_CHn_STAT and DMAx_ENG_STAT as read. -/
def dmaStatView (s : State) (c : Fin 32) : Word := (s.rd (statOf c)) ||| BitVec.ofNat 64 (chanCode s.chans[c].state)

def engStatView (s : State) (x : Fin 2) : Word :=
  let w := s.rd (Adr.dmaEngStat x)
  let running := (engChans x).filter fun c => s.chans[c].state == .running
  match (running.find? fun c => s.engCur[x] == some (chOf c)).orElse fun _ => running.head? with
  | some c => w ||| BitVec.ofNat 64 (16 + c.val % 16)
  | none => w

end Sys2Proof.Machine
end

