-- ==== Sys2Proof/Machine/Crc.lean ====
section
/-! DEFINITION. Check codes and digests: the signature CRC (R203), the CRC-32C of R472, SHA-256 and HMAC-SHA-256
(FIPS 180-4, RFC 2104, named by R495, R500, R527). -/

namespace Sys2Proof.Machine

/-- One bit step of the CRC-64 of R203. -/
def crc64Bit (c : Word) : Word :=
  if c.getLsbD 63 then (c <<< 1) ^^^ 0x42F0E1EBA9EA3693 else c <<< 1

/-- One octet, most significant bit first (R203). -/
def crc64Byte (c : Word) (b : Byte) : Word :=
  let x := c ^^^ (b.setWidth 64 <<< 56)
  crc64Bit (crc64Bit (crc64Bit (crc64Bit (crc64Bit (crc64Bit (crc64Bit (crc64Bit x)))))))

def crc64 (c : Word) (bs : List Byte) : Word := bs.foldl crc64Byte c

/-- One bit step of the reflected CRC-32C. -/
def crc32cBit (c : BitVec 32) : BitVec 32 :=
  if c.getLsbD 0 then (c >>> 1) ^^^ 0x82F63B78 else c >>> 1

def crc32cByte (c : BitVec 32) (b : Byte) : BitVec 32 :=
  let x := c ^^^ b.setWidth 32
  crc32cBit (crc32cBit (crc32cBit (crc32cBit (crc32cBit (crc32cBit (crc32cBit (crc32cBit x)))))))

/-- CRC-32C of a list of octets (R472). -/
def crc32c (bs : List Byte) : BitVec 32 := bs.foldl crc32cByte 0xFFFFFFFF ^^^ 0xFFFFFFFF

/-! ### SHA-256 -/

/-- The first 64 primes, whose roots give the digest's constants. -/
def primes64 : List Nat :=
  [2, 3, 5, 7, 11, 13, 17, 19, 23, 29, 31, 37, 41, 43, 47, 53, 59, 61, 67, 71, 73, 79, 83, 89, 97] ++
  [101, 103, 107, 109, 113, 127, 131, 137, 139, 149, 151, 157, 163, 167, 173, 179, 181, 191, 193, 197, 199] ++
  [211, 223, 227, 229, 233, 239, 241, 251, 257, 263, 269, 271, 277, 281, 283, 293, 307, 311]

/-- The largest r below base + 2 ^ n with r ^ k at most x, its bits tried from the highest down. -/
def rootBits (k x : Nat) : Nat → Nat → Nat
  | 0, base => base
  | n + 1, base => rootBits k x n (if (base + 2 ^ n) ^ k ≤ x then base + 2 ^ n else base)

/-- The first 32 bits of the fraction of the k-th root of p. -/
def rootFraction (k p : Nat) : BitVec 32 := BitVec.ofNat 32 (rootBits k (p * 2 ^ (32 * k)) 38 0)

/-- The round constants are cube roots, the initial hash value square roots (FIPS 180-4; PRESUMED, log 25). -/
def roundConstants : List (BitVec 32) := primes64.map (rootFraction 3)
def digestStart : List (BitVec 32) := (primes64.take 8).map (rootFraction 2)

/-- The exclusive or of the rotations of a word. -/
def rotXor (w : BitVec 32) (ns : List Nat) : BitVec 32 := ns.foldl (fun a n => a ^^^ w.rotateRight n) 0

/-- One more word of the message schedule, whose latest words come newest first. -/
def nextWord (w : List (BitVec 32)) : BitVec 32 :=
  let back (n : Nat) : BitVec 32 := w.getD (n - 1) 0
  back 16 + back 7 + (rotXor (back 15) [7, 18] ^^^ back 15 >>> 3) + (rotXor (back 2) [17, 19] ^^^ back 2 >>> 10)

/-- The eight working words, and one round over them with its constant and message word. -/
structure Working where
  lo : BitVec 32 × BitVec 32 × BitVec 32 × BitVec 32
  hi : BitVec 32 × BitVec 32 × BitVec 32 × BitVec 32

def Working.round (s : Working) (add : BitVec 32) : Working :=
  let (a, b, c, d) := s.lo
  let (e, f, g, h) := s.hi
  let choose := g ^^^ (e &&& (f ^^^ g))
  let majority := (a &&& b) ||| (c &&& (a ||| b))
  let t := h + rotXor e [6, 11, 25] + choose + add
  ⟨(t + rotXor a [2, 13, 22] + majority, a, b, c), (d + t, e, f, g)⟩

/-- The rounds: each consumes the oldest of the 16 schedule words and makes a new one. -/
def Working.rounds : List (BitVec 32) → List (BitVec 32) → Working → Working
  | [], _, s => s
  | k :: ks, w, s => Working.rounds ks ((nextWord w :: w).take 16) (s.round (k + w.getD 15 0))

/-- One 64-octet block into the hash value. -/
def digestBlock (v : List (BitVec 32)) (blk : List Byte) : List (BitVec 32) :=
  let word (i : Nat) : BitVec 32 := BitVec.ofNat 32 (beAt blk (4 * i) 4)
  let start (i : Nat) : BitVec 32 := v.getD i 0
  let r := Working.rounds roundConstants ((List.range 16).map word).reverse
    ⟨(start 0, start 1, start 2, start 3), (start 4, start 5, start 6, start 7)⟩
  let (a, b, c, d) := r.lo
  let (e, f, g, h) := r.hi
  v.zipWith (fun x y => x + y) [a, b, c, d, e, f, g, h]

def digestBlocks : Nat → List (BitVec 32) → List Byte → List (BitVec 32)
  | 0, v, _ => v
  | n + 1, v, bs => digestBlocks n (digestBlock v bs) (bs.drop 64)

/-- SHA-256 of a list of octets. -/
def sha256 (bs : List Byte) : List Byte :=
  let pad := (119 - bs.length % 64) % 64
  let m := bs ++ [0x80] ++ List.replicate pad 0 ++ bytesBE 8 (8 * bs.length)
  (digestBlocks (m.length / 64) digestStart m).flatMap fun w => bytesBE 4 w.toNat

/-- HMAC-SHA-256. -/
def hmac (key msg : List Byte) : List Byte :=
  let k := padTo (if 64 < key.length then sha256 key else key) 64
  sha256 (k.map (· ^^^ 0x5c) ++ sha256 (k.map (· ^^^ 0x36) ++ msg))

/-- The octets of an ASCII string (key labels). -/
def ascii (s : String) : List Byte := s.toList.map fun c => BitVec.ofNat 8 c.toNat

end Sys2Proof.Machine
end

