-- ==== Sys2Proof/Machine/Fcu.lean ====
section
/-! DEFINITION. The commands of the fault collection units (R604 to R632) and of the clock monitor (R37 to R39), and the
FCU registers as read. -/

namespace Sys2Proof.Machine

def fcuOf (s : State) (u : FcuId) : FcuUnit := match u with | .a => s.fcu.a | .b => s.fcu.b

def State.upFcu (s : State) (u : FcuId) (f : FcuUnit → FcuUnit) : State :=
  match u with
  | .a => { s with fcu := { s.fcu with a := f s.fcu.a } }
  | .b => { s with fcu := { s.fcu with b := f s.fcu.b } }

def live (u : FcuUnit) : Bool := u.state != .failed

/-- A change of both units that a FAILED unit does not take (R612). -/
def State.upLive (s : State) (f : FcuUnit → FcuUnit) : State :=
  let g (u : FcuUnit) : FcuUnit := if live u then f u else u
  { s with fcu := { s.fcu with a := g s.fcu.a, b := g s.fcu.b } }

/-- E0773 where either unit changed its state from what it was (R629). -/
def stateEvent (old s : State) : State :=
  if old.fcu.a.state = s.fcu.a.state ∧ old.fcu.b.state = s.fcu.b.state then s else pulse s 773

/-- LOCKSTEP_BROKEN (R282). -/
def broken (s : State) : Bool := bitOf (s.rd Adr.sysLstat) 0

/-! ### Reports -/

/-- FAULT_REPORT (R617, R604): a report that only one unit receives is followed by F161 (R32). A reserved fault is
never reported (R615). -/
def faultReport (s : State) (f : Nat) (info : Nat) (route : FcuRoute) : State :=
  if !faultExists f then s
  else
    match route with
    | .both => report s f info
    | .onlyA => report (reportWakes s f info true false) 161 0
    | .onlyB => report (reportWakes s f info false true) 161 0

def execFaultReport (f : Byte) (info : BitVec 32) (route : FcuRoute) (s : State) : Host.Outcome State Fault Refusal :=
  .next (faultReport s f.toNat info.toNat route)

/-- FCU_SWREP (R631). -/
def execFcuSwrep (idx : BitVec 4) (info : BitVec 32) (s : State) : Host.Outcome State Fault Refusal :=
  .next (report s (208 + idx.toNat) info.toNat)

/-! ### Cross-check (R608 to R611) -/

/-- A unit's digest (R609). The order of its items is not given: DESIGN CHOICE, log 24. -/
def digest (u : FcuUnit) : BitVec 32 :=
  let st : Nat := match u.state with | .init => 0 | .normal => 1 | .quiet => 1 | .fault => 2 | .failed => 4
  crc32c ([BitVec.ofNat 8 st] ++ bytesLE 30 u.active.toNat ++ [BitVec.ofNat 8 u.armed.toNat, BitVec.ofNat 8 u.swHold.toNat])

/-- An agreeing exchange moves a unit out of INIT at the second one (R608). -/
def agreeOnce (u : FcuUnit) : FcuUnit :=
  if u.state = .init then
    let n := u.agreed + 1
    if 2 ≤ n then { u with agreed := 2, state := if anySX u || u.xPending then .fault else .normal } else { u with agreed := n }
  else u

/-- A unit becomes FAILED, which disarms PERMIT in both (R611, R612, R626). -/
def fcuFail (s : State) (u : FcuId) : State :=
  if live (fcuOf s u) then
    let was := armedAny s
    let s := s.upFcu u fun x => { x with state := .failed, pulse := false, window := false }
    let off (x : FcuUnit) : FcuUnit := { x with armed := false, permit := false }
    let s := { s with fcu := { s.fcu with a := off s.fcu.a, b := off s.fcu.b, differ := 0 } }
    countDisarm (pulse (pulse s 773) 778) was
  else s

/-- A digest comes from a unit at an exchange (R609, R611). -/
def sendsDigest (u : FcuUnit) : Bool := live u && !u.silent

/-- No digest has come from a unit in two exchanges in a row: its partner counts it FAILED and reports it (R611). -/
def partnerFails (s : State) : State :=
  let s := if sendsDigest s.fcu.a then s else fcuFail s .a
  let s := if sendsDigest s.fcu.b then s else fcuFail s .b
  let a := live s.fcu.a
  if a || live s.fcu.b then report s (if a then 164 else 163) 0 else s

/-- CROSS_CHECK_EXCHANGE. -/
def exchange (s : State) : State :=
  let put (s : State) (n m : Nat) (ok : Bool) : State := { s with fcu := { s.fcu with differ := n, missed := m, lastAgreed := ok } }
  if sendsDigest s.fcu.a && sendsDigest s.fcu.b then
    if digest s.fcu.a = digest s.fcu.b then
      let s1 := put s 0 0 true
      stateEvent s { s1 with fcu := { s1.fcu with a := agreeOnce s1.fcu.a, b := agreeOnce s1.fcu.b } }
    else
      let n := s.fcu.differ + 1
      let s := put (s.up Adr.fcuXchk fun w => satField w 31 16) n 0 false
      let s := s.upLive fun u => { u with agreed := if u.state = .init then 0 else u.agreed }
      if n = 2 then report s 162 0 else s
  else
    let m := Nat.min 3 (s.fcu.missed + 1)
    let s := put s s.fcu.differ m false
    if m = 2 then partnerFails s else s

def execCrossCheckExchange (s : State) : Host.Outcome State Fault Refusal := .next (exchange s)

/-- FCU_SELF_CHECK_ERROR (R611, R612): a unit fails by its self-check, or its digests stop and its partner finds it at the
exchanges that follow. -/
def fcuError (s : State) (e : FcuError) : State :=
  match e with
  | .selfCheck u => fcuFail s u
  | .silent u => s.upFcu u fun x => { x with silent := true }

def execFcuSelfCheckError (u : FcuError) (s : State) : Host.Outcome State Fault Refusal := .next (fcuError s u)

/-! ### FAULT_N (R621 to R623) -/

/-- A REL has no effect on the line (R622). -/
def relBlocked (s : State) : Bool :=
  let us := [s.fcu.a, s.fcu.b]
  (us.any (fun u => live u && u.hwHold) && !deviceNormal s) || us.any (fun u => u.state == .failed || u.state == .init)
  || us.any (fun u => u.xPending) || broken s

/-- PULSE_END. -/
def pulseEnd (s : State) (u : FcuId) : State :=
  s.upFcu u fun x =>
    if x.pulse then
      if x.relDue then { x with pulse := false, relDue := false, window := false, swHold := false, hwHold := false }
      else { x with pulse := false, window := true }
    else x

def execPulseEnd (u : FcuId) (s : State) : Host.Outcome State Fault Refusal := .next (pulseEnd s u)

/-- DECISION_WINDOW_END. -/
def windowEnd (s : State) (u : FcuId) : State :=
  let x := fcuOf s u
  if x.window then
    if x.holdReq then s.upFcu u fun x => { x with window := false }
    else pulse (s.upFcu u fun x => { x with window := false, hwHold := true }) 775
  else s

def execDecisionWindowEnd (u : FcuId) (s : State) : Host.Outcome State Fault Refusal := .next (windowEnd s u)

/-- A write of HOLD: it also cancels a REL that waits for the pulse's end. -/
def fcuHold (s : State) : State :=
  s.upLive fun u => { u with swHold := true, relDue := false, holdReq := u.holdReq || u.pulse || u.window }

/-- A write of REL. -/
def fcuRel (s : State) : State :=
  let blocked := relBlocked s
  s.upLive fun u =>
    if u.pulse then (if blocked then u else { u with relDue := true, holdReq := true })
    else if u.window then (if blocked then u else { u with window := false, swHold := false, hwHold := false, holdReq := true })
    else { u with swHold := false, hwHold := u.hwHold && blocked }

def execHold (s : State) : Host.Outcome State Fault Refusal := .next (fcuHold s)

def execRel (s : State) : Host.Outcome State Fault Refusal := .next (fcuRel s)

/-- A write of FCU_PINCTL: HOLD, then REL (log 24). -/
def writePinctl (s : State) (v : BitVec 32) : State :=
  let s := if v.getLsbD 0 then fcuHold s else s
  if v.getLsbD 1 then fcuRel s else s

/-- A unit pulls FAULT_N low (R605, R612, R621). -/
def pulls (u : FcuUnit) : Bool :=
  u.state == .failed || u.pulse || u.window || u.swHold || u.hwHold || u.xPending

/-- The level of FAULT_N (R605, R282, R628). -/
def faultN (s : State) : Bool := !pulls s.fcu.a && !pulls s.fcu.b && !broken s && modeOf s != 5

/-! ### Active faults and the quiet period (R629) -/

/-- FAULT to QUIET in both units where no active fault of class S or X remains. -/
def settleFault (s : State) : State :=
  stateEvent s { s with fcu := { s.fcu with a := unitSettles s.fcu.a, b := unitSettles s.fcu.b } }

/-- ACTIVE_FAULT_CLEAR: a write of FCU_ACTk. -/
def clearActive (s : State) (k : Fin 8) (v : BitVec 32) : State :=
  let m : BitVec 240 := BitVec.ofNat 240 (v.toNat * 2 ^ (32 * k.val))
  settleFault (s.upLive fun u =>
    { u with active := u.active &&& ~~~ m, actD := u.actD &&& ~~~ m, actS := u.actS &&& ~~~ m })

def execActiveFaultClear (k : Fin 8) (v : BitVec 32) (s : State) : Host.Outcome State Fault Refusal :=
  .next (clearActive s k v)

/-- QUIET_PERIOD_END. -/
def quietEnd (s : State) (u : FcuId) : State :=
  if (fcuOf s u).state = .quiet then pulse (s.upFcu u fun x => { x with state := .normal }) 773 else s

def execQuietPeriodEnd (u : FcuId) (s : State) : Host.Outcome State Fault Refusal := .next (quietEnd s u)

/-- DOMAIN_WINDOW_EXPIRY (R619): one report leaves the window. -/
def execDomainWindowExpiry (u : FcuId) (d : Fin 7) (s : State) : Host.Outcome State Fault Refusal :=
  .next (s.upFcu u fun x => { x with domCount := vmod x.domCount d fun n => n - 1 })

/-! ### ALIVE and PERMIT (R624 to R627) -/

/-- ALIVE may toggle (R624), neither before the release of the triads nor in DORMANT (R628, R672). -/
def aliveOk (s : State) : Bool := fcuServing s.fcu.a && fcuServing s.fcu.b && s.fcu.lastAgreed && modeOf s != 0 && modeOf s != 5

/-- ALIVE_TOGGLE. -/
def execAliveToggle (s : State) : Host.Outcome State Fault Refusal :=
  .next (if aliveOk s then { s with fcu := { s.fcu with alive := !s.fcu.alive } } else s)

/-- A unit's PERMIT pin may toggle (R625). -/
def permitOk (s : State) (u : FcuId) : Bool :=
  let x := fcuOf s u
  x.armed && (x.state == .normal || x.state == .quiet) && (modeOf s == 2 || modeOf s == 3) && !broken s

/-- PERMIT_TOGGLE: static low where the conditions do not hold. -/
def execPermitToggle (u : FcuId) (s : State) : Host.Outcome State Fault Refusal :=
  .next (s.upFcu u fun x => { x with permit := permitOk s u && !x.permit })

/-- The conditions of an acknowledgement (R627). -/
def ackOk (s : State) : Bool :=
  deviceNormal s && !anySX s.fcu.a && !anySX s.fcu.b && (modeOf s == 2 || modeOf s == 3) && !broken s

/-- PERMIT is armed by source 1 (PACK_N) or 2 (object 0x2010). -/
def armPermit (s : State) (src : Nat) : State :=
  let s := s.upLive fun u => { u with armed := true }
  pulse (s.up Adr.fcuPermit fun w => setField w 5 4 src) 776

/-- PACK_N_ACKNOWLEDGEMENT (R627): held for 20 ms to 2 s. -/
def execPackNAcknowledgement (heldMs : Nat) (s : State) : Host.Outcome State Fault Refusal :=
  .next (if 20 ≤ heldMs ∧ heldMs ≤ 2000 ∧ ackOk s = true then armPermit s 1 else s)

/-! ### Registers as read (R606) -/

/-- The unit whose copy is read. -/
def shownUnit (s : State) : FcuUnit := if live s.fcu.a then s.fcu.a else s.fcu.b

def fcuCode : FcuState → Nat
  | .init => 0 | .normal => 1 | .fault => 2 | .quiet => 3 | .failed => 4

def fcuStateView (s : State) : Word :=
  let u := shownUnit s
  BitVec.ofNat 64 ((anySX u).toNat * 512 + u.armed.toNat * 256 + fcuCode s.fcu.b.state * 16 + fcuCode s.fcu.a.state)

def pinctlView (s : State) : Word :=
  let u := shownUnit s
  b2w u.hwHold 31 ||| b2w u.swHold 30 ||| b2w (u.pulse || u.window) 29 ||| b2w (faultN s) 28
    ||| b2w (pulls s.fcu.b) 27 ||| b2w (pulls s.fcu.a) 26

def permitView (s : State) : Word :=
  (s.rd Adr.fcuPermit) ||| b2w (permitOk s .b) 3 ||| b2w (permitOk s .a) 2 ||| b2w (shownUnit s).armed 0

def xchkView (s : State) : Word := (s.rd Adr.fcuXchk) ||| b2w (!live s.fcu.b) 1 ||| b2w (!live s.fcu.a) 0

def actView (s : State) (k : Nat) : Word := BitVec.ofNat 64 ((shownUnit s).active.toNat / 2 ^ (32 * k) % 2 ^ 32)

def rcnt0View (s : State) : Word :=
  let n := (shownUnit s).counters
  BitVec.ofNat 64 (n[3] * 2 ^ 48 + n[2] * 2 ^ 32 + n[1] * 2 ^ 16 + n[0])

def rcnt1View (s : State) : Word := BitVec.ofNat 64 (shownUnit s).counters[4]

def domView (s : State) : Word := (shownUnit s).dis.setWidth 64

def domcntView (s : State) (d : Fin 7) : Word := BitVec.ofNat 64 (shownUnit s).domCount[d]

/-! ### The clock monitor (R37 to R39) -/

/-- A clock fault: recorded, counted and reported. -/
def clockFault (s : State) (bit : Nat) : State :=
  report (s.up Adr.sysClkstat fun w => satField (putBit w bit true) 7 0) 160 0

def allClocks : List (Fin 6) := [0, 1, 2, 3, 4, 5]

def setBit6 (v : BitVec 6) (i : Nat) (b : Bool) : BitVec 6 :=
  if b then v ||| BitVec.ofNat 6 (2 ^ i) else v &&& ~~~ BitVec.ofNat 6 (2 ^ i)

/-- One clock at the end of a window: reported at the onset, rearmed by a good window. -/
def clockWindow (s : State) (c : Fin 6) (off : Bool) : State :=
  if off then
    if s.sys.freqSeen.getLsbD c.val then s
    else clockFault { s with sys := { s.sys with freqSeen := setBit6 s.sys.freqSeen c.val true } } (8 + c.val)
  else
    { s with sys := { s.sys with freqSeen := setBit6 s.sys.freqSeen c.val false,
                                 stopSeen := setBit6 s.sys.stopSeen c.val false }
             yob := { s.yob with clkStopped := s.yob.clkStopped && c != 4 } }

/-- CLOCK_MONITOR_WINDOW. -/
def execClockMonitorWindow (off : BitVec 6) (s : State) : Host.Outcome State Fault Refusal :=
  .next (allClocks.foldl (fun s c => clockWindow s c (off.getLsbD c.val)) s)

/-- CLOCK_STOP. CLK_TNS stopped marks the island's next record (R581). -/
def clockStop (s : State) (c : Fin 6) : State :=
  if s.sys.stopSeen.getLsbD c.val then s
  else
    let s := { s with sys := { s.sys with stopSeen := setBit6 s.sys.stopSeen c.val true } }
    let s := if c = 4 then { s with yob := { s.yob with cgap := true, clkStopped := true } } else s
    clockFault s (16 + c.val)

def execClockStop (c : Fin 6) (s : State) : Host.Outcome State Fault Refusal := .next (clockStop s c)

/-- PLL_LOSS_OF_LOCK. -/
def execPllLossOfLock (s : State) : Host.Outcome State Fault Refusal :=
  .next (
    let s := s.up Adr.sysClkstat fun w => putBit w 31 false
    if s.sys.lolSeen then s else clockFault { s with sys := { s.sys with lolSeen := true } } 30)

/-- PLL_LOCK_REGAINED. -/
def execPllLockRegained (s : State) : Host.Outcome State Fault Refusal :=
  .next { s.up Adr.sysClkstat (fun w => putBit w 31 true) with sys := { s.sys with lolSeen := false } }

end Sys2Proof.Machine
end

