-- ==== Sys2Proof/Machine/Aes.lean ====
section
/-! DEFINITION. AES key wrap (R539). The spec names RFC 3394 and gives neither it nor AES: both are taken from RFC 3394 and
FIPS 197 (PRESUMED, log 25). -/

namespace Sys2Proof.Machine

/-! ### The field of 256 elements and the substitution -/

/-- A byte times x, and the product of two bytes. -/
def gfDouble (b : Byte) : Byte := (b <<< 1) ^^^ (if b.msb then 0x1B else 0)

def gfMul (a b : Byte) : Byte :=
  ((List.range 8).foldl (fun (acc : Byte × Byte) i => (if b.getLsbD i then acc.1 ^^^ acc.2 else acc.1, gfDouble acc.2)) (0, a)).1

/-- The inverse, 0 for 0: the 254th power. -/
def gfInv (b : Byte) : Byte :=
  ((List.range 6).foldl (fun (acc : Byte × Byte) _ => let q := gfMul acc.2 acc.2; (gfMul acc.1 q, q))
    (gfMul b b, gfMul b b)).1

def aesSub (b : Byte) : Byte :=
  let i := gfInv b
  i ^^^ i.rotateLeft 1 ^^^ i.rotateLeft 2 ^^^ i.rotateLeft 3 ^^^ i.rotateLeft 4 ^^^ 0x63

def aesUnsub (b : Byte) : Byte := gfInv (b.rotateLeft 1 ^^^ b.rotateLeft 3 ^^^ b.rotateLeft 6 ^^^ 0x05)

def xorOctets (a b : List Byte) : List Byte := List.zipWith (fun x y => x ^^^ y) a b

/-! ### AES-256 -/

/-- The word after 8 or more of a key's words, the newest first, of which there are n. -/
def aesNextWord (n : Nat) (ws : List (List Byte)) : List Byte :=
  let last := ws.headD []
  let t :=
    if n % 8 = 0 then
      xorOctets ((last.drop 1 ++ last.take 1).map aesSub) [BitVec.ofNat 8 (2 ^ (n / 8 - 1)), 0, 0, 0]
    else if n % 8 = 4 then last.map aesSub
    else last
  xorOctets (ws.getD 7 []) t

/-- The fifteen round keys of a key of 32 octets. -/
def aesKeys (key : List Byte) : List (List Byte) :=
  let first := (List.range 8).reverse.map fun i => sliceOf key (4 * i) 4
  let ws := ((List.range 52).foldl (fun ws i => aesNextWord (8 + i) ws :: ws) first).reverse
  (List.range 15).map fun r => (ws.drop (4 * r)).take 4 |>.flatten

/-- Rows of the block, whose octets stand column by column, turn by their number, up or down. -/
def aesShift (b : List Byte) : List Byte := (List.range 16).map fun i => b.getD ((i + 4 * (i % 4)) % 16) 0
def aesUnshift (b : List Byte) : List Byte := (List.range 16).map fun i => b.getD ((i + 16 - 4 * (i % 4)) % 16) 0

/-- Every column times the circulant matrix of four factors. -/
def aesMix (m : List Byte) (b : List Byte) : List Byte :=
  (List.range 16).map fun i =>
    (List.range 4).foldl (fun a j => a ^^^ gfMul (m.getD ((j + 4 - i % 4) % 4) 0) (b.getD (i / 4 * 4 + j) 0)) 0

def aesRound (last : Bool) (b k : List Byte) : List Byte :=
  let c := aesShift (b.map aesSub)
  xorOctets (if last then c else aesMix [2, 3, 1, 1] c) k

def aesUnround (last : Bool) (b k : List Byte) : List Byte :=
  let c := xorOctets b k
  (aesUnshift (if last then c else aesMix [14, 11, 13, 9] c)).map aesUnsub

/-- A block of 16 octets enciphered and deciphered under round keys. -/
def aesBlock (ks : List (List Byte)) (b : List Byte) : List Byte :=
  (List.range 14).foldl (fun b r => aesRound (r == 13) b (ks.getD (r + 1) [])) (xorOctets b (ks.getD 0 []))

def aesUnblock (ks : List (List Byte)) (b : List Byte) : List Byte :=
  xorOctets ((List.range 14).foldl (fun b r => aesUnround (r == 0) b (ks.getD (14 - r) [])) b) (ks.getD 0 [])

/-! ### Key wrap -/

/-- One pass over the blocks: the register, and each block as it comes out. -/
def wrapPass (ks : List (List Byte)) : Nat → List Byte → List (List Byte) → List Byte × List (List Byte)
  | _, a, [] => (a, [])
  | t, a, r :: rs =>
    let b := aesBlock ks (a ++ r)
    let o := wrapPass ks (t + 1) (xorOctets (b.take 8) (bytesBE 8 t)) rs
    (o.1, b.drop 8 :: o.2)

/-- A pass undone; the blocks stand last first. -/
def unwrapPass (ks : List (List Byte)) : Nat → List Byte → List (List Byte) → List Byte × List (List Byte)
  | _, a, [] => (a, [])
  | t, a, r :: rs =>
    let b := aesUnblock ks (xorOctets a (bytesBE 8 t) ++ r)
    let o := unwrapPass ks (t - 1) (b.take 8) rs
    (o.1, b.drop 8 :: o.2)

/-- Octets in blocks of eight. -/
def octetBlocks (l : List Byte) : List (List Byte) := (List.range (l.length / 8)).map fun i => sliceOf l (8 * i) 8

def wrapCheck : List Byte := List.replicate 8 0xA6

/-- Octets wrapped under a key of 32 octets: eight more than there were. -/
def keyWrap (key plain : List Byte) : List Byte :=
  let ks := aesKeys key
  let bs := octetBlocks plain
  let o := (List.range 6).foldl (fun (o : List Byte × List (List Byte)) j => wrapPass ks (bs.length * j + 1) o.1 o.2) (wrapCheck, bs)
  o.1 ++ o.2.flatten

/-- The octets that were wrapped; none where the check value does not come back. -/
def keyUnwrap (key wrapped : List Byte) : Option (List Byte) :=
  let ks := aesKeys key
  let bs := octetBlocks (wrapped.drop 8)
  let o := (List.range 6).foldl (fun (o : List Byte × List (List Byte)) j => unwrapPass ks (bs.length * (6 - j)) o.1 o.2)
    (wrapped.take 8, bs.reverse)
  if o.1 = wrapCheck then some o.2.reverse.flatten else none

end Sys2Proof.Machine
end

