-- ==== Sys2Proof/Machine/Frames.lean ====
section
/-! DEFINITION. Ethernet frames (R437, R438), the tables of the cyclic exchange (R449 to R453), the
building of cyclic frames (R454 to R461), safe containers of producers (R470 to R474), gate lists and their checks (R445 to R447). -/

namespace Sys2Proof.Machine

def State.upPort (s : State) (p : Fin 8) (f : Port → Port) : State := { s with net := { s.net with ports := vmod s.net.ports p f } }

def allPorts : List (Fin 8) := List.finRange 8

def netMac (s : State) : Nat := field (s.rd Adr.netMac) 47 0

/-- EN of NET_CTL: cyclic reception and launches. -/
def netOn (s : State) : Bool := bitOf (s.rd Adr.netCtl) 30

/-- The field and PCIe ports may have link: from the release of the triads on (R672), not in DORMANT (R676, R677). -/
def serdesUp (s : State) : Bool := modeOf s != 0 && modeOf s != 5

/-- The port is enabled and has link. -/
def linkUp (s : State) (p : Fin 8) : Bool := bitOf (s.rd (Adr.netPCfg p)) 30 && bitOf (s.rd (Adr.netPStat p)) 31

/-- The ring partner of a port, and whether the pair is enabled (R468). -/
def partner (p : Fin 8) : Fin 8 := ⟨if p.val % 2 = 0 then p.val + 1 else p.val - 1, by split <;> omega⟩
def pairOf (p : Fin 8) : Fin 4 := ⟨p.val / 2, by omega⟩
def ringOn (s : State) (p : Fin 8) : Bool := bitOf (s.rd (Adr.netRing (pairOf p))) 30

/-! ### Ethernet frames -/

/-- A received frame without its VLAN tag: addresses, VLAN and priority, and the octets from the EtherType on. -/
structure Eth where
  dst : Nat
  src : Nat
  vid : Nat
  pcp : Nat
  rest : List Byte
deriving DecidableEq, Repr

/-- Reads a frame; an untagged or priority-tagged one takes the port's PVID (R438). -/
def parseEth (pvid : Nat) (o : List Byte) : Option Eth :=
  if o.length < 14 then none
  else
    let tagged := beAt o 12 2 = 0x8100
    if tagged ∧ o.length < 18 then none
    else
      let tci := beAt o 14 2
      let vid := tci % 4096
      some { dst := beAt o 0 6, src := beAt o 6 6,
             vid := if tagged ∧ vid ≠ 0 then vid else pvid, pcp := if tagged then tci / 8192 else 0,
             rest := if tagged then o.drop 16 else o.drop 12 }

def Eth.etype (e : Eth) : Nat := beAt e.rest 0 2
def Eth.payload (e : Eth) : List Byte := e.rest.drop 2

/-- A frame as port p sends it, without FCS: tagged, but for its own PVID with UNTAG; padded to the minimum (R438). -/
def egressOctets (s : State) (p : Fin 8) (e : Eth) : List Byte :=
  let cfg := s.rd (Adr.netPCfg p)
  let tag := if bitOf cfg 26 && decide (e.vid = field cfg 23 12) then []
    else [(0x81 : Byte), 0x00] ++ bytesBE 2 (e.pcp * 8192 + e.vid)
  let f := bytesBE 6 e.dst ++ bytesBE 6 e.src ++ tag ++ e.rest
  if f.length < 60 then padTo f 60 else f

/-- Octet time in tenths of a TIME64 unit by NET_Pp_STAT.SPEED. -/
def octetTime (s : State) (p : Fin 8) : Nat :=
  match field (s.rd (Adr.netPStat p)) 30 28 with
  | 0 => 128 | 1 => 512 | 2 => 1280 | 3 => 12800 | _ => 128000

/-! ### The device table (R451, R452) -/

structure DevEntry where
  en : Bool
  port : Nat
  outLen : Nat
  outOfs : Nat
  ring : Bool
  inLen : Nat
  inOfs : Nat
  incyc : Nat
  iv : Bool
  miss : Nat
deriving DecidableEq, Repr

def devAddr (n : Nat) : Nat := devTable + 16 * n

/-- Entry n as a read of SRAM delivers it; one that breaks R452, a must-be-zero field or the range of a length counts as
EN = 0 (log 20). -/
def devEntry (s : State) (n : Nat) : DevEntry :=
  let bs := (sramRead s .frame (devAddr n) 16).2
  let w0 := leAt bs 0 4
  let w1 := leAt bs 4 4
  let w3 := leAt bs 12 4
  let ol := w0 / 2 ^ 19 % 512
  let oo := w0 % 2 ^ 19
  let il := w1 / 2 ^ 19 % 512
  let io := w1 % 2 ^ 19
  let ok := decide (oo + ol ≤ 0x80000 ∧ io + il ≤ 0x80000 ∧ ol ≤ 256 ∧ il ≤ 256 ∧ oo % 4 = 0 ∧ io % 4 = 0 ∧ w1 / 2 ^ 29 = 0 ∧ n < 4096)
  { en := decide (w0 / 2 ^ 31 = 1) && ok, port := w0 / 2 ^ 28 % 8, outLen := ol, outOfs := oo,
    ring := decide (w1 / 2 ^ 28 % 2 = 1), inLen := il, inOfs := io, incyc := leAt bs 8 4,
    iv := decide (w3 / 2 ^ 31 = 1), miss := w3 % 65536 }

/-- What reading an entry leaves behind (R345, R346). -/
def touchDev (s : State) (n : Nat) : State := (sramRead s .frame (devAddr n) 16).1

/-- What reading words 0 and 1 of an entry leaves behind. -/
def touchDevCfg (s : State) (n : Nat) : State := (sramRead s .frame (devAddr n) 8).1

/-- The entries of which words 0 and 1 hold an error: a read of the whole table meets it (R345, R346). -/
def devErrors (s : State) : List Nat :=
  (s.sram.errors.filter fun p => decide (devTable ≤ p.1 ∧ p.1 < devTable + 0x10000 ∧ p.1 % 16 = 0)).map
    fun p => (p.1 - devTable) / 16

/-- The devices whose entries have a byte 3 with EN set, ascending: the only ones that can take part. -/
def devicesOn (s : State) : List Nat :=
  ((s.mem.filter fun c => decide (devTable ≤ c.1 ∧ c.1 < devTable + 0x10000 ∧ c.1 % 16 = 3 ∧ 128 ≤ c.2.toNat)).map
    fun c => (c.1 - devTable) / 16).filter fun n => (devEntry s n).en

/-- Words 2 and 3 of an entry as the engine writes them. -/
def putDev (s : State) (n incyc : Nat) (iv : Bool) (miss : Nat) : State :=
  sramWrite s .frame (devAddr n + 8) 0 (enabled (bytesLE 4 incyc ++ bytesLE 4 (iv.toNat * 2 ^ 31 + miss)))

/-! ### The output image (R428, R454) -/

/-- The enabled region that covers a byte offset of the output buffers. -/
def regionAtOfs (s : State) (ofs : Nat) : Option (Fin 8) :=
  (List.finRange 8).find? fun r =>
    let w := s.rd (Adr.tnsOrCfg r)
    bitOf w 62 && decide (field w 12 0 ≤ ofs / 64 ∧ ofs / 64 < field w 12 0 + field w 29 16)

/-- The pieces of a range within aligned blocks of m octets. -/
def blockPieces (m : Nat) : Nat → Nat → Nat → List (Nat × Nat)
  | 0, _, _ => []
  | fuel + 1, a, n =>
    if n = 0 then []
    else
      let k := Nat.min n (m - a % m)
      (a, k) :: blockPieces m fuel (a + k) (n - k)

/-- The octets of one granule's piece, from the buffer that its region's SEND names, and the region's HELD. -/
def outPiece (s : State) (ofs n : Nat) : State × List Byte × Bool :=
  match regionAtOfs s ofs with
  | some r =>
    let w := s.rd (Adr.tnsOrStat r)
    let (s, bs) := sramRead s .frame ((if bitOf w 63 then 0x1280000 else 0x1200000) + ofs) n
    (s, bs, bitOf w 62)
  | none =>
    let (s, bs) := sramRead s .frame (0x1200000 + ofs) n
    (s, bs, false)

def outPieces (s : State) : List (Nat × Nat) → State × List Byte × Bool
  | [] => (s, [], false)
  | (o, n) :: t =>
    let (s, a, h) := outPiece s o n
    let (s, b, k) := outPieces s t
    (s, a ++ b, h || k)

/-- A device's output data and whether a region that supplies it is held (R454, R457). -/
def outData (s : State) (ofs n : Nat) : State × List Byte × Bool := outPieces s (blockPieces 64 6 ofs n)

/-! ### Safe containers (R471, R472) -/

/-- The CRC of a container's octets 0 to 15 + LEN under its key (R472). -/
def containerCrc (cuid : BitVec 32) (body : List Byte) : BitVec 32 := crc32c (bytesBE 4 cuid.toNat ++ body)

/-- Replaces octets of a list from an offset. -/
def overlay (l : List Byte) (off : Nat) (x : List Byte) : List Byte :=
  l.take off ++ x ++ l.drop (off + x.length)

def connAddr (c : Nat) : Nat := 0x1340000 + 128 * c

/-- Writes LASTC of a connection's entry (R470). -/
def putLastC (s : State) (c : Nat) (lastC : List Byte) : State := sramWrite s .frame (connAddr c + 32) 0 (enabled (padTo lastC 84))

def putLastT (s : State) (c : Nat) (t : Word) : State := sramWrite s .frame (connAddr c + 120) 0 (enabled (bytesLE 8 t.toNat))

def State.upConn (s : State) (c : Nat) (f : SafeConn → SafeConn) : State :=
  { s with net := { s.net with conns := s.net.conns.map fun x => if x.num = c then f x else x } }

/-- SEQ after q: 2^32 - 1 is followed by 1 (R474). -/
def nextSeqNo (q : BitVec 32) : BitVec 32 := if q = 0xFFFFFFFF then 1 else q + 1

/-- A producing connection of device n puts its container into the record's data (R474). -/
def produceOne (s : State) (x : SafeConn) (data : List Byte) (held : Bool) (time : Word) : State × List Byte :=
  if x.sofs + 20 + x.len ≤ data.length then
    if held then
      (putLastT (s.upConn x.num fun y => { y with lastT := time }) x.num time, overlay data x.sofs (padTo x.lastC (20 + x.len)))
    else
      let q := nextSeqNo x.lastSeq
      let body := bytesLE 2 x.ncid.toNat ++ bytesLE 4 q.toNat ++ bytesLE 8 time.toNat ++ [BitVec.ofNat 8 x.len]
        ++ [data.getD (x.sofs + 15) 0 &&& 1] ++ sliceOf data (x.sofs + 16) x.len
      let c := body ++ bytesLE 4 (containerCrc x.cuid body).toNat
      let s := s.upConn x.num fun y => { y with lastSeq := q, lastC := c, lastT := time }
      (putLastT (putLastC s x.num c) x.num time, overlay data x.sofs c)
  else (s, data)

def produceAll (s : State) (n : Nat) (held : Bool) (time : Word) : List SafeConn → List Byte → State × List Byte
  | [], d => (s, d)
  | x :: t, d =>
    if x.produce && x.enabled && x.dev == n then
      let (s, d) := produceOne s x d held time
      produceAll s n held time t d
    else produceAll s n held time t d

/-! ### Frame slots and the build (R453 to R461) -/

structure Slot where
  list : Nat
  nrec : Nat
  queue : Nat
  rtag : Bool
  vid : Nat
  dmac : List Byte
  actdly : Nat
deriving DecidableEq, Repr

def slotAddr (k : Nat) : Nat := 0x1300000 + 32 * k

/-- A frame slot whose must-be-zero fields are zero and whose list fits (R453, R454). -/
def parseSlot (bs : List Byte) : Option Slot :=
  let l := leAt bs 0 2
  let b3 := leAt bs 3 1
  let v := leAt bs 4 2
  let nrec := leAt bs 2 1
  if l < 0x8000 ∧ b3 < 16 ∧ v < 4096 ∧ leAt bs 6 2 = 0 ∧ leAt bs 14 2 = 0 ∧ nrec ≠ 0 ∧ l + nrec ≤ 32768 then
    some { list := l, nrec := nrec, queue := b3 % 8, rtag := decide (8 ≤ b3), vid := v, dmac := sliceOf bs 8 6,
           actdly := leAt bs 16 8 }
  else none

/-- STATUS of a slot (R453): flag bits and the cycle. -/
def putSlotStatus (s : State) (slot flags cyc : Nat) : State :=
  sramWrite s .frame (slotAddr slot + 28) 0 (enabled (bytesLE 4 (flags + cyc % 2 ^ 24 * 256)))

/-- The devices of a slot's record list. -/
def listOf (s : State) (x : Slot) : List Nat :=
  (List.range x.nrec).map fun i => natLE (sramRead s .frame (0x1330000 + 2 * (x.list + i)) 2).2

/-- The listed devices that take part (R454). -/
def listedDevices (s : State) (x : Slot) : List Nat := (listOf s x).filter fun n => (devEntry s n).en

/-- What reading a slot's record list and its devices leaves behind (R345, R346). -/
def touchList (s : State) (x : Slot) : State :=
  ((listOf s x).filter fun n => decide (n < 4096)).foldl touchDev (sramRead s .frame (0x1330000 + 2 * x.list) (2 * x.nrec)).1

def pad4 (n : Nat) : Nat := (n + 3) / 4 * 4

/-- The records of the listed devices, their octets and whether one is held (R457, R461). -/
def buildRecords (s : State) (time : Word) : List Nat → State × List Byte × Bool
  | [] => (s, [], false)
  | n :: t =>
    let d := devEntry s n
    let (s, data, held) := outData s d.outOfs d.outLen
    let (s, data) := produceAll s n held time s.net.conns data
    let recd := bytesBE 2 (n * 16) ++ bytesBE 2 d.outLen ++ padTo data (pad4 d.outLen)
    let (s, rest, h) := buildRecords s time t
    (s, recd ++ rest, held || h)

/-- A launch error (R454). -/
def launchError (s : State) (slot cyc : Nat) : State :=
  let s := if slot < 4096 then putSlotStatus s slot 2 cyc else s
  pulse (s.setBitR Adr.netStat 0) 544

/-- DNUM of the domain that the servo follows (R460). -/
def followedDnum (s : State) : Nat := field (s.rd (Adr.netGptp (bitOf (s.rd Adr.tnsSstat) 61).toNat)) 31 24

/-- The octets of a cyclic frame: Ethernet header with VLAN tag (priority = queue, log 20), R-TAG where it is sent on a
ring pair, header of R460, records, padding to the minimum that R466 counts before the R-TAG. -/
def cyclicOctets (s : State) (x : Slot) (slot cyc : Nat) (time : Word) (tag : Option (BitVec 16)) (nrec : Nat)
    (records : List Byte) (held : Bool) : List Byte :=
  let act := (time.toNat + x.actdly) % 2 ^ 64
  let hdr := [0x11, if held then 1 else 0] ++ bytesBE 2 slot ++ bytesBE 4 cyc ++ bytesBE 8 act ++ bytesBE 2 nrec
    ++ bytesBE 2 records.length ++ [BitVec.ofNat 8 (followedDnum s), 0, 0, 0]
  let rt := match tag with
    | some q => [0xF1, 0xC1, 0, 0] ++ bytesBE 2 q.toNat
    | none => []
  let f := x.dmac ++ bytesBE 6 (netMac s) ++ [0x81, 0x00] ++ bytesBE 2 (x.queue * 8192 + x.vid) ++ rt
    ++ bytesBE 2 (field (s.rd Adr.netCtl) 15 0) ++ hdr ++ records
  let least := 60 + rt.length
  if f.length < least then padTo f least else f

/-- The staging area of a slot's frame (R449; which part of staging holds which frame: DESIGN CHOICE, log 20). -/
def stagingAddr (slot : Nat) : Nat := 0x1360000 + 2048 * (slot % 320)

/-- The dispatch of a FRAME_LAUNCH action (R454, R457, R468, R474): the slot is read and checked, the frame taken into
staging. -/
def startBuild (s : State) (port slot : Nat) (time : Word) (cyc : Nat) : State :=
  if !netOn s then s
  else if 4096 ≤ slot then launchError s slot cyc
  else
    let (s, bs) := sramRead s .frame (slotAddr slot) 32
    match parseSlot bs with
    | none => launchError s slot cyc
    | some x =>
      let ds := listedDevices s x
      let s := touchList s x
      if 1500 < 24 + (ds.map fun n => 4 + pad4 (devEntry s n).outLen).sum then launchError s slot cyc
      else
        let p : Fin 8 := ⟨port % 8, Nat.mod_lt _ (by decide)⟩
        let (s, records, held) := buildRecords s time ds
        let ring := x.rtag && ringOn s p
        let q := (s.net.slotSeq.lookup slot).getD 0
        let s := if ring then
            { s with net := { s.net with slotSeq := (slot, q + 1) :: s.net.slotSeq.filter fun e => decide (e.1 ≠ slot) } }
          else s
        let o := cyclicOctets s x slot (cyc % 2 ^ 32) time (if ring then some q else none) ds.length records held
        let s := sramWrite s .frame (stagingAddr slot) 0 (enabled o)
        let b : Built := { slot := slot, cyc := cyc, port := p, queue := ⟨x.queue % 8, Nat.mod_lt _ (by decide)⟩, time := time,
                           octets := o, rtag := ring, done := false, launched := false }
        { s with net := { s.net with staging := s.net.staging ++ [b] } }

/-! ### Gate lists (R445 to R447) -/

def gclOf (s : State) (p : Fin 8) : List Word :=
  (List.range (field (s.rd (Adr.netPGcfg p)) 6 0)).map fun e => s.rd (Adr.netPGcl p e)

def gclTime (w : Word) : Nat := field w 33 0
def gclOpen (w : Word) (q : Nat) : Bool := bitOf w (56 + q)

/-- The checks of R447. -/
def gateChecks (s : State) (p : Fin 8) : Bool :=
  let w := s.rd (Adr.netPGcfg p)
  let n := field w 6 0
  let cq := field w 21 19
  let period := field (s.rd (Adr.tnsCycPeriod (field w 27 22))) 33 0
  let l := gclOf s p
  decide (1 ≤ n ∧ n ≤ 64 ∧ (l.map gclTime).sum ≤ period
    ∧ ((l.filter fun e => gclOpen e cq).map gclTime).sum ≤ period / 2) && !bitOf w (8 + cq)

/-- The check at a start of table j on every port that it drives (R447). -/
def gatesAtTableStart (s : State) (j : Nat) : State :=
  allPorts.foldl (fun s (p : Fin 8) =>
    let w := s.rd (Adr.netPGcfg p)
    if bitOf w 28 && decide (field w 27 22 = j) then
      let ok := gateChecks s p
      let s := s.upPort p fun x => { x with gateOk := ok }
      if ok then s else s.setBitR (Adr.netPGcfg p) 30
    else s) s

end Sys2Proof.Machine
end

