-- ==== Sys2Proof/Machine/Proposals.lean ====
section
/-! DEFINITION. Proposal slots (R525 to R533), the closing of sessions (R502), STORE jobs (R655, R656): what several
units share. -/

namespace Sys2Proof.Machine

def State.upHosts (s : State) (f : Hosts → Hosts) : State := { s with hosts := f s.hosts }
def State.upLcs (s : State) (f : Lcs → Lcs) : State := { s with lcs := f s.lcs }
def State.upBoot (s : State) (f : Boot → Boot) : State := { s with boot := f s.boot }

def State.upSess (s : State) (k : Fin 8) (f : Session → Session) : State :=
  s.upHosts fun h => { h with sessions := vmod h.sessions k f }

def sess (s : State) (k : Fin 8) : Session := s.hosts.sessions[k]

def allSess : List (Fin 8) := List.finRange 8

/-! ### Slots -/

/-- The proposer's code in the slot record (R514): 0 to 7 a session, 0x10 + t a triad. -/
def proposerCode : Proposer → Nat
  | .session k => k.val
  | .triad t => 0x10 + t.val

/-- A slot takes a value: every change of its state counts in GEN_PROP (R532). -/
def putSlot (s : State) (k : Fin 8) (p : Option Proposal) : State :=
  genUp (s.upLcs fun l => { l with slots := l.slots.set k.val p k.isLt }) 3

/-- The outcome of a triad's proposal, shown in LCS_PRESt: 1 approved, 2 withdrawn or timed out, 3 refused (R534). -/
def putOutc (s : State) (k : Fin 8) (p : Proposal) (outc : Nat) : State :=
  match p.proposer with
  | .triad t =>
    if field (s.rd (Adr.lcsPres t)) 2 0 = k.val then s.up (Adr.lcsPres t) fun w => setField w 9 8 outc else s
  | .session _ => s

/-- A slot becomes free with an outcome. -/
def freeSlot (s : State) (k : Fin 8) (outc : Nat) : State :=
  match s.lcs.slots[k] with
  | none => s
  | some p => putOutc (putSlot s k none) k p outc

/-- Every pending slot whose proposal meets a condition is withdrawn; a slot in applying state never is (R532). -/
def withdrawWhere (s : State) (f : Proposal → Bool) : State :=
  (List.finRange 8).foldl (fun s (k : Fin 8) =>
    match s.lcs.slots[k] with
    | some p => if !p.applying && f p then freeSlot s k 2 else s
    | none => s) s

/-- The proposals of triad t are withdrawn: its TRIAD reset or fencing (R532). -/
def withdrawTriad (s : State) (t : TriadId) : State := withdrawWhere s fun p => p.proposer == .triad t

/-- RESETS and the tag of a proposal (R527). -/
def resetsCount (s : State) : Nat := s.hosts.gens[11].toNat

def proposalTag (s : State) (k : Fin 8) (p : Proposal) : Word :=
  BitVec.ofNat 64 (natBE ((sha256 (ascii "PRP1" ++ bytesBE 8 Config.fuseSerial.toNat ++ bytesBE 4 (resetsCount s)
    ++ bytesBE 4 s.lcs.pnum.toNat ++ [BitVec.ofNat 8 k.val, BitVec.ofNat 8 (proposerCode p.proposer)]
    ++ bytesBE 2 p.cred.toNat ++ bytesBE 2 p.index.toNat ++ [p.sub, p.party] ++ bytesBE 2 p.value.length ++ p.value)).take 8))

/-- The proposal timeout in ms (R532): 0x1200.04 as the boot loaded it (R509). -/
def proposalMs (s : State) : Nat := s.hosts.proposalS.toNat * 1000

/-- Time left of a pending proposal in ms: CLK_TNS ticks since its acceptance, which no step of TIME64 moves. -/
def proposalLeft (s : State) (p : Proposal) : Nat := proposalMs s - (s.sys.upTicks - p.since) / 400000

/-! ### Sessions close (R502) -/

/-- A session closes: E0640 + s, GEN_SESS; its proposals are withdrawn, its soft requests and deferred responses lose
their addressee. -/
def closeSession (s : State) (k : Fin 8) : State :=
  if (sess s k).isOpen then
    let s := s.upSess k fun x =>
      { x with isOpen := false, role := 0, key := [], held := [], executing := none, tagFails := 0, building := none,
               via := none, waiting := [] }
    let s := s.upHosts fun h =>
      { h with soft := h.soft.map fun e => if e.sess = some k then { e with sess := none } else e
               job := h.job.map fun j => if j.sess = some k then { j with sess := none } else j }
    let s := s.upLcs fun l => { l with held := l.held.filter fun w => match w with | .key q _ => q != k | .cred _ _ => true }
    let s := s.upLcs fun l =>
      { l with waiting := l.waiting.map fun w => (w.1, match w.2 with
          | some (c, q) => if c = k then none else some (c, q)
          | none => none) }
    withdrawWhere (pulse (genUp s 4) (640 + k.val)) fun p => p.proposer == .session k
  else s

def closeAll (s : State) : State := allSess.foldl closeSession s

/-! ### STORE (R655 to R657) -/

/-- An image is being written to the slot not booted, or checked (R657). -/
def imageBusy (s : State) : Bool :=
  s.boot.imgWriting || s.hosts.sessions.toList.any fun x => match x.building with
    | some (k, _) => k == objKey 0x1110 1
    | none => false

/-- A STORE or an image write runs (R657). -/
def storeBusy (s : State) : Bool := s.hosts.job.isSome || imageBusy s

/-- The configuration slot not in use is erased from its first octet on, and invalid from then (R656, R659). -/
def eraseTarget (b : Boot) : Boot := if b.cfgUseB then { b with cfgA := [] } else { b with cfgB := [] }

/-- A STORE starts: the working copies are captured, and its target is erased (R656 steps 1 to 3). -/
def startJob (s : State) (who : Option (Fin 8)) (seq : BitVec 32) (op : Byte) (slot : Option (Fin 8)) (former : List Byte)
    (silent : Bool) : State :=
  let s := s.upBoot eraseTarget
  s.upHosts fun h =>
    { h with storeState := 1,
             job := some { sess := who, seq := seq, op := op, captured := h.objs, slot := slot, former := former,
                           silent := silent } }

/-! ### Tamper (R541) -/

/-- LCS_TAMPER records a tamper of cause 2 to 5. -/
def recordTamper (s : State) (cause : Nat) : State :=
  s.up Adr.lcsTamper fun w => satField (setField (putBit w 31 true) 19 16 cause) 15 0

/-- The wipe of the secure region takes the proposals that are pending in it; one whose change is being applied runs to its
end (R532, R540; log 25). -/
def wipeRegion (s : State) (cause : Nat) : State := startWipe (withdrawWhere s fun _ => true) cause

/-- TAMPER_CONDITION_END (R541). -/
def execTamperConditionEnd (s : State) : Host.Outcome State Fault Refusal :=
  .next ((s.up Adr.lcsTamper fun w => putBit w 31 false).upLcs fun l => { l with tamperN := false })

/-- PROPOSAL_TIMEOUT (R532): its time in ms has passed since acceptance. -/
def proposalTimeout (s : State) (k : Fin 8) : State :=
  match s.lcs.slots[k] with
  | some p => if !p.applying && proposalLeft s p == 0 then freeSlot s k 2 else s
  | none => s

def execProposalTimeout (k : Fin 8) (s : State) : Host.Outcome State Fault Refusal := .next (proposalTimeout s k)

/-- KEYSW_N_CHANGE (R530): an asserted level counts for a slot only after a deasserted one. -/
def keySwitch (s : State) (asserted : Bool) : State :=
  s.upLcs fun l =>
    { l with keySw := asserted,
             slots := l.slots.map fun p => p.map fun p =>
               if p.party = 1 then
                 (if asserted then { p with keyOn := p.keyOff } else { p with keyOff := true, keyOn := false })
               else p }

def execKeyswNChange (asserted : Bool) (s : State) : Host.Outcome State Fault Refusal := .next (keySwitch s asserted)

end Sys2Proof.Machine
end

