-- ==== Sys2Proof/Machine/Gptp.lean ====
section
/-! DEFINITION. The gPTP engine (R392, R441 to R444): clock identity, conversion of times, best-master selection, the
messages it sends. Layouts, the comparison of priority vectors and the port roles are IEEE 802.1AS-2020's, to which the
spec refers (PRESUMED, log 20). -/

namespace Sys2Proof.Machine

/-- Servo state code: 0 FREE, 1 ACQUIRE, 2 LOCKED, 3 HOLDOVER (R402). -/
def servoState (s : State) : Nat := field (s.rd Adr.tnsSstat) 63 62

def gptpAddr : Nat := 0x0180C200000E

/-- The clock identity derived from NET_MAC (R441). -/
def clockId (s : State) : Nat := netMac s / 2 ^ 24 * 2 ^ 40 + 0xFFFE000000 + netMac s % 2 ^ 24

/-- The identity of port p, numbered from 1. -/
def portId (s : State) (p : Fin 8) : Nat := clockId s * 65536 + p.val + 1

/-! ### Times (R392, R399) -/

/-- A timestamp: the resolution is 8 units (R399). -/
def stampOf (t : Word) : Word := BitVec.ofNat 64 (t.toNat / 8 * 8)

/-- From b to a, in 2^-16 ns. -/
def spanOf (a b : Word) : Int := (a - b).toInt * 4096

/-- A duration times the rate ratio 1 + r * 2^-41. -/
def scaled (r x : Int) : Int := x + r * x / 2 ^ 41

/-- Seconds and nanoseconds of a message, 10 octets, in 2^-16 ns. -/
def ptpTime (m : List Byte) (off : Nat) : Int :=
  (beAt m off 6 * 1000000000 + beAt m (off + 6) 4 : Nat) * 65536

/-- TIME64 of a domain's time in 2^-16 ns (R392). -/
def timeOfPtp (s : State) (t : Int) : Word :=
  BitVec.ofInt 64 ((t - (field (s.rd Adr.tnsEpoch) 62 0 : Nat) * 65536000000000) / 4096)

/-- Seconds and nanoseconds of a TIME64 (R392). -/
def ptpOctets (s : State) (t : Word) : List Byte :=
  let ns := t.toNat / 16
  bytesBE 6 (field (s.rd Adr.tnsEpoch) 62 0 + ns / 1000000000) ++ bytesBE 4 (ns % 1000000000)

/-- The fraction f of a TIME64 (R392), in 2^-16 ns. -/
def ptpFraction (t : Word) : Int := (t.toNat % 16 * 4096 : Nat)

/-! ### Fields of a message -/

def msgCorr (m : List Byte) : Int := signed 64 (beAt m 8 8)
def msgSource (m : List Byte) : BitVec 80 := BitVec.ofNat 80 (beAt m 20 10)
def msgSeq (m : List Byte) : BitVec 16 := BitVec.ofNat 16 (beAt m 30 2)

def putCorr (m : List Byte) (c : Int) : List Byte := overlay m 8 (bytesBE 8 (unsigned 64 c))

/-- The 34 octets of a header: type, length of the message, domain number, flags, identity of port p, sequence number,
control field, log of the interval. -/
def gptpHeader (s : State) (p : Fin 8) (mtype len dnum flags : Nat) (seq : BitVec 16) (ctrl : Byte) (logInt : Byte) : List Byte :=
  [BitVec.ofNat 8 (0x10 + mtype), 0x12] ++ bytesBE 2 len ++ [BitVec.ofNat 8 dnum, 0] ++ bytesBE 2 flags
    ++ List.replicate 12 0 ++ bytesBE 10 (portId s p) ++ bytesBE 2 seq.toNat ++ [ctrl, logInt]

/-! ### Domains and best-master selection (R441) -/

/-- Domain d is active on port p (R441). -/
def gptpOn (s : State) (d : Fin 2) (p : Fin 8) : Bool :=
  let w := s.rd (Adr.netGptp d)
  bitOf w 62 && bitOf w (48 + p.val)

def domainDnum (s : State) (d : Fin 2) : Nat := field (s.rd (Adr.netGptp d)) 31 24

/-- LOGSYNC as the octet that a header carries. -/
def logSync (s : State) (d : Fin 2) : Byte := BitVec.ofInt 8 (signed 4 (field (s.rd (Adr.netGptp d)) 19 16))

/-- The domain whose time the servo follows, while it follows one. -/
def followsDomain (s : State) (d : Fin 2) : Bool := servoState s != 0 && (bitOf (s.rd Adr.tnsSstat) 61 == (d.val == 1))

/-- This device's system identity in a domain: PRIO1, clock class 248, accuracy unknown, default variance, PRIO2, clock
identity (the middle three: IEEE 802.1AS's defaults). -/
def ownRoot (s : State) (d : Fin 2) : Nat :=
  let w := s.rd (Adr.netGptp d)
  ((field w 47 40 * 2 ^ 32 + 0xF8FE436A) * 256 + field w 39 32) * 2 ^ 64 + clockId s

/-- A priority vector as a number: the smaller is better. -/
def priority (root steps source port : Nat) : Nat := ((root * 65536 + steps) * 2 ^ 80 + source) * 65536 + port

def Announce.heard (a : Announce) : Nat := priority a.root.toNat a.steps a.source.toNat (a.port.val + 1)
def Announce.path (a : Announce) : Nat := priority a.root.toNat (a.steps + 1) a.source.toNat (a.port.val + 1)

/-- The announces of a domain that hold now: the port is active and has link, the receipt has not timed out. -/
def liveAnnounces (s : State) (d : Fin 2) : List Announce :=
  s.net.announces.filter fun a =>
    a.dom == d && gptpOn s d a.port && linkUp s a.port && decide ((now s - a.expires).toInt < 0)

def betterOf (x : Option Announce) (a : Announce) : Option Announce :=
  match x with
  | some b => if b.path ≤ a.path then some b else some a
  | none => some a

def bestAnnounce (s : State) (d : Fin 2) : Option Announce := (liveAnnounces s d).foldl betterOf none

/-- The device wins the selection: only with GMCAP = 1 and the servo in FREE (R441). -/
def isGrandmaster (s : State) (d : Fin 2) : Bool :=
  let w := s.rd (Adr.netGptp d)
  bitOf w 62 && bitOf w 61 && servoState s == 0
  && match bestAnnounce s d with
    | some a => decide (priority (ownRoot s d) 0 (clockId s * 65536) 0 < a.path)
    | none => true

/-- Clock identity of the domain's grandmaster, 0 where there is none. -/
def grandmasterId (s : State) (d : Fin 2) : BitVec 64 :=
  if isGrandmaster s d then BitVec.ofNat 64 (clockId s)
  else match bestAnnounce s d with | some a => a.root.setWidth 64 | none => 0

/-- The port at which the grandmaster's time arrives. -/
def slavePort (s : State) (d : Fin 2) : Option (Fin 8) :=
  if isGrandmaster s d then none else (bestAnnounce s d).map Announce.port

/-- Port p has the master role: it is no slave port and hears nothing better than what it would announce. -/
def masterRole (s : State) (d : Fin 2) (p : Fin 8) : Bool :=
  let mine := if isGrandmaster s d then some (priority (ownRoot s d) 0 (portId s p) (p.val + 1))
    else (bestAnnounce s d).map fun a => priority a.root.toNat (a.steps + 1) (portId s p) (p.val + 1)
  match mine with
  | none => false
  | some k => slavePort s d != some p && (liveAnnounces s d).all fun a => a.port != p || decide (k < a.heard)

/-- The ports of a domain on which this device sends Sync and Announce. -/
def masterPorts (s : State) (d : Fin 2) : List (Fin 8) :=
  allPorts.filter fun p => linkUp s p && gptpOn s d p && masterRole s d p

/-- E0550 when the grandmaster of a domain has changed (R483). -/
def watchGrandmaster (s : State) (d : Fin 2) : State :=
  let g := grandmasterId s d
  if s.net.grandmaster[d] = g then s
  else pulse { s with net := { s.net with grandmaster := s.net.grandmaster.set d.val g d.isLt } } 550

def watchGrandmasters (s : State) : State := watchGrandmaster (watchGrandmaster s 0) 1

/-! ### Sending (R438, R443) -/

/-- A message as a frame of port p: like every frame tagged, but for UNTAG (R438), with PVID and priority 0. -/
def gptpFrame (s : State) (p : Fin 8) (note : GptpNote) (msg : List Byte) : Frame :=
  ⟨.gptp note, egressOctets s p { dst := gptpAddr, src := netMac s, vid := field (s.rd (Adr.netPCfg p)) 23 12, pcp := 0,
                                  rest := [0x88, 0xF7] ++ msg }⟩

def sendGptp (s : State) (p : Fin 8) (f : Frame) : State := s.upPort p fun x => { x with gptp := x.gptp ++ [f] }

/-- A Follow_Up before its origin time and correction: the information TLV carries the rate ratio and the rest of what
came from upstream. -/
def followUp (s : State) (p : Fin 8) (d : Fin 2) (seq : BitVec 16) (origin : List Byte) (rate : Int) (rest : List Byte) : List Byte :=
  gptpHeader s p 8 76 (domainDnum s d) 0x0008 seq 2 (logSync s d) ++ origin
    ++ [0x00, 0x03, 0x00, 0x1C, 0x00, 0x80, 0xC2, 0x00, 0x00, 0x01] ++ bytesBE 4 (unsigned 32 rate) ++ padTo rest 18

/-- Sync, two-step, on port p (R437). -/
def sendSync (s : State) (p : Fin 8) (d : Fin 2) (note : BitVec 16 → GptpNote) : State :=
  let q := s.net.ports[p].syncSeq[d]
  let m := gptpHeader s p 0 44 (domainDnum s d) 0x0208 q 0 (logSync s d) ++ List.replicate 10 0
  let s := sendGptp s p (gptpFrame s p (note q) m)
  s.upPort p fun x => { x with syncSeq := x.syncSeq.set d.val (q + 1) d.isLt }

/-- Announce on port p: system identity of the grandmaster, steps removed, path trace. -/
def sendAnnounce (s : State) (p : Fin 8) (d : Fin 2) (root : Nat) (steps : Nat) (path : List Byte) : State :=
  let q := s.net.ports[p].annSeq[d]
  let path := path ++ bytesBE 8 (clockId s)
  let m := gptpHeader s p 0xB (68 + path.length) (domainDnum s d) 0x0008 q 5 0 ++ List.replicate 13 0
    ++ bytesBE 14 root ++ bytesBE 2 steps ++ [0xA0, 0x00, 0x08] ++ bytesBE 2 path.length ++ path
  let s := sendGptp s p (gptpFrame s p .plain m)
  s.upPort p fun x => { x with annSeq := x.annSeq.set d.val (q + 1) d.isLt }

/-- What leaves behind a message when its transmission starts at t, its time stamp (R441 to R444). -/
def gptpStarted (s : State) (p : Fin 8) (note : GptpNote) (t : Word) : State :=
  match note with
  | .plain => s
  | .req => s.upPort p fun x => { x with peer := { x.peer with t1 := some t, resp := none } }
  | .follow m =>
    sendGptp s p (gptpFrame s p .plain (putCorr (overlay m 34 (ptpOctets s t)) (ptpFraction t)))
  | .relay m corr rate rx => sendGptp s p (gptpFrame s p .plain (putCorr m (corr + scaled rate (spanOf t rx))))

/-- Sync of this device's own time, with the Follow_Up that carries its transmit time (R441). -/
def sendOwnSync (s : State) (p : Fin 8) (d : Fin 2) : State :=
  sendSync s p d fun q => .follow (followUp s p d q (List.replicate 10 0) 0 [])

/-- SYNC_TRANSMISSION (R441, R443). -/
def execSyncTransmission (p : Fin 8) (d : Fin 2) (s : State) : Host.Outcome State Fault Refusal :=
  .next (if isGrandmaster s d && (masterPorts s d).contains p then sendOwnSync s p d else s)

/-- Pdelay_Req of port p (R443). -/
def sendPdelayReq (s : State) (p : Fin 8) : State :=
  let q := s.net.ports[p].peer.seq + 1
  let m := gptpHeader s p 2 54 0 0 q 5 0 ++ List.replicate 20 0
  let s := s.upPort p fun x => { x with peer := { x.peer with seq := q, t1 := none, resp := none } }
  sendGptp s p (gptpFrame s p .req m)

/-- Announce of each domain whose grandmaster the device is (the interval is IEEE 802.1AS's second, like that of
Pdelay_Req; DESIGN CHOICE, log 20). -/
def announceOwn (s : State) (p : Fin 8) : State :=
  ([0, 1] : List (Fin 2)).foldl (fun s d =>
    if isGrandmaster s d && (masterPorts s d).contains p then sendAnnounce s p d (ownRoot s d) 0 [] else s) s

/-- PDELAY_REQ (R443). -/
def pdelayReq (s : State) (p : Fin 8) : State :=
  if linkUp s p && (gptpOn s 0 p || gptpOn s 1 p) then announceOwn (sendPdelayReq (watchGrandmasters s) p) p else s

def execPdelayReq (p : Fin 8) (s : State) : Host.Outcome State Fault Refusal := .next (pdelayReq s p)

end Sys2Proof.Machine
end

