-- ==== Sys2Proof/Machine/Tense.lean ====
section
/-! DEFINITION. The Tense unit (R390 to R434): timebase, servo, action calendar, cycle tables, output regions. Where both
the time of a happening and TNS_NOW stand in the state, a command before its time changes nothing (log 4). -/

namespace Sys2Proof.Machine

/-- a is at or after b (R391). -/
def atOrAfter (a b : Word) : Bool := decide ((a - b).toNat < 2 ^ 63)

/-! ### Timebase (R393 to R398) -/

def adjLimit : Int := 85899346

/-- ADJ as a signed number. -/
def adjOf (s : State) : Int := signed 32 (field (s.rd Adr.tnsRate) 31 0)

def putAdj (s : State) (a : Int) : State :=
  s.wr Adr.tnsRate (BitVec.ofNat 64 (unsigned 32 (clampInt a adjLimit)))

/-- One CLK_TNS tick of the timebase (R393). -/
def timebaseTick (s : State) : State :=
  let sum : Int := s.tense.frac.toNat + adjOf s
  let s := s.wr Adr.tnsNow (BitVec.ofInt 64 ((now s).toNat + 40 + sum / 4294967296))
  { s with tense := { s.tense with frac := BitVec.ofInt 32 sum } }

/-- RUN of table j. -/
def tabRuns (s : State) (j : Fin 64) : Bool := bitOf (s.rd (Adr.tnsCycCtl j)) 29

def allTables : List (Fin 64) := List.finRange 64

def anyTableRuns (s : State) : Bool := allTables.any (tabRuns s)

/-! ### Armed actions -/

def entryAddr (k : Nat) : Nat := 0x1180000 + 32 * k

/-- Writes STATUS of an action's entry through the owner port (R414). -/
def writeStatus (s : State) (k bits : Nat) (cyc : Option (Nat × Nat)) : State :=
  let v := bits + (match cyc with | some (_, n) => n % 2 ^ 24 * 256 | none => 0)
  sramWrite s .tense (entryAddr k + 28) 0 (enabled (bytesLE 4 v))

/-- Instances of table j that are armed and have not ended. -/
def tabPending (s : State) (j : Fin 64) : Bool :=
  s.tense.armed.any fun a => match a.cyc with | some (i, _) => i == j.val | none => false

/-- RUN := 0 of a stopped table whose last instance has ended (R424). -/
def settleRun (s : State) (j : Fin 64) : State :=
  if tabRuns s j && !bitOf (s.rd (Adr.tnsCycCtl j)) 16 && !tabPending s j then
    { (s.up (Adr.tnsCycCtl j) fun w => putBit w 29 false) with
      tense := { s.tense with owned := s.tense.owned.set j.val [] j.isLt } }
  else s

def settleOf (s : State) (cyc : Option (Nat × Nat)) : State :=
  match cyc with
  | some (j, _) => if h : j < 64 then settleRun s ⟨j, h⟩ else s
  | none => s

def State.setArmed (s : State) (l : List Armed) : State := { s with tense := { s.tense with armed := l } }

/-- An action leaves the calendar. -/
def dropArmed (s : State) (a : Armed) : State := s.setArmed (s.tense.armed.erase a)

/-- What every late action does (R417). -/
def countLate (s : State) : State :=
  pulse ((s.up Adr.tnsLatecnt fun w => satField w 31 0).setBitR Adr.tnsStat 1) 440

/-- What a dispatch starts at once: the build of a frame (R454). CYCLE is n for an instance, else 0 (R457). -/
def onDispatch (s : State) (a : Armed) : State :=
  if a.kind = 4 then
    startBuild s a.tgt.toNat (field a.arg0 15 0) a.time (match a.cyc with | some (_, n) => n | none => 0)
  else s

/-- The late policy of an action that is not in the calendar: 0 FIRE_LATE puts it there dispatched, 1 DROP, 2 FAULT
(R417). -/
def latePolicy (s : State) (a : Armed) : State :=
  let s := countLate s
  if a.late = 0 then onDispatch (s.setArmed (s.tense.armed ++ [{ a with dispatched := true, isLate := true }])) a
  else
    let s := settleOf (writeStatus s a.idx 6 a.cyc) a.cyc
    if a.late = 2 then report s (16 * a.owner + 11) 3 else s

/-- The policy applied to an action in the calendar. -/
def makeLate (s : State) (a : Armed) : State := latePolicy (dropArmed s a) a

/-- Order of dispatch: by TIME, then by entry index (R411). -/
def precedes (a b : Armed) : Bool :=
  if a.time = b.time then decide (a.idx < b.idx) else !atOrAfter a.time b.time

/-- The action of a list that R411 takes first; of two copies of an entry with one TIME the older. -/
def firstOf : List Armed → Option Armed
  | [] => none
  | a :: t =>
    match firstOf t with
    | none => some a
    | some b => if precedes b a then some b else some a

/-- The undispatched action that R411 takes first. -/
def firstDue (l : List Armed) : Option Armed := firstOf (l.filter fun a => !a.dispatched)

/-- Actions late by step, in the order of R411 (R398). -/
def stepLate : Nat → State → State
  | 0, s => s
  | n + 1, s =>
    match firstDue s.tense.armed with
    | some a => if atOrAfter (now s) a.time then stepLate n (makeLate s a) else s
    | none => s

/-- The times that the unit compares with TNS_NOW move with a step: durations that run are not changed (DEDUCED, log
19). -/
def Tense.moved (t : Tense) (ofs : Word) : Tense :=
  { t with seenAt := t.seenAt.map fun x => x.map fun w => w + ofs
           sampleAt := t.sampleAt + ofs, holdAt := t.holdAt + ofs, instAt := t.instAt.map fun w => w + ofs }

/-- A step of the timebase (R397, R398, E0444). -/
def applyStep (s : State) (ofs : Word) : State :=
  let s := { s.up Adr.tnsNow fun w => w + ofs with tense := s.tense.moved ofs }
  stepLate s.tense.armed.length (genUp (pulse s 444) 8)

/-- A write of TNS_STEP (R397). -/
def writeStep (s : State) (v : Word) : State :=
  if anyTableRuns s || !(bitOf (s.rd Adr.tnsServo) 30 || servoState s == 0) then s.setBitR Adr.tnsStat 0
  else applyStep s v

def execStep (v : Word) (s : State) : Host.Outcome State Fault Refusal := .next (writeStep s v)

/-! ### The servo (R399 to R405) -/

/-- A change of servo state (R402); leaving or reaching FREE bears on the selection of the grandmaster (R441). -/
def putServo (s : State) (st : Nat) : State :=
  if servoState s = st then s
  else
    let free := servoState s == 0 || st == 0
    let s := genUp (pulse (s.up Adr.tnsSstat fun w => setField w 63 62 st) 442) 8
    if free then watchGrandmasters s else s

def servoShift (s : State) (hi lo : Nat) : Nat := field (s.rd Adr.tnsServo) hi lo

/-- A sample updates the integrator and ADJ (R400). -/
def servoUpdate (s : State) (o : Int) : State :=
  if bitOf (s.rd Adr.tnsServo) 30 then s
  else
    let i := clampInt (s.tense.integ - o * 2 ^ servoShift s 20 16) adjLimit
    let adj := clampInt (-(o * 2 ^ servoShift s 25 21) + i) adjLimit
    putAdj { s with tense := { s.tense with integ := i, adjHist := (adj :: s.tense.adjHist).take 16 } } adj

def setRuns (s : State) (g b : Nat) : State := { s with tense := { s.tense with good := g, badRun := b } }

/-- A sample in ACQUIRE (R401, R402). -/
def sampleAcquire (s : State) (o : Int) : State :=
  let s := if 16000 < o.natAbs && !anyTableRuns s then applyStep s (BitVec.ofInt 64 (-o)) else servoUpdate s o
  let ok := decide (o.natAbs ≤ field (s.rd Adr.tnsServo) 15 8)
  let g := if ok then s.tense.good + 1 else 0
  if g = 8 then putServo (setRuns s 0 0) 2 else setRuns s g 0

/-- A sample in LOCKED (R400, R402). -/
def sampleLocked (s : State) (o : Int) : State :=
  let s := servoUpdate s o
  let b := if field (s.rd Adr.tnsSlim) 15 0 < o.natAbs then s.tense.badRun + 1 else 0
  if b = 3 then report (putServo (setRuns s 0 0) 1) 128 0 else setRuns s 0 b

/-- An offset sample of gPTP domain d (R399 to R404). A sample that ends HOLDOVER is also the first one of ACQUIRE
(DEDUCED, log 19). -/
def servoSample (s : State) (d : Bool) (o : Int) : State :=
  let s := { s with tense := { s.tense with seenAt := s.tense.seenAt.set d.toNat (some (now s)) (by cases d <;> decide) } }
  if servoState s = 0 ∨ (d != bitOf (s.rd Adr.tnsSstat) 61) = true then s
  else
    let s := s.up Adr.tnsSstat fun w => setField w 31 0 (unsigned 32 (clampInt o 0x7FFFFFFF))
    let s := { s with tense := { s.tense with lastOfs := BitVec.ofInt 64 o, sampleAt := now s } }
    match servoState s with
    | 1 => sampleAcquire s o
    | 2 => sampleLocked s o
    | _ => sampleAcquire (setRuns (putServo s 1) 0 0) o

/-- The mean at which ADJ is frozen (R404). -/
def meanAdj (l : List Int) : Int :=
  let t := l.sum
  let n := l.length
  let q := t / n
  if t % n = 0 then q else if Config.meanRoundsUp t n then q + 1 else q

/-- HOLDOVER: ADJ is frozen at the mean of the values computed last (R402, R404). -/
def enterHoldover (s : State) : State :=
  let s := if bitOf (s.rd Adr.tnsServo) 30 || s.tense.adjHist.isEmpty then s else putAdj s (meanAdj s.tense.adjHist)
  putServo { s with tense := { s.tense with holdReported := false, holdAt := now s } } 3

/-- SYNCTO in TIME64 units. -/
def syncTo (s : State) : Nat := field (s.rd Adr.tnsServo) 7 0 * 16000000

/-- The domain not followed has delivered a sample within the last SYNCTO ms (R404). -/
def otherRecent (s : State) : Bool :=
  match (if bitOf (s.rd Adr.tnsSstat) 61 then s.tense.seenAt[0] else s.tense.seenAt[1]) with
  | some t => decide ((now s - t).toNat ≤ syncTo s)
  | none => false

/-- SYNC_TIMEOUT (R402, R404). -/
def syncTimeout (s : State) : State :=
  if (servoState s = 1 ∨ servoState s = 2) ∧ syncTo s ≤ (now s - s.tense.sampleAt).toNat then
    if bitOf (s.rd Adr.tnsServo) 29 && otherRecent s then
      let s := s.up Adr.tnsSstat fun w => putBit w 61 (!bitOf w 61)
      setRuns (putServo { s with tense := { s.tense with sampleAt := now s } } 1) 0 0
    else enterHoldover s
  else s

def execSyncTimeout (s : State) : Host.Outcome State Fault Refusal := .next (syncTimeout s)

/-- HOLDOVER_EXPIRY (R405). -/
def execHoldoverExpiry (s : State) : Host.Outcome State Fault Refusal :=
  .next (if servoState s = 3 ∧ s.tense.holdReported = false
        ∧ field (s.rd Adr.tnsSlim) 31 16 * 16000000 ≤ (now s - s.tense.holdAt).toNat then
      report { s with tense := { s.tense with holdReported := true } } 129 0
    else s)

/-- What a change of TNS_SERVO does (R402): MODE FREE frees the servo, FOLLOW starts it on domain DOM; a new DOM is
followed from then on (DEDUCED, log 19). The values that R404's mean takes stay (R400 returns only the integrator to 0). -/
def servoConfigured (s : State) (old : Word) : State :=
  let w := s.rd Adr.tnsServo
  if field w 27 26 = 0 then putServo s 0
  else
    let dom (s : State) : State :=
      { s.up Adr.tnsSstat fun x => putBit x 61 (bitOf w 28) with tense := { s.tense with sampleAt := now s } }
    if servoState s = 0 then
      putServo (setRuns (dom { s with tense := { s.tense with integ := 0 } }) 0 0) 1
    else if bitOf old 28 != bitOf w 28 then dom s
    else s

def writeServo (s : State) (v : Word) : State :=
  let old := s.rd Adr.tnsServo
  servoConfigured (s.sw Adr.tnsServo v) old

/-- A write of TNS_RATE: with SW = 1 or in FREE, clamped (R394). -/
def writeRate (s : State) (v : BitVec 32) : State :=
  if bitOf (s.rd Adr.tnsServo) 30 || servoState s == 0 then putAdj s v.toInt else s

/-! ### Arming (R407 to R418) -/

/-- An entry's 32 octets checked by R409: none if invalid. -/
def parseEntry (bs : List Byte) (k : Nat) : Option Armed :=
  let w := leAt bs 8 4
  let kind := w % 256
  let tgt := w / 256 % 65536
  let late := w / 2 ^ 28 % 4
  let tgtOk := match kind with
    | 1 => decide (tgt ≤ 0x3FFF) && timedWritable false (tgt * 4)
    | 2 => decide (tgt ≤ 0x3FFF) && timedWritable true (tgt * 4)
    | 3 => decide (tgt ≤ 31)
    | 4 => decide (tgt ≤ 7)
    | 5 => decide (tgt ≤ 1)
    | 6 => decide (tgt ≤ 119)
    | _ => false
  if w / 2 ^ 27 % 2 = 0 ∧ w / 2 ^ 30 = 0 ∧ leAt bs 12 4 = 0 ∧ late ≠ 3 ∧ tgtOk = true then
    some { idx := k, time := BitVec.ofNat 64 (leAt bs 0 8), kind := BitVec.ofNat 8 kind, tgt := BitVec.ofNat 16 tgt,
           owner := w / 2 ^ 24 % 8, late := BitVec.ofNat 2 late, arg0 := BitVec.ofNat 64 (leAt bs 16 8),
           arg1 := BitVec.ofNat 32 (leAt bs 24 4), cyc := none, dispatched := false, isLate := false }
  else none

/-- Entry k belongs to a running table (R420). -/
def entryOwned (s : State) (k : Nat) : Bool :=
  allTables.any fun j => tabRuns s j && s.tense.owned[j].contains k

/-- The outcome of an arming or disarm in TNS_ARMRES_t (R408). -/
def putArmres (s : State) (t : TriadId) (k res : Nat) : State :=
  s.wr (Adr.tnsArmres t) (BitVec.ofNat 64 (k * 65536 + res))

/-- An undispatched copy of entry k leaves the calendar (R413). -/
def replaceCopy (s : State) (k : Nat) : State :=
  s.setArmed (s.tense.armed.filter fun a => !(a.idx == k && !a.dispatched))

/-- Puts an accepted arming into the calendar, or applies its late policy; the second component is the outcome. -/
def armCopy (s : State) (a : Armed) (atTime : Word) (margin : Int) : State × Nat :=
  let s := replaceCopy s a.idx
  if (a.time - atTime).toInt < margin then (latePolicy s a, 2 + a.late.toNat) else (s.setArmed (s.tense.armed ++ [a]), 1)

/-- A write of TNS_ARM with OP 0 (R408, R409, R413, R416). -/
def armEntry (s : State) (w : TriadId) (k : BitVec 14) : State :=
  let k := k.toNat
  let (s, bs) := sramRead s .tense (entryAddr k) 32
  match parseEntry bs k with
  | none => putArmres s w k 5
  | some a =>
    if a.kind = 5 then putArmres s w k 7
    else if a.owner ≠ w.val then putArmres s w k 6
    else if entryOwned s k then putArmres s w k 7
    else
      let (s, res) := armCopy s a (now s) (field (s.rd Adr.tnsCtl) 15 8 * 16000)
      putArmres s w k res

def execArm (w : TriadId) (k : BitVec 14) (s : State) : Host.Outcome State Fault Refusal := .next (armEntry s w k)

/-- A write of TNS_ARM with OP 1 (R415). -/
def disarmEntry (s : State) (w : TriadId) (k : BitVec 14) : State :=
  let k := k.toNat
  if entryOwned s k then putArmres s w k 7
  else
    match s.tense.armed.find? fun a => a.idx == k && !a.dispatched with
    | some a => if a.owner = w.val then putArmres (dropArmed s a) w k 8 else putArmres s w k 6
    | none =>
      match s.tense.armed.find? fun a => a.idx == k with
      | some a => putArmres s w k (if a.owner = w.val then 9 else 6)
      | none => putArmres s w k 0xA

def execDisarm (w : TriadId) (k : BitVec 14) (s : State) : Host.Outcome State Fault Refusal := .next (disarmEntry s w k)

/-- A write of TNS_ARM. -/
def writeTnsArm (s : State) (w : TriadId) (v : BitVec 32) : State :=
  if v.getLsbD 31 then disarmEntry s w (v.setWidth 14) else armEntry s w (v.setWidth 14)

/-- ACTION_DISPATCH (R411): the first undispatched action, from 1 us before its TIME; one that is still undispatched
less than 100 ns before its TIME is late by congestion (R412). -/
def dispatchEntry (s : State) (k : BitVec 14) : State :=
  match firstDue s.tense.armed with
  | some a =>
    if a.idx = k.toNat ∧ atOrAfter (now s) (a.time - 16000) then
      if !atOrAfter (a.time - 1600) (now s) then makeLate s a
      else onDispatch (s.setArmed (s.tense.armed.map fun b => if b = a then { b with dispatched := true } else b)) a
    else s
  | none => s

def execActionDispatch (k : BitVec 14) (s : State) : Host.Outcome State Fault Refusal := .next (dispatchEntry s k)

/-- LATE_BY_CONGESTION (R412): undispatched 100 ns before its TIME. -/
def lateCongestion (s : State) (k : BitVec 14) : State :=
  match s.tense.armed.find? fun a => a.idx == k.toNat && !a.dispatched with
  | some a => if atOrAfter (now s) (a.time - 1600) then makeLate s a else s
  | none => s

def execLateByCongestion (k : BitVec 14) (s : State) : Host.Outcome State Fault Refusal := .next (lateCongestion s k)

/-! ### Effects (R410, R414) -/

/-- The dispatched action of a KIND whose effect time has come and that R411 takes first, when it is one of entry k
(R410, R411). -/
def dueAction (s : State) (k : BitVec 14) (kind : Byte) : Option Armed :=
  match firstOf (s.tense.armed.filter fun a => a.dispatched && a.kind == kind && atOrAfter (now s) a.time) with
  | some a => if a.idx = k.toNat then some a else none
  | none => none

/-- The end of an action that took effect: STATUS, and RUN of a stopped table (R414, R424). -/
def fired (s : State) (a : Armed) : State :=
  settleOf (writeStatus (dropArmed s a) a.idx (if a.isLate then 3 else 1) a.cyc) a.cyc

/-- Runs f for the action of entry k when its effect is due. -/
def effect (s : State) (k : BitVec 14) (kind : Byte) (f : State → Armed → State) : State :=
  match dueAction s k kind with
  | some a => fired (f s a) a
  | none => s

/-- The owner of an action as a requester. -/
def Armed.requester (a : Armed) : Requester := .tense (if h : a.owner < 6 then ⟨a.owner, h⟩ else 0)

def execTmrWrite (k : BitVec 14) (s : State) : Host.Outcome State Fault Refusal :=
  .next (effect s k 1 fun s a => perWrite32 s a.requester false (a.tgt.toNat * 4) (a.arg0.setWidth 32))

def execLegWrite (k : BitVec 14) (s : State) : Host.Outcome State Fault Refusal :=
  .next (effect s k 2 fun s a => perWrite32 s a.requester true (a.tgt.toNat * 4) (a.arg0.setWidth 32))

/-- A start action: TSREJ for another owner's channel (R410), else R324. -/
def tenseStart (s : State) (a : Armed) : State :=
  let c : Fin 32 := ⟨a.tgt.toNat % 32, Nat.mod_lt _ (by decide)⟩
  if chanOwner s c = a.owner then startArmed s c else s.setBitR (statOf c) 11

def execDmaStart (k : BitVec 14) (s : State) : Host.Outcome State Fault Refusal :=
  .next (effect s k 3 tenseStart)

def execRaiseEvent (k : BitVec 14) (s : State) : Host.Outcome State Fault Refusal :=
  .next (effect s k 6 fun s a => pulse s (320 + a.tgt.toNat))

/-! ### Cycle tables (R419 to R426) -/

def cycPeriod (s : State) (j : Fin 64) : Nat := field (s.rd (Adr.tnsCycPeriod j)) 33 0
def cycCount (s : State) (j : Fin 64) : Nat := field (s.rd (Adr.tnsCycCtl j)) 10 0
def cycOwner (s : State) (j : Fin 64) : Nat := field (s.rd (Adr.tnsCycCtl j)) 26 24

/-- T_start(n) (R420). -/
def cycleStart (s : State) (j : Fin 64) (n : Nat) : Word :=
  s.rd (Adr.tnsCycStart j) + BitVec.ofNat 64 (n * cycPeriod s j)

/-- Elements 0 to n - 1 of the list of table j, as reads of SRAM deliver them (R419). -/
def readList (s : State) (j : Fin 64) (n : Nat) : List Nat :=
  (List.range n).map fun i => natLE (sramRead s .tense (0x1100000 + 0x2000 * j.val + 8 * i) 8).2

/-- What reading that list leaves behind (R345, R346, R362). -/
def touchElems (s : State) (j : Fin 64) (n : Nat) : State :=
  if n = 0 then s else (sramRead s .tense (0x1100000 + 0x2000 * j.val) (8 * n)).1

def elemEntry (e : Nat) : Nat := e / 2 ^ 34 % 2 ^ 14
def elemOffset (e : Nat) : Nat := e % 2 ^ 34

/-- An element's own conditions (R419, R422). -/
def elemOk (s : State) (j : Fin 64) (e : Nat) : Bool :=
  decide (e / 2 ^ 48 = 0 ∧ elemOffset e + 32000 ≤ cycPeriod s j)
  && !(allTables.any fun i => i != j && tabRuns s i && s.tense.owned[i].contains (elemEntry e))
  && !(s.tense.armed.any fun a => a.idx == elemEntry e && a.cyc == none)

/-- A rejected instance (R421). -/
def rejectInstance (s : State) (j : Fin 64) (n : Nat) (e : Nat) (valid : Bool) : State :=
  let s := if valid then writeStatus s (elemEntry e) 8 (some (j.val, n)) else s
  pulse (s.setBitR Adr.tnsStat 2) 443

/-- Element i of cycle n is armed at A = `atTime` (R420, R421, R426). -/
def instantiateElem (s : State) (j : Fin 64) (n : Nat) (e : Nat) (atTime : Word) : State :=
  let (s, bs) := sramRead s .tense (entryAddr (elemEntry e)) 32
  match parseEntry bs (elemEntry e) with
  | none => rejectInstance s j n e false
  | some a =>
    if a.owner ≠ cycOwner s j ∨ elemOk s j e = false then rejectInstance s j n e true
    else
      let t := cycleStart s j n + BitVec.ofNat 64 (elemOffset e)
      (armCopy s { a with time := t, cyc := some (j.val, n) } atTime 16000).1

def instantiateAll (s : State) (j : Fin 64) (n : Nat) (atTime : Word) : List Nat → State
  | [] => s
  | e :: t => instantiateAll (instantiateElem s j n e atTime) j n (atTime + 40) t

/-- When the next cycle of table j is to be instantiated (R420). -/
def instTime (s : State) (j : Fin 64) : Word := cycleStart s j s.tense.nextN[j] - 32000

/-- Table j runs, is enabled, and its next instantiation time has come. -/
def instDue (s : State) (j : Fin 64) : Bool :=
  tabRuns s j && bitOf (s.rd (Adr.tnsCycCtl j)) 16 && atOrAfter (now s) (instTime s j)

/-- Table i comes before table j: an earlier instantiation time, or the same and a lower number (R426). -/
def instFirst (s : State) (i j : Fin 64) : Bool :=
  if instTime s i = instTime s j then decide (i < j) else !atOrAfter (instTime s i) (instTime s j)

/-- An instance of an earlier cycle of table j is due and has not yet taken effect (R423). -/
def instanceDue (s : State) (j : Fin 64) : Bool :=
  s.tense.armed.any fun a => atOrAfter (now s) a.time
    && match a.cyc with | some (i, m) => i == j.val && decide (m < s.tense.nextN[j]) | none => false

/-- When the unit takes element 0 of table j: at its instantiation time, or as soon as it has completed the lists
before it (R426). -/
def instStart (s : State) (j : Fin 64) : Word :=
  match s.tense.instAt with
  | some a => if atOrAfter (instTime s j) a then instTime s j else a
  | none => instTime s j

/-- INSTANTIATION (R420, R423, R426): the next cycle of a running, enabled table, from 2 us before its start, in the
order of the tables. -/
def instantiate (s : State) (j : Fin 64) : State :=
  let n := s.tense.nextN[j]
  if instDue s j && !(allTables.any fun i => instDue s i && instFirst s i j) && !instanceDue s j then
    let start := instStart s j
    let l := readList s j (cycCount s j)
    let s := touchElems s j (cycCount s j)
    let s := s.wr (Adr.tnsCycNum j) (BitVec.ofNat 64 n)
    let s := { s with tense := { s.tense with nextN := s.tense.nextN.set j.val (n + 1) j.isLt,
                                              instAt := some (start + BitVec.ofNat 64 (40 * l.length)),
                                              owned := s.tense.owned.set j.val (l.map elemEntry) j.isLt } }
    instantiateAll s j n start l
  else s

def execInstantiation (j : Fin 64) (s : State) : Host.Outcome State Fault Refusal := .next (instantiate s j)

/-- The lowest n with T_start(n) - 2 us at or after the present time (R422). -/
def firstCycle (s : State) (j : Fin 64) : Nat :=
  let d := (now s - (s.rd (Adr.tnsCycStart j) - 32000)).toInt
  let p := cycPeriod s j
  if d ≤ 0 ∨ p = 0 then 0 else (d.toNat + p - 1) / p

/-- A refused start or setting of EN (R422, R424). -/
def refuseStart (s : State) (j : Fin 64) : State :=
  pulse ((s.up (Adr.tnsCycCtl j) fun w => putBit (putBit w 30 true) 16 false).setBitR Adr.tnsStat 2) 443

/-- A start of table j (R422). -/
def startTable (s : State) (j : Fin 64) : State :=
  let p := cycPeriod s j
  let c := cycCount s j
  let l := readList s j (Nat.min c 1024)
  let s := touchElems s j (Nat.min c 1024)
  if 500000 ≤ p ∧ p ≤ 16000000000 ∧ c ≤ 1024 ∧ l.all (elemOk s j) = true then
    let s := s.up (Adr.tnsCycCtl j) fun w => putBit w 29 true
    let s := { s with tense := { s.tense with nextN := s.tense.nextN.set j.val (firstCycle s j) j.isLt,
                                              owned := s.tense.owned.set j.val (l.map elemEntry) j.isLt } }
    gatesAtTableStart s j.val
  else refuseStart s j

/-- A write of TNS_CYCj_CTL (R422, R424, R425): while RUN = 1 only EN, ERR and LK act. -/
def writeCycCtl (s : State) (j : Fin 64) (v : BitVec 32) : State :=
  let a := Adr.tnsCycCtl j
  let old := s.rd a
  let run := bitOf old 29
  let locked := bitOf old 31
  let s := s.sw32 a v
  let s := if run then s.up a fun w => setField (setField w 26 24 (field old 26 24)) 10 0 (field old 10 0) else s
  if locked then s
  else if !run then (if bitOf (s.rd a) 16 then startTable s j else s)
  else if bitOf (s.rd a) 16 then (if bitOf old 16 then s else refuseStart s j)
  else settleRun s j

def execTableStart (j : Fin 64) (v : BitVec 32) (s : State) : Host.Outcome State Fault Refusal :=
  .next (writeCycCtl s j (v ||| 0x10000))

def execTableStop (j : Fin 64) (v : BitVec 32) (s : State) : Host.Outcome State Fault Refusal :=
  .next (writeCycCtl s j (v &&& ~~~ 0x10000))

/-! ### Output regions (R428 to R432) -/

/-- BASE and SIZE of a region as a word of TNS_ORr_CFG gives them. -/
def regBase (w : Word) : Nat := field w 12 0
def regSize (w : Word) : Nat := field w 29 16

def regionsOverlap (a b : Word) : Bool :=
  decide (regBase a < regBase b + regSize b ∧ regBase b < regBase a + regSize a)

/-- EN may be set with this word in region r (R428). -/
def regionFits (s : State) (r : Fin 8) (w : Word) : Bool :=
  decide (1 ≤ regSize w ∧ regBase w + regSize w ≤ 8192)
  && !((List.range 8).any fun q => q != r.val && bitOf (s.rd (Adr.tnsOrCfg q)) 62 && regionsOverlap w (s.rd (Adr.tnsOrCfg q)))

/-- After a write of TNS_ORr_CFG: EN is refused where the region does not fit (R428). -/
def checkRegion (s : State) (r : Fin 8) : State :=
  let w := s.rd (Adr.tnsOrCfg r)
  if bitOf w 62 && !regionFits s r w then
    (s.wr (Adr.tnsOrCfg r) (putBit w 62 false)).setBitR Adr.tnsStat 4
  else s

/-- REGION_ENABLE (R428). -/
def execRegionEnable (r : Fin 8) (v : Word) (s : State) : Host.Outcome State Fault Refusal :=
  .next (checkRegion (s.sw (Adr.tnsOrCfg r) (putBit v 62 true)) r)

def regOwner (s : State) (r : Fin 8) : Nat := field (s.rd (Adr.tnsOrCfg r)) 50 48

/-- A write of TNS_ORr_RDY from the region's owner (R430). -/
def writeRdy (s : State) (w : TriadId) (r : Fin 8) (v : BitVec 32) : State :=
  if regOwner s r = w.val then s.wr (Adr.tnsOrRdy r) (v.setWidth 64) else s

def execTnsOrrRdy (w : TriadId) (r : Fin 8) (v : BitVec 32) (s : State) : Host.Outcome State Fault Refusal :=
  .next (writeRdy s w r v)

/-- One region at an output flip of cycle n (R429, R431). -/
def flipRegion (s : State) (r : Fin 8) (n : Nat) : State :=
  let a := Adr.tnsOrStat r
  if field (s.rd (Adr.tnsOrRdy r)) 31 0 = n % 2 ^ 32 then
    s.up a fun w => setField (setField (putBit (putBit w 63 (!bitOf w 63)) 62 false) 47 40 0) 31 0 n
  else
    let s := s.up a fun w => satField (putBit w 62 true) 47 40
    let s := s.up (Adr.tnsOrLate r) fun w => satField w 31 0
    let s := pulse (s.setBitR Adr.tnsStat 3) 441
    if field (s.rd (Adr.tnsOrCfg r)) 39 32 ≤ field (s.rd a) 47 40 then report s (16 * regOwner s r + 10) 3 else s

/-- An output flip instance of table j for cycle n (R429). -/
def outputFlip (s : State) (a : Armed) : State :=
  match a.cyc with
  | some (j, n) =>
    (List.finRange 8).foldl (fun s (r : Fin 8) =>
      let w := s.rd (Adr.tnsOrCfg r)
      if bitOf w 62 && decide (field w 45 40 = j) then flipRegion s r n else s) s
  | none => s

/-- An IMAGE_FLIP of entry k with TGT 0 (input) or 1 (output) takes effect. -/
def flipEffect (s : State) (k : BitVec 14) (tgt : BitVec 16) (f : State → Armed → State) : State :=
  match dueAction s k 5 with
  | some a => if a.tgt = tgt then fired (f s a) a else s
  | none => s

/-- OUTPUT_FLIP. -/
def execOutputFlip (k : BitVec 14) (s : State) : Host.Outcome State Fault Refusal :=
  .next (flipEffect s k 1 outputFlip)

/-- TNS_ARMED_k as read. -/
def armedView (s : State) (k : Nat) : Word :=
  BitVec.ofNat 64 (s.tense.armed.foldl (fun m a => if a.idx / 32 = k then m ||| 2 ^ (a.idx % 32) else m) 0)

end Sys2Proof.Machine
end

