-- ==== Sys2Proof/Machine/Yober.lean ====
section
/-! DEFINITION. The Yober measuring island (R574 to R603): the mailbox, the commands a triad puts into it, records, the
seal, the audit trail, resets. What its firmware decides is opaque (log 21). -/

namespace Sys2Proof.Machine

def State.upYob (s : State) (f : Yober → Yober) : State := { s with yob := f s.yob }

/-! ### The mailbox (R583, R592) -/

def mboxNat (s : State) (off n : Nat) : Nat := natLE ((List.range n).map fun i => sparseGet s.yob.mbox (off + i) 0)

def mboxPut (s : State) (off : Nat) (bs : List Byte) : State :=
  match bs with
  | [] => s
  | b :: t => mboxPut (s.upYob fun y => { y with mbox := sparsePut y.mbox off b 0 }) (off + 1) t

def cqProdOf (s : State) : Nat := mboxNat s 0 4
def cqConsOf (s : State) : Nat := mboxNat s 4 4
def rrProdOf (s : State) : Nat := mboxNat s 0x4000 4
def rrConsOf (s : State) : Nat := mboxNat s 0x4004 4

/-- The firmware image of a slot, the one in use and the other one. -/
def yobImage (y : Yober) (b : Bool) : List Byte := if b then y.fwB else y.fwA
def yobActive (y : Yober) : List Byte := yobImage y y.activeB

/-- The image without its signature (R598, R599). -/
def imageBody (l : List Byte) : List Byte := l.take (l.length - 64)

def imageChecksum (l : List Byte) : Nat := (crc32c (imageBody l)).toNat
def imageVersion (l : List Byte) : Nat := leAt l 0x10 4

/-- The signature of an island image is good (R599). -/
def imageOk (l : List Byte) : Bool :=
  decide (64 < l.length) && Config.ecdsaValid (bytesBE 32 Config.fuseYoberKeyHash.toNat) (imageBody l) (l.drop (l.length - 64))

def paramChecksum (y : Yober) : Nat := (crc32c (y.params.flatMap fun p => p.2)).toNat

def yobFlags (y : Yober) : Nat :=
  (y.status == 1).toNat + (y.status == 2).toNat * 2 + y.sealed.toNat * 4 + y.mkey.isSome.toNat * 8 + y.verified.toNat * 16

/-- The status page (R589); it reads zero while the island resets. -/
def statusPage (y : Yober) : List Byte :=
  if y.status = 0 then []
  else [yobFlags y, imageChecksum (yobActive y), imageVersion (yobActive y), y.events, paramChecksum y, y.nonce.toNat,
        y.backlog.length].flatMap (bytesLE 4)

/-- One octet of the mailbox as read. -/
def mboxByte (s : State) (off : Nat) : Byte :=
  if 0x40 ≤ off ∧ off < 0x100 then (statusPage s.yob).getD (off - 0x40) 0 else sparseGet s.yob.mbox off 0

def mboxRead (s : State) (off n : Nat) : List Byte := (List.range n).map fun i => mboxByte s (off + i)

/-- A write of CQ_PROD (R585). -/
def writeCqProd (s : State) (v : Nat) : State := if v < 60 ∧ v ≠ cqConsOf s then mboxPut s 0 (bytesLE 4 v) else s

/-- A write of RR_CONS (R592). -/
def writeRrCons (s : State) (v : Nat) : State := if v < 255 then mboxPut s 0x4004 (bytesLE 4 v) else s

/-- CQ_PROD: whichever triad writes (R582). -/
def execCqProd (_w : TriadId) (v : BitVec 32) (s : State) : Host.Outcome State Fault Refusal :=
  .next (writeCqProd s v.toNat)

def execRrCons (_w : TriadId) (v : BitVec 32) (s : State) : Host.Outcome State Fault Refusal :=
  .next (writeRrCons s v.toNat)

/-- Slot i belongs to the island (R585). -/
def islandOwns (s : State) (i : Nat) : Bool :=
  decide ((i + 60 - cqConsOf s) % 60 < (cqProdOf s + 60 - cqConsOf s) % 60)

/-- Whether a triad store may change the octet at an offset (R585). -/
def mboxOpen (s : State) (off : Nat) : Bool :=
  decide (0x100 ≤ off ∧ off < 0x1000) && !islandOwns s ((off - 0x100) / 64)

/-- A word of the mailbox after a store of octets at an offset covers part of it; none where it covers nothing of it. -/
def wordAfter (s : State) (a off : Nat) (bs : List (Byte × Bool)) : Option Nat :=
  let l := (List.range 4).map fun i =>
    if off ≤ a + i ∧ (bs.getD (a + i - off) (0, false)).2 = true then some (bs.getD (a + i - off) (0, false)).1 else none
  if l.any Option.isSome then
    some (natLE ((List.range 4).map fun i => ((l.getD i none).getD (sparseGet s.yob.mbox (a + i) 0))))
  else none

/-- Octets stored into open slots. -/
def mboxSlots (s : State) (off : Nat) : List (Byte × Bool) → State
  | [] => s
  | (b, en) :: t => mboxSlots (if en && mboxOpen s off then mboxPut s off [b] else s) (off + 1) t

/-- A triad's store to the mailbox (R585, R592). -/
def mboxWrite (s : State) (off : Nat) (bs : List (Byte × Bool)) : State :=
  let s1 := mboxSlots s off bs
  let s2 := match wordAfter s 0 off bs with | some v => writeCqProd s1 v | none => s1
  match wordAfter s 0x4004 off bs with | some v => writeRrCons s2 v | none => s2

/-! ### Keys and the audit trail (R587, R594 to R597) -/

def rkeyOf (mkey : List Byte) : List Byte := hmac mkey (ascii "YRK1")

/-- 16 octets under RKEY; a free value while there is no MKEY (log 21). -/
def yobSign (s : State) (body : List Byte) : State × List Byte :=
  match s.yob.mkey with
  | some k => (s, (hmac (rkeyOf k) body).take 16)
  | none =>
    let (a, s) := s.draw
    let (b, s) := s.draw
    (s, bytesLE 8 a.toNat ++ bytesLE 8 b.toNat)

/-- Octets 32 to 47 of the entry before the next one; of an empty trail free values (log 21). -/
def auditPrev (s : State) : State × List Byte :=
  match s.yob.audit with
  | e :: _ => (s, sliceOf e 32 16)
  | [] =>
    let (a, s) := s.draw
    let (b, s) := s.draw
    (s, bytesLE 8 a.toNat ++ bytesLE 8 b.toNat)

/-- One audit entry (R596), the newest first. -/
def auditEntry (s : State) (kind : Byte) (sealB : Byte) (pid : Nat) (old new : List Byte) : State :=
  let body := bytesLE 4 s.yob.events ++ bytesLE 8 (now s).toNat ++ [kind, sealB] ++ bytesLE 2 pid ++ padTo old 8 ++ padTo new 8
  let (s, prev) := auditPrev s
  let (s, tag) := yobSign s (prev ++ body)
  s.upYob fun y => { y with audit := ((body ++ tag) :: y.audit).take 1024 }

/-- A fuse is blown (R595). -/
def blowFuse (s : State) : State := genUp (pulse (s.upYob fun y => { y with events := y.events + 1 }) 836) 9

/-! ### Records (R590 to R593) -/

def ringFull (s : State) : Bool := (rrProdOf s + 1) % 255 == rrConsOf s

def ringPut (s : State) (rec : List Byte) : State :=
  let p := rrProdOf s
  let s := mboxPut s (0x4040 + 0x40 * p) rec
  pulse (mboxPut s 0x4000 (bytesLE 4 ((p + 1) % 255))) 833

/-- A record goes to the ring, or behind the backlog. -/
def keepRecord (s : State) (rec : List Byte) : State :=
  let s := s.upYob fun y => { y with lastRecord := rec }
  if s.yob.backlog.isEmpty && !ringFull s then ringPut s rec
  else
    let s := s.upYob fun y => { y with backlog := y.backlog ++ [rec] }
    if s.yob.backlog.length = 2049 then pulse s 834 else s

def unitCodes : List Nat := [0x0001, 0x0002, 0x0010, 0x0011, 0x0012, 0x0020]

/-- An ADC port reads a conversion: its value and the levels the firmware leaves on the port's pins are free (R578; log 21). -/
def convert (s : State) (n : Fin 4) : State :=
  let (w, s) := s.draw
  s.upYob fun y =>
    { y with adc := vmod y.adc n fun p => { p with conv := w.setWidth 24, sclk := w.getLsbD 24, csN := w.getLsbD 25 } }

/-- A record of channel chan (R590, R591). VALUE, UNIT, EXP and the bits VALID to MOTION are the firmware's: free
values (log 21). -/
def makeRecord (s : State) (chan : Byte) : State :=
  let s := if h : 8 ≤ chan.toNat ∧ chan.toNat < 12 then convert s ⟨chan.toNat - 8, by omega⟩ else s
  let (value, s) := s.draw
  let (x, s) := s.draw
  let y := s.yob
  let seq := y.seq + 1
  let st := x.toNat % 16 + (!y.sealed).toNat * 16 + y.cgap.toNat * 32 + y.restart.toNat * 64 + (servoState s != 2).toNat * 128
  let exp := (256 - field x 15 8 % 10) % 256
  let body := bytesLE 8 seq.toNat ++ bytesLE 8 (now s).toNat ++ bytesLE 8 value.toNat
    ++ bytesLE 2 (unitCodes.getD (field x 23 16 % 6) 0) ++ bytesLE 2 st ++ [chan, BitVec.ofNat 8 exp, 0, 0]
    ++ bytesLE 4 y.events ++ bytesLE 4 (imageChecksum (yobActive y)) ++ List.replicate 8 0
  let (s, tag) := yobSign s body
  keepRecord (s.upYob fun y => { y with seq := seq, restart := false, cgap := false }) (body ++ tag)

def backlogFull (s : State) : Bool := decide (4096 ≤ s.yob.backlog.length)

/-- CLK_TNS is stopped (R581, R37). -/
def tnsStopped (s : State) : Bool := s.yob.clkStopped

/-- FIRMWARE_RECORD (R590, R593): a record of the firmware's own. -/
def execFirmwareRecord (chan : Byte) (s : State) : Host.Outcome State Fault Refusal :=
  .next (if s.yob.status = 1 ∧ tnsStopped s = false ∧ backlogFull s = false then makeRecord s chan else s)

/-- RECORD_WRITE (R593): the oldest record of the backlog into a free slot. -/
def execRecordWrite (s : State) : Host.Outcome State Fault Refusal :=
  .next (match s.yob.backlog with
    | [] => s
    | r :: t => if ringFull s || tnsStopped s then s else ringPut (s.upYob fun y => { y with backlog := t }) r)

/-! ### Commands (R584 to R588) -/

structure YobReply where
  state : State
  status : Byte
  result : List Byte

/-- The slot the island takes next: its number and its 64 octets. -/
def yobSlot (s : State) : Option (Nat × List Byte) :=
  let c := cqConsOf s
  if s.yob.status = 0 ∨ tnsStopped s = true ∨ cqProdOf s = c then none else some (c, mboxRead s (0x100 + 0x40 * c) 64)

/-- The response into the slot, CQ_CONS and E0832 (R585). -/
def yobRespond (s : State) (i : Nat) (slot : List Byte) (status : Byte) (result : List Byte) : State :=
  let s := mboxPut s (0x100 + 0x40 * i)
    ([slot.getD 0 0, 0, slot.getD 2 0, slot.getD 3 0, status, 0, 0, 0] ++ padTo result 56)
  pulse (mboxPut s 4 (bytesLE 4 ((i + 1) % 60))) 832

/-- NONCE changes to another value, else free (R587). -/
def newNonce (s : State) : State :=
  let (x, s) := s.draw
  let n : BitVec 32 := x.setWidth 32
  s.upYob fun y => { y with nonce := if n = y.nonce then n + 1 else n }

def yobCommands : List Byte := [0x01, 0x02, 0x10, 0x20, 0x21, 0x22, 0x30, 0x31, 0x32, 0x33, 0x40]

/-- The command row `cmd` runs where the slot next in order holds it. A slot with an unknown CMD is answered 0x01 by
whichever row comes (log 21). In the fault state every command but IDENT is refused (R580). -/
def takeSlot (s : State) (cmd : Byte) (auth : Bool) (run : State → List Byte → YobReply) : State :=
  match yobSlot s with
  | none => s
  | some (i, slot) =>
    let c := slot.getD 0 0
    if c = cmd then
      let carries := auth && !(cmd == 0x22 && s.yob.mkey.isNone)
      let r : YobReply := if s.yob.status = 2 ∧ cmd ≠ 0x02 then ⟨s, 0x0A, []⟩ else run s slot
      let s := if carries then newNonce r.state else r.state
      yobRespond s i slot r.status r.result
    else if yobCommands.contains c then s
    else yobRespond s i slot (if s.yob.status = 2 then 0x0A else 0x01) []

/-- The checks seal, MKEY, AUTH in order (R586): the status of the first that fails. -/
def sealAuth (s : State) (slot : List Byte) : Option Byte :=
  if s.yob.sealed then some 0x03
  else
    match s.yob.mkey with
    | none => some 0x08
    | some k => if (hmac k (slot.take 48 ++ bytesLE 4 s.yob.nonce.toNat)).take 16 = slot.drop 48 then none else some 0x04

/-- A write to the Yober region; whether it succeeds is a free value (R588, R597; log 21). -/
def regionWrite (s : State) : State × Bool :=
  let (x, s) := s.draw
  (s, x.getLsbD 0)

def execYoberPing (s : State) : Host.Outcome State Fault Refusal :=
  .next (takeSlot s 0x01 false fun s _ => ⟨s, 0, []⟩)

def identResult (y : Yober) : List Byte :=
  bytesLE 4 (imageChecksum (yobActive y)) ++ bytesLE 4 (imageVersion (yobActive y)) ++ [BitVec.ofNat 8 y.activeB.toNat, 0, 0, 0]
    ++ bytesLE 4 y.events ++ bytesLE 4 (paramChecksum y)

def execIdent (s : State) : Host.Outcome State Fault Refusal :=
  .next (takeSlot s 0x02 false fun s _ => ⟨s, 0, identResult s.yob⟩)

/-- MEASURE (R586, R590, R593). -/
def yobMeasure (s : State) (slot : List Byte) : YobReply :=
  let chan := slot.getD 8 0
  if 12 ≤ chan.toNat ∨ Config.yoberMeasureOk chan (slot.getD 9 0) = false then ⟨s, 0x02, []⟩
  else if backlogFull s then ⟨s, 0x07, []⟩
  else
    let s := makeRecord s chan
    ⟨s, 0, bytesLE 8 s.yob.seq.toNat⟩

def execMeasure (s : State) : Host.Outcome State Fault Refusal := .next (takeSlot s 0x10 false yobMeasure)

def yobPread (s : State) (slot : List Byte) : YobReply :=
  match s.yob.params.lookup (leAt slot 8 2) with
  | some v => ⟨s, 0, [BitVec.ofNat 8 v.length, 0] ++ padTo v 32⟩
  | none => ⟨s, 0x02, []⟩

def execPread (s : State) : Host.Outcome State Fault Refusal := .next (takeSlot s 0x20 false yobPread)

/-- PWRITE (R586, R595, R597). -/
def yobPwrite (s : State) (slot : List Byte) : YobReply :=
  match sealAuth s slot with
  | some e => ⟨s, e, []⟩
  | none =>
    let pid := leAt slot 8 2
    let n := (slot.getD 10 0).toNat
    let v := sliceOf slot 12 n
    if n = 0 ∨ 32 < n ∨ Config.yoberParamOk pid v = false then ⟨s, 0x02, []⟩
    else if 4096 ≤ s.yob.events then ⟨s, 0x05, []⟩
    else
      let s := auditEntry (blowFuse s) 1 0 pid ((s.yob.params.lookup pid).getD []) v
      let (s, ok) := regionWrite s
      if ok then
        let s := s.upYob fun y => { y with params := sparseInsert (sparseErase y.params pid) pid v }
        ⟨s, 0, bytesLE 4 (paramChecksum s.yob)⟩
      else ⟨s, 0x09, []⟩

def execPwrite (s : State) : Host.Outcome State Fault Refusal := .next (takeSlot s 0x21 true yobPwrite)

/-- The key that KEYSET brings: in clear, or wrapped under the old one (R587). -/
def keysetKey (y : Yober) (arg : List Byte) : List Byte :=
  match y.mkey with
  | none => arg
  | some k => List.zipWith (fun a b => a ^^^ b) arg (hmac k (ascii "YKW1" ++ bytesLE 4 y.events))

def yobKeyset (s : State) (slot : List Byte) : YobReply :=
  let refuse := if s.yob.mkey.isNone then (if s.yob.sealed then some 0x03 else none) else sealAuth s slot
  match refuse with
  | some e => ⟨s, e, []⟩
  | none =>
    if 4096 ≤ s.yob.events then ⟨s, 0x05, []⟩
    else
      let k := keysetKey s.yob (sliceOf slot 8 32)
      let s := auditEntry (blowFuse s) 3 0 0 (s.yob.mkey.getD []) k
      let (s, ok) := regionWrite s
      if ok then ⟨s.upYob fun y => { y with mkey := some k }, 0, []⟩ else ⟨s, 0x09, []⟩

def execKeyset (s : State) : Host.Outcome State Fault Refusal := .next (takeSlot s 0x22 true yobKeyset)

/-- The inactive slot replaced (R599). -/
def putStaged (y : Yober) (l : List Byte) : Yober := if y.activeB then { y with fwA := l } else { y with fwB := l }
def stagedImage (y : Yober) : List Byte := yobImage y (!y.activeB)

def yobFwbegin (s : State) (slot : List Byte) : YobReply :=
  match sealAuth s slot with
  | some e => ⟨s, e, []⟩
  | none =>
    let n := leAt slot 8 4
    if n = 0 ∨ 458752 < n then ⟨s, 0x02, []⟩
    else
      let (s, ok) := regionWrite s
      if ok then ⟨s.upYob fun y => { putStaged y (List.replicate n 0) with staged := some n, verified := false }, 0, []⟩
      else ⟨s.upYob fun y => { y with staged := none, verified := false }, 0x09, []⟩

def execFwbegin (s : State) : Host.Outcome State Fault Refusal := .next (takeSlot s 0x30 true yobFwbegin)

/-- FWDATA: a 32-octet block of the image that FWBEGIN opened; octets past its size are dropped (log 21). -/
def yobFwdata (s : State) (slot : List Byte) : YobReply :=
  let off := leAt slot 8 4
  if s.yob.sealed then ⟨s, 0x03, []⟩
  else
    match s.yob.staged with
    | none => ⟨s, 0x02, []⟩
    | some n =>
      if off % 32 ≠ 0 ∨ n ≤ off then ⟨s, 0x02, []⟩
      else
        let l := stagedImage s.yob
        let l := (l.take off ++ sliceOf slot 12 32 ++ l.drop (off + 32)).take n
        let (s, ok) := regionWrite s
        if ok then ⟨s.upYob fun y => { putStaged y l with verified := false }, 0, []⟩
        else ⟨s.upYob fun y => { y with verified := false }, 0x09, []⟩

def execFwdata (s : State) : Host.Outcome State Fault Refusal := .next (takeSlot s 0x31 false yobFwdata)

def yobFwend (s : State) (_slot : List Byte) : YobReply :=
  if s.yob.sealed then ⟨s, 0x03, []⟩
  else
    let l := stagedImage s.yob
    if s.yob.staged.isSome && imageOk l then
      ⟨s.upYob fun y => { y with verified := true }, 0, bytesLE 4 (imageChecksum l)⟩
    else ⟨s.upYob fun y => { y with verified := false }, 0x06, []⟩

def execFwend (s : State) : Host.Outcome State Fault Refusal := .next (takeSlot s 0x32 false yobFwend)

/-! ### Island resets (R579, R580) -/

/-- A fault of the island reported: E0838 (R603). -/
def yobFault (s : State) (f : Nat) : State := report (pulse s 838) f 0

/-- An island reset: the mailbox and the backlog are lost, both cores start alike, keys, fuses and the serial region stay. -/
def islandReset (s : State) (cause : IslandCause) : State :=
  let (x, s) := s.draw
  let (c, s) := s.draw
  let (m, s) := s.draw
  let s := s.upYob fun y =>
    { y with cores := Vector.replicate 2 c, sram := m, status := 0, mbox := [], backlog := [], staged := none, verified := false, restart := true,
             nonce := x.setWidth 32 }
  match cause with
  | .powerOn => s
  | .pin => yobFault s 194
  | .lockstep => yobFault s 192
  | .ecc => yobFault s 193
  | .firmware => yobFault s 195

def execIslandReset (cause : IslandCause) (s : State) : Host.Outcome State Fault Refusal := .next (islandReset s cause)

/-- Both rings at index 0 (R580 step 4). -/
def clearRings (s : State) : State := [0, 4, 0x4000, 0x4004].foldl (fun s o => mboxPut s o [0, 0, 0, 0]) s

/-- ISLAND_READY (R580, R600): the boot ends in READY, or in the fault state. bistOk says that the BIST and the checks of
the parameters and the audit trail passed. -/
def islandReady (s : State) (bistOk : Bool) : State :=
  if s.yob.status ≠ 0 ∨ tnsStopped s = true then s
  else
    let go (s : State) : State := pulse ((clearRings s).upYob fun y => { y with status := 1 }) 837
    if bistOk && imageOk (yobActive s.yob) then go s
    else if bistOk && imageOk (stagedImage s.yob) then
      go (yobFault (s.upYob fun y => { y with activeB := !y.activeB }) 197)
    else yobFault (s.upYob fun y => { y with status := 2 }) 196

def execIslandReady (bistOk : Bool) (s : State) : Host.Outcome State Fault Refusal := .next (islandReady s bistOk)

/-- FWACT (R599): activates the verified slot; the island reset follows the response. -/
def yobFwact (s : State) (slot : List Byte) : YobReply :=
  match sealAuth s slot with
  | some e => ⟨s, e, []⟩
  | none =>
    if !s.yob.verified then ⟨s, 0x06, []⟩
    else if 4096 ≤ s.yob.events then ⟨s, 0x05, []⟩
    else
      let sum (l : List Byte) : List Byte := bytesLE 4 (imageChecksum l) ++ bytesLE 4 (imageVersion l)
      let s := auditEntry (blowFuse s) 2 0 0 (sum (yobActive s.yob)) (sum (stagedImage s.yob))
      let (s, ok) := regionWrite s
      if ok then ⟨s.upYob fun y => { y with activeB := !y.activeB }, 0, []⟩ else ⟨s, 0x09, []⟩

def fwact (s : State) : State :=
  let t := takeSlot s 0x33 true yobFwact
  if s.yob.activeB = t.yob.activeB then t else islandReset t .firmware

def execFwact (s : State) : Host.Outcome State Fault Refusal := .next (fwact s)

def yobAudit (s : State) (slot : List Byte) : YobReply :=
  match s.yob.audit[leAt slot 8 2]? with
  | some e => ⟨s, 0, e⟩
  | none => ⟨s, 0x02, []⟩

def execAudit (s : State) : Host.Outcome State Fault Refusal := .next (takeSlot s 0x40 false yobAudit)

/-- SEAL_CHANGE (R594): the new level has held for 100 ms of CLK_TNS. -/
def sealChange (s : State) (intact : Bool) : State :=
  if s.yob.sealed = intact ∨ tnsStopped s = true then s
  else
    let s := pulse (s.upYob fun y => { y with sealed := intact }) 835
    auditEntry s 4 (BitVec.ofNat 8 intact.toNat) 0 [] []

def execSealChange (intact : Bool) (s : State) : Host.Outcome State Fault Refusal := .next (sealChange s intact)

/-! ### The query port (R602) -/

/-- An object 0x5000 to 0x50FF as octets on the wire. -/
def yobObject (s : State) (idx sub : Nat) : Option (List Byte) :=
  let y := s.yob
  match idx, sub with
  | 0x5000, 1 => some [y.status.setWidth 8]
  | 0x5001, 1 => some (bytesBE 4 (imageChecksum (yobActive y)))
  | 0x5001, 2 => some (bytesBE 4 (imageVersion (yobActive y)))
  | 0x5001, 3 => some [BitVec.ofNat 8 y.activeB.toNat]
  | 0x5002, _ => some (bytesBE 4 (paramChecksum y))
  | 0x5010, _ => some (bytesBE 4 y.events)
  | 0x5011, _ => some [BitVec.ofNat 8 y.sealed.toNat]
  | 0x5020, _ => some (padTo (y.audit.flatMap id) 49152)
  | 0x5030, _ => some (padTo y.lastRecord 64)
  | 0x5031, _ => some (bytesBE 8 (y.seq + 1).toNat)
  | _, _ => none

end Sys2Proof.Machine
end

