-- ==== Sys2Proof/Machine/Objects.lean ====
section
/-! DEFINITION. The object dictionary (R507 to R510, R435, R528, R602, R633, R653, R661 and the objects of chapters 9 and
19): which objects exist, their type, access, keep and length, their values, and the ranges of the writable ones. -/

namespace Sys2Proof.Machine

/-! ### Types and codes (R504) -/

def tyBool : Nat := 0x01
def tyU8 : Nat := 0x02
def tyU16 : Nat := 0x03
def tyU32 : Nat := 0x04
def tyU64 : Nat := 0x05
def tyI64 : Nat := 0x07
def tyTime : Nat := 0x0A
def tyOct : Nat := 0x0B
def tyStr : Nat := 0x0C

/-- Octets of a scalar type, 0 for OCTETS and STRING (R507). -/
def tySize (t : Nat) : Nat :=
  match t with
  | 0x01 => 1 | 0x02 => 1 | 0x03 => 2 | 0x04 => 4 | 0x05 => 8 | 0x06 => 4 | 0x07 => 8 | 0x08 => 4 | 0x09 => 8
  | 0x0A => 8 | _ => 0

/-- Type, access (0 RO, 1 RW, 2 WO, 3 RWC), keep (0 fixed, 1 stored, 2 P, 3 H, 4 D, 5 T, 6 island), longest value. -/
structure ObjInfo where
  ty : Nat
  acc : Nat
  keep : Nat
  max : Nat
deriving DecidableEq, Repr

def scal (ty acc keep : Nat) : ObjInfo := ⟨ty, acc, keep, tySize ty⟩
def octs (n acc keep : Nat) : ObjInfo := ⟨tyOct, acc, keep, n⟩

/-- Entry `sub` of a list of sub-indices from 1. -/
def subOf (l : List ObjInfo) (sub : Nat) : Option ObjInfo := if sub = 0 then none else l[sub - 1]?

/-- Sub-indices of the objects that have any, in order from 1. -/
def subList (idx : Nat) : List ObjInfo :=
  if idx = 0x1000 then [⟨tyStr, 0, 0, 22⟩, ⟨tyStr, 0, 0, 7⟩, scal tyU64 0 0, scal tyU32 0 0]
  else if idx = 0x1001 then [scal tyU32 0 4, scal tyU8 0 4]
  else if idx = 0x1100 then [scal tyU32 0 4, scal tyU8 0 4]
  else if idx = 0x1110 then [octs 29360128 2 4, scal tyU8 0 4, scal tyU8 2 4, scal tyU8 0 4]
  else if idx = 0x1120 then [scal tyU32 0 4, octs 4194304 0 4]
  else if idx = 0x1180 then List.replicate 4 (scal tyU8 1 1)
  else if idx = 0x1200 then [scal tyU16 1 1, scal tyU16 1 1, scal tyU8 1 1, scal tyU16 1 1]
  else if idx = 0x1220 then
    [scal tyU32 1 1, scal tyU8 1 1, scal tyU32 1 1, octs 16 1 1, scal tyU8 1 1, scal tyU16 1 1, octs 6 0 0]
  else if 0x1230 ≤ idx ∧ idx ≤ 0x1231 then [scal tyBool 1 1, scal tyU8 1 1]
  else if 0x1240 ≤ idx ∧ idx ≤ 0x125F then [scal tyU8 0 1, scal tyBool 0 1, scal tyU64 0 1]
  else if idx = 0x2000 then [scal tyU8 0 4, scal tyU8 0 4, scal tyBool 0 4, scal tyU8 0 2]
  else if idx = 0x2030 then List.replicate 5 (scal tyU16 0 2)
  else if 0x2100 ≤ idx ∧ idx < 0x2100 + 240 then
    if faultExists (idx - 0x2100) then [scal tyU8 3 1, scal tyBool 3 1, scal tyU32 0 4]
    else [scal tyU8 0 0, scal tyBool 0 0, scal tyU32 0 4]
  else if idx = 0x3000 then [scal tyTime 0 3, scal tyU8 0 4, scal tyI64 0 4]
  else if idx = 0x3010 then
    [scal tyU8 1 1, scal tyU8 1 1, scal tyBool 1 1, scal tyU16 1 1, scal tyU16 1 1, scal tyU8 1 1, scal tyU16 1 1]
  else if 0x3100 ≤ idx ∧ idx < 0x3140 then [scal tyU64 0 4, scal tyU64 0 4, scal tyBool 0 4]
  else if 0x3200 ≤ idx ∧ idx < 0x3208 then [scal tyU8 0 4, scal tyU32 0 4, scal tyU8 3 1]
  else if 0x4000 ≤ idx ∧ idx < 0x5000 then [octs 8 1 1, octs 256 0 4, octs 256 0 4, scal tyU32 0 4, scal tyU16 0 4]
  else if idx = 0x5000 then [scal tyU8 0 6]
  else if idx = 0x5001 then [scal tyU32 0 6, scal tyU32 0 6, scal tyU8 0 6]
  else if 0x6000 ≤ idx ∧ idx < 0x6008 then [scal tyU8 0 4, scal tyU8 0 4, scal tyU16 0 4, scal tyU32 0 4, scal tyU32 0 4]
  else if idx = 0x6E01 then [scal tyU16 0 4, scal tyBool 0 4, scal tyU32 0 4]
  else if 0x6E10 ≤ idx ∧ idx < 0x6E16 then List.replicate 32 (scal tyU64 0 5)
  else if 0x6F10 ≤ idx ∧ idx < 0x6F18 then
    [scal tyU8 0 4, scal tyU8 0 4, scal tyU16 0 4, scal tyU32 0 4, scal tyU64 0 4, octs 4 0 4, octs 496 0 4]
  else if idx = 0x7040 then [scal tyU8 0 4, scal tyU32 0 4, scal tyU8 0 4]
  else if idx = 0x7041 then List.replicate 12 (scal tyU32 0 4)
  else if idx = 0x7042 then List.replicate 18 (scal tyU8 0 4)
  else if idx = 0x7044 then [scal tyU8 0 4, scal tyU8 0 4, scal tyU8 0 4, scal tyU32 0 4, scal tyBool 0 4]
  else []

/-- Objects without sub-indices. -/
def plainInfo (idx : Nat) : Option ObjInfo :=
  if idx = 0x1181 then some (octs 512 0 1)
  else if idx = 0x1182 then some (octs 512 1 1)
  else if idx = 0x2001 ∨ idx = 0x2003 ∨ idx = 0x2004 then some (scal tyU16 3 1)
  else if idx = 0x2002 then some (scal tyU8 3 1)
  else if idx = 0x2010 then some (scal tyU8 2 4)
  else if idx = 0x2020 then some (octs 1024 0 2)
  else if idx = 0x3001 then some (scal tyU64 1 1)
  else if idx = 0x3020 then some (scal tyU8 1 1)
  else if idx = 0x5002 ∨ idx = 0x5010 then some (scal tyU32 0 6)
  else if idx = 0x5011 then some (scal tyBool 0 6)
  else if idx = 0x5020 then some (octs 49152 0 6)
  else if idx = 0x5030 then some (octs 64 0 6)
  else if idx = 0x5031 then some (scal tyU64 0 6)
  else if idx = 0x6E00 then some (octs 1048576 0 4)
  else if idx = 0x6F00 then some (octs 512 0 4)
  else if idx = 0x7001 then some (scal tyU8 3 1)
  else if idx = 0x7002 then some (octs 32 3 1)
  else if idx = 0x7010 ∨ idx = 0x7020 then some (scal tyU8 3 4)
  else if idx = 0x7043 then some (scal tyU32 0 4)
  else if 0x7101 ≤ idx ∧ idx ≤ 0x711F then some (octs 36 3 1)
  else none

/-- Safe-connection objects 0x2800 + n, whose sub-indices are 0x01 to 0x04 and 0x11 to 0x14. -/
def safeSub (sub : Nat) : Option ObjInfo :=
  if 1 ≤ sub ∧ sub ≤ 4 then some (octs 32 3 1) else if 0x11 ≤ sub ∧ sub ≤ 0x14 then some (octs 96 0 4) else none

def isSafeObj (idx : Nat) : Bool := decide (0x2800 ≤ idx ∧ idx < 0x2900)

/-- Highest sub-index of an object that exists, 0 for one without sub-indices (R508). -/
def objTop (idx : Nat) : Option Nat :=
  if isSafeObj idx then some 0x14
  else if !(subList idx).isEmpty then some (subList idx).length
  else (plainInfo idx).map fun _ => 0

/-- What the engine knows of a sub-index: an error status, or its description (R508, R733). -/
def objInfo (idx sub : Nat) : Except Nat ObjInfo :=
  match objTop idx with
  | none => .error 0x0001
  | some top =>
    let r := if top = 0 then (if sub = 0 then plainInfo idx else none)
      else if sub = 0 then some (scal tyU8 0 0)
      else if isSafeObj idx then safeSub sub
      else subOf (subList idx) sub
    match r with
    | some i => .ok i
    | none => .error 0x0002

/-! ### Values -/

/-- Defaults of the stored objects (R510, R435, R633 and chapter 9), as numbers. -/
def objDefault (idx sub : Nat) : Nat :=
  match idx, sub with
  | 0x1180, 1 => 2 | 0x1180, 2 => 1 | 0x1180, 3 => 24 | 0x1180, 4 => 4
  | 0x1200, 1 => 30 | 0x1200, 2 => 100 | 0x1200, 4 => 30
  | 0x1220, 2 => 24 | 0x1220, 5 => 64 | 0x1220, 6 => 40412
  | 0x1230, 2 => 4 | 0x1231, 2 => 4
  | 0x2001, _ => 250 | 0x2002, _ => 8 | 0x2003, _ => 100 | 0x2004, _ => 480
  | 0x3001, _ => 0x60000000
  | 0x3010, 3 => 1 | 0x3010, 4 => 128 | 0x3010, 5 => 800 | 0x3010, 6 => 100 | 0x3010, 7 => 1000
  | 0x3020, _ => 10
  | i, 3 => if 0x3200 ≤ i ∧ i < 0x3208 then 3 else 0
  | i, 1 => if 0x2100 ≤ i ∧ i < 0x21F0 then defaultClass (i - 0x2100) else 0
  | _, _ => 0

/-- The working copy of a stored object as octets. -/
def storedValue (s : State) (idx sub : Nat) (i : ObjInfo) : List Byte :=
  match objStored s idx sub with
  | some bs => bs
  | none =>
    if i.ty = tyOct then
      (if idx = 0x1182 then [] else List.replicate i.max 0)
    else bytesBE (tySize i.ty) (objDefault idx sub)

/-- The log, newest entry first, each word most significant octet first (0x2020). -/
def fcuLogOctets (s : State) : List Byte :=
  let next := field (s.rd Adr.fcuLogptr) 5 0
  (List.range 64).flatMap fun i =>
    let n := (next + 63 - i) % 64
    bytesBE 8 (s.rd (Adr.fcuLogW0 n)).toNat ++ bytesBE 8 (s.rd (Adr.fcuLogW1 n)).toNat

/-- Credential k: its role, enable and key; credential 0 is the provisioning credential (R524, R538). -/
def credOf (s : State) (k : Nat) : Cred :=
  if k = 0 then
    { role := 5, enabled := !(s.lcs.creds.toList.drop 1).any (fun c => c.enabled),
      key := bytesBE 32 Config.fuseProvKey.toNat }
  else s.lcs.creds.toList.getD k { role := 0, enabled := false, key := [] }

/-- 0x1240 + k. -/
def credValue (s : State) (k sub : Nat) : List Byte :=
  let c := credOf s k
  match sub with
  | 1 => [BitVec.ofNat 8 c.role]
  | 2 => [BitVec.ofNat 8 c.enabled.toNat]
  | _ => if c.key.isEmpty then List.replicate 8 0 else (sha256 c.key).take 8

/-- 0x6F10 + k (R528). -/
def slotValue (s : State) (k : Fin 8) (sub : Nat) : List Byte :=
  match s.lcs.slots[k] with
  | none => match sub with
    | 1 => [0] | 2 => [0xFF] | 3 => [0, 0] | 4 => bytesBE 4 0 | 5 => bytesBE 8 0 | 6 => bytesBE 4 0 | _ => []
  | some p => match sub with
    | 1 => [if p.applying then 2 else 1]
    | 2 => [BitVec.ofNat 8 (proposerCode p.proposer)]
    | 3 => bytesBE 2 p.cred.toNat
    | 4 => bytesBE 4 (proposalLeft s p)
    | 5 => bytesBE 8 p.tag.toNat
    | 6 => bytesBE 2 p.index.toNat ++ [p.sub, p.party]
    | _ => p.value

/-- 0x6000 + s. -/
def sessValue (s : State) (k : Fin 8) (sub : Nat) : List Byte :=
  let x := sess s k
  match sub with
  | 1 => [BitVec.ofNat 8 x.isOpen.toNat]
  | 2 => [BitVec.ofNat 8 x.role]
  | 3 => bytesBE 2 x.cred
  | 4 => bytesBE 4 x.last.toNat
  | _ => bytesBE 4 x.tagFailTotal.toNat

/-- 0x7040 to 0x7044 (R661). -/
def bootValue (s : State) (idx sub : Nat) : List Byte :=
  let st := s.rd Adr.tstStat
  let bank := s.rd Adr.tstBank
  let lane := s.rd Adr.tstLane
  match idx, sub with
  | 0x7040, 1 =>
    let banks := (List.range 12).any fun n => field bank (2 * n + 1) (2 * n) == 2
    let lanes := (List.range 18).any fun n => field lane (2 * n + 1) (2 * n) == 1
    let held := allTriads.any fun t => !(s.tri t).released
    [if bitOf st 30 then 2 else if banks || lanes || held then 1 else 0]
  | 0x7040, 2 => bytesBE 4 s.boot.bistUs.toNat
  | 0x7040, 3 => [BitVec.ofNat 8 (field st 19 16)]
  | 0x7041, n => bytesBE 4 ((s.boot.spares.getD (n - 1) 0).toNat / 256 * 256 + field bank (2 * n - 1) (2 * n - 2))
  | 0x7042, n => [BitVec.ofNat 8 (field lane (2 * n - 1) (2 * n - 2) % 2)]
  | 0x7043, _ => bytesBE 4 (s.rd Adr.tstUnc).toNat
  | 0x7044, 1 => [BitVec.ofNat 8 s.boot.triedB.toNat]
  | 0x7044, 2 => [if s.boot.anyBooted then BitVec.ofNat 8 s.boot.bootedB.toNat else 0xFF]
  | 0x7044, 3 => [s.boot.fallback]
  | 0x7044, 4 => bytesBE 4 s.boot.releaseMs.toNat
  | _, _ => [BitVec.ofNat 8 s.boot.cached.toNat]

/-- Objects of the Tense unit read from its registers (R435). -/
def tenseValue (s : State) (idx sub : Nat) : List Byte :=
  if idx = 0x3000 then
    match sub with
    | 1 => bytesBE 8 (now s).toNat
    | 2 => [BitVec.ofNat 8 (servoState s)]
    | _ => bytesBE 8 s.tense.lastOfs.toNat
  else if idx < 0x3200 then
    let j := idx - 0x3100
    match sub with
    | 1 => bytesBE 8 (field (s.rd (Adr.tnsCycPeriod j)) 33 0)
    | 2 => bytesBE 8 (s.rd (Adr.tnsCycNum j)).toNat
    | _ => [BitVec.ofNat 8 (bitOf (s.rd (Adr.tnsCycCtl j)) 29).toNat]
  else
    let r := idx - 0x3200
    match sub with
    | 1 => [BitVec.ofNat 8 (field (s.rd (Adr.tnsOrStat r)) 47 40)]
    | _ => bytesBE 4 (field (s.rd (Adr.tnsOrLate r)) 31 0)

/-- 0x4000 + n .02 to .05 (R510). -/
def deviceValue (s : State) (n sub : Nat) : List Byte :=
  let d := devEntry s n
  match sub with
  | 2 => (sramRead s .host ((if bitOf (s.rd Adr.tnsIstat) 63 then 0x1080000 else 0x1000000) + d.inOfs) (Nat.min d.inLen 256)).2
  | 3 => ((outData s d.outOfs (Nat.min d.outLen 256)).2).1
  | 4 => bytesBE 4 d.incyc
  | _ => bytesBE 2 d.miss

/-- Bytes 32 to 127 of a safe connection (0x2800 + n .11 to .14). -/
def safeValue (s : State) (c : Nat) : List Byte := (sramRead s .host (0x1340000 + 128 * c + 32) 96).2

/-- The FCU objects that are not stored (R633). -/
def fcuValue (s : State) (idx sub : Nat) : List Byte :=
  let u := shownUnit s
  if idx = 0x2000 then
    match sub with
    | 1 => [BitVec.ofNat 8 (fcuCode s.fcu.a.state)]
    | 2 => [BitVec.ofNat 8 (fcuCode s.fcu.b.state)]
    | 3 => [BitVec.ofNat 8 u.armed.toNat]
    | _ => [u.dis.setWidth 8]
  else if idx = 0x2020 then fcuLogOctets s
  else if idx = 0x2030 then bytesBE 2 (u.counters.toList.getD (sub - 1) 0)
  else if sub = 1 ∨ sub = 2 then [0]
  else bytesBE 4 ((s.fcu.reports.lookup (idx - 0x2100)).getD 0)

/-- The value of an object that is not a plain stored one. -/
def liveValue (s : State) (idx sub : Nat) : List Byte :=
  if idx = 0x1000 then
    match sub with
    | 1 => ascii "Chastail Semiconductor"
    | 2 => ascii "NC-1806"
    | 3 => bytesBE 8 Config.fuseSerial.toNat
    | _ => bytesBE 4 Config.fuseRev.toNat
  else if idx = 0x1001 then (if sub = 1 then bytesBE 4 s.boot.version.toNat else [BitVec.ofNat 8 s.boot.bootedB.toNat])
  else if idx = 0x1100 then (if sub = 1 then bytesBE 4 s.hosts.storesDone.toNat else [s.hosts.storeState])
  else if idx = 0x1110 then [if sub = 2 then s.boot.imgState else s.boot.imgReason]
  else if idx = 0x1120 then bytesBE 4 s.boot.crashCount.toNat
  else if idx = 0x1181 then (objStored s 0x1181 0).getD []
  else if idx = 0x1220 then bytesBE 6 Config.fuseMac.toNat
  else if 0x1240 ≤ idx ∧ idx ≤ 0x125F then credValue s (idx - 0x1240) sub
  else if 0x2000 ≤ idx ∧ idx < 0x2800 then fcuValue s idx sub
  else if isSafeObj idx then safeValue s (4 * (idx - 0x2800) + (sub - 0x11))
  else if 0x3000 ≤ idx ∧ idx < 0x3400 then tenseValue s idx sub
  else if 0x4000 ≤ idx ∧ idx < 0x5000 then deviceValue s (idx - 0x4000) sub
  else if 0x5000 ≤ idx ∧ idx < 0x5100 then (yobObject s idx sub).getD []
  else if 0x6000 ≤ idx ∧ idx < 0x6008 then sessValue s ⟨idx % 8, Nat.mod_lt _ (by decide)⟩ sub
  else if idx = 0x6E01 then
    match sub with
    | 1 => bytesBE 2 (field (s.rd Adr.trcWptr) 14 0)
    | 2 => [BitVec.ofNat 8 (bitOf (s.rd Adr.trcWptr) 31).toNat]
    | _ => bytesBE 4 (Nat.min 0xFFFFFFFF ((List.range 6).map fun t => (s.rd (Adr.trcLost t)).toNat).sum)
  else if 0x6E10 ≤ idx ∧ idx < 0x6E16 then bytesBE 8 (s.rd (Adr.trcCnt (idx - 0x6E10) (sub - 1))).toNat
  else if 0x6F10 ≤ idx ∧ idx < 0x6F18 then slotValue s ⟨idx % 8, Nat.mod_lt _ (by decide)⟩ sub
  else if idx = 0x7001 then [BitVec.ofNat 8 (lcState s)]
  else if idx = 0x7002 then (s.lcs.keyHash).getD (List.replicate 32 0)
  else if idx = 0x7010 then [BitVec.ofNat 8 (field (s.rd Adr.tapuPwfrz) 5 0)]
  else if idx = 0x7020 then [0]
  else if 0x7101 ≤ idx ∧ idx ≤ 0x711F then
    let c := credOf s (idx - 0x7100)
    [BitVec.ofNat 8 c.role, BitVec.ofNat 8 c.enabled.toNat] ++ List.replicate 34 0
  else bootValue s idx sub

/-- An RW or RWC object whose working copy is in the list of stored values. -/
def isPlainStored (idx : Nat) (i : ObjInfo) : Bool :=
  i.keep == 1 && i.acc != 0 && decide (idx < 0x7000)

/-- The value of an object that exists, but for its long areas (R505). -/
def objValue (s : State) (idx sub : Nat) (i : ObjInfo) : List Byte :=
  match objTop idx with
  | some top =>
    if top ≠ 0 ∧ sub = 0 then [BitVec.ofNat 8 top]
    else if isPlainStored idx i then storedValue s idx sub i
    else liveValue s idx sub
  | none => []

/-- TOTAL of a READ: the object's current length. -/
def objLength (s : State) (idx sub : Nat) (i : ObjInfo) : Nat :=
  if idx = 0x6E00 then 1048576
  else if idx = 0x1120 ∧ sub = 2 then 4194304
  else if idx = 0x5020 then 49152
  else (objValue s idx sub i).length

/-- One octet range of an object's value. -/
def objSlice (s : State) (idx sub : Nat) (i : ObjInfo) (off n : Nat) : List Byte :=
  if idx = 0x6E00 then (sramRead s .host (0x1640000 + off) n).2
  else if idx = 0x1120 ∧ sub = 2 then
    (List.range n).map fun k => (s.boot.crash.getD ((off + k) / 4096) []).getD ((off + k) % 4096) 0
  else ((objValue s idx sub i).drop off).take n

/-- What a READ of an object of the image, the device table, the safe connections or the trace buffer leaves in the banks
it reads (R345, R346, R510). -/
def objTouch (s : State) (idx sub off n : Nat) : State :=
  if idx = 0x6E00 then (sramRead s .host (0x1640000 + off) n).1
  else if isSafeObj idx ∧ 0x11 ≤ sub then (sramRead s .host (0x1340000 + 128 * (4 * (idx - 0x2800) + (sub - 0x11)) + 32) 96).1
  else if 0x4000 ≤ idx ∧ idx < 0x5000 ∧ 2 ≤ sub then
    let d := devEntry s (idx - 0x4000)
    let s := (sramRead s .host (devAddr (idx - 0x4000)) 16).1
    match sub with
    | 2 => (sramRead s .host ((if bitOf (s.rd Adr.tnsIstat) 63 then 0x1080000 else 0x1000000) + d.inOfs) (Nat.min d.inLen 256)).1
    | 3 => (outData s d.outOfs (Nat.min d.outLen 256)).1
    | _ => s
  else s

/-! ### Ranges of the writable objects -/

/-- The value lies in the object's range (R510, R435, R633 and chapters 9, 18). -/
def objRange (idx sub : Nat) (bs : List Byte) : Bool :=
  let v := natBE bs
  match idx, sub with
  | 0x1180, 1 => decide (v ≤ 2) | 0x1180, 2 => decide (v ≤ 1) | 0x1180, 3 => decide (1 ≤ v) | 0x1180, 4 => decide (1 ≤ v)
  | 0x1200, 1 => decide (2 ≤ v ∧ v ≤ 600) | 0x1200, 2 => decide (1 ≤ v ∧ v ≤ 10000)
  | 0x1200, 3 => decide (v ≤ 5) | 0x1200, 4 => decide (1 ≤ v)
  | 0x1220, 2 => decide (8 ≤ v ∧ v ≤ 30) | 0x1220, 5 => decide (48 ≤ v ∧ v ≤ 128)
  | 0x1230, 1 => decide (v ≤ 1) | 0x1231, 1 => decide (v ≤ 1)
  | 0x1230, 2 => decide (1 ≤ v ∧ v ≤ 4) | 0x1231, 2 => decide (1 ≤ v ∧ v ≤ 4)
  | 0x2001, _ => decide (1 ≤ v ∧ v ≤ 60000) | 0x2002, _ => decide (1 ≤ v)
  | 0x2003, _ => decide (1 ≤ v ∧ v ≤ 10000) | 0x2004, _ => decide (1 ≤ v ∧ v ≤ 1440)
  | 0x2010, _ => decide (v = 0xA5)
  | 0x3010, 1 => decide (v ≤ 1) | 0x3010, 2 => decide (v ≤ 1) | 0x3010, 3 => decide (v ≤ 1)
  | 0x3010, 4 => decide (v ≤ 255)
  | 0x3020, _ => decide (2 ≤ v)
  | 0x7001, _ => decide (v ≤ 3)
  | 0x7010, _ => decide (v < 64)
  | 0x7020, _ => decide (v = 0x5A)
  | i, 3 => if 0x3200 ≤ i ∧ i < 0x3208 then decide (1 ≤ v) else true
  | i, 1 => if 0x2100 ≤ i ∧ i < 0x21F0 then decide (lowestClass (i - 0x2100) ≤ v ∧ v ≤ 4) else true
  | i, 2 => if 0x2100 ≤ i ∧ i < 0x21F0 then decide (v ≤ 1) else true
  | _, _ => true

/-- Range of a credential's value: role 1 to 5, EN 0 or 1, zero octets (R521). -/
def credRange (bs : List Byte) : Bool :=
  decide (1 ≤ (bs.getD 0 0).toNat ∧ (bs.getD 0 0).toNat ≤ 5 ∧ (bs.getD 1 0).toNat ≤ 1 ∧ bs.getD 2 0 = 0 ∧ bs.getD 3 0 = 0)

/-- The length suits the type (R507). -/
def lengthOk (idx : Nat) (i : ObjInfo) (n : Nat) : Bool :=
  if tySize i.ty ≠ 0 then n == tySize i.ty
  else if idx = 0x7002 then n == 32
  else if 0x7101 ≤ idx ∧ idx ≤ 0x711F then n == 36
  else if idx = 0x1182 then decide (n ≤ i.max) && n % 8 == 0
  else decide (n ≤ i.max)

/-- The 0xA5 of object 0x2010 and the others' value ranges (check 10 of R733). -/
def valueOk (idx sub : Nat) (bs : List Byte) : Bool :=
  if 0x7101 ≤ idx ∧ idx ≤ 0x711F then credRange bs else objRange idx sub bs

end Sys2Proof.Machine
end

