-- ==== Sys2Proof/Machine/Sync.lean ====
section
/-! DEFINITION. Reception of gPTP messages (R399, R441 to R444): path delay, offset samples, forwarding of Sync and
Announce. Layouts and formulas are IEEE 802.1AS-2020's (PRESUMED, log 20). -/

namespace Sys2Proof.Machine

/-! ### Path delay (R444) -/

def State.upPeer (s : State) (p : Fin 8) (f : Peer → Peer) : State := s.upPort p fun x => { x with peer := f x.peer }

/-- A Pdelay_Req is answered: Pdelay_Resp with its receive time, then the follow-up with the answer's transmit time. -/
def pdelayAsked (s : State) (p : Fin 8) (m : List Byte) (rx : Word) : State :=
  let answer (mtype flags : Nat) (t : List Byte) : List Byte :=
    gptpHeader s p mtype 54 (beAt m 4 1) flags (msgSeq m) 5 0x7F ++ t ++ bytesBE 10 (msgSource m).toNat
  let r := putCorr (answer 3 0x0200 (ptpOctets s rx)) (ptpFraction rx)
  sendGptp s p (gptpFrame s p (.follow (answer 0xA 0 (List.replicate 10 0))) r)

/-- The message answers the running exchange of port p. -/
def answersPort (s : State) (p : Fin 8) (m : List Byte) : Bool :=
  decide (beAt m 44 10 = portId s p) && msgSeq m == s.net.ports[p].peer.seq

/-- Pdelay_Resp: t4 and t2. -/
def pdelayAnswered (s : State) (p : Fin 8) (m : List Byte) (rx : Word) : State :=
  if answersPort s p m && s.net.ports[p].peer.t1.isSome then
    s.upPeer p fun x => { x with resp := some (rx, ptpTime m 34 + msgCorr m) }
  else s

/-- The end of an exchange: neighbour rate ratio from the exchange before, mean link delay (IEEE 802.1AS-2020, 11.2.19). -/
def Peer.measured (x : Peer) (t1 t4 : Word) (t2 t3 : Int) : Peer :=
  let rate := match x.last with
    | some (u4, u3) => if 0 < spanOf t4 u4 then (t3 - u3) * 2 ^ 41 / spanOf t4 u4 - 2 ^ 41 else x.rate
    | none => x.rate
  { x with t1 := none, resp := none, last := some (t4, t3), rate := rate,
           delay := some ((scaled rate (spanOf t4 t1) - (t3 - t2)) / 2) }

/-- Pdelay_Resp_Follow_Up: t3. -/
def pdelayEnded (s : State) (p : Fin 8) (m : List Byte) : State :=
  if answersPort s p m then
    s.upPeer p fun x =>
      match x.t1, x.resp with
      | some t1, some (t4, t2) => x.measured t1 t4 t2 (ptpTime m 34 + msgCorr m)
      | _, _ => x
  else s

/-- The path delay of port p as Sync uses it: LAT added to the measured mean, in 2^-16 ns; none before the first
measurement (R444). -/
def pathDelay (s : State) (p : Fin 8) : Option Int :=
  s.net.ports[p].peer.delay.map fun d => d + (field (s.rd (Adr.netPTsc p)) 31 16 : Nat) * 4096

/-- ASYM of port p in 2^-16 ns (R444). -/
def delayAsym (s : State) (p : Fin 8) : Int := signed 16 (field (s.rd (Adr.netPTsc p)) 15 0) * 4096

/-! ### Sync (R399, R442) -/

/-- What a Sync with its Follow_Up says: origin time, corrections with the path delay, in 2^-16 ns, rate ratio of the
grandmaster to the neighbour minus 1 in 2^-41. -/
structure SyncInfo where
  origin : List Byte
  corr : Int
  rate : Int
  rest : List Byte
  rx : Word
deriving DecidableEq, Repr

/-- The offset sample: local time minus master time at the receipt (R399). -/
def offsetOf (s : State) (i : SyncInfo) : Int :=
  (i.rx - timeOfPtp s (ptpTime i.origin 0 + i.corr)).toInt

/-- A Sync is forwarded on the master ports of its domain; the residence time is added when it leaves (R442). -/
def forwardSync (s : State) (p : Fin 8) (d : Fin 2) (i : SyncInfo) : State :=
  let rate := i.rate + s.net.ports[p].peer.rate
  (masterPorts s d).foldl (fun s (o : Fin 8) =>
    sendSync s o d fun q => .relay (followUp s o d q i.origin rate i.rest) i.corr rate i.rx) s

/-- A complete Sync at the slave port of a domain: forwarded where the servo does not follow the domain (R442), an offset
sample where the path delay is known (R399). -/
def syncComplete (s : State) (p : Fin 8) (d : Fin 2) (m : List Byte) (rx : Word) (corr : Int) : State :=
  if slavePort s d ≠ some p then s
  else
    let rate := signed 32 (beAt m 54 4)
    let i : SyncInfo := { origin := sliceOf m 34 10, rate := rate, rest := sliceOf m 58 18, rx := rx,
                          corr := corr + scaled rate ((pathDelay s p).getD 0) + delayAsym s p }
    let s := if followsDomain s d then s else forwardSync s p d i
    if (pathDelay s p).isSome then servoSample s (d.val == 1) (offsetOf s i) else s

/-- Sync: one-step it is complete, two-step it waits for its Follow_Up (R437). -/
def syncHeard (s : State) (p : Fin 8) (d : Fin 2) (m : List Byte) (rx : Word) : State :=
  let others := s.net.syncs.filter fun x => !(x.dom == d && x.port == p)
  if (m.getD 6 0).getLsbD 1 then
    let h : HeardSync := { dom := d, port := p, seq := msgSeq m, source := msgSource m, rx := rx, corr := msgCorr m }
    { s with net := { s.net with syncs := h :: others } }
  else syncComplete { s with net := { s.net with syncs := others } } p d m rx (msgCorr m)

/-- Follow_Up of a Sync that waits. -/
def followUpHeard (s : State) (p : Fin 8) (d : Fin 2) (m : List Byte) : State :=
  match s.net.syncs.find? fun x => x.dom == d && x.port == p && x.seq == msgSeq m && x.source == msgSource m with
  | some h => syncComplete { s with net := { s.net with syncs := s.net.syncs.erase h } } p d m h.rx (h.corr + msgCorr m)
  | none => s

/-! ### Announce (R441) -/

/-- The path trace of an Announce: the octets of its TLV. -/
def pathTrace (m : List Byte) : List Byte := if beAt m 64 2 = 8 then sliceOf m 68 (beAt m 66 2) else []

/-- The clock identities of a path trace. -/
def traceIds : Nat → List Byte → List Nat
  | 0, _ => []
  | n + 1, l => if l.length < 8 then [] else beAt l 0 8 :: traceIds n (l.drop 8)

/-- An Announce qualifies: from another clock, fewer than 255 steps, this clock not in its path. -/
def announceOk (s : State) (m : List Byte) : Bool :=
  decide (64 ≤ m.length ∧ beAt m 20 8 ≠ clockId s ∧ beAt m 61 2 < 255)
  && !(traceIds 256 (pathTrace m)).contains (clockId s)

/-- Announce: it holds for three of its intervals; the selection runs again; from the slave port of a domain that the
servo does not follow it is forwarded. -/
def announceHeard (s : State) (p : Fin 8) (d : Fin 2) (m : List Byte) : State :=
  if announceOk s m then
    let log := signed 8 (beAt m 33 1)
    let interval : Nat := if 0 ≤ log then 16000000000 * 2 ^ Nat.min log.toNat 20 else 16000000000 / 2 ^ (-log).toNat
    let a : Announce := { dom := d, port := p, root := BitVec.ofNat 112 (beAt m 47 14), steps := beAt m 61 2,
                          source := msgSource m, expires := now s + BitVec.ofNat 64 (3 * interval) }
    let rest := s.net.announces.filter fun x => !(x.dom == d && x.port == p)
    let s := watchGrandmasters { s with net := { s.net with announces := a :: rest } }
    if slavePort s d = some p ∧ followsDomain s d = false then
      (masterPorts s d).foldl (fun s (o : Fin 8) => sendAnnounce s o d a.root.toNat (a.steps + 1) (pathTrace m)) s
    else s
  else s

/-! ### Reception -/

/-- A gPTP frame reaches the engine (R440, R441). -/
def gptpReceive (s : State) (p : Fin 8) (rxTime : Word) (m : List Byte) : State :=
  let rx := stampOf rxTime
  let mtype := (m.getD 0 0).toNat % 16
  let dom := ([0, 1] : List (Fin 2)).find? fun d => decide (domainDnum s d = beAt m 4 1) && gptpOn s d p
  if m.length < 44 ∨ (m.getD 0 0).toNat / 16 ≠ 1 ∨ beAt m 1 1 % 16 ≠ 2 ∨ (gptpOn s 0 p || gptpOn s 1 p) = false then s
  else
    match mtype, dom with
    | 0x2, _ => pdelayAsked s p m rx
    | 0x3, _ => pdelayAnswered s p m rx
    | 0xA, _ => pdelayEnded s p m
    | 0x0, some d => syncHeard s p d m rx
    | 0x8, some d => followUpHeard s p d m
    | 0xB, some d => announceHeard s p d m
    | _, _ => s

/-- A port that loses its link loses what it has heard. -/
def gptpLinkLost (s : State) (p : Fin 8) : State :=
  { s with net := { s.net with announces := s.net.announces.filter fun a => a.port != p
                               syncs := s.net.syncs.filter fun x => x.port != p
                               ports := vmod s.net.ports p fun x => { x with peer := Port.reset.peer } } }

end Sys2Proof.Machine
end

