-- ==== Sys2Proof/WellFormed.lean ====
section
/-! DEFINITION. Which commands can reach the block at all: the lengths that the formats of the spec admit. -/

namespace Sys2Proof

/-- The octets of a frame without its FCS, at most 1,518 with a tag (R437, R440). -/
def frameFits (octets : List Byte) : Bool := decide (octets.length ≤ 1518)

/-- An AOP message whose payload and tag have the lengths an AOP message can have (R485, R494). -/
def msgFits (m : Machine.AopMsg) : Bool :=
  decide (m.payload.length ≤ 65535) && decide (m.tag.length ≤ 16)

/-- A well-formed command. -/
def Instr.wf : Instr → Bool
  | .frameReception _ _ octets _ => frameFits octets
  | .aopOpen _ m | .aopClose _ m | .aopPing _ m | .aopRead _ m | .aopWrite _ m | .aopDescribe _ m | .aopStore _ m
  | .aopPropose _ m | .aopCountersign _ m | .aopWithdraw _ m => msgFits m
  | .arp _ _ _ payload | .echoRequest _ _ _ payload => frameFits payload
  | _ => true

end Sys2Proof
end

