-- ==== Sys2Proof/Machine/Net.lean ====
section
/-! DEFINITION. The field network (R436 to R483): bridge, reception and launch of cyclic frames, safe
consumers, acyclic frames, gate schedules. -/

namespace Sys2Proof.Machine

/-! ### Queues and counters of a port -/

/-- A frame enters an egress queue. -/
def enqueue (s : State) (p q : Fin 8) (f : Frame) : State :=
  s.upPort p fun x => { x with queues := vmod x.queues q fun l => l ++ [f] }

/-- E0536 + p when a counter of NET_Pp_CNT leaves zero or saturates (R483). -/
def countPort (s : State) (p : Fin 8) (hi lo : Nat) : State :=
  let a := Adr.netPCnt p
  let v := field (s.rd a) hi lo
  let s := s.up a fun w => satField w hi lo
  if v = 0 ∨ v = 0xFFFE then pulse s (536 + p.val) else s

def rxError (s : State) (p : Fin 8) : State := countPort s p 63 48

/-- The acyclic receive ring of port p (R481). -/
def ringWrite (s : State) (p : Fin 8) (rxTime : Word) (octets : List Byte) : State :=
  let cfg := s.rd (Adr.netPArx p)
  let ptr := s.rd (Adr.netPArxp p)
  let count := field cfg 7 0
  let head := field ptr 23 16
  let tail := field ptr 7 0
  let a := field cfg 23 11 * 2048 + head * 2048
  if !bitOf cfg 30 || count == 0 || (head + 1) % count == tail % count || decide (a < 0xC00000 ∨ 0x1000000 < a + 2048) then
    (countPort s p 47 32).setBitR (Adr.netPStat p) 18
  else
    let slot := bytesLE 8 rxTime.toNat ++ bytesLE 2 octets.length ++ List.replicate 6 0 ++ octets
    let s := sramWrite s .frame a 0 (enabled slot)
    pulse (s.up (Adr.netPArxp p) fun w => setField w 23 16 ((head + 1) % count)) (520 + p.val)

/-! ### The bridge (R437 to R440) -/

/-- Learning: a unicast source on its port, up to 4,096 entries (R437). -/
def learn (s : State) (p : Fin 8) (src vid : Nat) : State :=
  if src / 2 ^ 40 % 2 = 1 then s
  else
    let m := BitVec.ofNat 48 src
    let v := BitVec.ofNat 12 vid
    let rest := s.net.fdb.filter fun e => !(e.mac == m && e.vid == v)
    if rest.length < 4096 then { s with net := { s.net with fdb := rest ++ [⟨m, v, p⟩] } } else s

/-- Forwarding: to the learned port, else to every other port with link (R440). -/
def forward (s : State) (p : Fin 8) (e : Eth) : State :=
  let known := if e.dst / 2 ^ 40 % 2 = 1 then none
    else s.net.fdb.find? fun f => decide (f.mac.toNat = e.dst ∧ f.vid.toNat = e.vid)
  let outs := match known with
    | some f => if f.port = p then [] else [f.port]
    | none => allPorts.filter fun o => o != p
  let q : Fin 8 := ⟨e.pcp % 8, Nat.mod_lt _ (by decide)⟩
  (outs.filter (linkUp s)).foldl (fun s (o : Fin 8) => enqueue s o q ⟨.bridged, egressOctets s o e⟩) s

/-! ### Ring recovery (R469) -/

/-- One R-TAG frame of a stream: none where it is discarded; the second component says that it is a duplicate. Vector
recovery as IEEE 802.1CB describes it (PRESUMED, log 20). -/
def recover (st : Stream) (hist : Nat) (seq : BitVec 16) : Option Stream × Bool :=
  let d := (seq - st.latest).toInt
  if (hist : Int) ≤ d ∨ d ≤ -(hist : Int) then (none, false)
  else if st.seen.contains seq then (none, true)
  else
    let latest := if 0 < d then seq else st.latest
    let seen := (seq :: st.seen).filter fun x => decide ((latest - x).toNat < hist)
    (some { st with latest := latest, seen := seen }, false)

/-- Recovery of a frame on an enabled pair: the state, and whether the frame goes on. -/
def ringRecover (s : State) (pair : Fin 4) (src vid : Nat) (seq : BitVec 16) : State × Bool :=
  let m := BitVec.ofNat 48 src
  let v := BitVec.ofNat 12 vid
  let hit (x : Stream) : Bool := x.pair == pair && x.src == m && x.vid == v
  let hist := field (s.rd (Adr.netRing pair)) 15 8
  match s.net.streams.find? hit with
  | none =>
    if s.net.streams.length < 2048 then
      ({ s with net := { s.net with streams := s.net.streams ++ [⟨pair, m, v, seq, [seq]⟩] } }, true)
    else (s, true)
  | some st =>
    match recover st hist seq with
    | (some st', _) => ({ s with net := { s.net with streams := s.net.streams.map fun x => if hit x then st' else x } }, true)
    | (none, dup) => (if dup then s.up (Adr.netRing pair) fun w => wrapField w 63 32 else s, false)

/-- STREAM_HISTORY_RESET (R469). -/
def execStreamHistoryReset (q : Fin 4) (src : BitVec 48) (vid : BitVec 12) (s : State) :
    Host.Outcome State Fault Refusal :=
  .next { s with net := { s.net with streams := s.net.streams.filter fun x => !(x.pair == q && x.src == src && x.vid == vid) } }

/-! ### Safe consumers (R475 to R479) -/

/-- CSTAT (R476). -/
def cstat (x : SafeConn) (new : Bool) (fsreq : Bool) : Byte :=
  BitVec.ofNat 8 (new.toNat + 2 * fsreq.toNat + 4 * x.failsafe.toNat + 8 * x.crcErr.toNat + 16 * x.staleErr.toNat
    + 32 * x.ncidErr.toNat)

/-- A container as the engine writes it into the image: STAT replaced by CSTAT. -/
def imageContainer (x : SafeConn) (new : Bool) : List Byte :=
  let c := padTo x.lastC (20 + x.len)
  overlay c 15 [cstat x new ((c.getD 15 0).getLsbD 0)]

/-- The connection's container lies within the record of its device; where it does not, the connection is treated as
disabled (R471). -/
def SafeConn.fits (x : SafeConn) (recordLen : Nat) : Bool := decide (x.dev < 4096 ∧ x.sofs + 20 + x.len ≤ recordLen)

/-- The input buffer that the engine writes now: the one READ does not name (R427, R464). -/
def inputBase (s : State) : Nat := if bitOf (s.rd Adr.tnsIstat) 63 then 0x1000000 else 0x1080000

/-- Writes a connection's container area in the present input buffer, where its device has one (R452). -/
def writeContainer (s : State) (x : SafeConn) (new : Bool) : State :=
  let d := devEntry s x.dev
  let s := if x.dev < 4096 then touchDevCfg s x.dev else s
  if x.fits d.inLen ∧ d.inOfs + d.inLen ≤ 0x80000 then
    sramWrite s .frame (inputBase s + d.inOfs + x.sofs) 0 (enabled (imageContainer x new))
  else s

/-- Zero data in a container kept. -/
def zeroData (x : SafeConn) : List Byte :=
  overlay (padTo x.lastC (20 + x.len)) 16 (List.replicate x.len 0)

def safeFail (s : State) : State := report (pulse (s.setBitR Adr.netStat 5) 548) 130 0

/-- ERRCNT of a connection's entry: CRC errors in the low half, other rejections in the high half (R470). -/
def countContainer (s : State) (c : Nat) (crc : Bool) : State :=
  let a := connAddr c + 116 + (if crc then 0 else 2)
  let (s, bs) := sramRead s .frame a 2
  sramWrite s .frame a 0 (enabled (bytesLE 2 (satSucc (natLE bs) 0xFFFF)))

/-- A rejected container (R475). -/
def rejectContainer (s : State) (c : Nat) (crc : Bool) (f : SafeConn → SafeConn) : State :=
  let s := s.upConn c f
  let s := countContainer s c crc
  let s := if crc then s.setBitR Adr.netStat 4 else s
  pulse s 549

/-- The checks of a consuming connection on the data of an accepted record, and the container's acceptance (R475,
R477). Fields of a container lie in memory order, least significant octet first (DEDUCED, log 20). -/
def consumeOne (s : State) (x : SafeConn) (data : List Byte) (rxTime : Word) : State :=
  let c := sliceOf data x.sofs (20 + x.len)
  let crcOk := leAt c (16 + x.len) 4 = (containerCrc x.cuid (c.take (16 + x.len))).toNat
  let seq : BitVec 32 := BitVec.ofNat 32 (leAt c 2 4)
  let age := (rxTime - BitVec.ofNat 64 (leAt c 6 8)).toInt
  let ahead := (seq - x.lastSeq).toNat
  if x.never then s
  else if ¬ crcOk then rejectContainer s x.num true fun y => { y with crcErr := true }
  else if leAt c 0 2 ≠ x.ncid.toNat then rejectContainer s x.num false fun y => { y with ncidErr := true }
  else if leAt c 14 1 ≠ x.len then rejectContainer s x.num false id
  else if x.accepted ∧ seq = x.lastSeq ∧ seq ≠ 0 then s
  else if seq = 0 ∨ (x.accepted ∧ (ahead = 0 ∨ 2 ^ 31 ≤ ahead)) then rejectContainer s x.num false id
  else if age < -16000 ∨ (x.maxAge.toNat : Int) < age then
    rejectContainer s x.num false fun y => { y with staleErr := true }
  else
    let y : SafeConn := { x with lastSeq := seq, accepted := true, freshOk := true, failsafe := x.wdogFail,
                                 crcErr := false, staleErr := false, ncidErr := false, lastC := c, lastT := now s }
    let s := s.upConn x.num fun _ => y
    writeContainer (putLastT (putLastC s x.num c) x.num (now s)) y true

/-- NET_SCLK_LK (R473, R477, R478): the connections' configurations are copied once. -/
def parseConn (c : Nat) (bs : List Byte) : Option SafeConn :=
  let b8 := leAt bs 8 1
  let len := leAt bs 9 1
  let sofs := leAt bs 12 2
  let age := leAt bs 16 8
  let wd := leAt bs 24 4
  let produce := decide (b8 / 2 % 2 = 1)
  let never := !produce && (age == 0 || wd == 0)
  if b8 % 2 = 1 ∧ b8 / 4 = 0 ∧ leAt bs 2 2 = 0 ∧ leAt bs 14 2 = 0 ∧ leAt bs 28 4 = 0 ∧ 1 ≤ len ∧ len ≤ 64 ∧ sofs % 4 = 0 then
    some { num := c, ncid := BitVec.ofNat 16 (leAt bs 0 2), cuid := BitVec.ofNat 32 (leAt bs 4 4), produce := produce,
           enabled := true, len := len, dev := leAt bs 10 2, sofs := sofs, maxAge := BitVec.ofNat 64 age,
           wdog := BitVec.ofNat 32 wd, lastSeq := 0, accepted := false, failsafe := !produce, wdogFail := false,
           never := never, crcErr := false, staleErr := false, ncidErr := false, freshOk := false, lastC := [], lastT := 0 }
  else none

/-- Connections whose entry has EN set. -/
def connsOn (s : State) : List Nat :=
  (s.mem.filter fun c => decide (0x1340000 ≤ c.1 ∧ c.1 < 0x1360000 ∧ c.1 % 128 = 8 ∧ c.2.toNat % 2 = 1)).map
    fun c => (c.1 - 0x1340000) / 128

/-- What a comparison fault makes of a connection, until a device reset: a producer is stopped, a consumer stays in
FAILSAFE (R479). -/
def SafeConn.stopped (x : SafeConn) : SafeConn :=
  if x.produce then { x with enabled := false } else { x with failsafe := true, never := true, lastC := zeroData x }

/-- The setting of LK: the connections' configurations are copied; consumers start in FAILSAFE with zero data in the
buffer that the engine writes now (R473, R477, R478). -/
def sclkLock (s : State) : State :=
  if bitOf (s.rd Adr.netSclk) 0 then s
  else
    let cs := (connsOn s).filterMap fun c => parseConn c (sramRead s .frame (connAddr c) 32).2
    let s := (connsOn s).foldl (fun s c => (sramRead s .frame (connAddr c) 32).1) (s.setBitR Adr.netSclk 0)
    let broken := bitOf (s.rd Adr.netSclk) 31
    let s := { s with net := { s.net with conns := if broken then cs.map SafeConn.stopped else cs } }
    let s := (s.net.conns.filter fun x => !x.produce).foldl (fun s x => writeContainer s x false) s
    (cs.filter fun x => x.never && x.fits (devEntry s x.dev).inLen).foldl (fun s _ => safeFail s) s

def execNetSclkLk (s : State) : Host.Outcome State Fault Refusal := .next (sclkLock s)

/-- SAFE_WATCHDOG_EXPIRY: WDOG us after LASTT (R477). -/
def watchdogExpiry (s : State) (c : Fin 1024) : State :=
  match s.net.conns.find? fun x => decide (x.num = c.val) with
  | some x =>
    if x.produce || x.never || !x.accepted || !x.fits (devEntry s x.dev).inLen
        || !atOrAfter (now s) (x.lastT + BitVec.ofNat 64 (x.wdog.toNat * 16000)) then s
    else
      let y : SafeConn := { x with failsafe := true, wdogFail := true, freshOk := false, lastC := zeroData x }
      let s := putLastC (s.upConn c.val fun _ => y) c.val y.lastC
      let s := writeContainer s y false
      if x.failsafe then s else safeFail s
  | none => s

def execSafeWatchdogExpiry (c : Fin 1024) (s : State) : Host.Outcome State Fault Refusal := .next (s.powered fun s => watchdogExpiry s c)

/-- NET_SACK (R477): FAILSAFE ends where a container was accepted since the expiry, else with the next acceptance
(DEDUCED, log 20). -/
def safeAck (s : State) (c : Nat) : State :=
  s.upConn c fun x =>
    if x.never || x.produce || !x.wdogFail then x
    else { x with wdogFail := false, failsafe := if x.freshOk then false else x.failsafe }

def execNetSack (c : Fin 1024) (s : State) : Host.Outcome State Fault Refusal := .next (safeAck s c.val)

/-- SAFE_CHANNEL_COMPARISON_FAULT (R479): every consumer writes zero data with FAILSAFE = 1, as at a watchdog's expiry
(R477). -/
def safeCompareFault (s : State) : State :=
  if bitOf (s.rd Adr.netSclk) 31 then s
  else
    let s := { s with net := { s.net with conns := s.net.conns.map SafeConn.stopped } }
    let s := (s.net.conns.filter fun x => !x.produce && x.fits (devEntry s x.dev).inLen).foldl
      (fun s x => writeContainer (putLastC s x.num x.lastC) x false) s
    report (pulse (s.setBitR Adr.netSclk 31) 551) 131 0

def execSafeChannelComparisonFault (s : State) : Host.Outcome State Fault Refusal := .next (s.powered fun s => safeCompareFault s)

/-! ### Cyclic reception (R463 to R465) -/

/-- The records of LEN octets, none where they do not fill them exactly (R463). -/
def splitRecords : Nat → List Byte → Option (List (Nat × List Byte))
  | 0, bs => if bs.isEmpty then some [] else none
  | n + 1, bs =>
    if bs.length < 4 then none
    else
      let rl := beAt bs 2 2
      if 512 ≤ rl ∨ bs.length < 4 + pad4 rl then none
      else
        match splitRecords n (bs.drop (4 + pad4 rl)) with
        | some t => some ((beAt bs 0 2 / 16, (bs.drop 4).take rl) :: t)
        | none => none

/-- The checks of a cyclic frame as a whole: CYCLE and its records (R463). -/
def parseCyclic (pl : List Byte) : Option (Nat × List (Nat × List Byte)) :=
  let nrec := beAt pl 16 2
  let len := beAt pl 18 2
  if pl.length < 24 ∨ beAt pl 0 1 ≠ 0x12 ∨ pl.length < 24 + len then none
  else
    match splitRecords nrec ((pl.drop 24).take len) with
    | some rs => some (beAt pl 4 4, rs)
    | none => none

/-- The record's data in the input buffer: containers of consuming connections are left out, they are written by
their own rule (R464, R475). -/
def maskContainers (s : State) (n : Nat) (data : List Byte) : List (Byte × Bool) :=
  let cs := s.net.conns.filter fun x => !x.produce && x.enabled && x.dev == n && decide (x.sofs + 20 + x.len ≤ data.length)
  data.mapIdx fun i b => (b, !(cs.any fun x => decide (x.sofs ≤ i ∧ i < x.sofs + 20 + x.len)))

/-- One record (R464, R475). -/
def receiveRecord (s : State) (p : Fin 8) (cycle : Nat) (rxTime : Word) (n : Nat) (data : List Byte) : State :=
  let d := devEntry s n
  let s := if n < 4096 then touchDev s n else s
  let portOk := d.port == p.val || (d.ring && d.port == (partner p).val)
  let ahead := (cycle + 2 ^ 32 - d.incyc) % 2 ^ 32
  let seqOk := !d.iv || decide (1 ≤ ahead ∧ ahead < 2 ^ 31)
  if d.en && decide (data.length = d.inLen) && portOk && seqOk then
    let s := sramWrite s .frame (inputBase s + d.inOfs) 0 (maskContainers s n data)
    let s := (s.net.conns.filter fun x => !x.produce && x.enabled && x.dev == n
        && decide (x.sofs + 20 + x.len ≤ data.length)).foldl (fun s x => consumeOne s x data rxTime) s
    let s := putDev s n cycle true d.miss
    { s with net := { s.net with accepted := n :: s.net.accepted.filter fun m => decide (m ≠ n) } }
  else pulse (s.setBitR Adr.netStat 1) 545

def receiveCyclic (s : State) (p : Fin 8) (rxTime : Word) (pl : List Byte) : State :=
  if !netOn s then s
  else
    match parseCyclic pl with
    | none => rxError s p
    | some (cycle, rs) => rs.foldl (fun s (r : Nat × List Byte) => receiveRecord s p cycle rxTime r.1 r.2) s

/-! ### FRAME_RECEPTION (R440) -/

/-- The rows of R440 but the ring row. -/
def classify (s : State) (p : Fin 8) (rxTime : Word) (octets : List Byte) (e : Eth) : State :=
  if e.etype = 0x88F7 ∧ e.dst = gptpAddr then gptpReceive s p rxTime e.payload
  else if e.etype = field (s.rd Adr.netCtl) 15 0 ∧ e.dst = netMac s then receiveCyclic s p rxTime e.payload
  else if e.dst = netMac s then ringWrite s p rxTime octets
  else if e.dst = 0xFFFFFFFFFFFF then forward (ringWrite s p rxTime octets) p e
  else forward s p e

def receiveFrame (s : State) (p : Fin 8) (rxTime : Word) (octets : List Byte) (fcsOk : Bool) : State :=
  if !linkUp s p then s
  else if !fcsOk then rxError s p
  else
    match parseEth (field (s.rd (Adr.netPCfg p)) 23 12) octets with
    | none => s
    | some e =>
      if e.etype = 0x88F7 ∧ e.dst = gptpAddr then gptpReceive s p rxTime e.payload
      else
        let s := learn s p e.src e.vid
        if e.etype = 0xF1C1 ∧ ringOn s p ∧ 6 ≤ e.rest.length then
          let (s, go) := ringRecover s (pairOf p) e.src e.vid (BitVec.ofNat 16 (beAt e.rest 4 2))
          let cut := octets.length - e.rest.length
          if go then classify s p rxTime (octets.take cut ++ octets.drop (cut + 6)) { e with rest := e.rest.drop 6 } else s
        else classify s p rxTime octets e

/-- FRAME_RECEPTION. A port takes no jumbo frame: a longer one has no effect (R437; log 5). -/
def execFrameReception (p : Fin 8) (rxTime : Word) (octets : List Byte) (fcsOk : Bool) (s : State) :
    Host.Outcome State Fault Refusal :=
  .next (if frameFits octets then receiveFrame s p rxTime octets fcsOk else s)

/-! ### Launch and transmission of cyclic frames (R454 to R459, R468) -/

def isSlotFrame (slot : Nat) (f : Frame) : Bool := match f.kind with | .cyclic k _ _ => k == slot | _ => false

/-- A copy of the launch with that slot and CYCLE remembers a STATUS bit, so that a later copy's STATUS keeps it. -/
def Frame.marked (f : Frame) (slot cyc bit : Nat) : Frame :=
  match f.kind with
  | .cyclic k c flags => if k = slot ∧ c = cyc then { f with kind := .cyclic k c (flags ||| bit) } else f
  | _ => f

def Port.marked (x : Port) (slot cyc bit : Nat) : Port :=
  { x with queues := x.queues.map fun l => l.map fun f => f.marked slot cyc bit
           sending := x.sending.map fun f => f.marked slot cyc bit
           cut := x.cut.map fun c => (c.1, c.2.1, c.2.2.marked slot cyc bit) }

/-- STATUS of a launch gains a bit; its other copies keep it (R453, R468). -/
def slotResult (s : State) (slot cyc flags bit : Nat) : State :=
  let s := { s with net := { s.net with ports := s.net.ports.map fun x => x.marked slot cyc bit } }
  putSlotStatus s slot (flags ||| bit) cyc

/-- A frame of the slot waits in a queue of port p. -/
def slotWaits (s : State) (slot : Nat) (p : Fin 8) : Bool := s.net.ports[p].queues.toList.any fun l => l.any (isSlotFrame slot)

/-- The waiting frames of a slot are discarded, STALE on their ports (R458). -/
def discardSlot (s : State) (slot : Nat) : State :=
  (allPorts.filter (slotWaits s slot)).foldl (fun s (p : Fin 8) =>
    (s.upPort p fun x => { x with queues := x.queues.map fun l => l.filter fun f => !isSlotFrame slot f }).setBitR
      (Adr.netPStat p) 21) s

/-- A built frame as port p sends it: untagged where its VLAN is the PVID and UNTAG is set, padded to the minimum
(R438, R460). -/
def untagged (s : State) (p : Fin 8) (b : Built) : List Byte :=
  let cfg := s.rd (Adr.netPCfg p)
  if bitOf cfg 26 && decide (beAt b.octets 14 2 % 4096 = field cfg 23 12) then
    let o := b.octets.take 12 ++ b.octets.drop 16
    let least := if b.rtag then 66 else 60
    if o.length < least then padTo o least else o
  else b.octets

/-- A built frame goes to a queue of its port, and of the ring partner where it carries an R-TAG (R468); a port without
link sends nothing (R459); a waiting frame of the same slot is discarded (R458). -/
def queueBuilt (s : State) (b : Built) (flags : Nat) : State :=
  let outs := if b.rtag then [b.port, partner b.port] else [b.port]
  let up := outs.filter fun p => linkUp s p
  let down := outs.filter fun p => !linkUp s p
  let stale := allPorts.any (slotWaits s b.slot)
  let flags := flags + (if stale then 8 else 0) + (if down.isEmpty then 0 else 16)
  let s := if stale then discardSlot s b.slot else s
  let s := down.foldl (fun s (p : Fin 8) => s.setBitR (Adr.netPStat p) 19) s
  let s := putSlotStatus s b.slot flags b.cyc
  up.foldl (fun s (p : Fin 8) => enqueue s p b.queue ⟨.cyclic b.slot b.cyc flags, untagged s p b⟩) s

def dropBuilt (s : State) (b : Built) : State := { s with net := { s.net with staging := s.net.staging.erase b } }

/-- FRAME_LAUNCH (R454 step 3, R455): at its TIME a built frame is queued, an unfinished one as soon as it is built. -/
def launch (s : State) (a : Armed) : State :=
  match s.net.staging.find? fun b => decide (b.slot = field a.arg0 15 0 ∧ b.time = a.time ∧ b.launched = false) with
  | none => s
  | some b =>
    if b.done then queueBuilt (dropBuilt s b) b 0
    else { s with net := { s.net with staging := s.net.staging.map fun x => if x = b then { x with launched := true } else x } }

def execFrameLaunch (k : BitVec 14) (s : State) : Host.Outcome State Fault Refusal := .next (effect s k 4 launch)

/-- FRAME_BUILD (R455): the engine finishes a frame in staging; one whose TIME has passed is queued late. -/
def frameBuild (s : State) (slot : Nat) : State :=
  match s.net.staging.find? fun b => decide (b.slot = slot ∧ b.done = false) with
  | none => s
  | some b =>
    if b.launched then queueBuilt ((dropBuilt s b).setBitR (Adr.netPStat b.port) 20) b 4
    else { s with net := { s.net with staging := s.net.staging.map fun x => if x = b then { x with done := true } else x } }

def execFrameBuild (slot : BitVec 12) (s : State) : Host.Outcome State Fault Refusal := .next (frameBuild s slot.toNat)

/-! ### Gates (R446 to R448) -/

def gateEnabled (s : State) (p : Fin 8) : Bool := bitOf (s.rd (Adr.netPGcfg p)) 28
def gateTable (s : State) (p : Fin 8) : Fin 64 := ⟨field (s.rd (Adr.netPGcfg p)) 27 22 % 64, Nat.mod_lt _ (by decide)⟩

/-- RUN of the gate schedule (R447). -/
def gateRuns (s : State) (p : Fin 8) : Bool :=
  gateEnabled s p && tabRuns s (gateTable s p) && s.net.ports[p].gateOk

/-- The gates of a port now (R446, R447). -/
def gatesNow (s : State) (p : Fin 8) : Byte :=
  if !gateEnabled s p then 0xFF else if gateRuns s p then s.net.ports[p].gates else 0

/-- The ends of the entries from the present one on, and of the next cycle's, with whether queue q is open: the last
entry of a cycle lasts until the next T_start. -/
def gateSpans (s : State) (p : Fin 8) (q : Nat) : List (Bool × Nat) :=
  let x := s.net.ports[p]
  let period := cycPeriod s (gateTable s p)
  let spans (l : List Word) (base : Nat) : List (Bool × Nat) :=
    l.mapIdx fun i e => (gclOpen e q, base + (if i + 1 = l.length then period else ((l.take (i + 1)).map gclTime).sum))
  (spans x.gcl 0).drop x.gclPos ++ spans (gclOf s p) period

/-- The time until the gate of queue q next closes, from the cycle's start; none where it stays open. -/
def gateCloses (s : State) (p : Fin 8) (q : Nat) : Option Nat :=
  let l := gateSpans s p q
  let o := l.takeWhile fun e => e.1
  if o.length = l.length then none else some (match o.getLast? with | some e => e.2 | none => 0)

/-- Queue q of a port is preemptable; none is on an SGMII port (R437, R445). -/
def preemptable (s : State) (p : Fin 8) (q : Nat) : Bool :=
  bitOf (s.rd (Adr.netPGcfg p)) (8 + q) && field (s.rd (Adr.netPCfg p)) 29 28 != 3

/-- What a frame of which n octets are left must send before its gate closes, FCS counted: all of it, or a fragment of 64
octets where the queue is preemptable and the frame is long enough to be cut behind it (R448). -/
def gateOctets (s : State) (p : Fin 8) (q n : Nat) : Nat := if preemptable s p q && decide (124 ≤ n + 4) then 64 else n + 4

/-- The last n octets of a frame of queue q fit before its gate closes (R448). -/
def fitsGate (s : State) (p : Fin 8) (q : Fin 8) (n : Nat) : Bool :=
  if !gateEnabled s p then true
  else
    match gateCloses s p q.val with
    | none => true
    | some c =>
      let n := gateOctets s p q.val n
      let used := (now s - s.net.ports[p].cycStart).toNat
      decide (used * 10 + (n + 8) * octetTime s p ≤ c * 10)

/-- The head of a queue may start. -/
def ready (s : State) (p q : Fin 8) : Bool :=
  match s.net.ports[p].queues[q] with
  | [] => false
  | f :: _ => (gatesNow s p).getLsbD q.val && fitsGate s p q f.octets.length

/-! ### Preemption (R437, R443, R456). The rules of a preemption point are IEEE 802.3br's, with a minimum fragment of 64
octets (PRESUMED, log 20). -/

/-- Octets of the frame in transmission, FCS counted, that have left. -/
def octetsSent (s : State) (p : Fin 8) : Nat :=
  let x := s.net.ports[p]
  x.txSent + ((now s - x.txAt).toNat * 10 / octetTime s p - 8)

/-- The frame in transmission may be cut now: it comes from a preemptable queue, its present fragment has 60 octets and
at least 64 with the FCS remain. -/
def atCut (s : State) (p : Fin 8) : Bool :=
  let x := s.net.ports[p]
  match x.sending with
  | some f =>
    decide (x.txQueue < 8) && preemptable s p x.txQueue
    && decide (x.txSent + 60 ≤ octetsSent s p ∧ octetsSent s p + 64 ≤ f.octets.length + 4)
  | none => false

/-- The frame in transmission stops at a preemption point. -/
def cutNow (s : State) (p : Fin 8) : State :=
  match s.net.ports[p].sending with
  | some f => s.upPort p fun x => { x with sending := none, cut := some (x.txQueue, octetsSent s p, f) }
  | none => s

/-- A frame starts, or goes on, on port p. -/
def begin_ (s : State) (p : Fin 8) (f : Frame) (q sent : Nat) : State :=
  s.upPort p fun x => { x with sending := some f, txQueue := q, txSent := sent, txAt := now s }

/-- A queue of its class may start before q: every higher one, and while a frame is cut or is to be cut every express one
that is higher. -/
def startsBefore (s : State) (p q : Fin 8) (express : Bool) : Bool :=
  allPorts.any fun h => decide (q.val < h.val) && ready s p h && !(express && preemptable s p h.val)

/-- The head of queue q starts. -/
def startQueue (s : State) (p q : Fin 8) : State :=
  match s.net.ports[p].queues[q] with
  | f :: t => begin_ (s.upPort p fun y => { y with queues := y.queues.set q.val t q.isLt }) p f q.val 0
  | [] => s

/-- The preempted frame goes on, when the gate of its queue is open, its rest fits and no express frame may start. -/
def resumeCut (s : State) (p : Fin 8) : State :=
  match s.net.ports[p].cut with
  | some (k, sent, f) =>
    let q : Fin 8 := ⟨k % 8, Nat.mod_lt _ (by decide)⟩
    if (gatesNow s p).getLsbD q.val && fitsGate s p q (f.octets.length - sent)
        && !(allPorts.any fun h => ready s p h && !preemptable s p h.val) then
      begin_ (s.upPort p fun x => { x with cut := none }) p f k sent
    else s
  | none => s

/-- A gPTP message goes first, without a gate; its time stamp is that of the first octet after the start-of-frame
delimiter (R443, R444). -/
def startGptp (s : State) (p : Fin 8) (f : Frame) (t : List Frame) : State :=
  let s := begin_ (s.upPort p fun y => { y with gptp := t }) p f 8 0
  match f.kind with
  | .gptp note => gptpStarted s p note (stampOf (now s + BitVec.ofNat 64 (8 * octetTime s p / 10)))
  | _ => s

/-- FRAME_TRANSMISSION_START (R443, R448, R456): a gPTP message goes first, then queue q when no queue before it can
start; on a busy port only a gPTP message or an express frame, at a preemption point; a preempted frame goes on before
another preemptable one. -/
def startTx (s : State) (p q : Fin 8) : State :=
  let x := s.net.ports[p]
  let express := x.sending.isSome || x.cut.isSome
  if !linkUp s p || (x.sending.isSome && !atCut s p) then s
  else
    match x.gptp with
    | f :: t => startGptp (cutNow s p) p f t
    | [] =>
      if ready s p q && !startsBefore s p q express && !(express && preemptable s p q.val) then startQueue (cutNow s p) p q
      else if x.sending.isSome then s
      else resumeCut s p

def execFrameTransmissionStart (p q : Fin 8) (s : State) : Host.Outcome State Fault Refusal := .next (startTx s p q)

/-- A gate that closes cuts a preemptable frame in transmission (R448). -/
def gateCut (s : State) (p : Fin 8) : State :=
  let x := s.net.ports[p]
  if x.txQueue < 8 ∧ (gatesNow s p).getLsbD x.txQueue = false ∧ atCut s p = true then cutNow s p else s

/-- FRAME_SENT (R453, R480): the frame in transmission has left. -/
def frameSent (s : State) (p : Fin 8) : State :=
  match s.net.ports[p].sending with
  | none => s
  | some f =>
    let s := s.upPort p fun x => { x with sending := none }
    match f.kind with
    | .cyclic slot cyc flags =>
      let s := s.up (Adr.netPCnt p) fun w => wrapField w 31 0
      let s := sramWrite s .frame (slotAddr slot + 24) 0 (enabled (bytesLE 4 (cyc % 2 ^ 32)))
      slotResult s slot cyc flags 1
    | .acyclic => pulse (s.up (Adr.netPStat p) fun w => wrapField w 15 0) (528 + p.val)
    | _ => s

def execFrameSent (p : Fin 8) (s : State) : Host.Outcome State Fault Refusal := .next (frameSent s p)

/-- Acyclic frames of a port that wait. -/
def acyclicWaiting (s : State) (p : Fin 8) : Nat :=
  (s.net.ports[p].queues.toList.map fun l => (l.filter fun f => f.kind == .acyclic).length).sum

/-- A write of NET_Pp_ATX (R480). -/
def writeAtx (s : State) (p : Fin 8) (v : Word) : State :=
  let a := field v 23 0
  let n := field v 42 32
  if a < 0xC00000 ∨ 0x1000000 < a + n ∨ a % 8 ≠ 0 ∨ n < 60 ∨ 1518 < n ∨ 16 ≤ acyclicWaiting s p then
    s.setBitR (Adr.netPStat p) 22
  else
    let (s, bs) := sramRead s .frame a n
    let q := field v 62 60
    let e := parseEth (field (s.rd (Adr.netPCfg p)) 23 12) bs
    let o := match e with
      | some e => egressOctets s p (if beAt bs 12 2 = 0x8100 then e else { e with pcp := q })
      | none => bs
    enqueue s p ⟨q % 8, Nat.mod_lt _ (by decide)⟩ ⟨.acyclic, o⟩

def execNetPpAtx (p : Fin 8) (v : Word) (s : State) : Host.Outcome State Fault Refusal := .next (writeAtx s p v)

/-- GATE_SCHEDULE_RESTART (R446): at T_start of the table the list is copied and entry 0 sets the gates. -/
def gateRestart (s : State) (p : Fin 8) : State :=
  if gateRuns s p then
    let l := gclOf s p
    gateCut (s.upPort p fun x =>
      { x with gcl := l, gclPos := 0, cycStart := now s,
               gates := (match l.head? with | some e => e.extractLsb' 56 8 | none => x.gates) }) p
  else s

def execGateScheduleRestart (p : Fin 8) (s : State) : Host.Outcome State Fault Refusal := .next (s.powered fun s => gateRestart s p)

/-- GATE_INTERVAL_END (R446): the next entry sets the gates; the last one holds. -/
def gateNext (s : State) (p : Fin 8) : State :=
  let x := s.net.ports[p]
  if gateRuns s p then
    match x.gcl[x.gclPos + 1]? with
    | some e => gateCut (s.upPort p fun x => { x with gclPos := x.gclPos + 1, gates := e.extractLsb' 56 8 }) p
    | none => s
  else s

def execGateIntervalEnd (p : Fin 8) (s : State) : Host.Outcome State Fault Refusal := .next (s.powered fun s => gateNext s p)

/-- A write of NET_Pp_GCFG (R447): one that sets GEN is checked with the values that stand after it (R482). -/
def writeGcfg (s : State) (p : Fin 8) (v : BitVec 32) : State :=
  let a := Adr.netPGcfg p
  let locked := bitOf (s.rd a) 31
  let s := s.sw32 a v
  if locked || !bitOf (s.rd a) 28 then s
  else
    let ok := gateChecks s p
    let s := s.upPort p fun x => { x with gateOk := ok }
    if ok then s else s.up a fun w => putBit (putBit w 30 true) 28 false

def execGateEnable (p : Fin 8) (v : BitVec 32) (s : State) : Host.Outcome State Fault Refusal :=
  .next (writeGcfg s p (v ||| 0x10000000))

/-! ### Links and ageing -/

/-- The rate at which a port comes up: that of its mode; on an SGMII port with AN what the control word says, without
AN 1 Gbit/s (R436; the latter DESIGN CHOICE, log 20). -/
def linkSpeed (s : State) (p : Fin 8) (negotiated : Nat) : Nat :=
  let w := s.rd (Adr.netPCfg p)
  match field w 29 28 with
  | 3 => if bitOf w 27 && decide (2 ≤ negotiated ∧ negotiated ≤ 4) then negotiated else 2
  | m => m

/-- A frame of a port without link is lost (R482). -/
def loseFrame (s : State) (f : Frame) : State :=
  match f.kind with
  | .cyclic slot cyc flags => slotResult s slot cyc flags 16
  | _ => s

/-- What a port loses with its link: the frame in transmission, a preempted one, what its gPTP engine has heard. -/
def loseFrames (s : State) (p : Fin 8) : State :=
  let x := s.net.ports[p]
  let s := gptpLinkLost (s.upPort p fun x => { x with sending := none, cut := none }) p
  (x.sending.toList ++ (x.cut.map fun c => c.2.2).toList).foldl loseFrame s

/-- LINK_CHANGE (R482, R483); no port has link before the release of the triads or in DORMANT (R672, R676). -/
def linkChange (s : State) (p : Fin 8) (up : Bool) (speed : BitVec 3) : State :=
  let a := Adr.netPStat p
  let old := s.rd a
  let up := up && bitOf (s.rd (Adr.netPCfg p)) 30 && serdesUp s
  let new := putBit (if up then setField old 30 28 (linkSpeed s p speed.toNat) else old) 31 up
  if new = old then s
  else
    let s := genUp (pulse (s.wr a new) (512 + p.val)) 7
    let s := if up then s else loseFrames (if ringOn s p then pulse s 547 else s) p
    watchGrandmasters s

def execLinkChange (p : Fin 8) (up : Bool) (speed : BitVec 3) (s : State) : Host.Outcome State Fault Refusal :=
  .next (linkChange s p up speed)

/-- FDB_AGEING (R437). -/
def execFdbAgeing (mac : BitVec 48) (vid : BitVec 12) (s : State) : Host.Outcome State Fault Refusal :=
  .next { s with net := { s.net with fdb := s.net.fdb.filter fun e => !(e.mac == mac && e.vid == vid) } }

/-! ### The input flip (R427, R465, R476) -/

/-- MISS of one device at a flip (R465). -/
def flipDevice (s : State) (n : Nat) : State :=
  let d := devEntry s n
  let s := (sramRead s .frame (devAddr n + 8) 8).1
  let a := Adr.netMiss (n / 32)
  if s.net.accepted.contains n then
    let was := bitOf (s.rd a) (n % 32)
    let s := putDev s n d.incyc d.iv 0
    if was then genUp (s.up a fun w => putBit w (n % 32) false) 7 else s
  else
    let m := satSucc d.miss 0xFFFF
    let s := putDev s n d.incyc d.iv m
    if m = field (s.rd Adr.netCtl) 23 16 ∧ d.miss ≠ m then
      genUp (pulse ((s.setBitR a (n % 32)).setBitR Adr.netStat 2) 546) 7
    else s

/-- An input flip instance of the bound table (R427); then MISS, and LASTC into the buffer written next (R476). -/
def inputFlip (s : State) (a : Armed) : State :=
  let cfg := s.rd Adr.tnsIcfg
  match a.cyc with
  | some (j, n) =>
    if bitOf cfg 16 && decide (field cfg 5 0 = j) then
      let s := s.up Adr.tnsIstat fun w => setField (putBit w 63 (!bitOf w 63)) 31 0 n
      let on := devicesOn s
      let s := on.foldl flipDevice ((devErrors s).foldl touchDevCfg s)
      let s := { s with net := { s.net with accepted := [] } }
      (s.net.conns.filter fun x => !x.produce && x.enabled).foldl (fun s x => writeContainer s x false) s
    else s
  | none => s

/-- INPUT_FLIP. -/
def execInputFlip (k : BitVec 14) (s : State) : Host.Outcome State Fault Refusal := .next (flipEffect s k 0 inputFlip)

/-- NET_Pp_GCFG as read: RUN (R447). -/
def gcfgView (s : State) (p : Fin 8) : Word := (s.rd (Adr.netPGcfg p)) ||| b2w (gateRuns s p) 29

end Sys2Proof.Machine
end

