-- ==== Sys2Proof/Machine/Modes.lean ====
section
/-! DEFINITION. Operating modes, resets of the device and low power (R662 to R680). -/

namespace Sys2Proof.Machine

/-! ### Mode requests (R663 to R666, R675) -/

/-- A refused request (R666). -/
def refuseMode (s : State) (code : Nat) : State :=
  s.up Adr.sysMode fun w => setField (putBit w 15 true) 19 16 code

/-- An active fault of class S or X exists in either unit. -/
def anyFaultSX (s : State) : Bool := anySX s.fcu.a || anySX s.fcu.b

/-- The first check of R665 that refuses OPERATE. -/
def operateRefusal (s : State) : Option Nat :=
  let m := modeOf s
  let lc := lcState s
  if !(m == 1 || m == 4 || m == 3) then some 1
  else if broken s then some 2
  else if !(lc == 1 || lc == 2) then some 3
  else if allTriads.any fun t => !(s.tri t).fenced && !bitOf (s.rd Adr.tapuPwfrz) t.val then some 4
  else if !deviceNormal s || anyDSX s then some 5
  else if allTriads.any fun t => (s.tri t).released && (s.tri t).mode == 2 then some 6
  else none

/-- A request for COMMISSION (1) or SAFE HOLD (4) is refused with this code (R664, R666). -/
def otherRefusal (s : State) (target : Nat) : Option Nat :=
  let m := modeOf s
  if target = 1 then
    if m = 2 ∨ m = 3 then none
    else if m = 4 then (if anyFaultSX s then some 5 else none)
    else some 1
  else if (m = 1 ∨ m = 2 ∨ m = 3) ∧ lcState s ≠ 0 then none
  else some 1

/-- DEGRADED_LIMIT: reported once. -/
def degradedLimit (s : State) : State :=
  if modeOf s = 3 ∧ s.sys.degReported = false ∧ s.sys.degLimit ≤ s.sys.degTicks then
    report { s with sys := { s.sys with degReported := true } } 169 0
  else s

/-- A request for a mode other than DORMANT. A DEGRADED limit that has been reached comes before a request for OPERATE
(R669); while a request for DORMANT is carried out OPERATE is refused, since DORMANT is entered from COMMISSION and SAFE
HOLD only (R664; log 35). -/
def requestMode (s : State) (target : Nat) : State :=
  let s := if target = 2 then degradedLimit s else s
  if modeOf s = target then s
  else if target = 2 ∧ s.sys.dormantDue.isSome then refuseMode s 1
  else
    match if target = 2 then operateRefusal s else otherRefusal s target with
    | some c => refuseMode s c
    | none => setMode s target

def execModeRequestCommission (_w : TriadId) (s : State) : Host.Outcome State Fault Refusal := .next (requestMode s 1)

def execModeRequestOperate (_w : TriadId) (s : State) : Host.Outcome State Fault Refusal := .next (requestMode s 2)

def execModeRequestSafeHold (_w : TriadId) (s : State) : Host.Outcome State Fault Refusal := .next (requestMode s 4)

/-- DORMANT may be entered (R675). -/
def dormantOk (s : State) : Bool :=
  (modeOf s == 1 || modeOf s == 4) && lcState s != 0 && !anyTableRuns s && s.tense.armed.isEmpty
  && (allFin32.all fun c => s.chans[c].state == .idle || s.chans[c].state == .error) && !storeBusy s && !s.sram.wiping

def requestDormant (s : State) (off : Bool) : State :=
  if dormantOk s then
    { s with sys := { s.sys with dormantDue := some off, wakeDue := if s.sys.dormantDue.isSome then s.sys.wakeDue else none } }
  else refuseMode s 7

def execDormantRetainRequest (_w : TriadId) (s : State) : Host.Outcome State Fault Refusal := .next (requestDormant s false)

def execDormantOffRequest (_w : TriadId) (s : State) : Host.Outcome State Fault Refusal := .next (requestDormant s true)

/-- A write of SYS_MODEREQ. -/
def writeModereq (s : State) (v : BitVec 32) : State :=
  match v.toNat % 8 with
  | 1 => requestMode s 1
  | 2 => requestMode s 2
  | 4 => requestMode s 4
  | 5 => requestDormant s (v.getLsbD 4)
  | _ => s

/-! ### DORMANT (R676 to R680) -/

/-- A triad stands at a clause boundary with its gate drained (R676 step 2). -/
def triadStill (x : Triad) : Bool :=
  !x.released || x.fenced
  || (x.repair.isNone && x.slots == 0 && !x.slotOpen && x.closed == none && x.toRelease.isEmpty && x.flying.isEmpty && !x.rollbackDue)

/-- Banks at the entry: On to Retain, or all Off; bank 11 to Retain (R676 steps 4 to 6). -/
def dormantBanks (s : State) (off : Bool) : State :=
  let p := Vector.ofFn fun n : Fin 12 =>
    if n.val = 11 then 1 else if off then 2 else if s.sram.power[n] = 0 then 1 else s.sram.power[n]
  let s := { s with sram := { s.sram with power := p } }
  if off then clearRange s 0 0x1600000 else s

/-- A wake source acts: WAKE code 1 WAKE_N, 2 time, 3 fault reaction (R678, R679). -/
def wakeBy (s : State) (code : Nat) : State :=
  let s' := wakeWith s (if code = 3 then 4 else s.sys.dormantFrom.toNat) code
  if s.sys.dormantOff then s' else writeReady s' 1

/-- WAKE (R678): WAKE_N, where SYS_WAKECFG.PEN enables it. -/
def wakePin (s : State) : State :=
  if bitOf (s.rd Adr.sysWakecfg) 1 then
    if modeOf s = 5 then wakeBy s 1
    else if s.sys.dormantDue.isSome ∧ s.sys.wakeDue = none then { s with sys := { s.sys with wakeDue := some 1 } }
    else s
  else s

def execWake (s : State) : Host.Outcome State Fault Refusal := .next (wakePin s)

/-- WAKE_TIME (R678, R391). -/
def wakeAtTime (s : State) : State :=
  if modeOf s = 5 ∧ bitOf (s.rd Adr.sysWakecfg) 0 = true ∧ atOrAfter (now s) (s.rd Adr.sysWaket) = true then wakeBy s 2 else s

def execWakeTime (s : State) : Host.Outcome State Fault Refusal := .next (wakeAtTime s)

/-! ### DEGRADED (R668) -/

def execDegradedLimit (s : State) : Host.Outcome State Fault Refusal := .next (degradedLimit s)

/-- Seconds left (SYS_DEGSTAT). -/
def degLeft (s : State) : Nat := if modeOf s = 3 then (s.sys.degLimit - s.sys.degTicks) / 400000000 else 0

/-! ### Resets (R670, R671) -/

def execPor (s : State) : Host.Outcome State Fault Refusal := .next (resetTo s .p 1)

def execPinReset (s : State) : Host.Outcome State Fault Refusal := .next (resetTo s .h 2)

/-- DEVICE_RESET: where its cause has made one due (R618, R520, R537, R680). -/
def deviceReset (s : State) (c : DevCause) : State :=
  match c with
  | .classX => if s.fcu.a.xPending || s.fcu.b.xPending then resetTo s .d 3 else s
  | .command => if s.hosts.resetDue = some .command then resetTo s .d 4 else s
  | .lifeCycle => if s.hosts.resetDue = some .lifeCycle then resetTo s .d 5 else s
  | .dormantOffWake => if s.hosts.resetDue = some .dormantOffWake then resetTo s .d 6 else s

def execDeviceReset (cause : DevCause) (s : State) : Host.Outcome State Fault Refusal := .next (deviceReset s cause)

end Sys2Proof.Machine
end

