-- ==== Sys2Proof/Machine/Recap.lean ====
section
/-! DEFINITION. The RECAP summary (R514, R515) and the requests of the triads (R516). -/

namespace Sys2Proof.Machine

/-- A number of n octets in the transport's order. -/
def num (be : Bool) (n v : Nat) : List Byte := if be then bytesBE n v else bytesLE n v

def popCount (n : Nat) (v : Nat) : Nat := ((List.range n).filter fun i => v / 2 ^ i % 2 == 1).length

def recapTriad (s : State) (be : Bool) (t : TriadId) : List Byte :=
  let x := s.tri t
  let lanes := laneCode x.lanes[0].state + 8 * laneCode x.lanes[1].state + 64 * laneCode x.lanes[2].state
  let c := s.rd (Adr.cmpReccnt t)
  num be 1 x.mode ++ num be 1 x.xlane ++ num be 2 lanes ++ num be 1 (field (s.rd (Adr.cmpFcause t)) 2 0)
    ++ num be 1 (bitOf (s.rd Adr.sysLstat) (8 + t.val)).toNat ++ num be 2 (field c 15 0)
    ++ num be 4 (field (s.rd (Adr.cmpSeq t)) 31 0) ++ num be 2 (field c 47 32) ++ num be 2 (field c 31 16)

/-- The PINS octet. -/
def recapPins (s : State) : Nat :=
  let allOn := (List.finRange 7).all fun d => recoveryEnabled s d
  (faultN s).toNat + 2 * (aliveOk s).toNat + 4 * (permitOk s .a).toNat + 8 * (permitOk s .b).toNat + 16 * (!allOn).toNat

def recapFcu (s : State) (be : Bool) : List Byte :=
  let u := shownUnit s
  num be 1 (fcuCode s.fcu.a.state) ++ num be 1 (fcuCode s.fcu.b.state) ++ num be 1 (recapPins s) ++ [0]
    ++ num be 2 (popCount 240 u.active.toNat) ++ num be 2 (s.fcu.lastFault.getD 0xFFFF) ++ num be 8 s.fcu.lastTime.toNat
    ++ u.counters.toList.flatMap (num be 2) ++ List.replicate 6 0 ++ bytesLE 30 u.active.toNat ++ [0, 0]

def recapSess (s : State) (be : Bool) (k : Fin 8) : List Byte :=
  let x := sess s k
  num be 1 x.isOpen.toNat ++ num be 1 x.role ++ num be 2 x.cred ++ num be 4 x.last.toNat

def recapSlot (s : State) (be : Bool) (k : Fin 8) : List Byte :=
  match s.lcs.slots[k] with
  | none => [0, 0xFF] ++ List.replicate 14 0
  | some p => num be 1 (if p.applying then 2 else 1) ++ num be 1 (proposerCode p.proposer) ++ [0, 0]
      ++ num be 4 (proposalLeft s p) ++ num be 8 p.tag.toNat

def recapTail (s : State) (be : Bool) : List Byte :=
  let links := ((List.range 8).map fun p => (bitOf (s.rd (Adr.netPStat p)) 31).toNat * 2 ^ p).sum
  let rings := ((List.range 4).map fun q => (bitOf (s.rd (Adr.netRing q)) 30).toNat * 2 ^ q).sum
  let miss := ((List.range 128).map fun k => popCount 32 (s.rd (Adr.netMiss k)).toNat).sum
  let safe := (s.net.conns.filter fun x => x.enabled && x.failsafe).length
  let dst := s.rd Adr.ddrStat
  num be 1 (servoState s) ++ num be 1 (bitOf (s.rd Adr.tnsSstat) 61).toNat ++ [0, 0]
    ++ num be 4 (field (s.rd Adr.tnsSstat) 31 0) ++ num be 4 (field (s.rd Adr.tnsLatecnt) 31 0)
    ++ num be 1 links ++ num be 1 rings ++ [0, 0] ++ num be 2 miss ++ num be 2 safe
    ++ num be 1 (field dst 19 16) ++ num be 1 (field dst 31 28) ++ num be 2 (field (s.rd Adr.ddrTop) 9 0)
    ++ num be 4 (imageChecksum (yobActive s.yob)) ++ num be 4 s.yob.events ++ num be 1 s.yob.sealed.toNat

/-- Octets 0x000 to 0x1FB. -/
def recapBody (s : State) (be : Bool) : List Byte :=
  let flags := (broken s).toNat + 2 * s.lcs.keySw.toNat + 4 * s.yob.sealed.toNat
  padTo (num be 2 1 ++ num be 2 512 ++ num be 4 s.hosts.rgen.toNat ++ num be 8 (now s).toNat
    ++ num be 8 Config.fuseSerial.toNat ++ num be 4 s.boot.version.toNat
    ++ num be 1 s.boot.bootedB.toNat ++ num be 1 (lcState s) ++ num be 1 (modeOf s) ++ num be 1 flags
    ++ num be 4 (degLeft s) ++ num be 4 (s.sys.upTicks / 400000000)
    ++ (s.hosts.gens.toList ++ List.replicate 4 0).flatMap (fun (g : BitVec 32) => num be 4 g.toNat)
    ++ allTriads.flatMap (recapTriad s be) ++ recapFcu s be ++ allSess.flatMap (recapSess s be)
    ++ allSess.flatMap (recapSlot s be) ++ recapTail s be) 0x1FC

/-- The 512 octets (R514). -/
def recapOctets (s : State) (be : Bool) : List Byte :=
  let b := recapBody s be
  b ++ num be 4 (crc32c b).toNat

def countRecap (s : State) : State := s.upHosts fun h => { h with rgen := h.rgen + 1 }

/-- A 512-octet-aligned address in the triad-shared area of bank 10 (R511, R516, R534). -/
def inShared (a : Nat) : Bool := decide (0x1450000 ≤ a ∧ a + 512 ≤ 0x1600000 ∧ a % 512 = 0)

/-- A write of SYS_RECAP by triad t (R516). -/
def requestRecap (s : State) (t : TriadId) (v : Word) : State :=
  let a := field v 39 0
  if inShared a && !bitOf (s.rd Adr.sysRecapstat) t.val then
    (s.setBitR Adr.sysRecapstat t.val).upHosts fun h =>
      { h with recapAddr := h.recapAddr.set t.val (BitVec.ofNat 40 a) t.isLt,
               recapAt := h.recapAt.set t.val s.sys.upTicks t.isLt }
  else s.setBitR Adr.sysRecapstat (24 + t.val)

def execSysRecap (w : TriadId) (v : Word) (s : State) : Host.Outcome State Fault Refusal := .next (requestRecap s w v)

/-- Of requests accepted in one fabric cycle the lowest triad's is captured first (R517; log 25). -/
def recapFirst (s : State) (t : TriadId) : Bool :=
  allTriads.all fun q =>
    decide (t ≤ q) || !bitOf (s.rd Adr.sysRecapstat) q.val || s.hosts.recapAt[q] != s.hosts.recapAt[t]

/-- RECAP_CAPTURE (R514, R516): little-endian, through the owner port of bank 10. -/
def captureRecap (s : State) (t : TriadId) : State :=
  if bitOf (s.rd Adr.sysRecapstat) t.val && recapFirst s t then
    let o := recapOctets s false
    let s := sramWrite (countRecap s) .host s.hosts.recapAddr[t].toNat 0 (enabled o)
    let s := s.up Adr.sysRecapstat fun w => putBit (putBit w t.val false) (8 + t.val) true
    pulse s (696 + t.val)
  else s

def execRecapCapture (t : TriadId) (s : State) : Host.Outcome State Fault Refusal := .next (captureRecap s t)

end Sys2Proof.Machine
end

