-- ==== Sys2Proof/Machine/Lcs.lean ====
section
/-! DEFINITION. Countersign (R519 to R537): the targets and their parties, the checks of a proposal, what an approved
change does, and the commands of triads and of the key switch. -/

namespace Sys2Proof.Machine

/-- The rows of R520. -/
inductive Target where
  | setting | lifeCycle | keyHash | windows | reset | cred (k : Nat)
deriving DecidableEq, Repr

/-- The row a proposal's INDEX and SUB fall under; none outside the table. -/
def targetOf (idx sub : Nat) : Option Target :=
  match objInfo idx sub with
  | .error _ => none
  | .ok i =>
    if i.acc ≠ 3 then none
    else if idx = 0x7001 then some .lifeCycle
    else if idx = 0x7002 then some .keyHash
    else if idx = 0x7010 then some .windows
    else if idx = 0x7020 then some .reset
    else if 0x7101 ≤ idx then some (.cred (idx - 0x7100))
    else some .setting

/-- Role codes (R499): 1 OPERATOR, 2 ENGINEER, 3 SAFETY, 4 METROLOGY, 5 SERVICE. A party's role, none for a triad. -/
def partyRole (s : State) (p : Proposer) : Option Nat :=
  match p with
  | .session k => some (sess s k).role
  | .triad _ => none

/-- May propose this target (R520). -/
def mayPropose (s : State) (t : Target) (who : Proposer) : Bool :=
  match t, partyRole s who with
  | .setting, some r => r == 2 || r == 3 || r == 5
  | .setting, none => true
  | .lifeCycle, some r => r == 2 || r == 3 || r == 5
  | .lifeCycle, none => false
  | .keyHash, some r => r == 5 && lcState s == 0 && s.lcs.keyHash == none
  | .keyHash, none => false
  | .windows, some r => r == 2 || r == 3
  | .windows, none => true
  | .reset, some r => decide (2 ≤ r)
  | .reset, none => true
  | .cred _, some r => r == 3 || r == 5
  | .cred _, none => false

/-- The second party is KEYSW_N (R520). -/
def wantsKey (s : State) (t : Target) (cred : Nat) : Bool :=
  match t with
  | .lifeCycle => lcState s == 0
  | .keyHash => true
  | .cred _ => cred == 0
  | _ => false

/-- Roles of a countersigning session and the proposer (R520). -/
def mayCountersign (s : State) (t : Target) (who : Proposer) (mine : Nat) : Bool :=
  let theirs := (partyRole s who).getD 0
  match t with
  | .setting => (mine == 2 || mine == 3 || mine == 5) && (mine == 3 || theirs == 3)
  | .lifeCycle => (mine == 3 && theirs == 5) || (mine == 5 && theirs == 3)
  | .keyHash => false
  | .windows => mine == 2 || mine == 3
  | .reset => decide (2 ≤ mine)
  | .cred _ => mine == 3 || mine == 5

/-- Transitions of R535. -/
def lcAllowed (cur target : Nat) : Bool :=
  (cur == 0 && (target == 1 || target == 2)) || (cur == 1 && (target == 2 || target == 3)) || (cur == 2 && target == 3)

/-- Modes in which 0x7001 is proposed and approved (R536). -/
def lcMode (s : State) : Bool := modeOf s == 1 || modeOf s == 4

def freeSlotOf (s : State) : Option (Fin 8) := (List.finRange 8).find? fun (k : Fin 8) => s.lcs.slots[k] == none

def anySlot (s : State) (f : Proposal → Bool) : Bool :=
  s.lcs.slots.toList.any fun p => match p with | some p => f p | none => false

/-- The checks of R526 in order: a status, or the slot to take. -/
def checkProposal (s : State) (who : Proposer) (cred idx sub party : Nat) (value : List Byte) : Except Nat (Fin 8) :=
  match targetOf idx sub with
  | none => .error 0x0010
  | some t =>
    if !mayPropose s t who || wantsKey s t cred != decide (party = 1) then .error 0x0010
    else
      match objInfo idx sub with
      | .error _ => .error 0x0010
      | .ok i =>
        if !lengthOk idx i value.length then .error 0x0005
        else if !valueOk idx sub value then .error 0x0006
        else if t == .lifeCycle && !lcAllowed (lcState s) (natBE value) then .error 0x0017
        else if t == .lifeCycle && !lcMode s then .error 0x0008
        else if anySlot s fun p => p.index.toNat == idx && p.sub.toNat == sub && !p.applying then .error 0x0015
        else if party == 1 && anySlot s fun p => p.party == 1 && !p.applying then .error 0x0016
        else
          match freeSlotOf s with
          | none => .error 0x0011
          | some k => .ok k

/-- A credential's value as the proposer's session key reveals it (R521). -/
def unwrapCred (s : State) (who : Proposer) (t : Target) (value : List Byte) : List Byte :=
  match t, who with
  | .cred k, .session q =>
    value.take 4 ++ List.zipWith (fun a b => a ^^^ b) (value.drop 4)
      (hmac (sess s q).key (ascii "CRD1" ++ [BitVec.ofNat 8 k]))
  | _, _ => value

/-- An accepted proposal takes slot k (R526, R527). -/
def acceptProposal (s : State) (k : Fin 8) (who : Proposer) (cred idx sub party : Nat) (value : List Byte) : State :=
  let s := s.upLcs fun l => { l with pnum := l.pnum + 1 }
  let p : Proposal :=
    { applying := false, proposer := who, cred := BitVec.ofNat 16 cred, index := BitVec.ofNat 16 idx,
      sub := BitVec.ofNat 8 sub, party := BitVec.ofNat 8 party, value := value, tag := 0, since := s.sys.upTicks,
      keyOff := !s.lcs.keySw, keyOn := false,
      plain := match targetOf idx sub with | some t => unwrapCred s who t value | none => value }
  putSlot s k (some { p with tag := proposalTag s k p })

/-! ### What an approved change does (R520, R529, R537) -/

/-- FCU_CFG from objects 0x2001 to 0x2003 (R633). -/
def loadFcuCfg (s : State) : State :=
  s.wr Adr.fcuCfg (BitVec.ofNat 64 (objNat s 0x2002 0 8 * 2 ^ 32 + objNat s 0x2001 0 250 * 2 ^ 16 + objNat s 0x2003 0 100))

/-- TNS_ORr_CFG.LATELIM from object 0x3200 + r .03 (R435). -/
def loadLatelim (s : State) (r : Nat) : State :=
  s.up (Adr.tnsOrCfg r) fun w => setField w 39 32 (objNat s (0x3200 + r) 3 3)

/-- The registers that a stored setting acts on at approval. -/
def settingActs (s : State) (idx : Nat) : State :=
  if 0x2001 ≤ idx ∧ idx ≤ 0x2003 then loadFcuCfg s
  else if 0x2100 ≤ idx ∧ idx < 0x21F0 then loadTable s
  else if 0x3200 ≤ idx ∧ idx < 0x3208 then loadLatelim s (idx - 0x3200)
  else s

def objErase (s : State) (idx sub : Nat) : State :=
  s.upHosts fun h => { h with objs := h.objs.filter fun p => decide (p.1 ≠ objKey idx sub) }

def credFrom (bs : List Byte) : Cred :=
  match bs with
  | [] => { role := 0, enabled := false, key := [] }
  | b :: _ => { role := b.toNat, enabled := bs.getD 1 0 != 0, key := bs.drop 4 }

/-- A credential takes a value in the secure region (R540). -/
def putCred (s : State) (k : Nat) (bs : List Byte) : State :=
  if h : k < 32 then secureWrite s (.cred ⟨k, h⟩ (credFrom bs)) else s

def credOctets (c : Cred) : List Byte :=
  if c.role = 0 ∧ c.key = [] then [] else [BitVec.ofNat 8 c.role, BitVec.ofNat 8 c.enabled.toNat, 0, 0] ++ c.key

/-- The former value of a target that a STORE keeps (R529). -/
def formerValue (s : State) (p : Proposal) : List Byte :=
  match targetOf p.index.toNat p.sub.toNat with
  | some (.cred k) => credOctets (s.lcs.creds.toList.getD k { role := 0, enabled := false, key := [] })
  | _ => (objStored s p.index.toNat p.sub.toNat).getD []

/-- A stored target takes a value; no octets mean its default. A fuse once programmed stays so (log 25). -/
def putStored (s : State) (p : Proposal) (bs : List Byte) : State :=
  let idx := p.index.toNat
  match targetOf idx p.sub.toNat with
  | some (.cred k) => putCred s k bs
  | some .keyHash => if bs.isEmpty then s else s.upLcs fun l => { l with keyHash := some bs }
  | _ => settingActs (if bs.isEmpty then objErase s idx p.sub.toNat else objPut s idx p.sub.toNat bs) idx

/-- The approval of a stored object runs a STORE (R529, R657); R537 says all that a life-cycle transition does, and names
none (DEDUCED, log 25). -/
def needsStore (p : Proposal) : Bool :=
  match targetOf p.index.toNat p.sub.toNat with
  | some .setting => true
  | some (.cred _) => true
  | some .keyHash => true
  | _ => false

/-- Steps 1 to 3 of R537: the fuse, the wipe, generation counter 5. The state as sensed lasts until the reset of step 5. -/
def lifeTransition (s : State) (target : Nat) : State :=
  let s := s.upLcs fun l => { l with fuses := l.fuses ||| BitVec.ofNat 3 (2 ^ (target - 1)) }
  genUp (wipeRegion s 1) 5

/-- The approved transition of slot k (R537). Whether the fuse reads back is a free value; where it does not, the state
stays, F166 is reported and the answer is 0x0017 (log 25). -/
def applyLife (s : State) (k : Fin 8) (p : Proposal) : State × Nat :=
  let (w, s) := s.draw
  if w.getLsbD 0 then
    (genUp (freeSlot ((lifeTransition s (natBE p.value)).upHosts fun h => { h with resetDue := some .lifeCycle }) k 1) 0, 0)
  else (freeSlot (report s 166 0) k 3, 0x0017)

/-- A change that needs no STORE and no fuse of the life cycle, made at approval. -/
def applyDirect (s : State) (p : Proposal) : State :=
  match targetOf p.index.toNat p.sub.toNat with
  | some .windows => s.up Adr.tapuPwfrz fun w => w ||| BitVec.ofNat 64 (natBE p.value % 64)
  | some .reset => s.upHosts fun h => { h with resetDue := some .command }
  | _ => s

/-- Slot k's change is made. A stored one starts its STORE, at whose end the slot is freed; another one frees the slot at
once. The second component is the status to answer, none before the change has taken effect. -/
def applyNow (s : State) (k : Fin 8) (who : Option (Fin 8 × BitVec 32)) : State × Option Nat :=
  match s.lcs.slots[k] with
  | none => (s, some 0)
  | some p =>
    if needsStore p then
      let former := formerValue s p
      let s := putStored s p p.plain
      (startJob s (who.map fun w => w.1) ((who.map fun w => w.2).getD 0) 0x31 (some k) former who.isNone, none)
    else if targetOf p.index.toNat p.sub.toNat = some .lifeCycle then
      let (s, c) := applyLife s k p
      (s, some c)
    else (genUp (freeSlot (applyDirect s p) k 1) 0, some 0)

/-- An approval that is not the next to be made: an earlier one is being applied or waits, or its STORE finds one running
(R533, R657). -/
def approvalWaits (s : State) (p : Proposal) : Bool :=
  !s.lcs.waiting.isEmpty || (s.hosts.job.any fun j => j.slot.isSome) || (needsStore p && storeBusy s)

/-- An approval: the slot is applying, and the change is made in its turn (R529, R533). -/
def approve (s : State) (k : Fin 8) (who : Option (Fin 8 × BitVec 32)) : State × Option Nat :=
  match s.lcs.slots[k] with
  | none => (s, some 0)
  | some p =>
    let t := putSlot s k (some { p with applying := true })
    if approvalWaits s p then (t.upLcs fun l => { l with waiting := l.waiting ++ [(k, who)] }, none) else applyNow t k who

/-- KEY_SWITCH_APPROVAL (R530): the pending key-switch proposal whose switch was off and is on. -/
def keyApproval (s : State) : State :=
  match (List.finRange 8).find? fun (k : Fin 8) =>
      match s.lcs.slots[k] with | some p => p.party == 1 && p.keyOn && !p.applying | none => false with
  | none => s
  | some k =>
    match s.lcs.slots[k] with
    | none => s
    | some p =>
      match targetOf p.index.toNat p.sub.toNat with
      | none => s
      | some t =>
        if s.lcs.keySw && mayPropose s t p.proposer && wantsKey s t p.cred.toNat && (t != .lifeCycle || lcMode s) then
          (approve s k none).1
        else s

def execKeySwitchApproval (s : State) : Host.Outcome State Fault Refusal := .next (keyApproval s)

/-! ### Proposals from a triad (R534) -/

/-- LCS_PRESt after a write has been processed. -/
def putPres (s : State) (t : TriadId) (code outc slot : Nat) : State :=
  s.up (Adr.lcsPres t) fun w => setField (setField (setField (putBit w 63 true) 47 32 code) 9 8 outc) 2 0 slot

/-- The value of a block's proposal: a scalar is little-endian there (R9, R534). -/
def blockValue (idx sub : Nat) (bs : List Byte) : List Byte :=
  match objInfo idx sub with
  | .ok i => if tySize i.ty = 0 then bs else bs.reverse
  | .error _ => bs

/-- A write of LCS_PROPt with OP 0. -/
def triadPropose (s : State) (t : TriadId) (v : Word) : State :=
  let a := field v 39 9 * 512
  let old := field (s.rd (Adr.lcsPres t)) 2 0
  if !inShared a then putPres s t 0x000D 3 old
  else
    let (s, b) := sramRead s .store a 512
    let n := leAt b 4 2
    let party := (b.getD 3 0).toNat
    if 496 < n ∨ 1 < party ∨ leAt b 6 2 ≠ 0 then putPres s t 0x000D 3 old
    else
      let idx := leAt b 0 2
      let sub := (b.getD 2 0).toNat
      let value := blockValue idx sub (sliceOf b 8 n)
      match checkProposal s (.triad t) 0xFFFF idx sub party value with
      | .error c => putPres s t c 3 old
      | .ok k =>
        let s := acceptProposal s k (.triad t) 0xFFFF idx sub party value
        let tag := match s.lcs.slots[k] with | some p => p.tag | none => 0
        (putPres s t 0 0 k.val).wr (Adr.lcsPtag t) tag

/-- A write of LCS_PROPt with OP 1. -/
def triadWithdraw (s : State) (t : TriadId) (v : Word) : State :=
  let k : Fin 8 := ⟨field v 2 0 % 8, Nat.mod_lt _ (by decide)⟩
  let keep (c : Nat) : State := s.up (Adr.lcsPres t) fun w => setField (putBit w 63 true) 47 32 c
  match s.lcs.slots[k] with
  | none => keep 0x0012
  | some p =>
    if p.applying then keep 0x0012
    else if p.proposer ≠ .triad t then keep 0x0019
    else (freeSlot s k 2).up (Adr.lcsPres t) fun w => setField (putBit w 63 true) 47 32 0

def writeLcsProp (s : State) (t : TriadId) (v : Word) : State :=
  if bitOf v 63 then triadWithdraw s t v else triadPropose s t v

def execTriadPropose (w : TriadId) (v : Word) (s : State) : Host.Outcome State Fault Refusal := .next (triadPropose s w v)

def execTriadWithdraw (w : TriadId) (v : Word) (s : State) : Host.Outcome State Fault Refusal := .next (triadWithdraw s w v)

/-- LCS_LCSTATE as read. TAMPN shows the level, 0 while TAMPER_N is asserted (DEDUCED, log 25). -/
def lcstateView (s : State) : Word :=
  b2w (!s.lcs.tamperN) 17 ||| b2w s.lcs.keySw 16 ||| b2w s.lcs.keyHash.isSome 8 ||| BitVec.ofNat 64 (lcState s)

end Sys2Proof.Machine
end

