-- ==== Sys2Proof/Machine/Serial.lean ====
section
/-! DEFINITION. The serial memory (R647, R648, R655, R656): its map, the boot header and the configuration slots as octets.
The state holds each region's octets from its start; octets after those that are listed have not been written. -/

namespace Sys2Proof.Machine

/-! ### The map (R647) -/

inductive SerialRegion where
  | header | headerCopy | cfgA | cfgB | yober | crash | fwA | fwB
deriving DecidableEq, Repr

def SerialRegion.base : SerialRegion → Nat
  | .header => 0x0 | .headerCopy => 0x1000 | .cfgA => 0x100000 | .cfgB => 0x200000 | .yober => 0x300000
  | .crash => 0x400000 | .fwA => 0x800000 | .fwB => 0x2400000

def SerialRegion.size : SerialRegion → Nat
  | .header => 0x1000 | .headerCopy => 0x1000 | .cfgA => 0x100000 | .cfgB => 0x100000 | .yober => 0x100000
  | .crash => 0x400000 | .fwA => 0x1C00000 | .fwB => 0x1C00000

def allRegions : List SerialRegion := [.header, .headerCopy, .cfgA, .cfgB, .yober, .crash, .fwA, .fwB]

/-- The octets of a region; those of the Yober region are the island's (R576). -/
def Boot.octets (b : Boot) : SerialRegion → List Byte
  | .header => b.header | .headerCopy => b.headerCopy | .cfgA => b.cfgA | .cfgB => b.cfgB | .yober => []
  | .crash => b.crash.flatten | .fwA => b.fwA | .fwB => b.fwB

/-- n octets from an address on; one that has not been written, or lies in no region, reads 0xFF (PRESUMED, log 26). -/
def serialRead (b : Boot) (a n : Nat) : List Byte :=
  match allRegions.find? fun r => decide (r.base ≤ a ∧ a < r.base + r.size) with
  | some r => (List.range n).map fun i => (b.octets r).getD (a - r.base + i) 0xFF
  | none => List.replicate n 0xFF

/-! ### The boot header (R648) -/

def headerMagic : Nat := 0x3831434E

/-- A header's 64 octets. -/
def headerOctets (xmode pref : Nat) : List Byte :=
  let body := bytesLE 4 headerMagic ++ bytesLE 2 1 ++ [0, 0, BitVec.ofNat 8 xmode, BitVec.ofNat 8 pref] ++ List.replicate 50 0
  body ++ bytesLE 4 (crc32c body).toNat

def headerValid (l : List Byte) : Bool :=
  leAt l 0 4 == headerMagic && leAt l 0x3C 4 == (crc32c (l.take 0x3C)).toNat

/-- XMODE and PREF of the header in use: the first one, its copy, or neither. -/
def headerInUse (b : Boot) : Nat × Nat :=
  let first := serialRead b SerialRegion.header.base 64
  let copy := serialRead b SerialRegion.headerCopy.base 64
  if headerValid first then (leAt first 8 1, leAt first 9 1)
  else if headerValid copy then (leAt copy 8 1, leAt copy 9 1)
  else (0, 0)

/-- The firmware slot that PREF names is B. -/
def prefB (b : Boot) : Bool := (headerInUse b).2 == 1

/-- A write of PREF begins: the copy is rewritten, then the header, each invalid until it has been programmed, for a time
that no rule gives: free values (R654, R659; log 26). -/
def writeHeader (s : State) (pref : Nat) : State :=
  let (v, s) := s.draw
  let (w, s) := s.draw
  s.upBoot fun b =>
    { b with headerCopy := [],
             headerWrite := some { octets := headerOctets (headerInUse b).1 pref, copyLeft := some v.toNat, left := w.toNat } }

/-- The discovery of R646: the device answers with 4-byte addressing and a capacity from 64 MB to 512 MB. -/
def serialOk (d : Option Sfdp) : Bool :=
  match d with
  | some x => x.fourByte && decide (64 ≤ x.mb ∧ x.mb ≤ 512)
  | none => false

/-- The highest read mode that SFDP and XMODE allow (R646); 1-1-1 is always there. -/
def readModeOf (d : Option Sfdp) (xmode : Nat) : BitVec 2 :=
  let has (m : Nat) : Bool := match d with | some x => x.modes.getLsbD m | none => false
  if has 3 && decide (3 ≤ xmode) then 3 else if has 2 && decide (2 ≤ xmode) then 2
  else if has 1 && decide (1 ≤ xmode) then 1 else 0

/-! ### Configuration slots (R655) -/

def cfgMagic : Nat := 0x31474643

/-- Octets of the longest body. -/
def cfgBodyMax : Nat := 1044480

/-- A record: INDEX, SUB, TYPE, VLEN, zero, the value padded to a multiple of 4. -/
def cfgRecord (k : Nat) (v : List Byte) : List Byte :=
  let ty := match objInfo (k / 256) (k % 256) with | .ok i => i.ty | .error _ => 0
  bytesLE 2 (k / 256) ++ [BitVec.ofNat 8 k, BitVec.ofNat 8 ty] ++ bytesLE 2 v.length ++ [0, 0]
    ++ padTo v ((v.length + 3) / 4 * 4)

/-- The octets of a slot: its header, and its body from 0x1000 on. -/
def cfgOctets (gen : BitVec 32) (objs : List (Nat × List Byte)) : List Byte :=
  let body := objs.flatMap fun p => cfgRecord p.1 p.2
  let head := bytesLE 4 cfgMagic ++ bytesLE 4 gen.toNat ++ bytesLE 4 body.length ++ bytesLE 4 (crc32c body).toNat
    ++ List.replicate 44 0
  head ++ bytesLE 4 (crc32c head).toNat ++ List.replicate (0x1000 - 64) 0xFF ++ body

/-- The records of a body, as far as they are whole: object, TYPE, value. -/
def cfgRecords : Nat → List Byte → List (Nat × Nat × List Byte)
  | 0, _ => []
  | n + 1, l =>
    let len := leAt l 4 2
    if l.length < 8 + len then []
    else (objKey (leAt l 0 2) (leAt l 2 1), leAt l 3 1, sliceOf l 8 len) :: cfgRecords n (l.drop (8 + (len + 3) / 4 * 4))

/-- A slot's GEN and records; none where MAGIC, HCRC or BCRC is not valid. -/
def cfgSlotOf (l : List Byte) : Option CfgSlot :=
  let n := leAt l 8 4
  let body := sliceOf l 0x1000 n
  if leAt l 0 4 = cfgMagic ∧ leAt l 0x3C 4 = (crc32c (l.take 0x3C)).toNat ∧ n ≤ cfgBodyMax ∧ leAt l 0xC 4 = (crc32c body).toNat then
    some { gen := BitVec.ofNat 32 (leAt l 4 4), recs := cfgRecords (n / 8 + 1) body }
  else none

/-- The slot in use (R655). -/
def cfgInUse (b : Boot) : Option CfgSlot := cfgSlotOf (if b.cfgUseB then b.cfgB else b.cfgA)

/-- The captured values in the slot not in use, which is in use from then on (R656); with none in use, in slot A with GEN 1
(log 26). -/
def storeSlot (b : Boot) (objs : List (Nat × List Byte)) : Boot :=
  match cfgInUse b with
  | none => { b with cfgA := cfgOctets 1 objs, cfgUseB := false }
  | some c =>
    let l := cfgOctets (c.gen + 1) objs
    if b.cfgUseB then { b with cfgA := l, cfgUseB := false } else { b with cfgB := l, cfgUseB := true }

end Sys2Proof.Machine
end

