-- ==== Sys2Proof/Machine/Hosts.lean ====
section
/-! DEFINITION. Host sessions (R484 to R506, R511 to R513, R733): transports, message checks, sessions, operations, soft
objects, STORE. -/

namespace Sys2Proof.Machine

/-! ### Messages (R494, R495) -/

/-- Header and payload of a message as sent. -/
def msgOctets (kind op sess : Byte) (seq : BitVec 32) (status : Nat) (payload : List Byte) : List Byte :=
  [kind, op, sess, 0] ++ bytesBE 4 seq.toNat ++ bytesBE 2 payload.length ++ bytesBE 2 status ++ bytesBE 4 0 ++ payload

/-- A message with its tag under a key. -/
def tagged (key : List Byte) (m : List Byte) : List Byte := m ++ (hmac key m).take 16

/-- A received request's header and payload, over which its tag is computed. -/
def reqOctets (op : Byte) (m : AopMsg) : List Byte :=
  [m.verKind, op, m.sess, m.zero3] ++ bytesBE 4 m.seq.toNat ++ bytesBE 2 m.len.toNat ++ bytesBE 2 m.status.toNat
    ++ bytesBE 4 m.zero12.toNat ++ m.payload

/-- The header is one of R494 and LEN agrees with the length received (R496). -/
def headerOk (m : AopMsg) : Bool :=
  m.verKind == 0x11 && m.zero3 == 0 && m.status == 0 && m.zero12 == 0 && decide (m.len.toNat = m.payload.length)
  && decide (m.payload.length ≤ 1408) && decide (m.tag.length = 16)

def tagOk (key : List Byte) (op : Byte) (m : AopMsg) : Bool := (hmac key (reqOctets op m)).take 16 == m.tag

/-- The session engine runs: not in DORMANT, RETIRED or a boot still under way (R536, R637, R676). -/
def engineUp (s : State) : Bool :=
  modeOf s != 5 && lcState s != 3 && (modeOf s != 0 || bitOf (s.rd Adr.tstStat) 30)

/-! ### The rings (R491 to R493) -/

def ringBase (p : Fin 2) : Nat := 0x1400000 + 0x10000 * p.val

/-- n octets of bank 10 as its owner port reads them, and as a number (R339, R346, R362). -/
def hostOctets (s : State) (a n : Nat) : List Byte := (sramRead s .host a n).2
def hostNat (s : State) (a n : Nat) : Nat := natLE (hostOctets s a n)

/-- What such a read leaves behind (R345, R346, R362), and a write of octets or of a number. -/
def hostTouch (s : State) (a n : Nat) : State := (sramRead s .host a n).1
def hostWrite (s : State) (a : Nat) (bs : List Byte) : State := sramWrite s .host a 0 (enabled bs)
def hostPut (s : State) (a n v : Nat) : State := hostWrite s a (bytesLE n v)

/-- The indices of the header, each within its ring, so that no slot lies outside BAR0 whatever a triad has stored there
(R25, R26, R491; log 25). -/
def rqProdOf (s : State) (p : Fin 2) : Nat := hostNat s (ringBase p) 4 % 15
def rqConsOf (s : State) (p : Fin 2) : Nat := hostNat s (ringBase p + 4) 4 % 15
def rsProdOf (s : State) (p : Fin 2) : Nat := hostNat s (ringBase p + 8) 4 % 16
def rsConsOf (s : State) (p : Fin 2) : Nat := hostNat s (ringBase p + 12) 4 % 16
def ringReady (s : State) (p : Fin 2) : Bool := hostNat s (ringBase p + 16) 4 == 1

def pcieLink (s : State) (p : Fin 2) : Bool := bitOf (s.rd (Adr.hstPstat p)) 31

/-- A discarded index write (R493). -/
def ringErr (s : State) (p : Fin 2) : State := pulse (s.setBitR (Adr.hstPstat p) 17) 650

/-- A host write of RQ_PROD, judged against the header as the port reads it (R346, R493). -/
def writeRqProd (s : State) (p : Fin 2) (v : Nat) : State :=
  let s := hostTouch s (ringBase p) 20
  let a := rqProdOf s p
  if v < 15 ∧ (v + 15 - a) % 15 ≤ (rqConsOf s p + 14 - a) % 15 then hostPut s (ringBase p) 4 v else ringErr s p


/-- A host write of RS_CONS. -/
def writeRsCons (s : State) (p : Fin 2) (v : Nat) : State :=
  let s := hostTouch s (ringBase p) 20
  let a := rsConsOf s p
  if v < 16 ∧ (v + 16 - a) % 16 ≤ (rsProdOf s p + 16 - a) % 16 then hostPut s (ringBase p + 12) 4 v else ringErr s p

def pcieFn (s : State) (p : Fin 2) : PcieFunction := s.hosts.pcie[p]

def State.upPcie (s : State) (p : Fin 2) (f : PcieFunction → PcieFunction) : State :=
  s.upHosts fun h => { h with pcie := vmod h.pcie p f }

/-- Where a word at a bus address lies in BAR0; none outside it (R489, R491). -/
def barOffset (s : State) (p : Fin 2) (addr : BitVec 64) : Option Nat :=
  let b := (pcieFn s p).bar0.toNat
  if b ≤ addr.toNat ∧ addr.toNat < b + (pcieFn s p).barSize ∧ addr.toNat % 4 = 0 then some (addr.toNat - b) else none

/-- A host's write on a port with link: RQ_PROD and RS_CONS under R493, the rest of the header discarded, other words of
BAR0 stored; a request outside BAR0 has no effect (R26, R491, R492). -/
def hostStore (s : State) (p : Fin 2) (w : HostStore) : State :=
  if !pcieLink s p then s
  else
    match barOffset s p w.addr with
    | none => s
    | some o =>
      if o = 0 then writeRqProd s p w.v.toNat
      else if o = 12 then writeRsCons s p w.v.toNat
      else if o < 64 then s
      else hostPut s (ringBase p + o) 4 w.v.toNat

def execRqProd (p : Fin 2) (v : HostStore) (s : State) : Host.Outcome State Fault Refusal :=
  .next (s.powered fun s => hostStore s p v)

def execRsCons (p : Fin 2) (v : HostStore) (s : State) : Host.Outcome State Fault Refusal :=
  .next (s.powered fun s => hostStore s p v)

/-- A slot's length word and message (R491). -/
def slotOctets (m : List Byte) : List Byte := bytesLE 4 m.length ++ m

/-- MSI is signalled where the host has enabled it (R492). -/
def signalMsi (s : State) (p : Fin 2) : State :=
  match (pcieFn s p).msi with
  | some v => s.upPcie p fun f => { f with signalled := v :: f.signalled }
  | none => s

/-- A message leaves: into the response ring with its MSI, or as a datagram (R488, R492). -/
def send (s : State) (via : HostVia) (m : List Byte) : State :=
  match via with
  | .ring p =>
    let i := rsProdOf s p
    let s := hostTouch s (ringBase p + 8) 4
    signalMsi (hostPut (hostWrite s (ringBase p + 0x8000 + 0x800 * i) (slotOctets m)) (ringBase p + 8) 4 ((i + 1) % 16)) p
  | .m0 a u => s.upHosts fun h => { h with m0Sent := (a, u, m) :: h.m0Sent }

/-! ### Discards, answers -/

/-- A discarded message (R496): the session it names counts it; eight tag failures in a row close the session. -/
def discard (s : State) (named : Nat) (tagFail : Bool) : State :=
  let s := pulse (s.setBitR Adr.hstStat 0) 650
  if h : named < 8 then
    let k : Fin 8 := ⟨named, h⟩
    let s := s.up (Adr.hstSess k) fun w => satField w 31 16
    if tagFail && (sess s k).isOpen then
      let s := s.upSess k fun x =>
        { x with tagFails := x.tagFails + 1, tagFailTotal := BitVec.ofNat 32 (satSucc x.tagFailTotal.toNat 0xFFFFFFFF) }
      if 8 ≤ (sess s k).tagFails then closeSession s k else s
    else s
  else s

/-- The response to request seq of session k under a key: sent, held, and the session is free again (R497). A refused
request's response has no payload. -/
def answerUnder (s : State) (k : Fin 8) (key : List Byte) (seq : BitVec 32) (op : Byte) (status : Nat) (payload : List Byte) :
    State :=
  let x := sess s k
  match x.via with
  | none => s
  | some via =>
    let m := tagged key (msgOctets 0x12 op (BitVec.ofNat 8 k.val) seq status (if status = 0 then payload else []))
    send (s.upSess k fun x => { x with held := ((seq, m) :: x.held).take 4, executing := none }) via m

def answer (s : State) (k : Fin 8) (seq : BitVec 32) (op : Byte) (status : Nat) (payload : List Byte) : State :=
  answerUnder s k (sess s k).key seq op status payload

/-! ### Requests on objects (R503 to R505, R733) -/

/-- What executing a request comes to: a response, or none yet. -/
structure Reply where
  state : State
  answer : Option (Nat × List Byte)

def done (s : State) (status : Nat) (payload : List Byte) : Reply := ⟨s, some (status, payload)⟩

/-- WRITE is granted to the role (R503). -/
def roleWrites (role idx : Nat) : Bool :=
  if role = 2 ∨ role = 5 then true
  else decide (0x8000 ≤ idx ∧ idx ≤ 0x8FFF) || (role == 3 && decide (0x2000 ≤ idx ∧ idx ≤ 0x28FF))

def isSoft (idx : Nat) : Bool := decide (0x8000 ≤ idx ∧ idx ≤ 0x8FFF)

def softAddr (e : Nat) : Nat := 0x1430000 + 0x1000 * e

/-- A soft request (R512): the lowest free entry, HST_SOFTPEND, E0648. -/
def softRequest (s : State) (k : Fin 8) (seq : BitVec 32) (op : Byte) (idx sub flags off len : Nat) (data : List Byte) : Reply :=
  match (List.finRange 32).find? fun e => !(s.hosts.soft.any fun x => x.entry == e) with
  | none => done s 0x000F []
  | some e =>
    let n := s.hosts.softCount + 1
    let hd := [BitVec.ofNat 8 k.val, op, BitVec.ofNat 8 (sess s k).role, BitVec.ofNat 8 flags] ++ bytesLE 2 idx
      ++ [BitVec.ofNat 8 sub, 0] ++ bytesLE 4 off ++ bytesLE 2 len ++ [0, 0] ++ bytesLE 4 n.toNat
    let s := hostWrite (hostWrite s (softAddr e.val) hd) (softAddr e.val + 0x20) data
    let s := s.upHosts fun h =>
      { h with softCount := n, soft := h.soft ++ [{ entry := e, sess := some k, seq := seq, op := op }],
               softLate := h.softLate.filter fun x => x != e }
    ⟨pulse s 648, none⟩

/-- Firmware objects are accepted (R653). -/
def firmwareMode (s : State) : Bool := modeOf s == 1 || modeOf s == 4 || bitOf (s.rd Adr.tstStat) 30

/-- Check 6 of R733 on a READ or DESCRIBE: the firmware objects are accepted in these modes only (R653). -/
def modeReads (s : State) (idx : Nat) : Bool := idx != 0x1110 || firmwareMode s

/-- Check 6 of R733 on a WRITE: the object's chapter restricts the mode (R627, R653). -/
def modeAllows (s : State) (idx : Nat) : Bool :=
  if idx = 0x2010 then ackOk s else if idx = 0x1110 then firmwareMode s else true

/-- A READ (R505). -/
def readObject (s : State) (k : Fin 8) (seq : BitVec 32) (pl : List Byte) : Reply :=
  let idx := beAt pl 0 2
  let sub := beAt pl 2 1
  let off := beAt pl 4 4
  let max := beAt pl 8 2
  if pl.length ≠ 12 ∨ beAt pl 3 1 ≠ 0 ∨ beAt pl 10 2 ≠ 0 ∨ max = 0 ∨ 1400 < max then done s 0x000D []
  else if isSoft idx then softRequest s k seq 0x10 idx sub 0 off max []
  else
    match objInfo idx sub with
    | .error c => done s c []
    | .ok i =>
      if i.acc = 2 then done s 0x0003 []
      else if !modeReads s idx then done s 0x0008 []
      else
        let total := if idx = 0x6F00 then 512 else objLength s idx sub i
        if total < off then done s 0x000B []
        else
          let n := Nat.min max (total - off)
          let head := [BitVec.ofNat 8 i.ty, BitVec.ofNat 8 i.acc, 0, 0] ++ bytesBE 4 total
          if idx = 0x6F00 then done (countRecap s) 0 (head ++ sliceOf (recapOctets s true) off n)
          else done (objTouch s idx sub off n) 0 (head ++ objSlice s idx sub i off n)

/-- The firmware slot not booted; with none booted, the one PREF does not name (DESIGN CHOICE, log 25). -/
def spareSlotB (b : Boot) : Bool := if b.anyBooted then !b.bootedB else !prefB b

def spareImage (b : Boot) : List Byte := if spareSlotB b then b.fwB else b.fwA
def putSpare (b : Boot) (l : List Byte) : Boot := if spareSlotB b then { b with fwB := l } else { b with fwA := l }

/-- A slot that 0x1110.03 may name (R653). -/
def prefOk (b : Boot) (v : Nat) : Bool :=
  decide (v ≤ 1) && ((b.anyBooted && decide (v = b.bootedB.toNat)) || (b.imgState == 2 && decide (v = (spareSlotB b).toNat)))

/-- A value that has passed its checks takes effect (R505, R509, R627, R654). -/
def putObject (s : State) (idx sub : Nat) (bs : List Byte) : State :=
  if idx = 0x2010 then armPermit s 2
  else if idx = 0x1110 then writeHeader s (natBE bs)
  else objPut s idx sub bs

def build (s : State) (k : Fin 8) (b : Option (Nat × List Byte)) : State := s.upSess k fun x => { x with building := b }

/-- A segment of a firmware image (R653): erased at OFFSET 0, checked under R651 after LAST. -/
def writeImage (s : State) (k : Fin 8) (off : Nat) (last : Bool) (data : List Byte) : Reply :=
  let key := objKey 0x1110 1
  let mine := match (sess s k).building with | some (x, _) => x == key | none => false
  if s.hosts.job.isSome || s.boot.imgWriting || (imageBusy s && !mine) then done s 0x000F []
  else if off ≠ 0 ∧ (!mine ∨ off ≠ (spareImage s.boot).length) then done (build s k none) 0x000B []
  else if SerialRegion.fwA.size < off + data.length then done s 0x0005 []
  else
    let s := s.upBoot fun b =>
      { putSpare b ((if off = 0 then [] else spareImage b) ++ data) with imgState := 1, imgWriting := last }
    done (build s k (if last then none else some (key, []))) 0 []

/-- The value a segment builds on; none where the segment is at a wrong offset (R505). -/
def segmentBase (x : Session) (key off : Nat) : Option (List Byte) :=
  if off = 0 then some []
  else
    match x.building with
    | some (k, l) => if k = key ∧ l.length = off then some l else none
    | none => none

/-- A WRITE (R505, R733). A scalar that is not written whole receives 0x000B (DESIGN CHOICE, log 25). -/
def writeObject (s : State) (k : Fin 8) (seq : BitVec 32) (pl : List Byte) : Reply :=
  let idx := beAt pl 0 2
  let sub := beAt pl 2 1
  let flags := beAt pl 3 1
  let off := beAt pl 4 4
  let data := pl.drop 8
  let last := flags % 2 == 1
  let role := (sess s k).role
  if pl.length < 8 ∨ 1 < flags then done s 0x000D []
  else if isSoft idx then
    if roleWrites role idx then softRequest s k seq 0x11 idx sub flags off data.length data else done s 0x0004 []
  else
    match objInfo idx sub with
    | .error c => done s c []
    | .ok i =>
      if i.acc = 0 then done s 0x0003 []
      else if i.acc = 3 then done s 0x0007 []
      else if !roleWrites role idx then done s 0x0004 []
      else if !modeAllows s idx then done s 0x0008 []
      else if idx = 0x1110 ∧ sub = 1 then writeImage s k off last data
      else if idx = 0x1110 ∧ (storeBusy s ∨ s.boot.headerWrite.isSome) then done s 0x000F []
      else if tySize i.ty ≠ 0 ∧ (off ≠ 0 ∨ !last) then done s 0x000B []
      else
        match segmentBase (sess s k) (objKey idx sub) off with
        | none => done (build s k none) 0x000B []
        | some l =>
          let v := l ++ data
          if !last then
            if i.max < v.length then done s 0x0005 [] else done (build s k (some (objKey idx sub, v))) 0 []
          else if !lengthOk idx i v.length then done s 0x0005 []
          else if idx = 0x1110 then
            if prefOk s.boot (natBE v) then done (putObject (build s k none) idx sub v) 0 [] else done s 0x0006 []
          else if !valueOk idx sub v || (i.ty == tyBool && decide (1 < natBE v)) then done s 0x0006 []
          else done (putObject (build s k none) idx sub v) 0 []

/-- A DESCRIBE (R504). -/
def describeObject (s : State) (k : Fin 8) (seq : BitVec 32) (pl : List Byte) : Reply :=
  let idx := beAt pl 0 2
  let sub := beAt pl 2 1
  if pl.length ≠ 4 ∨ beAt pl 3 1 ≠ 0 then done s 0x000D []
  else if isSoft idx then softRequest s k seq 0x12 idx sub 0 0 0 []
  else
    match objInfo idx sub with
    | .error c => done s c []
    | .ok i => if !modeReads s idx then done s 0x0008 [] else done s 0 ([BitVec.ofNat 8 i.ty, BitVec.ofNat 8 i.acc, BitVec.ofNat 8 i.keep, 0] ++ bytesBE 4 i.max)

/-- A STORE (R503, R504, R657). -/
def storeRequest (s : State) (k : Fin 8) (seq : BitVec 32) (pl : List Byte) : Reply :=
  let r := (sess s k).role
  if !pl.isEmpty then done s 0x000D []
  else if !(r == 2 || r == 3 || r == 5) then done s 0x0004 []
  else if storeBusy s then done s 0x000F []
  else ⟨startJob s (some k) seq 0x20 none [] false, none⟩

/-! ### Proposals of sessions (R525 to R531) -/

/-- A PROPOSE. -/
def proposeRequest (s : State) (k : Fin 8) (pl : List Byte) : Reply :=
  let n := beAt pl 4 2
  let party := beAt pl 3 1
  let x := sess s k
  if pl.length < 8 ∨ pl.length ≠ 8 + n ∨ 1 < party ∨ beAt pl 6 2 ≠ 0 then done s 0x000D []
  else
    let idx := beAt pl 0 2
    let sub := beAt pl 2 1
    match checkProposal s (.session k) x.cred idx sub party (pl.drop 8) with
    | .error c => done s c []
    | .ok j =>
      let s := acceptProposal s j (.session k) x.cred idx sub party (pl.drop 8)
      let tag := match s.lcs.slots[j] with | some p => p.tag.toNat | none => 0
      done s 0 ([BitVec.ofNat 8 j.val, 0, 0, 0] ++ bytesBE 4 (proposalMs s) ++ bytesBE 8 tag)

/-- SLOT and TAG of a COUNTERSIGN or WITHDRAW; none for a malformed payload. -/
def slotTag (pl : List Byte) : Option (Nat × Nat) :=
  if pl.length = 12 ∧ beAt pl 1 3 = 0 then some (beAt pl 0 1, beAt pl 4 8) else none

def pendingSlot (s : State) (n : Nat) : Option (Fin 8 × Proposal) :=
  if h : n < 8 then
    match s.lcs.slots[(⟨n, h⟩ : Fin 8)] with
    | some p => if p.applying then none else some (⟨n, h⟩, p)
    | none => none
  else none

/-- The checks of R529 in order, after the grant of R503: a status, or none where all pass. -/
def countersignRefusal (s : State) (k : Fin 8) (p : Proposal) (tag : Nat) : Option Nat :=
  let x := sess s k
  if p.tag.toNat ≠ tag then some 0x0013
  else if p.party ≠ 0 then some 0x001A
  else if (match p.proposer with | .session _ => p.cred.toNat == x.cred | .triad _ => false) then some 0x0014
  else
    match targetOf p.index.toNat p.sub.toNat with
    | none => some 0x0010
    | some t =>
      if !mayCountersign s t p.proposer x.role then some 0x0010
      else if t == .lifeCycle && !lcMode s then some 0x0008
      else none

/-- A COUNTERSIGN. -/
def countersignRequest (s : State) (k : Fin 8) (seq : BitVec 32) (pl : List Byte) : Reply :=
  match slotTag pl with
  | none => done s 0x000D []
  | some (n, tag) =>
    if (sess s k).role = 1 then done s 0x0004 []
    else
      match pendingSlot s n with
      | none => done s 0x0012 []
      | some (j, p) =>
        match countersignRefusal s k p tag with
        | some c => done s c []
        | none =>
          let (s, c) := approve s j (some (k, seq))
          match c with
          | some c => done s c []
          | none => ⟨s, none⟩

/-- A WITHDRAW (R531). -/
def withdrawRequest (s : State) (k : Fin 8) (pl : List Byte) : Reply :=
  match slotTag pl with
  | none => done s 0x000D []
  | some (n, tag) =>
    match pendingSlot s n with
    | none => done s 0x0012 []
    | some (j, p) =>
      if p.tag.toNat ≠ tag then done s 0x0013 []
      else if p.proposer ≠ .session k then done s 0x0019 []
      else done (freeSlot s j 2) 0 []

/-! ### The engine (R497, R498) -/

/-- Executes an accepted request (R504). -/
def execRequest (s : State) (k : Fin 8) (seq : BitVec 32) (op : Byte) (pl : List Byte) : Reply :=
  match op.toNat with
  | 0x02 => done s (if pl.isEmpty then 0 else 0x000D) []
  | 0x03 => done s (if pl.isEmpty then 0 else 0x000D) []
  | 0x10 => readObject s k seq pl
  | 0x11 => writeObject s k seq pl
  | 0x12 => describeObject s k seq pl
  | 0x20 => storeRequest s k seq pl
  | 0x30 => proposeRequest s k pl
  | 0x31 => countersignRequest s k seq pl
  | 0x32 => withdrawRequest s k pl
  | _ => done s 0x000C []

/-- A request is executed and answered under the key it came with, which its effect may wipe (R537); a CLOSE closes its session after the response (R502). -/
def runRequest (s : State) (k : Fin 8) (seq : BitVec 32) (op : Byte) (pl : List Byte) : State :=
  let r := execRequest (s.upSess k fun x => { x with executing := some seq }) k seq op pl
  match r.answer with
  | none => r.state
  | some (c, p) =>
    let t := answerUnder r.state k (sess s k).key seq op c p
    if op = 0x02 ∧ c = 0 then closeSession t k else t

/-- The requests that wait are executed while none is in progress (R498). -/
def drain : Nat → State → Fin 8 → State
  | 0, s, _ => s
  | n + 1, s, k =>
    if (sess s k).executing.isSome then s
    else
      match (sess s k).waiting with
      | [] => s
      | (op, m) :: t => drain n (runRequest (s.upSess k fun x => { x with waiting := t }) k m.seq op m.payload) k

/-- A deferred response, and what waited behind it. -/
def answerLate (s : State) (k : Fin 8) (seq : BitVec 32) (op : Byte) (status : Nat) (payload : List Byte) : State :=
  drain 4 (answer s k seq op status payload) k

/-- A request whose tag is good, by its SEQ (R497). -/
def bySeq (s : State) (k : Fin 8) (op : Byte) (m : AopMsg) : State :=
  let x := sess s k
  let back := (x.last - m.seq).toNat
  let waits := x.executing == some m.seq || x.waiting.any fun w => w.2.seq == m.seq
  if m.seq = x.last + 1 then
    if x.executing.isSome then
      if x.waiting.length < 4 then s.upSess k fun x => { x with last := m.seq, waiting := x.waiting ++ [(op, m)] }
      else discard s k.val false
    else drain 4 (runRequest (s.upSess k fun x => { x with last := m.seq }) k m.seq op m.payload) k
  else
    match if back ≤ 3 then x.held.lookup m.seq else none with
    | some r => match x.via with | some v => send s v r | none => s
    | none => if back ≤ 3 && waits then s else s.up (Adr.hstSess k) fun w => satField w 15 0

/-- A message other than OPEN (R496). -/
def sessionMessage (s : State) (via : HostVia) (op : Byte) (m : AopMsg) : State :=
  let n := m.sess.toNat
  if h : n < 8 then
    let k : Fin 8 := ⟨n, h⟩
    let x := sess s k
    if !headerOk m || !x.isOpen || x.via != some via then discard s n false
    else if !tagOk x.key op m then discard s n true
    else bySeq (s.upSess k fun x => { x with tagFails := 0 }) k op m
  else discard s n false

/-! ### OPEN (R499 to R501) -/

/-- The open session that a valid OPEN closes first: the one of its port, or of its address and UDP port (R501). -/
def openFormer (s : State) (via : HostVia) : Option (Fin 8) :=
  (List.finRange 8).find? fun k => (sess s k).isOpen && (sess s k).via == some via

/-- The session an OPEN takes: H0 or H1 on a ring, on M0 the lowest free one; the former session counts as free (R501). -/
def openTarget (s : State) (via : HostVia) : Option (Fin 8) :=
  match via with
  | .ring p => some ⟨p.val, by omega⟩
  | .m0 _ _ => (List.finRange 8).find? fun k => decide (2 ≤ k.val) && (!(sess s k).isOpen || openFormer s via == some k)

/-- DNONCE: 16 octets of the random bit generator, free values, after which its state is another (R500, R540). -/
def drawNonce (s : State) : State × List Byte :=
  let (a, s) := s.draw
  let (b, s) := s.draw
  let (c, s) := s.draw
  (s.upLcs fun l => { l with rbg := Config.rbgAfter c }, bytesBE 8 a.toNat ++ bytesBE 8 b.toNat)

/-- An accepted OPEN; the session key lies in the secure region (R540). -/
def openSession (s : State) (via : HostVia) (k : Fin 8) (cred : Nat) (c : Cred) (pl : List Byte) : State :=
  let (s, dn) := drawNonce s
  let key := hmac c.key (ascii "AOP1" ++ pl.drop 4 ++ dn ++ [BitVec.ofNat 8 k.val])
  let s := s.upSess k fun _ =>
    { isOpen := true, role := c.role, cred := cred, key := [], last := 0, held := [], executing := none, tagFails := 0,
      tagFailTotal := 0, building := none, via := some via, waiting := [] }
  let s := pulse (genUp (s.wr (Adr.hstSess k) 0) 4) (640 + k.val)
  answerUnder (secureWrite s (.key k key)) k key 0 0x01 0 ([BitVec.ofNat 8 k.val, BitVec.ofNat 8 c.role] ++ bytesBE 2 (field (s.rd Adr.hstCtl) 15 0) ++ dn
    ++ bytesBE 4 (resetsCount s))

/-- An OPEN is discarded (R496, R499, R541). -/
def openDiscarded (s : State) (via : HostVia) (m : AopMsg) : Bool :=
  let cred := beAt m.payload 0 2
  let c := credOf s cred
  !headerOk m || (match via with | .ring p => m.sess.toNat != p.val | .m0 _ _ => m.sess != 0xFF) || m.seq != 0
  || decide (32 ≤ cred) || !c.enabled || s.lcs.tamperN || !tagOk c.key 0x01 m

def openMessage (s : State) (via : HostVia) (m : AopMsg) : State :=
  if openDiscarded s via m then discard s m.sess.toNat false
  else
    let cred := beAt m.payload 0 2
    let c := credOf s cred
    let refuse (code : Nat) : State := send s via (tagged c.key (msgOctets 0x12 0x01 m.sess 0 code []))
    if m.payload.length ≠ 20 ∨ beAt m.payload 3 1 ≠ 0 then refuse 0x000D
    else if beAt m.payload 2 1 ≠ c.role then refuse 0x0004
    else
      match openTarget s via with
      | none => refuse 0x0009
      | some k =>
        openSession (match openFormer s via with | some f => closeSession s f | none => s) via k cred c m.payload

/-! ### Messages arrive -/

/-- The session whose requests a ring carries. -/
def ringSess (p : Fin 2) : Fin 8 := ⟨p.val, by omega⟩

/-- The engine takes the next slot of a ring (R492): while the session's request executes, only an OPEN, which replaces
the session (R498, R501, R517; log 25). -/
def ringTakes (s : State) (p : Fin 2) (op : Byte) : Bool :=
  ringReady s p && rqProdOf s p != rqConsOf s p && (rsProdOf s p + 1) % 16 != rsConsOf s p
  && ((sess s (ringSess p)).executing == none || op == 0x01)

def takeRing (s : State) (p : Fin 2) (op : Byte) (m : AopMsg) : State :=
  let i := rqConsOf s p
  hostPut (hostWrite s (ringBase p + 0x800 + 0x800 * i) ((slotOctets (reqOctets op m ++ m.tag)).take 0x800)) (ringBase p + 4) 4 ((i + 1) % 15)

/-- An OPEN in RETIRED, once the boot has ended there: it is discarded (R536). -/
def openInRetired (s : State) (op : Byte) : Bool :=
  op == 0x01 && lcState s == 3 && modeOf s != 5 && bitOf (s.rd Adr.tstStat) 30

/-- The link-local address formed from the station address (PRESUMED: RFC 4291, log 25). -/
def linkLocal : BitVec 128 :=
  let m := Config.fuseMac.toNat
  BitVec.ofNat 128 (0xFE80 * 2 ^ 112 + (((m / 2 ^ 24) ^^^ 0x020000) * 2 ^ 40 + 0xFFFE * 2 ^ 24 + m % 2 ^ 24))

/-- M0 owns an address. -/
def m0Owns (s : State) (v6 : Bool) (a : BitVec 128) : Bool :=
  if v6 then a == linkLocal || (s.hosts.ip6 != 0 && a == s.hosts.ip6)
  else s.hosts.ip4 != 0 && a == s.hosts.ip4.setWidth 128

/-- M0 accepts a datagram to the AOP port of an address it owns, and drops every other (R487). -/
def m0Accepts (s : State) (d : Datagram) : Bool :=
  d.kind == .udp && m0Owns s d.v6 d.dst && d.port == s.hosts.udp

/-- The next approvals that wait are made while no STORE runs, each answered when its change has taken effect, under the
key of the session as it was before (R529, R533, R537). -/
def nextApproval : Nat → State → State
  | 0, s => s
  | n + 1, s =>
    if storeBusy s then s
    else
      match s.lcs.waiting with
      | [] => s
      | (k, who) :: t =>
        let r := applyNow (s.upLcs fun l => { l with waiting := t }) k who
        match r.2, who with
        | some c, some (q, seq) => nextApproval n (drain 4 (answerUnder r.1 q (sess s q).key seq 0x31 c []) q)
        | _, _ => nextApproval n r.1

/-- What has waited for the end of a STORE or an image write goes on (R533, R657). -/
def approvalsGoOn (s : State) : State := nextApproval 8 s

/-- An AOP message reaches the engine: the slot at RQ_CONS of a ring, or a datagram for M0. -/
def aopMessage (via : HostVia) (op : Byte) (m : AopMsg) (s : State) : State :=
  if !engineUp s then (if openInRetired s op then discard s m.sess.toNat false else s)
  else
    let go (s : State) : State := approvalsGoOn (if op = 0x01 then openMessage s via m else sessionMessage s via op m)
    match via with
    | .ring p =>
      if ringTakes s p op then go (takeRing (hostTouch s (ringBase p) 20) p op m) else hostTouch s (ringBase p) 20
    | .m0 _ _ => if m0Accepts s m.dgram then go s else s

/-- An AOP row; a message with lengths that none can have breaks R494 and is discarded like any other (R485, R496). -/
def aopCommand (via : HostVia) (op : Byte) (m : AopMsg) (s : State) : Host.Outcome State Fault Refusal :=
  .next (aopMessage via op m s)

def execAopOpen (via : HostVia) (m : AopMsg) (s : State) : Host.Outcome State Fault Refusal := aopCommand via 0x01 m s
def execAopClose (via : HostVia) (m : AopMsg) (s : State) : Host.Outcome State Fault Refusal := aopCommand via 0x02 m s
def execAopPing (via : HostVia) (m : AopMsg) (s : State) : Host.Outcome State Fault Refusal := aopCommand via 0x03 m s
def execAopRead (via : HostVia) (m : AopMsg) (s : State) : Host.Outcome State Fault Refusal := aopCommand via 0x10 m s
def execAopWrite (via : HostVia) (m : AopMsg) (s : State) : Host.Outcome State Fault Refusal := aopCommand via 0x11 m s
def execAopDescribe (via : HostVia) (m : AopMsg) (s : State) : Host.Outcome State Fault Refusal := aopCommand via 0x12 m s
def execAopStore (via : HostVia) (m : AopMsg) (s : State) : Host.Outcome State Fault Refusal := aopCommand via 0x20 m s
def execAopPropose (via : HostVia) (m : AopMsg) (s : State) : Host.Outcome State Fault Refusal := aopCommand via 0x30 m s
def execAopCountersign (via : HostVia) (m : AopMsg) (s : State) : Host.Outcome State Fault Refusal := aopCommand via 0x31 m s
def execAopWithdraw (via : HostVia) (m : AopMsg) (s : State) : Host.Outcome State Fault Refusal := aopCommand via 0x32 m s

/-! ### Further traffic of M0 (R487) -/

/-- A reply of M0 outside AOP. -/
def m0Reply (s : State) (v6 : Bool) (target src : BitVec 128) (o : List Byte) : State :=
  if engineUp s && m0Owns s v6 target then send s (.m0 src 0) o else s

/-- ARP: answered with the station address; what fits into no frame is not received (log 5). -/
def execArp (v6 : Bool) (target src : BitVec 128) (payload : List Byte) (s : State) : Host.Outcome State Fault Refusal :=
  .next (if frameFits payload then m0Reply s v6 target src (bytesBE 6 Config.fuseMac.toNat) else s)

/-- ECHO_REQUEST: the payload goes back. -/
def execEchoRequest (v6 : Bool) (target src : BitVec 128) (payload : List Byte) (s : State) :
    Host.Outcome State Fault Refusal :=
  .next (if frameFits payload then m0Reply s v6 target src payload else s)

/-! ### Soft answers (R512, R513) -/

def freeSoft (s : State) (e : Fin 32) : State := s.upHosts fun h => { h with soft := h.soft.filter fun x => x.entry != e }

/-- A status that a response may carry (R506, R542). -/
def statusListed (c : Nat) : Bool :=
  decide (c ≤ 0x17) || c == 0x19 || c == 0x1A || decide (0x8000 ≤ c)

/-- A server's status that the engine never sends becomes 0x000A (DESIGN CHOICE, log 25; R506, R542). -/
def softStatus (c : Nat) : Nat := if statusListed c then c else 0x000A

/-- The payload of the response, from the server's answer in the entry. -/
def softPayload (s : State) (op : Byte) (a : Nat) : List Byte :=
  let byte (o : Nat) : Byte := BitVec.ofNat 8 (hostNat s (a + o) 1)
  let ty := byte 0x602
  let acc := byte 0x603
  let n := Nat.min (hostNat s (a + 0x608) 2) 1400
  match op.toNat with
  | 0x10 => [ty, acc, 0, 0] ++ bytesBE 4 (hostNat s (a + 0x604) 4) ++ hostOctets s (a + 0x610) n
  | 0x12 => [ty, acc, byte 0x60A, 0] ++ bytesBE 4 (hostNat s (a + 0x60C) 4)
  | _ => []

/-- HST_SOFTDONE. -/
def softDone (s : State) (w : TriadId) (e : Fin 32) : State :=
  if field (s.rd Adr.hstSoftcfg) 18 16 ≠ w.val then s.setBitR Adr.hstStat 2
  else
    match s.hosts.soft.find? fun x => x.entry == e with
    | some x =>
      let a := softAddr e.val
      let s := freeSoft s e
      match x.sess with
      | some k =>
        let n := if x.op = 0x10 then Nat.min (hostNat s (a + 0x608) 2) 1400 else 0
        answerLate (hostTouch s (a + 0x600) (16 + n)) k x.seq x.op (softStatus (hostNat s (a + 0x600) 2)) (softPayload s x.op a)
      | none => s
    | none =>
      if s.hosts.softLate.contains e then
        pulse ((s.setBitR Adr.hstStat 1).upHosts fun h => { h with softLate := h.softLate.filter fun x => x != e }) 649
      else s.setBitR Adr.hstStat 2

def execHstSoftdone (w : TriadId) (entry : Fin 32) (s : State) : Host.Outcome State Fault Refusal :=
  .next (softDone s w entry)

/-- SOFT_TIMEOUT. -/
def softTimeout (s : State) (e : Fin 32) : State :=
  match s.hosts.soft.find? fun x => x.entry == e with
  | some x =>
    let s := (freeSoft s e).upHosts fun h => { h with softLate := e :: h.softLate.filter fun x => x != e }
    match x.sess with
    | some k => answerLate s k x.seq x.op 0x000A []
    | none => s
  | none => s

def execSoftTimeout (entry : Fin 32) (s : State) : Host.Outcome State Fault Refusal := .next (softTimeout s entry)

/-- HST_SOFTPEND and HST_SESSs_STAT as read. -/
def softpendView (s : State) : Word := BitVec.ofNat 64 ((s.hosts.soft.map fun x => 2 ^ x.entry.val).sum)

def sessView (s : State) (k : Fin 8) : Word :=
  let x := sess s k
  (s.rd (Adr.hstSess k)) ||| b2w x.isOpen 63 ||| BitVec.ofNat 64 (x.role * 2 ^ 56 + x.cred * 2 ^ 32)

/-! ### STORE ends (R656) -/

/-- The wrapping key of the state that holds (R538). -/
def wrappingKey (s : State) : List Byte :=
  hmac (bytesBE 32 Config.fuseDevSecret.toNat) (ascii "KEK1" ++ [BitVec.ofNat 8 (lcState s)])

/-- The octets of a credential that are wrapped: key, role, enable and six zeros (R539, R540; log 25). -/
def credPlain (c : Cred) : List Byte := padTo (c.key.take 32) 32 ++ [BitVec.ofNat 8 c.role, BitVec.ofNat 8 c.enabled.toNat] ++ List.replicate 6 0

/-- The wrapped copy of a credential that an approval's STORE has written (R539; log 25). -/
def wrapApproved (s : State) (j : StoreJob) : State :=
  match j.slot with
  | none => s
  | some k =>
    match s.lcs.slots[k] with
    | none => s
    | some p =>
      match targetOf p.index.toNat p.sub.toNat with
      | some (.cred n) =>
        let o := keyWrap (wrappingKey s) (credPlain (credFrom p.plain))
        s.upLcs fun l => { l with wrapped := (n, o) :: l.wrapped.filter fun x => decide (x.1 ≠ n) }
      | _ => s

/-- The slot of an approval's STORE is freed; a failed one gives the target its former value back (R529). -/
def settleApproval (s : State) (j : StoreJob) (ok : Bool) : State :=
  match j.slot with
  | none => s
  | some k =>
    match s.lcs.slots[k] with
    | none => s
    | some p =>
      if ok then freeSlot s k 1
      else
        let s := freeSlot (putStored s p j.former) k 3
        match p.proposer with
        | .triad t => s.up (Adr.lcsPres t) fun w => setField w 47 32 0x000E
        | .session _ => s

/-- STORE_DONE. -/
def storeDone (s : State) (ok : Bool) : State :=
  match s.hosts.job with
  | none => s
  | some j =>
    let s := s.upHosts fun h => { h with job := none, storeState := if ok then 2 else 3 }
    let s :=
      if ok then
        let s := s.upHosts fun h => { h with storesDone := h.storesDone + 1 }
        pulse (genUp (wrapApproved (s.upBoot fun b => storeSlot b j.captured) j) 0) 651
      else s
    let s := settleApproval s j ok
    let s := match j.sess with
      | some k => if j.silent then s else answerLate s k j.seq j.op (if ok then 0 else 0x000E) []
      | none => s
    approvalsGoOn s

def execStoreDone (ok : Bool) (s : State) : Host.Outcome State Fault Refusal := .next (storeDone s ok)

/-! ### Sessions and links end -/

def execSessionIdleTimeout (k : Fin 8) (s : State) : Host.Outcome State Fault Refusal :=
  .next (approvalsGoOn (closeSession s k))

/-- TAMPER (R541): the wipe, the sessions, the proposals, the report. Cause 2 is TAMPER_N. -/
def tamper (s : State) (cause : BitVec 4) : State :=
  if 2 ≤ cause.toNat ∧ cause.toNat ≤ 5 then
    let s := if cause = 2 then s.upLcs fun l => { l with tamperN := true } else s
    let s := closeAll (wipeRegion s cause.toNat)
    approvalsGoOn (report (recordTamper s cause.toNat) 165 0)
  else s

def execTamper (cause : BitVec 4) (s : State) : Host.Outcome State Fault Refusal := .next (tamper s cause)

/-- The ring header cleared, READY as the engine runs (R492). -/
def clearRing (s : State) (p : Fin 2) : State :=
  hostPut (hostWrite s (ringBase p) (List.replicate 64 0)) (ringBase p + 16) 4 (engineUp s).toNat

/-- PCIE_LINK_DOWN (R492, R502). -/
def pcieDown (s : State) (p : Fin 2) : State :=
  if pcieLink s p then
    let s := s.up (Adr.hstPstat p) fun w => satField (setField (setField (putBit w 31 false) 30 28 0) 26 24 0) 15 0
    let s := s.upPcie p fun f => { PcieFunction.reset with signalled := f.signalled }
    approvalsGoOn (closeSession (clearRing s p) (ringSess p))
  else s

def execPcieLinkDown (p : Fin 2) (s : State) : Host.Outcome State Fault Refusal := .next (pcieDown s p)

/-- A port trains at x1, x2 or x4 and at a generation up to that of object 0x1230 + p .02, as the boot loaded it (R489,
R510). -/
def trainsAt (s : State) (p : Fin 2) (gen : BitVec 3) (width : BitVec 3) : Bool :=
  decide (1 ≤ gen.toNat ∧ gen.toNat ≤ s.hosts.pcieGen[p].toNat ∧ (width = 1 ∨ width = 2 ∨ width = 4))

/-- PCIE_LINK_UP (R489, R492); the host then configures the function, whose BAR0 lies at a multiple of its size. -/
def pcieUp (s : State) (p : Fin 2) (gen : BitVec 3) (x : PcieSetup) : State :=
  if !trainsAt s p gen x.width || !serdesUp s then s
  else
  let s := s.up (Adr.hstPstat p) fun w => setField (setField (putBit w 31 true) 30 28 gen.toNat) 26 24 x.width.toNat
  let s := s.upPcie p fun f => { f with bar0 := x.bar0 &&& 0xFFFF0000, msi := x.msi }
  if engineUp s then hostPut s (ringBase p + 16) 4 1 else s

def execPcieLinkUp (p : Fin 2) (gen : BitVec 3) (width : PcieSetup) (s : State) : Host.Outcome State Fault Refusal :=
  .next (pcieUp s p gen width)

end Sys2Proof.Machine
end

