-- ==== Sys2Proof/Machine/Trace.lean ====
section
/-! DEFINITION. Event counters and retirement trace (R682 to R696), and their commands. -/

namespace Sys2Proof.Machine

/-! ### Counters of class C (R691) -/

/-- k events of class C in the open clause (R691). -/
def Triad.countC (x : Triad) (code k : Nat) : Triad :=
  let key := code * 4 + x.priv
  let n := (x.counts.lookup key).getD 0 + k
  { x with counts := (key, n) :: x.counts.filter fun p => decide (p.1 ≠ key) }

/-- The class C counts of a clause that commits (R691). -/
def commitCounts (s : State) (t : TriadId) (l : List (Nat × Nat)) : State :=
  l.foldl (fun s p => countAt s t (p.1 / 4) (p.1 % 4) p.2) s

/-! ### Trace entries (R682 to R685) -/

/-- A retirement record in its 32 bytes (R201). -/
def recOctets (r : Rec) : List Byte :=
  bytesLE 8 r.pc.toNat ++ bytesLE 8 r.addr.toNat ++ bytesLE 8 r.val.toNat ++ [r.kind, r.dest, r.size, r.slot, 0, 0, 0, 0]

/-- A trace entry in its 32 bytes (R683). -/
def traceOctets (e : Rec × TriadId × LaneId) : List Byte :=
  (recOctets e.1).take 28 ++ [BitVec.ofNat 8 (e.2.1.val + 8 * e.2.2.val), 0, 0, 0]

/-- A record of hardware that only trace forms. -/
def traceRec (kind : Byte) (addr val : Word) : Rec := ⟨0, addr, val, kind, 0, 0, 0⟩

/-- Whether TRC_TCFGt selects a record; MEM and REG are off in FIELD (R684, R696). -/
def traceSelects (s : State) (t : TriadId) (kind : Byte) : Bool :=
  let c := s.rd (Adr.trcTcfg t.val)
  let field := lcState s == 2
  let k := kind.toNat
  if k = 0x08 ∨ k = 0x0A ∨ k = 0x0B ∨ k = 0x0C then bitOf c 0
  else if k = 0x06 ∨ k = 0x07 then bitOf c 1 && !field
  else if k = 0x20 then bitOf c 3
  else if k = 0x10 then false
  else bitOf c 2 && !field

/-- The trace unit is enabled and has a destination (R686; log 27). -/
def traceOn (s : State) : Bool := bitOf (s.rd Adr.trcCtl) 0 && field (s.rd Adr.trcCtl) 2 1 != 0

/-- Entries join the FIFO of their triad, behind all that committed before them (R683, R685). -/
def traceJoin (s : State) (t : TriadId) (es : List (Rec × TriadId × LaneId)) : State :=
  let s := s.setTriad t fun x => { x with trace := x.trace ++ es, traceDrop := 0 }
  { s with sys := { s.sys with traceOrder := s.sys.traceOrder ++ es.map fun _ => t } }

/-- One entry into the FIFO of its triad: dropped and counted where it is full, preceded by LOST after a drop (R685). -/
def traceAdd (s : State) (t : TriadId) (l : LaneId) (r : Rec) : State :=
  let x := s.tri t
  let need := if x.traceDrop = 0 then 1 else 2
  if 256 < x.trace.length + need then
    let s := s.up (Adr.trcLost t.val) fun w => satField w 31 0
    let s := s.setTriad t fun x =>
      { x with traceDrop := x.traceDrop + 1, traceDropTime := if x.traceDrop = 0 then now s else x.traceDropTime }
    countL s t 0x4E 1
  else
    let lost := traceRec 0x21 (BitVec.ofNat 64 x.traceDrop) x.traceDropTime
    countL (traceJoin s t ((if x.traceDrop = 0 then [] else [(lost, t, l)]) ++ [(r, t, l)])) t 0x4D 1

/-- What a commit emits: the selected records of the chosen column, then one CLAUSE entry (R682, R684). -/
def traceCommit (s : State) (t : TriadId) (l : LaneId) (recs : List Rec) : State :=
  if traceOn s then
    let all := recs ++ [traceRec 0x20 (s.rd (Adr.cmpSeq t.val)) (now s)]
    (all.filter fun r => traceSelects s t r.kind).foldl (fun s r => traceAdd s t l r) s
  else s

/-! ### Destinations (R686 to R688) -/

/-- The triad whose entry committed first of all that wait, in whose order the port sends (R683). -/
def firstTraced (s : State) : Option TriadId := s.sys.traceOrder.find? fun t => !(s.tri t).trace.isEmpty

/-- The triad after `turn` that has an entry waiting, round-robin, as the buffer drains (R686). -/
def nextTraced (s : State) : Option TriadId :=
  let k := s.sys.traceTurn
  (allTriads.map fun i => i + k + 1).find? fun t => !(s.tri t).trace.isEmpty

/-- An entry into the buffer, and TRC_WPTR behind it (R687). PTR stays where the buffer is full (log 27). -/
def bufferEntry (s : State) (o : List Byte) : State :=
  let w := s.rd Adr.trcWptr
  if bitOf w 30 then s
  else
    let p := field w 14 0
    let s := sramWrite s .fabric (0x1640000 + 32 * p) 0 (enabled o)
    if p < 32767 then s.wr Adr.trcWptr (setField w 14 0 (p + 1))
    else if bitOf (s.rd Adr.trcCtl) 3 then s.wr Adr.trcWptr (putBit (setField w 14 0 0) 31 true)
    else s.wr Adr.trcWptr (putBit w 30 true)

/-- The head entry of a triad's FIFO leaves it. -/
def popTrace (s : State) (t : TriadId) : State :=
  { s.setTriad t (fun x => { x with trace := x.trace.tail }) with
    sys := { s.sys with traceTurn := t, traceOrder := s.sys.traceOrder.erase t } }

/-- TRACE_ENTRY_WRITE: with the buffer as the only destination. A full buffer drains nothing (R687). -/
def traceWrite (s : State) : State :=
  if field (s.rd Adr.trcCtl) 2 1 = 1 ∧ bitOf (s.rd Adr.trcWptr) 30 = false then
    match nextTraced s with
    | some t =>
      match (s.tri t).trace with
      | e :: _ => popTrace (bufferEntry s (traceOctets e)) t
      | [] => s
    | none => s
  else s

def execTraceEntryWrite (s : State) : Host.Outcome State Fault Refusal := .next (s.powered fun s => traceWrite s)

/-- The port sends 32 octets. -/
def portSend (s : State) (o : List Byte) (n : Nat) : State :=
  { s with sys := { s.sys with portLast := o, portCount := n } }

/-- A SYNC entry (R683, R688). -/
def syncOctets (n : Nat) : List Byte :=
  traceOctets (⟨0x53594E4353594E43, BitVec.ofNat 64 n, 0, 0x22, 0, 0, 0⟩, 0, 0)

/-- The port has nothing to take: it is no destination, or the buffer, which receives every entry with it, is full
(R686, R687; log 27). -/
def portIdle (s : State) : Bool :=
  !bitOf (s.rd Adr.trcCtl) 2 || (bitOf (s.rd Adr.trcCtl) 1 && bitOf (s.rd Adr.trcWptr) 30)

/-- TRACE_PORT_SEND: SYNC after 1,024 entries, else the next entry in the order of commits, else an idle one. With both
destinations the entry enters the buffer too, at the port's rate (R683, R686, R688). -/
def traceSend (s : State) : State :=
  if bitOf (s.rd Adr.trcCtl) 4 then
    if portIdle s then portSend s (List.replicate 32 0) s.sys.portCount
    else if 1024 ≤ s.sys.portCount then portSend s (syncOctets s.sys.portCount) 0
    else
      match firstTraced s with
      | some t =>
        match (s.tri t).trace with
        | e :: _ =>
          let s := if bitOf (s.rd Adr.trcCtl) 1 then bufferEntry s (traceOctets e) else s
          portSend (popTrace s t) (traceOctets e) (s.sys.portCount + 1)
        | [] => s
      | none => portSend s (List.replicate 32 0) s.sys.portCount
  else s

def execTracePortSend (s : State) : Host.Outcome State Fault Refusal := .next (s.powered fun s => traceSend s)

/-- The octets that TRC_D carries at the edges of TRC_CLK: none, both pins low, while PEN = 0 (R688). -/
def portPins (s : State) : List Byte := if bitOf (s.rd Adr.trcCtl) 4 then s.sys.portLast else []

/-! ### Writes of TRC registers -/

/-- A write of TRC_CTL; EN := 1 starts the buffer afresh (R687), and PEN = 0 ends what the port sends (R688). -/
def writeTrcCtl (s : State) (v : BitVec 32) : State :=
  let locked := bitOf (s.rd Adr.trcCtl) 31
  let s := s.sw Adr.trcCtl (v.setWidth 64)
  let s := if bitOf (s.rd Adr.trcCtl) 4 then s else { s with sys := { s.sys with portLast := [] } }
  if v.getLsbD 0 && !locked then s.wr Adr.trcWptr 0 else s

/-- TRACE_ENABLE. -/
def execTraceEnable (v : BitVec 32) (s : State) : Host.Outcome State Fault Refusal := .next (writeTrcCtl s v)

/-- A write of TRC_TCFGt: MEM and REG ignore writes in FIELD (R696). -/
def writeTcfg (s : State) (a : Nat) (v : Word) : State := s.sw a (if lcState s = 2 then v &&& ~~~ 6 else v)

/-- COUNTER_WRITE (R694). -/
def counterWrite (s : State) (w t : TriadId) (n : Fin 32) (v : Word) : State :=
  if w = t then s.sw (Adr.trcCnt t.val n.val) v else s

def execCounterWrite (w t : TriadId) (n : Fin 32) (v : Word) (s : State) : Host.Outcome State Fault Refusal :=
  .next (counterWrite s w t n v)

end Sys2Proof.Machine
end

