-- ==== Sys2Proof/Machine/Witik.lean ====
section
/-! DEFINITION. The encoding of Witik instructions (R110 to R137) and the limits of bundles (R59 to R62, R84, R100,
R104, R141). -/

namespace Sys2Proof.Machine

/-- Field [hi:lo] of an instruction word (R8). -/
def ifld (w : BitVec 32) (hi lo : Nat) : Nat := (w.toNat / 2 ^ lo) % 2 ^ (hi + 1 - lo)

def ireg (w : BitVec 32) (lo : Nat) : Reg := BitVec.ofNat 5 (w.toNat / 2 ^ lo)

/-- The E bit (R110). -/
def wordEnds (w : BitVec 32) : Bool := w.getLsbD 31

/-- Major 0x01 (R118). -/
def aluOf (fn : Nat) : Option AluFn :=
  match fn with
  | 0x00 => some .add | 0x01 => some .sub | 0x02 => some .addv | 0x03 => some .subv | 0x04 => some .and
  | 0x05 => some .or | 0x06 => some .xor | 0x07 => some .andn | 0x08 => some .sll | 0x09 => some .srl
  | 0x0A => some .sra | 0x0C => some .slt | 0x0D => some .sltu | 0x0E => some .min | 0x0F => some .max
  | 0x10 => some .minu | 0x11 => some .maxu | 0x12 => some .sxw | 0x13 => some .zxw
  | _ => none

def decAlu (w : BitVec 32) : Option Op :=
  match aluOf (ifld w 5 0) with
  | none => none
  | some fn =>
    let one := fn == .sxw || fn == .zxw
    if ifld w 10 6 ≠ 0 ∨ (one ∧ ifld w 15 11 ≠ 0) then none
    else some (.alu fn (ireg w 21) (ireg w 16) (ireg w 11))

/-- Major 0x02 (R119). -/
def decMul (w : BitVec 32) : Option Op :=
  let rd := ireg w 21
  let r1 := ireg w 16
  let r2 := ireg w 11
  let pOk (r : Reg) : Bool := decide (r.toNat < 4)
  let p (r : Reg) : BitVec 2 := r.setWidth 2
  if ifld w 10 6 ≠ 0 then none
  else
    match ifld w 5 0 with
    | 0x00 => if pOk rd then some (.mul .mul (p rd) r1 r2) else none
    | 0x01 => if pOk rd then some (.mul .mulu (p rd) r1 r2) else none
    | 0x02 => if pOk rd then some (.mul .mac (p rd) r1 r2) else none
    | 0x03 => if pOk rd then some (.mul .macu (p rd) r1 r2) else none
    | 0x04 => if rd = 0 then some (.div true r1 r2) else none
    | 0x05 => if rd = 0 then some (.div false r1 r2) else none
    | 0x08 => if pOk r1 && r2 == 0 then some (.mfp false rd (p r1)) else none
    | 0x09 => if pOk r1 && r2 == 0 then some (.mfp true rd (p r1)) else none
    | 0x0A => if pOk rd then some (.mtp (p rd) r1 r2) else none
    | 0x0C => if r1 = 0 ∧ r2 = 0 then some (.mfq rd false) else none
    | 0x0D => if r1 = 0 ∧ r2 = 0 then some (.mfq rd true) else none
    | _ => none

/-- Major 0x03 (R121): the function and whether RS2 must be zero. -/
def fpOf (fn : Nat) : Option (FpFn × Bool) :=
  match fn with
  | 0x00 => some (.fadd, false) | 0x01 => some (.fsub, false) | 0x02 => some (.fmul, false)
  | 0x03 => some (.fdiv, false) | 0x04 => some (.fsqrt, true) | 0x05 => some (.fma, false)
  | 0x06 => some (.fms, false) | 0x08 => some (.fmin, false) | 0x09 => some (.fmax, false)
  | 0x0A => some (.fneg, true) | 0x0B => some (.fabs, true) | 0x0C => some (.fmv, true)
  | 0x10 => some (.fceq, false) | 0x11 => some (.fclt, false) | 0x12 => some (.fcle, false)
  | 0x14 => some (.fcvtl, true) | 0x16 => some (.fcvtfl, true) | 0x18 => some (.fcvtf, true)
  | 0x1A => some (.fmvgf, true) | 0x1B => some (.fmvfg, true)
  | _ => none

def decFp (w : BitVec 32) : Option Op :=
  match fpOf (ifld w 4 0) with
  | none => none
  | some (fn, one) =>
    let three := fn == .fma || fn == .fms
    if (!three && ifld w 10 6 != 0) || (one && ifld w 15 11 != 0) then none
    else some (.fp fn (w.getLsbD 5) (ireg w 21) (ireg w 16) (ireg w 11) (ireg w 6))

/-- Majors 0x04 to 0x0B (R125). -/
def decImm (maj : Nat) (w : BitVec 32) : Option Op :=
  let rd := ireg w 21
  let r1 := ireg w 16
  let i := w.setWidth 16
  match maj with
  | 0x04 => some (.imm .addi rd r1 i)
  | 0x05 => some (.imm .andi rd r1 i)
  | 0x06 => some (.imm .ori rd r1 i)
  | 0x07 => some (.imm .xori rd r1 i)
  | 0x08 => some (.imm .slti rd r1 i)
  | 0x09 =>
    if ifld w 15 8 ≠ 0 then none
    else
      let sh := BitVec.ofNat 16 (ifld w 5 0)
      match ifld w 7 6 with
      | 0 => some (.imm .slli rd r1 sh)
      | 1 => some (.imm .srli rd r1 sh)
      | 2 => some (.imm .srai rd r1 sh)
      | _ => none
  | 0x0A => if r1 = 0 then some (.imm .lui rd 0 i) else none
  | 0x0B => some (.imm .sltiu rd r1 i)
  | _ => none

/-- Majors 0x0C to 0x0E (R126, R128). -/
def decMem (maj : Nat) (w : BitVec 32) : Option Op :=
  let rt := ireg w 21
  let rb := ireg w 16
  let post := w.getLsbD 12
  let fn : Option MemFn := match maj, ifld w 15 14, w.getLsbD 13 with
    | 0x0C, 0, true => some .ldb | 0x0C, 0, false => some .ldbu
    | 0x0C, 1, true => some .ldh | 0x0C, 1, false => some .ldhu
    | 0x0C, 2, true => some .ldw | 0x0C, 2, false => some .ldwu
    | 0x0C, 3, false => some .ld
    | 0x0D, 0, false => some .stb | 0x0D, 1, false => some .sth
    | 0x0D, 2, false => some .stw | 0x0D, 3, false => some .st
    | 0x0E, 2, false => some .flw | 0x0E, 2, true => some .fsw
    | 0x0E, 3, false => some .fld | 0x0E, 3, true => some .fsd
    | _, _, _ => none
  match fn with
  | none => none
  | some fn =>
    if post && (rb == 0 || (maj == 0x0C && rb == rt)) then none
    else some (.mem fn rt rb post (w.setWidth 12))

def condOf (c : Nat) : Option Cond :=
  match c with
  | 0 => some .beq | 1 => some .bne | 2 => some .blt | 3 => some .bge | 4 => some .bltu | 5 => some .bgeu
  | _ => none

/-- Majors 0x10 to 0x13 (R114, R131 to R133). -/
def decBr (maj : Nat) (w : BitVec 32) : Option Op :=
  let a := w.getLsbD 25
  match maj with
  | 0x10 =>
    match condOf (ifld w 14 12) with
    | some c => some (.bcc c a (ireg w 20) (ireg w 15) (w.setWidth 12))
    | none => none
  | 0x11 => if a then none else some (.br (w.setWidth 25))
  | 0x12 => if a then none else some (.call (w.setWidth 25))
  | _ =>
    let r := ireg w 20
    if a || ifld w 19 15 != 0 || ifld w 11 0 != 0 then none
    else
      match ifld w 14 12 with
      | 0 => some (.jr r)
      | 1 => some (.callr r)
      | 2 => if r = 31 then some .ret else none
      | _ => none

/-- System register numbers that exist (R135, R136, R150). -/
def srExists (n : Nat) : Bool :=
  decide (n ≤ 5) || (decide (0x100 ≤ n ∧ n ≤ 0x1FF) && decide (1 ≤ n % 64 ∧ n % 64 ≤ 0x23))

/-- Major 0x18 (R134). -/
def decSys (w : BitVec 32) : Option Op :=
  let rg := ireg w 21
  let i := w.setWidth 16
  match ifld w 20 16 with
  | 0x00 => if rg = 0 ∧ i ≠ 0 then some (.repi (.imm i)) else none
  | 0x01 => if i = 0 then some (.repi (.reg rg)) else none
  | 0x02 => if rg = 0 ∧ ifld w 15 7 = 0 ∧ ifld w 6 0 ≤ 64 then some (.repn (.imm i)) else none
  | 0x03 => if i = 0 then some (.repn (.reg rg)) else none
  | 0x04 => if rg = 0 ∧ i = 0 then some .close else none
  | 0x05 => if rg = 0 then some (.sys i) else none
  | 0x06 => if rg = 0 then some (.mcall i) else none
  | 0x07 => if rg = 0 ∧ i = 0 then some .rete else none
  | 0x08 => if ifld w 15 12 = 0 ∧ srExists (ifld w 11 0) then some (.mfs rg (w.setWidth 12)) else none
  | 0x09 => if ifld w 15 12 = 0 ∧ srExists (ifld w 11 0) then some (.mts (w.setWidth 12) rg) else none
  | _ => none

/-- Major 0x19 (R137). -/
def decCache (w : BitVec 32) : Option Op :=
  let rg := ireg w 21
  if ifld w 15 0 ≠ 0 then none
  else
    match ifld w 20 16 with
    | 0 => some (.iinv rg)
    | 1 => if rg = 0 then some .iinva else none
    | 2 => some (.dinv rg)
    | 3 => if rg = 0 then some .dinva else none
    | _ => none

/-- The operation of an instruction word, none where it is an illegal encoding (R116, R117). Whether MTS names the PC
of the current bank is judged at issue (R151). -/
def decodeOp (w : BitVec 32) : Option Op :=
  let maj := ifld w 30 26
  match maj with
  | 0x01 => decAlu w
  | 0x02 => decMul w
  | 0x03 => decFp w
  | 0x04 => decImm maj w | 0x05 => decImm maj w | 0x06 => decImm maj w | 0x07 => decImm maj w
  | 0x08 => decImm maj w | 0x09 => decImm maj w | 0x0A => decImm maj w | 0x0B => decImm maj w
  | 0x0C => decMem maj w | 0x0D => decMem maj w | 0x0E => decMem maj w
  | 0x10 => decBr maj w | 0x11 => decBr maj w | 0x12 => decBr maj w | 0x13 => decBr maj w
  | 0x18 => decSys w
  | 0x19 => decCache w
  | _ => none

/-- The operation that a word's opcode names, an illegal encoding taken as the branch, prefix or service call that its
opcode says (R84, R104, R105; log 29). -/
def namedOp (w : BitVec 32) : Option Op :=
  let sys : Option Op := match ifld w 20 16 with
    | 0 => some (.repi (.reg 0)) | 1 => some (.repi (.reg 0)) | 2 => some (.repn (.reg 0)) | 3 => some (.repn (.reg 0))
    | 4 => some .close | 5 => some (.sys 0) | 6 => some (.mcall 0) | 7 => some .rete
    | _ => none
  let maj := ifld w 30 26
  (decodeOp w).or (if 0x10 ≤ maj ∧ maj ≤ 0x13 then some (.br 0) else if maj = 0x18 then sys else none)

/-! ### Operands outside their encodings -/

/-- Whether an operation's operands are ones that its encoding admits (R116, R126, R128, R132, R134, R136). -/
def opEncodable : Op → Bool
  | .imm fn _ rs1 i =>
    match fn with
    | .lui => rs1 == 0
    | .slli | .srli | .srai => decide (i.toNat < 64)
    | _ => true
  | .mem fn rt rb post _ =>
    !(post && (rb == 0 || (rb == rt && (match fn with
      | .ldb | .ldbu | .ldh | .ldhu | .ldw | .ldwu | .ld => true
      | _ => false))))
  | .repi (.imm n) => n != 0
  | .repn (.imm n) => decide (n.toNat ≤ 64)
  | .mfs _ sr => srExists sr.toNat
  | .mts sr _ => srExists sr.toNat
  | _ => true

/-! ### Classes and bundle limits (R61) -/

inductive OpClass where
  | alu | mem | mul | div | fp | fpDiv | branch | alone | prefx
deriving DecidableEq, Repr

def opClass : Op → OpClass
  | .alu .. => .alu
  | .imm .. => .alu
  | .mul .. => .mul
  | .div .. => .div
  | .mfp .. => .alu
  | .mtp .. => .alu
  | .mfq .. => .alu
  | .fp fn .. => match fn with | .fdiv => .fpDiv | .fsqrt => .fpDiv | _ => .fp
  | .mem .. => .mem
  | .bcc .. => .branch
  | .br .. => .branch
  | .call .. => .branch
  | .jr .. => .branch
  | .callr .. => .branch
  | .ret => .branch
  | .repi .. => .prefx
  | .repn .. => .prefx
  | .close => .alone
  | .sys .. => .alone
  | .mcall .. => .alone
  | .rete => .alone
  | .mfs .. => .alu
  | .mts .. => .alone
  | .iinv .. => .alone
  | .iinva => .alone
  | .dinv .. => .alone
  | .dinva => .alone

/-- The g register a partner of a branch writes, none for another destination (R62). -/
def gDest : Op → Option Reg
  | .alu _ rd _ _ => some rd
  | .imm _ rd _ _ => some rd
  | .mfp _ rd _ => some rd
  | .mfq rd _ => some rd
  | .mfs rd _ => some rd
  | _ => none

/-- The g registers a branch reads (R62). -/
def branchReads : Op → List Reg
  | .bcc _ _ a b _ => [a, b]
  | .jr a => [a]
  | .callr a => [a]
  | .ret => [31]
  | _ => []

/-- Two slots that may share a bundle (R61, R62). -/
def pairLegal (a b : Op) : Bool :=
  let ca := opClass a
  let cb := opClass b
  let lone (c : OpClass) : Bool := c == .alone || c == .prefx
  !lone ca && !lone cb && ca != .branch
  && !(ca == .mem && cb == .mem) && !(ca == .mul && cb == .mul) && !(ca == .div && cb == .div)
  && !(ca == .fp && cb == .fp)
  && !((ca == .fpDiv && (cb == .fp || cb == .fpDiv)) || (cb == .fpDiv && (ca == .fp || ca == .fpDiv)))
  && (cb != .branch || (ca == .alu && match gDest a with
        | some r => r == 0 || !(branchReads b).contains r
        | none => true))

/-- What a delay slot must not hold (R84). -/
def delayForbidden : Op → Bool
  | .repi .. | .repn .. | .sys .. | .mcall .. | .rete => true
  | o => opClass o == .branch

/-- What a prefix must not repeat (R104), the MTS to the current bank's RPC apart. -/
def repeatForbidden : Op → Bool
  | .sys .. | .mcall .. | .rete | .close => true
  | o => opClass o == .branch || opClass o == .prefx

/-! ### Encoding (R110 to R137) -/

/-- A word of an E bit, a major opcode and the 26 bits below. -/
def instrWord (e : Bool) (maj rest : Nat) : BitVec 32 := BitVec.ofNat 32 (e.toNat * 2 ^ 31 + maj * 2 ^ 26 + rest)

/-- Registers at bits 25:21, 20:16 and 15:11. -/
def regBits (d a b : Reg) : Nat := d.toNat * 2 ^ 21 + a.toNat * 2 ^ 16 + b.toNat * 2 ^ 11

def aluCode : AluFn → Nat
  | .add => 0x00 | .sub => 0x01 | .addv => 0x02 | .subv => 0x03 | .and => 0x04 | .or => 0x05 | .xor => 0x06
  | .andn => 0x07 | .sll => 0x08 | .srl => 0x09 | .sra => 0x0A | .slt => 0x0C | .sltu => 0x0D | .min => 0x0E
  | .max => 0x0F | .minu => 0x10 | .maxu => 0x11 | .sxw => 0x12 | .zxw => 0x13

def mulCode : MulFn → Nat
  | .mul => 0 | .mulu => 1 | .mac => 2 | .macu => 3

def fpCode : FpFn → Nat
  | .fadd => 0x00 | .fsub => 0x01 | .fmul => 0x02 | .fdiv => 0x03 | .fsqrt => 0x04 | .fma => 0x05 | .fms => 0x06
  | .fmin => 0x08 | .fmax => 0x09 | .fneg => 0x0A | .fabs => 0x0B | .fmv => 0x0C | .fceq => 0x10 | .fclt => 0x11
  | .fcle => 0x12 | .fcvtl => 0x14 | .fcvtfl => 0x16 | .fcvtf => 0x18 | .fmvgf => 0x1A | .fmvfg => 0x1B

/-- Major opcode and the bits above the immediate's own (R125): SLLI, SRLI and SRAI share a major. -/
def immCode : ImmFn → Nat × Nat
  | .addi => (0x04, 0) | .andi => (0x05, 0) | .ori => (0x06, 0) | .xori => (0x07, 0) | .slti => (0x08, 0)
  | .slli => (0x09, 0) | .srli => (0x09, 0x40) | .srai => (0x09, 0x80) | .lui => (0x0A, 0) | .sltiu => (0x0B, 0)

/-- Major opcode and bits 15:13 of a load or store (R126). -/
def memCode : MemFn → Nat × Nat
  | .ldb => (0x0C, 1) | .ldbu => (0x0C, 0) | .ldh => (0x0C, 3) | .ldhu => (0x0C, 2) | .ldw => (0x0C, 5)
  | .ldwu => (0x0C, 4) | .ld => (0x0C, 6) | .stb => (0x0D, 0) | .sth => (0x0D, 2) | .stw => (0x0D, 4)
  | .st => (0x0D, 6) | .flw => (0x0E, 4) | .fsw => (0x0E, 5) | .fld => (0x0E, 6) | .fsd => (0x0E, 7)

def condCode : Cond → Nat
  | .beq => 0 | .bne => 1 | .blt => 2 | .bge => 3 | .bltu => 4 | .bgeu => 5

/-- The word of an operation with this E bit. -/
def encodeOp (e : Bool) : Op → BitVec 32
  | .alu fn d a b => instrWord e 0x01 (regBits d a b + aluCode fn)
  | .mul fn p a b => instrWord e 0x02 (regBits (p.setWidth 5) a b + mulCode fn)
  | .div sg a b => instrWord e 0x02 (regBits 0 a b + if sg then 4 else 5)
  | .mfp hi d p => instrWord e 0x02 (regBits d (p.setWidth 5) 0 + if hi then 9 else 8)
  | .mtp p a b => instrWord e 0x02 (regBits (p.setWidth 5) a b + 0x0A)
  | .mfq d second => instrWord e 0x02 (regBits d 0 0 + if second then 0x0D else 0x0C)
  | .fp fn single d a b c => instrWord e 0x03 (regBits d a b + c.toNat * 2 ^ 6 + single.toNat * 2 ^ 5 + fpCode fn)
  | .imm fn d a i => instrWord e (immCode fn).1 (d.toNat * 2 ^ 21 + a.toNat * 2 ^ 16 + i.toNat + (immCode fn).2)
  | .mem fn t b post off =>
    instrWord e (memCode fn).1 (t.toNat * 2 ^ 21 + b.toNat * 2 ^ 16 + (memCode fn).2 * 2 ^ 13 + post.toNat * 2 ^ 12 + off.toNat)
  | .bcc c annul a b off =>
    instrWord e 0x10 (annul.toNat * 2 ^ 25 + a.toNat * 2 ^ 20 + b.toNat * 2 ^ 15 + condCode c * 2 ^ 12 + off.toNat)
  | .br off => instrWord e 0x11 off.toNat
  | .call off => instrWord e 0x12 off.toNat
  | .jr a => instrWord e 0x13 (a.toNat * 2 ^ 20)
  | .callr a => instrWord e 0x13 (a.toNat * 2 ^ 20 + 1 * 2 ^ 12)
  | .ret => instrWord e 0x13 (31 * 2 ^ 20 + 2 * 2 ^ 12)
  | .repi (.imm n) => instrWord e 0x18 n.toNat
  | .repi (.reg r) => instrWord e 0x18 (r.toNat * 2 ^ 21 + 1 * 2 ^ 16)
  | .repn (.imm n) => instrWord e 0x18 (2 * 2 ^ 16 + n.toNat)
  | .repn (.reg r) => instrWord e 0x18 (r.toNat * 2 ^ 21 + 3 * 2 ^ 16)
  | .close => instrWord e 0x18 (4 * 2 ^ 16)
  | .sys code => instrWord e 0x18 (5 * 2 ^ 16 + code.toNat)
  | .mcall code => instrWord e 0x18 (6 * 2 ^ 16 + code.toNat)
  | .rete => instrWord e 0x18 (7 * 2 ^ 16)
  | .mfs d sr => instrWord e 0x18 (d.toNat * 2 ^ 21 + 8 * 2 ^ 16 + sr.toNat)
  | .mts sr r => instrWord e 0x18 (r.toNat * 2 ^ 21 + 9 * 2 ^ 16 + sr.toNat)
  | .iinv r => instrWord e 0x19 (r.toNat * 2 ^ 21)
  | .iinva => instrWord e 0x19 (1 * 2 ^ 16)
  | .dinv r => instrWord e 0x19 (r.toNat * 2 ^ 21 + 2 * 2 ^ 16)
  | .dinva => instrWord e 0x19 (3 * 2 ^ 16)

/-- Operand fields that the encoding holds at zero: RS2 and RS3 of functions that do not read them (R116, R118, R121). -/
def opPlain : Op → Bool
  | .alu fn _ _ b => (fn != .sxw && fn != .zxw) || b == 0
  | .fp fn _ _ _ b c =>
    (fn == .fma || fn == .fms || c == 0)
    && (b == 0 || (match fn with
      | .fadd | .fsub | .fmul | .fdiv | .fma | .fms | .fmin | .fmax | .fceq | .fclt | .fcle => true
      | _ => false))
  | _ => true

end Sys2Proof.Machine
end

