-- ==== Sys2Proof/Machine/Lanes.lean ====
section
/-! DEFINITION. One lane: results in flight and their landing (R65 to R81), retirement records and the signature (R198 to
R203), the parse (R238, R239), system registers (R54 to R56, R148 to R155), and what a bundle's instructions do. -/

namespace Sys2Proof.Machine

/-! ### Records (R201 to R203) -/

/-- One record folded into the lane's signature. -/
def Lane.fold (l : Lane) (r : Rec) : Lane :=
  { l with sig := crc64 l.sig (recOctets r), recs := l.recs ++ [r] }

def Lane.foldAll (l : Lane) (rs : List Rec) : Lane := rs.foldl Lane.fold l

/-- The records of a landed result (R202); none for g0 (R200). -/
def landRecs (cur : Fin 4) (r : Result) : List Rec :=
  let mk (k : Nat) (v : Word) (d : Nat) : Rec := ⟨r.pc, 0, v, BitVec.ofNat 8 k, BitVec.ofNat 8 d, 0, BitVec.ofNat 8 r.slot⟩
  let lo : Word := r.val.setWidth 64
  let hi : Word := (r.val >>> 64).setWidth 64
  match r.dest with
  | .g n => if n = 0 then [] else [mk 1 lo (cur.val * 64 + n.toNat)]
  | .f n => [mk 2 lo n.toNat]
  | .p n => [mk 3 lo n.toNat, mk 4 hi n.toNat]
  | .q => [mk 5 lo 0, mk 5 hi 1]

/-- The 187 parse items in their order (R239). -/
def parseItems (c : LaneCore) : List Word :=
  let bank (b : Bank) : List Word :=
    (List.range 31).map (fun i => b.g.toList.getD (i + 1) 0) ++ [b.pc, b.psw, b.rpc.setWidth 64, b.epriv]
  let busy : Nat := (List.finRange 4).foldl (fun a (b : Fin 4) => a + c.banks[b].busy.toNat * 2 ^ b.val) 0
  c.banks.toList.flatMap bank ++ [BitVec.ofNat 64 busy] ++ c.f.toList
    ++ c.p.toList.flatMap (fun (w : BitVec 128) => [w.setWidth 64, (w >>> 64).setWidth 64]) ++ [c.q0, c.q1]
    ++ [c.vbr, c.vbrM, c.dfsp, BitVec.ofNat 64 c.budget]

def parseRecs (c : LaneCore) : List Rec :=
  (parseItems c).zipIdx.map fun p => ⟨0, BitVec.ofNat 64 p.2, p.1, 0x10, 0, 0, 0⟩

/-- A clause opens in a lane: a fresh signature, and the parse where one is due (R203, R238). -/
def Lane.openClause (l : Lane) (parsed : Bool) : Lane :=
  let l := { l with sig := sigInit, bad := false, recs := [], bundleRecs := [], mts := none }
  if parsed then l.foldAll (parseRecs l.core) else l

/-! ### Landing (R67 to R72, R78) -/

/-- A result in its register, its flags in the PSW. -/
def LaneCore.put (c : LaneCore) (r : Result) : LaneCore :=
  let c := c.setCur fun b => { b with psw := addFlags b.psw r.flags.toNat }
  match r.dest with
  | .g n => c.setCur fun b => b.wg n (r.val.setWidth 64)
  | .f n => { c with f := c.f.set n.toNat (r.val.setWidth 64) }
  | .p n => { c with p := c.p.set n.toNat r.val }
  | .q => { c with q0 := r.val.setWidth 64, q1 := (r.val >>> 64).setWidth 64 }

/-- Results that land together, earliest issued first; one superseded by a later one leaves no record (R69, R200). -/
def landAll (c : LaneCore) : List Result → LaneCore × List Rec
  | [] => (c, [])
  | r :: t =>
    let recs := if t.any fun x => x.dest == r.dest then [] else landRecs c.cur r
    let (c, l) := landAll (c.put r) t
    (c, recs ++ l)

/-- The flags that a slot's landing results set. -/
def dueFlags (l : List Result) : Nat := l.foldl (fun a r => a ||| r.flags.toNat) 0

/-- The end of one issue slot (R67): distances fall by one, those at 0 land. The last component is the flags set. -/
def LaneCore.advance (c : LaneCore) : LaneCore × List Rec × Nat :=
  let fl := c.flight.map fun r => { r with left := r.left - 1 }
  let due := fl.filter fun r => r.left == 0
  let (c, recs) := landAll { c with flight := fl.filter fun r => r.left != 0 } due
  (c, recs, dueFlags due)

/-- A load due at the end of this slot has no data yet, so the lanes freeze (R65, R729). -/
def LaneCore.stalled (c : LaneCore) : Bool := c.flight.any fun r => decide (r.left ≤ 1) && !r.arrived

/-- Some load has no data yet. -/
def LaneCore.waiting (c : LaneCore) : Bool := c.flight.any fun r => !r.arrived

/-- Every result in flight lands, in the order in which it would (R79); at most 24 steps. -/
def LaneCore.drainN : Nat → LaneCore → LaneCore × List Rec
  | 0, c => (c, [])
  | n + 1, c =>
    if c.flight.isEmpty then (c, [])
    else
      let (c, r, _) := c.advance
      let (c, r2) := LaneCore.drainN n c
      (c, r ++ r2)

def LaneCore.drain (c : LaneCore) : LaneCore × List Rec := LaneCore.drainN 24 c

def Lane.drain (l : Lane) : Lane :=
  let (c, r) := l.core.drain
  { l with core := c }.foldAll r

/-! ### System registers (R54 to R56, R135, R148 to R155) -/

/-- The numbers 0x100 to 0x1FF: bank and index (R149). -/
def srBank (n : Nat) : Fin 4 := ⟨n / 64 % 4, Nat.mod_lt _ (by decide)⟩
def srIdx (n : Nat) : Nat := n % 64

/-- A number of the current bank under its short name (R151). -/
def srCanon (cur : Fin 4) (n : Nat) : Nat :=
  if 0x100 ≤ n ∧ srBank n = cur then
    match srIdx n with
    | 0x21 => 0
    | 0x22 => 1
    | 0x23 => 5
    | _ => n
  else n

/-- An MFS is allowed (R54, R152, R153). -/
def mfsAllowed (c : LaneCore) (n : Nat) : Bool :=
  let p := c.priv
  if 0x100 ≤ n then
    p != 0 && (srBank n == c.cur || p == 3 || (srBank n != 3 && pswPriv c.banks[srBank n].psw != 3))
  else
    match n with
    | 0 => true
    | 1 => true
    | 2 => p != 0
    | 5 => p != 0
    | _ => p == 3

/-- An MTS of value v is allowed (R54, R55, R152, R153). -/
def mtsAllowed (c : LaneCore) (n : Nat) (v : Word) : Bool :=
  let p := c.priv
  if 0x100 ≤ n then mfsAllowed c n
  else
    match n with
    | 0 => p != 0 || !pswOtherChange c.psw v
    | 1 => p != 0
    | 2 => p != 0
    | 5 => p != 0
    | _ => p == 3

/-- The value an MFS reads. -/
def mfsValue (c : LaneCore) (num : Nat) : Word :=
  let n := srCanon c.cur num
  if 0x100 ≤ n then
    let b := c.banks[srBank n]
    let i := srIdx n
    if i < 0x20 then b.rg (BitVec.ofNat 5 i)
    else if i = 0x20 then b.pc
    else if i = 0x21 then b.psw
    else if i = 0x22 then b.rpc.setWidth 64
    else b.epriv
  else
    match n with
    | 0 => c.psw
    | 1 => c.bank.rpc.setWidth 64
    | 2 => c.vbr
    | 3 => c.vbrM
    | 4 => c.dfsp
    | _ => c.bank.epriv

/-- An MTS to another bank's PSW (R154, R155). -/
def pswOther (priv : Nat) (old v : Word) : Word :=
  let w := pswMts old v
  if priv = 3 ∧ pswPriv v ≠ 2 then setField w 1 0 (pswPriv v) else w

/-- What an MTS leaves (R54 to R56, R151, R154, R155). -/
def mtsWrite (c : LaneCore) (num : Nat) (v : Word) : LaneCore :=
  let n := srCanon c.cur num
  if 0x100 ≤ n then
    let i := srIdx n
    let p := c.priv
    let same := srBank n == c.cur
    c.setBank (srBank n) fun b =>
      if i < 0x20 then b.wg (BitVec.ofNat 5 i) v
      else if i = 0x20 then (if same then b else { b with pc := v })
      else if i = 0x21 then { b with psw := pswOther p b.psw v }
      else if i = 0x22 then { b with rpc := v.setWidth 32 }
      else b
  else
    match n with
    | 0 => c.setCur fun b => { b with psw := if c.priv = 0 then pswFpFields b.psw v else pswMts b.psw v }
    | 1 => c.setCur fun b => { b with rpc := v.setWidth 32 }
    | 2 => { c with vbr := v }
    | 3 => { c with vbrM := v }
    | 4 => { c with dfsp := v }
    | _ => c

/-! ### The end of a slot in a lane (R198) -/

/-- Landing results, then the slot's own records, then its MTS. The flags set come second. -/
def Lane.endSlot (l : Lane) : Lane × Nat :=
  let (c, recs, fl) := l.core.advance
  let l := ({ l with core := c }.foldAll recs).foldAll l.bundleRecs
  let l := { l with bundleRecs := [] }
  (match l.mts with
    | some (n, v) => { l with core := mtsWrite l.core n.toNat v, mts := none }
    | none => l, fl)

/-! ### One instruction in a lane -/

/-- What an instruction takes from outside the lane: its bundle's address, its own address and slot, the address behind
the delay slot that follows it (R89), and the value its load receives, with whether the data is there (R195, R729). -/
structure OpCtx where
  pc : Word
  ipc : Word
  slot : Nat
  fall : Word
  data : Word
  arrived : Bool

/-- Where a branch goes: taken or not (R130, R131). -/
def branchTaken (c : LaneCore) : Op → Bool
  | .bcc cond _ a b _ => condHolds cond (c.rg a) (c.rg b)
  | _ => true

/-- The target of a branch or jump (R90, R130). -/
def branchTarget (c : LaneCore) (ipc : Word) : Op → Word
  | .bcc _ _ _ _ off => ipc + wordOff12 off
  | .br off => ipc + wordOff25 off
  | .call off => ipc + wordOff25 off
  | .jr r => regTarget (c.rg r)
  | .callr r => regTarget (c.rg r)
  | .ret => regTarget (c.rg 31)
  | _ => ipc

/-- The address of the bundle behind the delay slot (R83). -/
def afterDelay (c : LaneCore) (x : OpCtx) (op : Op) : Word :=
  if branchTaken c op then branchTarget c x.ipc op else x.fall

/-- The results an instruction starts, from the registers as read at issue (R63, R66, R68). -/
def opResults (c : LaneCore) (x : OpCtx) (op : Op) : List Result :=
  let mk (d : Dest) (v : BitVec 128) (n : Nat) (fl : BitVec 5) (u : ResUnit) : Result :=
    { dest := d, val := v, left := n, flags := fl, unit := u, arrived := true, pc := x.ipc, slot := x.slot }
  let g (r : Reg) (v : Word) : Result := mk (.g r) (v.setWidth 128) 1 0 .plain
  match op with
  | .alu fn rd a b => [g rd (aluResult fn (c.rg a) (c.rg b))]
  | .imm fn rd a i => [g rd (immResult fn (c.rg a) i)]
  | .mul fn pd a b => [mk (.p pd) (mulResult fn (c.rg a) (c.rg b) (c.rp pd)) 4 0 .plain]
  | .div sgn a b =>
    let (q, r) := divResult sgn (c.rg a) (c.rg b)
    [mk .q (r ++ q) 24 0 .divide]
  | .mfp hi rd ps => [g rd (if hi then ((c.rp ps) >>> 64).setWidth 64 else (c.rp ps).setWidth 64)]
  | .mtp pd a b => [mk (.p pd) (c.rg b ++ c.rg a) 1 0 .plain]
  | .mfq rd second => [g rd (if second then c.q1 else c.q0)]
  | .fp fn single rd a b e =>
    let src (r : Reg) : Word := if fpFromG fn then c.rg r else c.rf r
    let res := fpResult fn single (pswRM c.psw) (src a) (c.rf b) (c.rf e)
    let d : Dest := if fpToG fn then .g rd else .f rd
    let u : ResUnit := match fn with | .fdiv => .fpDivide | .fsqrt => .fpDivide | _ => .plain
    [mk d (BitVec.ofNat 128 res.bits) (fpDistance fn) (BitVec.ofNat 5 res.flags) u]
  | .mem fn rt rb post off =>
    let ld : List Result :=
      if memIsLoad fn then
        [{ mk (memDest fn rt) ((loadExtend fn x.data.toNat).setWidth 128) 3 0 .load with arrived := x.arrived }]
      else []
    ld ++ (if post then [g rb (memBase c rb off)] else [])
  | .call _ => [g 31 x.fall]
  | .callr _ => [g 31 x.fall]
  | .mfs rd sr => [g rd (mfsValue c sr.toNat)]
  | _ => []

/-- A divide or an FP divide cancels the one in flight in its unit (R72, R75). -/
def cancelUnit (op : Op) (fl : List Result) : List Result :=
  match op with
  | .div .. => fl.filter fun r => r.unit != .divide
  | .fp fn .. => (match fn with
    | .fdiv => fl.filter fun r => r.unit != .fpDivide
    | .fsqrt => fl.filter fun r => r.unit != .fpDivide
    | _ => fl)
  | _ => fl

/-- DEST of an MTS record: the bank register that its number names, 0 where it names none (R149, R151, R201). -/
def mtsDest (cur : Fin 4) (n : Nat) : Nat :=
  if 0x100 ≤ n then n % 256
  else
    match n with
    | 0 => cur.val * 64 + 0x21
    | 1 => cur.val * 64 + 0x22
    | 5 => cur.val * 64 + 0x23
    | _ => 0

/-- The records an instruction forms at the end of its slot, beside those of landing results (R198, R202). A load's record
names no destination, and an MTS's holds the source register as it stands (DESIGN CHOICE, log 14). -/
def opRecs (c : LaneCore) (x : OpCtx) (op : Op) : List Rec :=
  let mk (k : Byte) (addr v : Word) (size : Nat) : Rec := ⟨x.ipc, addr, v, k, 0, BitVec.ofNat 8 size, BitVec.ofNat 8 x.slot⟩
  match op with
  | .mem fn rt rb post off =>
    if memIsLoad fn then [mk 6 (memAddr c rb post off) 0 (memSize fn)]
    else [mk 7 (memAddr c rb post off) (storeData c fn rt) (memSize fn)]
  | .mts sr r => [{ mk 9 (sr.setWidth 64) (c.rg r) 0 with dest := BitVec.ofNat 8 (mtsDest c.cur sr.toNat) }]
  | .bcc .. => [mk 8 0 (afterDelay c x op) 0]
  | .br _ => [mk 8 0 (afterDelay c x op) 0]
  | .call _ => [mk 8 0 (afterDelay c x op) 0]
  | .jr _ => [mk 8 0 (afterDelay c x op) 0]
  | .callr _ => [mk 8 0 (afterDelay c x op) 0]
  | .ret => [mk 8 0 (afterDelay c x op) 0]
  | _ => []

/-- The return-address stack behind an instruction (R92, R93). -/
def rasAfter (ras : List Word) (x : OpCtx) : Op → List Word
  | .call _ => (x.fall :: ras).take 16
  | .callr _ => (x.fall :: ras).take 16
  | .ret => ras.tail
  | _ => ras

/-- One instruction of a bundle acts in a lane; `src` is the lane's state before the bundle (R63). -/
def Lane.act (l : Lane) (src : LaneCore) (x : OpCtx) (op : Op) : Lane :=
  { l with
    core := { l.core with flight := cancelUnit op l.core.flight ++ opResults src x op }
    bundleRecs := l.bundleRecs ++ opRecs src x op
    mts := (match op with | .mts sr r => some (sr, src.rg r) | _ => l.mts)
    ras := rasAfter l.ras x op }

end Sys2Proof.Machine
end

