-- ==== Sys2Proof/Machine/Recover.lean ====
section
/-! DEFINITION. Lane states and what moves them: charges, SUSPECT, retirement, swap-ins, background BIST, fencing and the
TRIAD reset (R251 to R259, R269 to R280, R673, R731). -/

namespace Sys2Proof.Machine

def State.upLane (s : State) (t : TriadId) (l : LaneId) (f : Lane → Lane) : State := s.setTriad t fun x => x.setLane l f

/-- A lane takes a state. SPARE_TEST and SUSPECT ask for a BIST slot (R271); a lane that leaves ACTIVE is compared and
excluded no more. -/
def setLane (s : State) (t : TriadId) (l : LaneId) (st : LaneState) : State :=
  if ((s.tri t).lane l).state = st then s
  else
    let test := st == .spareTest || st == .suspect
    let s := s.upLane t l fun x =>
      { x with state := st, bistRun := false, bistWait := if test then some s.sys.upTicks else none, suspectDue := false }
    genUp s 6

/-- RECCNT: [15:0] rollbacks, [31:16] repairs, [47:32] swap-ins saturate; [63:48] rotations wrap. -/
def countRec (s : State) (t : TriadId) (hi lo : Nat) : State := s.up (Adr.cmpReccnt t.val) fun w => satField w hi lo

/-- CHGLIM in use (R257). -/
def Triad.chgLim (x : Triad) : Nat := field x.rctlUse 15 12

/-! ### Fencing (R280) -/

/-- Everything a triad's lanes, gate and log hold is discarded (R227); writes already released go on. -/
def Triad.wiped (x : Triad) (pc : Word) : Triad :=
  { x with
    slotOpen := false, first := none, fetched := none, delay := none, entry := none, evClear := none
    clause := 0, slots := 0, timer := 0
    sensOpen := false, forced := false, closeDue := 0, parse := 0, parsed := false, counts := [], ckpt := Ckpt.reset pc
    closed := none, log := [], logPos := 0, toRelease := [], rollbacks := 0, rollbackDue := false, arb := none
    repair := none, repairReady := false, excluded := none
    entered := false, entryWait := none, evSeen := none, eventAt := false, colFull := false, owed := [], evGone := false, swapAt := none, rotAt := none
    lanes := x.lanes.map fun l =>
      { l with core := LaneCore.reset pc, sig := sigInit, bad := false, bundleRecs := [], mts := none, recs := [],
               gate := [], held := l.held.filter fun e => x.flying.any fun g => g.id == e.id, ras := [] } }

/-- The address a TRIAD reset starts at (R191). -/
def rstvec (s : State) (t : TriadId) : Word := s.rd (Adr.sysRstvec t.val) &&& 0xFFFFFFFFFC

/-- What a fence and a TRIAD reset do outside the triad (R337, R532, R571). -/
def leaveUnits (s : State) (t : TriadId) : State :=
  withdrawTriad (enterSafe (abortOwned s t) (BitVec.ofNat 6 (2 ^ t.val))) t

/-- Fencing with its cause (R280). -/
def fence (s : State) (t : TriadId) (cause : Nat) : State :=
  if (s.tri t).fenced then s
  else
    let s := s.wr (Adr.cmpFcause t.val) (BitVec.ofNat 64 cause)
    let pc := rstvec s t
    let s := s.setTriad t fun x => { x.wiped pc with
      fenced := true, lanes := (x.wiped pc).lanes.map fun l => { l with bistRun := false, bistWait := none, suspectDue := false } }
    reportTriad (leaveUnits (genUp s 6) t) t 5 3

/-! ### Charges, SUSPECT and retirement (R256 to R258) -/

/-- A lane is retired (R251, R258, R269, R279). -/
def retire (s : State) (t : TriadId) (l : LaneId) : State := reportTriad (setLane s t l .retired) t 4 l.val

/-- A lane enters SUSPECT; for the third time it is retired instead (R258). -/
def suspect (s : State) (t : TriadId) (l : LaneId) : State :=
  let s := s.upLane t l fun x => { x with susn := satSucc x.susn 3, suspectDue := false }
  if 3 ≤ ((s.tri t).lane l).susn then retire s t l else reportTriad (setLane s t l .suspect) t 3 l.val

/-- A charge (R256, R257). A lane that is not ACTIVE becomes SUSPECT at once when it reaches the limit. -/
def charge (s : State) (t : TriadId) (l : LaneId) : State :=
  let s := s.upLane t l fun x => { x with chg := satSucc x.chg 15 }
  let x := s.tri t
  let y := x.lane l
  if y.chg < x.chgLim then s
  else
    match y.state with
    | .active => s.upLane t l fun x => { x with suspectDue := true }
    | .spareTest => suspect s t l
    | .spareReady => suspect s t l
    | _ => s

/-! ### Joining lanes (R261, R272, R275) -/

/-- A lane takes the state of another at a boundary, with the checkpoints and the clause that opened (R261, R266,
R272). -/
def Triad.copyLane (x : Triad) (dst src : LaneId) : Triad :=
  let y := x.lane src
  let put (k : Ckpt) : Ckpt := { k with cores := k.cores.set dst.val k.cores[src] dst.isLt }
  let cls := x.closed.map fun (cl : Closed) => { cl with ckpt := put cl.ckpt }
  let x := { x with ckpt := put x.ckpt, closed := cls }
  x.setLane dst fun l =>
    { l with core := y.core, sig := y.sig, recs := y.recs, bundleRecs := y.bundleRecs, mts := y.mts, gate := y.gate,
             held := y.held, bad := false, ras := [] }

/-- The first ACTIVE lane other than `no`. -/
def Triad.sourceFor (x : Triad) (no : LaneId) : Option LaneId := x.actives.find? fun l => l != no

/-- A spare that may take a lane's place: SPARE_READY first, then SPARE_TEST (R257, R279). -/
def Triad.spare (x : Triad) : Option LaneId :=
  match allLanes.find? fun l => (x.lane l).state == .spareReady with
  | some l => some l
  | none => allLanes.find? fun l => (x.lane l).state == .spareTest

/-- A lane becomes ACTIVE by swap-in with a copy (R272). Its reset empties its fetch-ahead buffer, which is the triad's
where it leads (R96). -/
def swapTo (s : State) (t : TriadId) (l : LaneId) : State :=
  match (s.tri t).sourceFor l with
  | none => s
  | some src =>
    let s := (setLane s t l .active).setTriad t fun x => x.copyLane l src
    let s := s.setTriad t fun x => { x with fetched := if x.lead = l then none else x.fetched }
    countL (countRec s t 47 32) t 0x2D 1

/-- Where fewer than two lanes are ACTIVE a spare swaps in, or the triad fences (R257, R279). The report of the swap names
the lane that joins (DESIGN CHOICE, log 31). -/
def refill (s : State) (t : TriadId) : State :=
  let x := s.tri t
  if x.fenced ∨ 2 ≤ x.actives.length then s
  else
    match x.spare with
    | some l => if x.actives.isEmpty then fence s t 4 else reportTriad (swapTo s t l) t 2 l.val
    | none => fence s t 4

/-- An attributed mismatch of a lane: the second within a second retires it at once (R279). -/
def attributed (s : State) (t : TriadId) (l : LaneId) : State :=
  let s := reportTriad s t 7 l.val
  if ((s.tri t).lane l).attrib then retire s t l else s.upLane t l fun x => { x with attrib := true }

/-! ### Windows -/

/-- CHARGE_WINDOW_EXPIRY (R257). -/
def execChargeWindowExpiry (t : TriadId) (l : LaneId) (s : State) : Host.Outcome State Fault Refusal :=
  .next (s.upLane t l fun x => { x with chg := 0 })

/-- INVALID_CODE_WINDOW_EXPIRY (R277). -/
def execInvalidCodeWindowExpiry (t : TriadId) (s : State) : Host.Outcome State Fault Refusal :=
  .next (s.setTriad t fun x => { x with invalidOpen := false })

/-- ATTRIBUTION_WINDOW_EXPIRY (R279). -/
def execAttributionWindowExpiry (t : TriadId) (l : LaneId) (s : State) : Host.Outcome State Fault Refusal :=
  .next (s.upLane t l fun x => { x with attrib := false })

/-! ### Background logic BIST (R269, R271) -/

/-- Lanes under background BIST in the whole device. -/
def bistCount (s : State) : Nat :=
  (allTriads.map fun t => (allLanes.filter fun l => ((s.tri t).lane l).bistRun).length).sum

/-- The place of a waiting lane in the order of service: SUSPECT lanes first, then the earliest request, then the lowest
triad (R271), then the lowest lane (log 33). -/
def bistPlace (s : State) (t : TriadId) (l : LaneId) : Option (Nat × Nat × Nat) :=
  let y := (s.tri t).lane l
  if (s.tri t).fenced then none
  else y.bistWait.map fun since => (if y.state = .suspect then 0 else 1, since, t.val * 4 + l.val)

/-- One place comes no later than another. -/
def placeLe (a b : Nat × Nat × Nat) : Bool :=
  decide (a.1 < b.1) || (a.1 == b.1 && (decide (a.2.1 < b.2.1) || (a.2.1 == b.2.1 && decide (a.2.2 ≤ b.2.2))))

/-- No waiting lane is served before this place. -/
def bistFirst (s : State) (p : Nat × Nat × Nat) : Bool :=
  allTriads.all fun t => allLanes.all fun l =>
    match bistPlace s t l with
    | some q => placeLe p q
    | none => true

/-- LANE_BIST_START: the waiting lane whose turn it is takes one of two slots (R271). -/
def bistStart (s : State) (t : TriadId) (l : LaneId) : State :=
  match bistPlace s t l with
  | none => s
  | some p =>
    if bistCount s < 2 ∧ bistFirst s p = true then s.upLane t l fun x => { x with bistWait := none, bistRun := true }
    else s

def execLaneBistStart (t : TriadId) (l : LaneId) (s : State) : Host.Outcome State Fault Refusal := .next (s.powered fun s => bistStart s t l)

/-- LANE_BIST_DONE (R269). -/
def bistDone (s : State) (t : TriadId) (l : LaneId) (pass : Bool) : State :=
  let y := (s.tri t).lane l
  if !y.bistRun then s
  else if !pass then retire s t l
  else
    let s := s.upLane t l fun x => { x with chg := if y.state = .suspect then 0 else x.chg }
    setLane s t l .spareReady

def execLaneBistDone (t : TriadId) (l : LaneId) (pass : Bool) (s : State) : Host.Outcome State Fault Refusal :=
  .next (s.powered fun s => bistDone s t l pass)

/-! ### TRIAD reset (R673, R731) -/

/-- Registers of survival T that belong to triad t return to their reset values (R19). -/
def clearTriadRegs (s : State) (t : TriadId) : State :=
  let trc := Adr.trcSel t.val 0
  { s with regs := s.regs.filter fun p =>
      !((decide (trc ≤ p.1 ∧ p.1 < trc + 0x200)) || decide (p.1 = Adr.trcOvf t.val) || decide (p.1 = Adr.tapuCtx t.val)
        || decide (p.1 = Adr.tapuFrec t.val) || decide (p.1 = Adr.tapuFva t.val)) }

/-- Lanes whose charges have reached the limit become SUSPECT at the reset (R731). -/
def settleSuspects (s : State) (t : TriadId) : State :=
  refill (allLanes.foldl (fun s (l : LaneId) => if ((s.tri t).lane l).suspectDue then suspect s t l else s) s) t

/-- Recovery in progress ends (R731): an arbitration spare goes back to its test. -/
def endRecovery (s : State) (t : TriadId) : State :=
  match (s.tri t).arb with
  | some l => if ((s.tri t).lane l).state = .active then setLane s t l .spareTest else s
  | none => s

/-- A TRIAD reset of triad t, released and not fenced. The clause that opens takes its registers (R249, R254); the lanes
whose charges are at the limit become SUSPECT last, which may fence the triad (R731). -/
def triadReset (s : State) (t : TriadId) : State :=
  let x := s.tri t
  if !x.released || x.fenced then s
  else
    let s := leaveUnits (clearTriadRegs (endRecovery s t) t) t
    let s := s.up (Adr.cmpRctl t.val) fun w => putBit w 30 false
    let s := { s with tlb := s.tlb.filter fun e => e.triad != t }
    let pc := rstvec s t
    let s := s.setTriad t fun x => { x.wiped pc with
      lenUse := field (s.rd (Adr.cmpClauseLen t.val)) 10 0, tmaxUse := field (s.rd (Adr.cmpClauseTmax t.val)) 11 0
      intervalUse := field (s.rd (Adr.cmpParseInterval t.val)) 15 0, rctlUse := s.rd (Adr.cmpRctl t.val)
      halted := false, haltReq := false, l1i := [], l1d := [] }
    inIdOrder s (settleSuspects s t)

/-- TRIAD_RESET. -/
def execTriadReset (t : TriadId) (s : State) : Host.Outcome State Fault Refusal := .next (triadReset s t)

end Sys2Proof.Machine
end

