-- ==== Sys2Proof/Machine/Bus.lean ====
section
/-! DEFINITION. What a completed access of a triad does at its target: every register block as read and as written
(R11 to R15, R44 to R46, R730), the mailbox and memory; and the rows EVENT_PULSE, EVC_SWSET, EVC_DBSET and
REGISTER_WRITE. -/

namespace Sys2Proof.Machine

/-! ### Events (R163 to R171) -/

/-- Events whose pending bit is set, ascending. -/
def pendingEvents (s : State) : List Nat :=
  (List.range 32).flatMap fun k =>
    let w := s.rd (Adr.evcPend k)
    if w = 0 then [] else (List.range 32).filterMap fun j => if bitOf w j then some (32 * k + j) else none

def evEN (r : Word) : Bool := bitOf r 31
def evM (r : Word) : Bool := bitOf r 12
def evPrio (r : Word) : Nat := field r 11 8
def evTriad (r : Word) : Nat := field r 2 0

/-- NMX in effect (R166). -/
def evNmx (r : Word) : Bool := bitOf r 30 && evM r && evPrio r == 15

/-- The event of highest PRIO, the lowest number among equals, of those pending, enabled, routed to the triad and
admitted by `ok` (R167). -/
def bestEvent (s : State) (t : TriadId) (ok : Word → Bool) : Option Nat :=
  ((pendingEvents s).filter fun n =>
      let r := s.rd (Adr.evcRoute n)
      evEN r && evTriad r == t.val && ok r).foldl
    (fun best n => match best with
      | none => some n
      | some b => if evPrio (s.rd (Adr.evcRoute b)) < evPrio (s.rd (Adr.evcRoute n)) then some n else some b) none

/-- EVC_STAT_t as read. -/
def evcStatView (s : State) (t : TriadId) : Word :=
  match bestEvent s t (fun _ => true) with
  | some n => BitVec.ofNat 64 (2 ^ 15 + n * 16 + evPrio (s.rd (Adr.evcRoute n)))
  | none => 0

/-- Event sources that never pulse, from and to (R336, R369, R388, R434, R483, R518, R573, R603, R632). -/
def silentSources : List (Nat × Nat) :=
  [(315, 319), (445, 447), (552, 639), (652, 695), (702, 703), (779, 831), (839, 863), (870, 879), (886, 895), (902, 903),
   (936, 959)]

def neverPulses (n : Nat) : Bool := silentSources.any fun r => decide (r.1 ≤ n ∧ n ≤ r.2)

/-- EVENT_PULSE (R164). -/
def execEventPulse (n : Fin 1024) (s : State) : Host.Outcome State Fault Refusal :=
  .next (if neverPulses n.val then s else pulse s n.val)

/-- A write of EVC_SWSET (R163). -/
def swEvent (s : State) (src : Nat) : State := pulse s (960 + src % 64)

def execEvcSwset (src : BitVec 6) (s : State) : Host.Outcome State Fault Refusal := .next (swEvent s src.toNat)

/-- A write of EVC_DBSET by triad w (R171): the pulse, RUNG and FROM. -/
def ringTriad (s : State) (w : TriadId) (src : Nat) : State :=
  let n := src % 64
  let i := 4 * (n % 8)
  (pulse s (704 + n)).up (Adr.evcDbfrom (n / 8)) fun x => setField (putBit x (i + 3) true) (i + 2) i w.val

/-- EVC_DBSET: the triads `who` ring one doorbell in one fabric cycle, which is one pulse, and FROM names the lowest
(R171). -/
def execEvcDbset (who src : BitVec 6) (s : State) : Host.Outcome State Fault Refusal :=
  .next (match allTriads.find? fun w => who.getLsbD w.val with
    | some w => ringTriad s w src.toNat
    | none => s)

/-! ### Registers as read -/

def cmpCtlView (s : State) (t : TriadId) : Word :=
  let x := s.tri t
  ((s.rd (Adr.cmpCtl t.val)) &&& 0x100) ||| BitVec.ofNat 64 (x.xlane * 16 + x.mode)

/-- Entries a lane's column holds: its own, and committed ones not yet released (R217). -/
def Triad.column (x : Triad) (l : LaneId) : Nat := x.lanes[l].gate.length + x.toRelease.length

def cmpStatView (s : State) (t : TriadId) : Word :=
  let x := s.tri t
  b2w x.sensOpen 17 ||| b2w x.closed.isSome 16 ||| BitVec.ofNat 64 (x.log.length * 256 + x.column x.lead)

def lanestatView (s : State) (t : TriadId) : Word :=
  BitVec.ofNat 64 ((allLanes.map fun l =>
    let y := (s.tri t).lane l
    (laneCode y.state + y.chg * 16) * 256 ^ l.val + y.susn * 2 ^ (24 + 2 * l.val)).sum)

def srbPstatView (s : State) : Word :=
  (s.rd Adr.srbPstat) ||| BitVec.ofNat 64 (((List.finRange 12).map fun (n : Fin 12) => s.sram.power[n].toNat * 8 ^ n.val).sum)

def fcuView (s : State) (a o : Nat) : Word :=
  match o with
  | 0x00 => fcuStateView s
  | 0x10 => pinctlView s
  | 0x18 => permitView s
  | 0x20 => xchkView s
  | 0x60 => rcnt0View s
  | 0x68 => rcnt1View s
  | 0x70 => domView s
  | _ =>
    if 0x40 ≤ o ∧ o < 0x60 then actView s ((o - 0x40) / 4)
    else if 0x80 ≤ o ∧ o < 0x9C then domcntView s ⟨(o - 0x80) / 4 % 7, Nat.mod_lt _ (by decide)⟩
    else s.rd a

def dmaView (s : State) (x : Fin 2) (a o : Nat) : Word :=
  if o = 8 then engStatView s x
  else if 0x1000 ≤ o ∧ o < 0x2000 ∧ o % 0x100 = 0x18 then
    dmaStatView s ⟨x.val * 16 + o / 0x100 % 16, by omega⟩
  else s.rd a

def netView (s : State) (a o : Nat) : Word :=
  if 0x1000 ≤ o ∧ o < 0x3000 ∧ o % 0x400 = 0x18 then gcfgView s ⟨(o - 0x1000) / 0x400 % 8, Nat.mod_lt _ (by decide)⟩
  else s.rd a

def hstView (s : State) (a o : Nat) : Word :=
  if o = 0x10 then softpendView s
  else if 0x100 ≤ o ∧ o < 0x140 then sessView s ⟨(o - 0x100) / 8 % 8, Nat.mod_lt _ (by decide)⟩
  else s.rd a

def cmpView (s : State) (t : TriadId) (a o : Nat) : Word :=
  match o with
  | 0x00 => cmpCtlView s t
  | 0x20 => cmpStatView s t
  | 0x6C => lanestatView s t
  | 0x40 => if (s.tri t).act 0 then s.rd a else 0
  | 0x48 => if (s.tri t).act 1 then s.rd a else 0
  | 0x50 => if (s.tri t).act 2 then s.rd a else 0
  | _ => s.rd a

/-- The triad of a CMP block address (R42). -/
def cmpTriad (k : Nat) : TriadId := ⟨(k - 0x8010) % 6, Nat.mod_lt _ (by decide)⟩

/-- A register of a block other than TMR and LEG as software reads it, at the address of its heading. -/
def regView (s : State) (a : Nat) : Word :=
  let k := a / 0x10000
  let o := a % 0x10000
  match k with
  | 0x8000 => if o = 0x28 then BitVec.ofNat 64 (degLeft s) else s.rd a
  | 0x8001 => fcuView s a o
  | 0x8003 => if o = 0 then lcstateView s else s.rd a
  | 0x8004 => if 0x1200 ≤ o ∧ o < 0x1218 then evcStatView s ⟨(o - 0x1200) / 4 % 6, Nat.mod_lt _ (by decide)⟩ else s.rd a
  | 0x8006 => dmaView s 0 a o
  | 0x8007 => dmaView s 1 a o
  | 0x8008 => if o = 8 then srbPstatView s else s.rd a
  | 0x800A => if 0x2000 ≤ o then armedView s ((o - 0x2000) / 4) else s.rd a
  | 0x800B => netView s a o
  | 0x800C => hstView s a o
  | _ => if 0x8010 ≤ k ∧ k ≤ 0x8015 then cmpView s (cmpTriad k) a o else s.rd a

/-- A 32-bit read (R13, R730). -/
def regRead32 (s : State) (a : Nat) : Word :=
  match regAt a with
  | some _ => (regView s a) &&& maskLo
  | none =>
    match regAt (a - 4) with
    | some (d, _, _) => if d.wide then (regView s (a - 4)) >>> 32 else 0
    | none => 0

/-- A 64-bit read: a 64-bit register, or the two words from the address (DEDUCED, log 28). -/
def regRead64 (s : State) (a : Nat) : Word :=
  match regAt a with
  | some (d, _, _) => if d.wide then regView s a else regRead32 s a ||| (regRead32 s (a + 4) <<< 32)
  | none => regRead32 s a ||| (regRead32 s (a + 4) <<< 32)

/-! ### Registers as written (R730) -/

/-- The 64-bit registers whose write starts an action (R730). -/
def actsOn64 (a : Nat) : Bool :=
  let k := a / 0x10000
  let o := a % 0x10000
  ((k == 0x8006 || k == 0x8007) && decide (0x1000 ≤ o ∧ o < 0x2000 ∧ o % 0x100 = 8))
  || (k == 0x8005 && decide (0x300 ≤ o ∧ o < 0x330)) || decide (a = Adr.tnsStep) || decide (a = Adr.sysRecap)
  || (k == 0x8003 && decide (0x100 ≤ o ∧ o < 0x130)) || decide (a = Adr.fcuSwrep)
  || (k == 0x800B && decide (0x1000 ≤ o ∧ o < 0x3000 ∧ o % 0x400 = 0x20))

/-- TAPU_INVAL_t: SCOPE 0b11 is reserved and starts nothing (R12). -/
def writeInval (s : State) (w t : TriadId) (v : Word) : State :=
  if field v 63 62 = 3 then s
  else startInval s w t (v.extractLsb' 62 2) (v.extractLsb' 40 12) (v.extractLsb' 12 27)

/-- What a 64-bit write of one of those registers does. LCS_PROPt takes triad t's writes only (DEDUCED, log 25). -/
def act64 (s : State) (w : TriadId) (a : Nat) (v : Word) : State :=
  let k := a / 0x10000
  let o := a % 0x10000
  let t : TriadId := ⟨o / 8 % 0x20 % 6, Nat.mod_lt _ (by decide)⟩
  match k with
  | 0x8000 => requestRecap s w v
  | 0x8001 => report s (208 + field v 51 48) (field v 31 0)
  | 0x8003 => if w = t then writeLcsProp s t v else s
  | 0x8005 => writeInval s w t v
  | 0x8006 => doorbell s w ⟨o / 0x100 % 16, by omega⟩ v
  | 0x8007 => doorbell s w ⟨16 + o / 0x100 % 16, by omega⟩ v
  | 0x800A => writeStep s v
  | 0x800B => writeAtx s ⟨(o - 0x1000) / 0x400 % 8, Nat.mod_lt _ (by decide)⟩ v
  | _ => s

/-- A write of the bits m of a register by its access codes (R11, R12, R15). -/
def putReg (s : State) (a : Nat) (m v : Word) : State :=
  match regAt a with
  | some (d, i, _) => s.wr a (writeValue d (lockedAt s d i) m (s.rd a) v)
  | none => s

/-- A write of DDR_RETn; a page that becomes retired counts in GEN_DDR (R385, R515). -/
def writeRet (s : State) (a : Nat) (m v : Word) : State :=
  let old := s.rd a
  let s := putReg s a m v
  if bitOf (s.rd a) 63 && s.rd a != old then genUp s 10 else s

/-- A write of all of a 64-bit register, or of one half (R730). -/
def writeWide (s : State) (w : TriadId) (a : Nat) (m v : Word) : State :=
  let k := a / 0x10000
  let o := a % 0x10000
  if actsOn64 a then (if m = maskAll then act64 s w a v else s)
  else
    match k with
    | 0x8005 =>
      if 0x100 ≤ o ∧ o < 0x130 then
        let t : TriadId := ⟨o / 8 % 0x20 % 6, Nat.mod_lt _ (by decide)⟩
        writeCtx s w t (((s.rd a) &&& ~~~ m) ||| (v &&& m))
      else putReg s a m v
    | 0x8009 => if 0x100 ≤ o ∧ o < 0x300 then writeRet s a m v else putReg s a m v
    | 0x800A =>
      if 0x100 ≤ o ∧ o < 0x900 ∧ tabRuns s ⟨(o - 0x100) / 0x20 % 64, Nat.mod_lt _ (by decide)⟩ = true then s
      else if 0x1000 ≤ o ∧ o < 0x1100 ∧ o % 0x20 = 0 then
        checkRegion (putReg s a m v) ⟨(o - 0x1000) / 0x20 % 8, Nat.mod_lt _ (by decide)⟩
      else putReg s a m v
    | 0x800B =>
      if a = Adr.netMac ∨ a = Adr.netGptp 0 ∨ a = Adr.netGptp 1 then watchGrandmasters (putReg s a m v) else putReg s a m v
    | 0x800F => if 0x1000 ≤ o ∧ o < 0x1C00 ∧ (o - 0x1000) / 0x200 ≠ w.val then s else putReg s a m v
    | _ => putReg s a m v

/-- A 32-bit write to a 32-bit register at its address. -/
def writeNarrow (s : State) (w : TriadId) (a : Nat) (v : BitVec 32) : State :=
  let k := a / 0x10000
  let o := a % 0x10000
  let x : Word := v.setWidth 64
  let plain (s : State) : State := putReg s a maskLo x
  match k with
  | 0x8000 =>
    if a = Adr.sysModereq then writeModereq s v
    else if a = Adr.sysTrst then (if v.getLsbD 0 then triadReset s w else s)
    else plain s
  | 0x8001 =>
    if a = Adr.fcuPinctl then writePinctl s v
    else if 0x40 ≤ o ∧ o < 0x60 then clearActive s ⟨(o - 0x40) / 4 % 8, Nat.mod_lt _ (by decide)⟩ v
    else plain s
  | 0x8004 =>
    if a = Adr.evcSwset then swEvent s v.toNat
    else if a = Adr.evcDbset then ringTriad s w v.toNat
    else plain s
  | 0x8006 =>
    if 0x1000 ≤ o ∧ o < 0x2000 ∧ o % 0x100 = 0x10 then writeDmaCmd s w ⟨o / 0x100 % 16, by omega⟩ v else plain s
  | 0x8007 =>
    if 0x1000 ≤ o ∧ o < 0x2000 ∧ o % 0x100 = 0x10 then writeDmaCmd s w ⟨16 + o / 0x100 % 16, by omega⟩ v else plain s
  | 0x8008 => if a = Adr.srbPwr then writeSrbPwr s x else plain s
  | 0x800A =>
    if a = Adr.tnsRate then writeRate s v
    else if a = Adr.tnsServo then writeServo s x
    else if a = Adr.tnsArm then writeTnsArm s w v
    else if 0x100 ≤ o ∧ o < 0x900 ∧ o % 0x20 = 0 then writeCycCtl s ⟨(o - 0x100) / 0x20 % 64, Nat.mod_lt _ (by decide)⟩ v
    else if 0x1000 ≤ o ∧ o < 0x1100 ∧ o % 0x20 = 8 then writeRdy s w ⟨(o - 0x1000) / 0x20 % 8, Nat.mod_lt _ (by decide)⟩ v
    else plain s
  | 0x800B =>
    if a = Adr.netSclk then (if v.getLsbD 0 then sclkLock s else s)
    else if a = Adr.netSack then safeAck s (v.toNat % 1024)
    else if 0x1000 ≤ o ∧ o < 0x3000 ∧ o % 0x400 = 0x18 then
      writeGcfg s ⟨(o - 0x1000) / 0x400 % 8, Nat.mod_lt _ (by decide)⟩ v
    else if 0x1000 ≤ o ∧ o < 0x3000 ∧ o % 0x400 = 0 then watchGrandmasters (plain s)
    else plain s
  | 0x800C => if a = Adr.hstSoftdone then softDone s w ⟨v.toNat % 32, Nat.mod_lt _ (by decide)⟩ else plain s
  | 0x800F =>
    if a = Adr.trcCtl then writeTrcCtl s v
    else if 0x100 ≤ o ∧ o < 0x130 then writeTcfg s a x
    else if 0x1000 ≤ o ∧ o < 0x1C00 ∧ (o - 0x1000) / 0x200 ≠ w.val then s
    else plain s
  | _ => plain s

/-- A 32-bit write at a block address (R13, R730). -/
def regWrite32 (s : State) (w : TriadId) (a : Nat) (v : BitVec 32) : State :=
  match regAt a with
  | some (d, _, _) => if d.wide then writeWide s w a maskLo (v.setWidth 64) else writeNarrow s w a v
  | none =>
    match regAt (a - 4) with
    | some (d, _, _) => if d.wide then writeWide s w (a - 4) maskHi ((v.setWidth 64) <<< 32) else s
    | none => s

/-- A 64-bit write: a 64-bit register, or the two words from the address, the lower first (DEDUCED, log 28). -/
def regWrite64 (s : State) (w : TriadId) (a : Nat) (v : Word) : State :=
  let two := regWrite32 (regWrite32 s w a (v.setWidth 32)) w (a + 4) (v.extractLsb' 32 32)
  match regAt a with
  | some (d, _, _) => if d.wide then writeWide s w a maskAll v else two
  | none => two

/-! ### The bus as a triad meets it -/

/-- A read of n octets at a physical address by triad t. -/
def busRead (s : State) (t : TriadId) (pa n : Nat) : State × Word :=
  match regionOf s pa with
  | .regs =>
    match perAddr pa with
    | some (leg, off) => if n = 8 then perRead64 s (.triad t) leg off else perRead32 s (.triad t) leg off
    | none => (s, if n = 8 then regRead64 s pa else regRead32 s pa)
  | .mailbox => (s, BitVec.ofNat 64 (natLE (mboxRead s (pa - 0x90000000) n)))
  | .hole => (s, 0)
  | _ => let (s, bs) := memRead s (.triad t) pa n; (s, BitVec.ofNat 64 (natLE bs))

/-- Octets with their enables, least significant first. -/
def octetsOf (v : Word) (be : Byte) : List (Byte × Bool) := (bytesLE 8 v.toNat).zipIdx.map fun p => (p.1, be.getLsbD p.2)

/-- Octets an access of these enables covers. -/
def enCount (be : Byte) : Nat := if be = 0x01 then 1 else if be = 0x03 then 2 else if be = 0x0F then 4 else 8

/-- Where a released write lands. It has passed its checks at translation (R43), so a bank that has left On since takes
it as R362 says, and a page retired since or the rest of DDR behind a lost channel is written (R385, R387). -/
def landsAt (s : State) (pa : Nat) : Region :=
  match regionOf s pa with
  | .hole =>
    if plainAddr pa < sramSize then .sram
    else if ddrBase ≤ pa ∧ pa < ddrBase + field (s.rd Adr.ddrTop) 9 0 * 0x40000000 then .ddr
    else .hole
  | r => r

/-- A write of a gate entry's octets at its target by triad t (R219, R224). -/
def busWrite (s : State) (t : TriadId) (pa : Nat) (v : Word) (be : Byte) : State :=
  let n := enCount be
  match landsAt s pa with
  | .regs =>
    match perAddr pa with
    | some (leg, off) => if n = 8 then perWrite64 s (.triad t) leg off v else perWrite32 s (.triad t) leg off (v.setWidth 32)
    | none => if n = 8 then regWrite64 s t pa v else regWrite32 s t pa (v.setWidth 32)
  | .mailbox => mboxWrite s (pa - 0x90000000) ((octetsOf v be).take n)
  | .hole => s
  | _ => memWrite s (.triad t) pa ((octetsOf v be).take n)

/-- Read-sensitive registers (R228). -/
def readSensitive (pa : Nat) : Bool :=
  decide (pa = Adr.hstSoftpend)
  || (match perAddr pa with
      | some (false, off) => decide (off < 0x2000 ∧ off % 0x80 / 8 * 8 = 0x30)
      | some (true, off) => decide (0x1000 ≤ off ∧ off < 0x1200 ∧ off % 0x40 = 0x08)
          || decide (0x3000 ≤ off ∧ off < 0x3200 ∧ off % 0x40 / 8 * 8 = 0x20)
      | none => false)

/-- REGISTER_WRITE (R15): a released write of 32 or 64 bits at a block address; a misaligned one never leaves a triad
(R45, R129) and changes nothing. -/
def registerWrite (s : State) (w : TriadId) (a : Nat) (dbl : Bool) (v : Word) : State :=
  if a % (if dbl then 8 else 4) ≠ 0 then s
  else
    match regionOf s a with
    | .regs => busWrite s w a v (if dbl then 0xFF else 0x0F)
    | _ => s

def execRegisterWrite (w : TriadId) (addr : BitVec 40) (dbl : Bool) (v : Word) (s : State) :
    Host.Outcome State Fault Refusal := .next (registerWrite s w addr.toNat dbl v)

end Sys2Proof.Machine
end

