-- ==== Sys2Proof/Machine/Fetch.lean ====
section
/-! DEFINITION. Instruction fetch (R58 to R60, R106 to R109, R192), the end of an issue slot in a triad (R67, R204, R78),
when a triad may issue, and what raises an exception (R80, R161). -/

namespace Sys2Proof.Machine

/-! ### Words in memory -/

/-- An address of R44: its page is a device page whatever the PTE says (R204). -/
def devAddress (s : State) (pa : Nat) : Bool :=
  match regionOf s pa with | .regs => true | .mailbox => true | _ => false

/-- The instruction word at a physical address: from the L1I where it holds the line, from the device at an address of
R44, else as a read of memory delivers it (R31, R47, R346, R380). -/
def wordAt (s : State) (t : TriadId) (pa : Nat) : BitVec 32 :=
  match (s.tri t).l1i.lookup (pa / 64) with
  | some ws => ws.getD (pa / 4 % 16) 0
  | none =>
    if devAddress s pa then (busRead s t pa 4).2.setWidth 32 else BitVec.ofNat 32 (natLE (memRead s (.triad t) pa 4).2)

/-- The check of the fetch of one word at a privilege level; bank 3 fetches physically (R106, R188, R296). -/
def fetchCheck (s : State) (t : TriadId) (bank3 : Bool) (priv : Nat) (va : Word) : Except Xfail Xlat :=
  coreAccess s t bank3 priv .fetch va

/-- The word the triad would fetch at an address, none where the fetch fails. -/
def peekWord (s : State) (t : TriadId) (c : LaneCore) (va : Word) : Option (BitVec 32) :=
  match fetchCheck s t (c.cur == 3) c.priv va with
  | .ok x => some (wordAt s t x.pa)
  | .error _ => none

/-- The size of the bundle at an address (R59); 4 where it cannot be fetched (log 14). -/
def peekSize (s : State) (t : TriadId) (c : LaneCore) (va : Word) : Nat :=
  match peekWord s t c va with
  | some w => if wordEnds w then 4 else 8
  | none => 4

/-- The operations of the bundle at an address, where all of it can be fetched and decoded. -/
def peekOps (s : State) (t : TriadId) (c : LaneCore) (va : Word) : List Op :=
  match peekWord s t c va with
  | none => []
  | some w =>
    match decodeOp w with
    | none => []
    | some a =>
      if wordEnds w then [a]
      else
        match peekWord s t c (va + 4) with
        | none => []
        | some w2 => (decodeOp w2).toList.map (fun b => [a, b]) |>.flatten

/-! ### Translation with its traces in the cache and the counters -/

/-- What a core access leaves in the translation cache and the counters 0x1D to 0x1F (R299, R692). -/
def coreTouch (s : State) (t : TriadId) (bank3 : Bool) (priv : Nat) (kind : XKind) (va : Word) : State :=
  let q := coreReq s t priv kind
  if bank3 || !q.ten || field va 63 39 != 0 then s
  else
    match tlbHit s t q.asid (va.toNat / 4096) with
    | some _ => countL s t 0x1D 1
    | none => coreFill (countL (countL s t 0x1E 1) t 0x1F 1) t bank3 priv kind va

/-- A word is fetched: one of DDR brings its line into the L1I (R47; log 14), one of SRAM is read where it lies, one at an
address of R44 is an access of the device. -/
def fillL1i (s : State) (t : TriadId) (pa : Nat) : State :=
  let s := countL s t 0x18 1
  if ((s.tri t).l1i.lookup (pa / 64)).isSome then s
  else if devAddress s pa then (busRead s t pa 4).1
  else if pa < ddrBase then (memRead s (.triad t) pa 4).1
  else
    let r := memRead s (.triad t) (pa / 64 * 64) 64
    let ws := (List.range 16).map fun i => BitVec.ofNat 32 (natLE ((r.2.drop (4 * i)).take 4))
    (countL r.1 t 0x19 1).setTriad t fun x => { x with l1i := (pa / 64, ws) :: x.l1i }

/-! ### The end of an issue slot (R67, R78, R198, R204) -/

def bit10 (i : Nat) (b : Bool) : BitVec 10 := if b then BitVec.ofNat 10 (2 ^ i) else 0

/-- The leading lane's column holds 48 entries (R204, R215). -/
def Triad.colHolds (x : Triad) : Bool := decide (48 ≤ x.lanes[x.lead].gate.length + x.toRelease.length)

/-- The conditions of R204 tested at the end of a slot: the clause length, and the column at 48 entries, which it has
reached since the slot before (R218). -/
def Triad.slotEndDue (x : Triad) : BitVec 10 :=
  bit10 0 (decide (x.lenUse ≤ x.slots)) ||| bit10 7 (x.colHolds && !x.colFull)

/-- The end of a slot as the boundary conditions see it. -/
def Triad.slotEnds (x : Triad) : Triad :=
  { x with slotOpen := false, closeDue := x.closeDue ||| x.slotEndDue, colFull := x.colHolds }

/-- An entry for an exception raised on the leading lane (R161). -/
def Triad.exc (x : Triad) (vec : Nat) (pc : Word) (f : Option Frec) : PendEntry :=
  { vec := vec, mTable := x.priv == 3, code := 0, pc := pc, event := none, prio := 0, nmx := false, frec := f }

/-- Every ACTIVE lane goes on at an address. -/
def Triad.resumeAt (x : Triad) (pc : Word) : Triad :=
  { x with lanes := x.lanes.map fun (l : Lane) =>
      if l.state == LaneState.active then { l with core := l.core.setCur fun b => { b with pc := pc } } else l }

/-- Where issue goes on when an FP exception is taken in front of another entry: at the bundle the other one suppressed
(R80, R97), at the service call once more, at the interrupted context's own bundle otherwise (log 29). -/
def Triad.behindFp (x : Triad) (p : PendEntry) : Word :=
  if p.vec = 10 ∨ p.vec = 11 then p.pc - 4
  else if p.vec = 7 ∨ p.event.isSome then x.lanes[x.lead].core.pc
  else p.pc

/-- The FP exception is taken, and the other entry arises again behind its return, where issue goes on at `pc` (R78, R170;
log 29). -/
def Triad.fpFirst (x : Triad) (pc : Word) : Triad :=
  let y := x.resumeAt pc
  { y with entry := some (y.exc 9 pc none), delay := none, first := none, fetched := none }

/-- A result in flight sets an enabled flag as the results drain (R78, R79). -/
def Triad.drainTraps (x : Triad) : Bool :=
  let c := x.lanes[x.lead].core
  fpTraps c.psw (dueFlags c.flight)

/-- The open slot ends in every ACTIVE lane. A flag that FEN enables raises the FP exception (R78); its saved PC is
taken when it is entered. FEN is read behind the slot's MTS (log 29). -/
def Triad.endSlot (x : Triad) : Triad :=
  if !x.slotOpen then x
  else
    let fl := (x.lanes[x.lead].endSlot).2
    let y := Triad.slotEnds { x with
      lanes := x.lanes.map fun (l : Lane) => if l.state == LaneState.active then l.endSlot.1 else l }
    if fpTraps y.lanes[y.lead].core.psw fl then
      match y.entry with
      | none => { y with entry := some (y.exc 9 y.lanes[y.lead].core.pc none) }
      | some p => if p.vec = 9 then y else y.fpFirst (y.behindFp p)
    else y

/-- The open slot cannot end: a load due at its end has no data (R729). -/
def Triad.frozen (x : Triad) : Bool := x.slotOpen && x.lanes[x.lead].core.stalled

def endSlot (s : State) (t : TriadId) : State := s.setTriad t Triad.endSlot

/-! ### Events at a boundary (R165 to R167, R245, R248) -/

/-- An entry stands at the start of the open clause and its handler has issued nothing yet (R172). -/
def Triad.inWindow (x : Triad) : Bool := decide (x.slots = 0) && x.ckpt.entry.isSome

/-- The entry window of R172: the entry has been made and its handler's first bundle has not issued. -/
def Triad.entryWindow (x : Triad) : Bool := decide (x.slots = 0) && x.entered

/-- A REPN is in progress (R104). -/
def LaneCore.repnRuns (c : LaneCore) : Bool := c.bank.repn && pswRP c.psw && c.bank.rpc != 0

/-- The conditions of R165 on the core's side; none admits an event while a REPN runs (R104). -/
def LaneCore.admits (c : LaneCore) (m : Bool) (prio : Nat) (nmx : Bool) : Bool :=
  let p := c.psw
  !pswNI p && c.cur != 3 && !c.repnRuns && (m || pswPriv p != 3) && (nmx || (pswIE p && decide (pswIPL p < prio)))

/-- The event that the leading lane's PSW admits now (R165 to R167); none in an entry window. -/
def deliverable (s : State) (t : TriadId) : Option Nat :=
  let x := s.tri t
  if x.inWindow then none
  else bestEvent s t fun r => x.lanes[x.lead].core.admits (evM r) (evPrio r) (evNmx r)

/-- The entry that a rollback still owes the re-execution, where the leading lane's PSW admits it (R248). -/
def owedEntry (s : State) (t : TriadId) : Option PendEntry :=
  let x := s.tri t
  let c := x.lanes[x.lead].core
  if x.inWindow then none
  else (x.owed.find? fun p => c.admits p.mTable p.prio.toNat p.nmx).map fun p => { p with pc := c.pc }

/-- An event may be entered at the next boundary. -/
def eventDue (s : State) (t : TriadId) : Bool := (owedEntry s t).isSome || (deliverable s t).isSome

/-! ### When a bundle may issue -/

/-- SEL and ROTMIN, ROTEN in use (R254, R270). -/
def Triad.selPair (x : Triad) : Bool := field x.rctlUse 1 0 == 1
def Triad.rotEn (x : Triad) : Bool := bitOf x.rctlUse 8
def Triad.rotMin (x : Triad) : Nat := field x.rctlUse 23 16

def Triad.readySpare (x : Triad) : Option LaneId := allLanes.find? fun l => (x.lane l).state == .spareReady

/-- A SPARE_READY lane that a boundary swaps in with SEL = VOTE3 (R254). -/
def Triad.swapFound (x : Triad) : Option LaneId :=
  if x.selPair || x.arb.isSome || x.actives.length != 2 then none else x.readySpare

/-- The lane that the boundary behind which the triad stands swaps in, found there and still ready (R254, R272). -/
def Triad.swapDue (x : Triad) : Option LaneId := if x.swapFound = x.swapAt then x.swapAt else none

/-- CLK_TNS ticks in a millisecond (R33). -/
def ticksPerMs : Nat := 400000

/-- A rotation at a boundary that falls now, ROTMIN milliseconds behind the previous one (R270). -/
def rotationFound (s : State) (t : TriadId) : Option LaneId :=
  let x := s.tri t
  if !x.selPair || !x.rotEn || x.arb.isSome || x.actives.length != 2 then none
  else
    match x.lastRotation with
    | none => x.readySpare
    | some r => if r + x.rotMin * ticksPerMs ≤ s.sys.upTicks then x.readySpare else none

/-- The rotation that the boundary behind which the triad stands found, its lane still ready (R270). -/
def rotationDue (s : State) (t : TriadId) : Option LaneId :=
  if rotationFound s t = (s.tri t).rotAt then (s.tri t).rotAt else none

/-- Debug split (R283). -/
def isSplit (s : State) (t : TriadId) : Bool := bitOf (s.rd (Adr.cmpRctl t.val)) 30

/-- The boundary the triad stands at must wait for the compare (R234, R254, R257, R266, R272). -/
def boundaryWait (s : State) (t : TriadId) : Bool :=
  let x := s.tri t
  decide (x.slots = 0) && !isSplit s t &&
    ((x.closed.isSome && (x.repair.isSome || (x.closed.any fun c => c.full) || (x.selPair && decide (x.actives.length = 3))
        || allLanes.any fun l => (x.lane l).suspectDue))
      || x.repairReady || x.swapDue.isSome || (rotationDue s t).isSome)

/-- An atomic budget has run out (R181). -/
def Triad.overrun (x : Triad) : Bool :=
  let c := x.lanes[x.lead].core
  pswNI c.psw && decide (c.budget = 0)

/-- Eight slots have issued since an event became deliverable, so the clause closes (R245). -/
def Triad.eventBound (x : Triad) : Bool := decide (x.slots ≠ 0) && x.evSeen.any fun n => decide (8 ≤ n)

/-- An event that was deliverable at the boundary is entered there, before anything issues (R167, R246). -/
def heldByEvent (s : State) (t : TriadId) : Bool := decide ((s.tri t).slots = 0) && (s.tri t).eventAt && eventDue s t

/-- The lanes may issue (R80, R167, R181, R204, R207, R231, R245, R260, R266, R284, R676,
R697). Between a branch and its delay
slot nothing else happens. -/
def canIssue (s : State) (t : TriadId) : Bool :=
  let x := s.tri t
  x.runs && modeOf s != 5 && !x.rollbackDue && !x.forced
    && (x.delay.isSome
      || (x.entry.isNone && !x.overrun && (x.closeDue == 0 || decide (x.slots = 0)) && !x.eventBound
          && !(x.repair.isSome && decide (x.slots ≠ 0))
          && !(decide (x.slots = 0) && x.repair.isNone && ((x.haltReq && !isSplit s t) || s.sys.dormantDue.isSome))
          && !boundaryWait s t && !heldByEvent s t))

/-! ### Raising an exception -/

/-- The PC an exception of the bundle in front saves: the branch's bundle in a delay slot (R80, R97). -/
def Triad.faultPc (x : Triad) : Word :=
  match x.delay with
  | some d => d.branchPc
  | none => x.lanes[x.lead].core.pc

/-- The PC that an illegal bundle saves: the prefix's own address where it holds one (R105), the bundle's own where R84
forbids it in a delay slot or an MTS in it names the PC of its bank (R151, `ownPc`), else as any other (R97). -/
def Triad.illegalPc (x : Triad) (pc : Word) (ops : List (Op × Word)) (ownPc : Bool) : Word :=
  match ops.find? fun p => opClass p.1 == .prefx with
  | some p => p.2
  | none => if ownPc || (x.delay.isSome && ops.any fun p => delayForbidden p.1) then pc else x.faultPc

/-- A synchronous exception: the bundle is suppressed, the entry is due (R80, R161). Where an FP exception of the branch's
slot stands in front of the delay slot, that one is taken first, and the branch issues again, so that its delay slot
raises the exception then (R97, R170; log 29). -/
def Triad.raiseAt (x : Triad) (vec : Nat) (pc : Word) (f : Option Frec) : Triad :=
  if x.entry.isSome then x.fpFirst x.faultPc else { x with entry := some (x.exc vec pc f), delay := none, first := none }

def Triad.raise (x : Triad) (vec : Nat) (f : Option Frec) : Triad := x.raiseAt vec x.faultPc f

def raise (s : State) (t : TriadId) (vec : Nat) (f : Option Frec) : State := s.setTriad t fun x => x.raise vec f

/-- Illegal instruction (R141), with the PC of R84, R105 and R151. -/
def raiseIllegal (s : State) (t : TriadId) (pc : Word) (ops : List (Op × Word)) (ownPc : Bool) : State :=
  s.setTriad t fun x => x.raiseAt 1 (x.illegalPc pc ops ownPc) none

/-! ### INSTRUCTION_FETCH -/

/-- The fault record of a failed fetch (R311 to R313). -/
def fetchFrec (c : LaneCore) (va : Word) (f : Xfail) : Frec :=
  { kind := if c.cur = 3 then 6 else 0, priv := c.priv, level := f.level, cause := f.cause, va := va }

/-- One word fetched on the correct path: the word, or the fault it raises. -/
def fetchOne (s : State) (t : TriadId) (c : LaneCore) (va : Word) : State × Except Xfail (BitVec 32) :=
  let r := fetchCheck s t (c.cur == 3) c.priv va
  let s := coreTouch s t (c.cur == 3) c.priv .fetch va
  match r with
  | .ok x => (fillL1i s t x.pa, .ok (wordAt s t x.pa))
  | .error f => (s, .error f)

/-- The bundle's words are there; a word that is no instruction, and two that may not share a bundle, raise illegal
instruction (R59, R61, R115 to R117). The saved PC goes by what the words' opcodes say (R142; log 29). -/
def fetched (s : State) (t : TriadId) (pc : Word) (w : BitVec 32) (w2 : Option (BitVec 32)) : State :=
  let put (b : Bundle) : State := s.setTriad t fun x => { x with fetched := some b }
  let named (w : BitVec 32) (a : Word) : List (Op × Word) := (namedOp w).toList.map fun o => (o, a)
  let illegal : State := raiseIllegal s t pc (named w pc ++ w2.toList.flatMap fun v => named v (pc + 4)) false
  match decodeOp w, w2.map decodeOp with
  | some a, none => put ⟨pc, none, a⟩
  | some a, some (some b) => if w2.all wordEnds && pairLegal a b then put ⟨pc, some a, b⟩ else illegal
  | _, _ => illegal

/-- The slave of an address (R28): an SRAM bank with its aliases, the DDR controller, the mailbox, a register block. -/
def slaveOf (pa : Nat) : Nat := if ddrBase ≤ pa then 1 else if plainAddr pa < sramSize then 16 + plainAddr pa / 0x200000 else pa / 0x10000

/-- A read by the triad waits: for a write of its own to the same slave that has left the gate (R28), for the repeated
write of a line of DDR (R381). -/
def readWaits (s : State) (t : TriadId) (pa n : Nat) : Bool :=
  ddrWaits s pa n || (s.tri t).flying.any fun g => slaveOf g.pa.toNat == slaveOf pa

/-- The fetch of a word that the L1I does not hold waits as any read. -/
def fetchWaits (s : State) (t : TriadId) (c : LaneCore) (va : Word) : Bool :=
  coreWaits s t (c.cur == 3) c.priv .fetch va
  || match fetchCheck s t (c.cur == 3) c.priv va with
    | .ok x => readWaits s t x.pa 4 && ((s.tri t).l1i.lookup (x.pa / 64)).isNone
    | .error _ => false

/-- The correct-path fetch at the leading lane's PC (R106). An annulled delay slot is fetched as well, since it issues; what
its words say is not judged, since none of its instructions takes effect (R85; log 29). -/
def fetchBundle (s0 : State) (t : TriadId) : State :=
  let s := endSlot s0 t
  if (s0.tri t).frozen || !canIssue s t then s0
  else
    let x := s.tri t
    let c := x.lanes[x.lead].core
    let annul := match x.delay with | some d => d.annul | none => false
    let got (s : State) (w : BitVec 32) (v : Option (BitVec 32)) : State := if annul then s else fetched s t c.pc w v
    if fetchWaits s t c c.pc then s0
    else
      match fetchOne s t c c.pc with
      | (s, .error f) => raise s t 3 (some (fetchFrec c c.pc f))
      | (s, .ok w) =>
        if wordEnds w then got s w none
        else if fetchWaits s t c (c.pc + 4) then s0
        else
          match fetchOne s t c (c.pc + 4) with
          | (s, .error f) => raise s t 3 (some (fetchFrec c (c.pc + 4) f))
          | (s, .ok v) => got s w (some v)

/-- A wrong-path fetch fills the L1I or is dropped (R107 to R109). -/
def wrongFetch (s : State) (t : TriadId) (va : Word) : State :=
  let x := s.tri t
  let c := x.lanes[x.lead].core
  if !x.runs then s
  else
    match fetchCheck s t (c.cur == 3) c.priv va with
    | .ok r => countL (fillL1i (coreTouch s t (c.cur == 3) c.priv .fetch va) t r.pa) t 0x22 1
    | .error _ => s

/-- Words that a lane received from the leading lane through its delay register in error (R195, R196): those of
`corr` corrected a single-bit error, those of `unc` met a double-bit error, and their signature is marked (R278). The
leading lane and a lane not in use receive none (R252). -/
def delayErrors (s : State) (a : Arrival) : State :=
  let t := a.t
  let x := s.tri t
  let took (m : BitVec 3) : List LaneId := x.actives.filter fun l => m.getLsbD l.val && l != x.lead
  let s := (took a.corr).foldl (fun s _ => countL (s.up (Adr.cmpErrcnt t.val) fun w => satField w 15 0) t 0x4A 1) s
  (took a.unc).foldl (fun s (l : LaneId) =>
    let s := s.setTriad t fun x => x.setLane l fun y => { y with bad := true }
    countL (s.up (Adr.cmpDrstat t.val) fun w => putBit (satField w 15 8) l.val true) t 0x4B 1) s

/-- INSTRUCTION_FETCH. -/
def execInstructionFetch (t : Arrival) (wrongPath : Option Word) (s : State) : Host.Outcome State Fault Refusal :=
  .next (match wrongPath with
    | some va => wrongFetch s t.t va
    | none => delayErrors (fetchBundle s t.t) t)

/-- RESULT_LANDS (R67): the open slot ends. -/
def execResultLands (t : TriadId) (s : State) : Host.Outcome State Fault Refusal :=
  .next (if (s.tri t).frozen then s else endSlot s t)

end Sys2Proof.Machine
end

