-- ==== Sys2Proof/Machine/Issue.lean ====
section
/-! DEFINITION. The issue of a bundle on a triad: its checks in rank order (R141, R142), its data accesses (R215 to
R236), its effect in every lane in use, its branch and its repeat. -/

namespace Sys2Proof.Machine

/-! ### The data access of a load or store -/

/-- An access that has passed its checks. -/
structure Access where
  va : Word
  pa : Nat
  size : Nat
  dev : Bool
  sens : Bool
  cache : Bool

inductive AccessCheck where
  | ok (a : Access)
  | align
  | trap (f : Frec)

/-- The checks of a load or store from the leading lane's registers (R45, R129, R188, R296). -/
def accessCheck (s : State) (t : TriadId) (c : LaneCore) (fn : MemFn) (va : Word) : AccessCheck :=
  let n := 2 ^ memSize fn
  let load := memIsLoad fn
  if va.toNat % n ≠ 0 then .align
  else
    match coreAccess s t (c.cur == 3) c.priv (if load then .load else .store) va with
    | .error f =>
      .trap { kind := if c.cur = 3 then 6 else if load then 1 else 2, priv := c.priv, level := f.level,
              cause := f.cause, va := va }
    | .ok x =>
      if n < 4 ∧ (regionOf s x.pa == .regs) = true then .align
      else
        let sens := attrSens x.attr || (load && readSensitive x.pa)
        .ok { va := va, pa := x.pa, size := n, dev := attrDev x.attr || sens || devAddress s x.pa, sens := sens,
              cache := attrCache x.attr }

/-- The memory operation of a bundle, at most one (R61). -/
def memOf : List Op → Option (MemFn × Reg × Reg × Bool × BitVec 12)
  | [] => none
  | .mem fn rt rb post off :: _ => some (fn, rt, rb, post, off)
  | _ :: l => memOf l

/-! ### Illegal, privileged and arithmetic conditions (R73, R74, R84, R104, R141, R151, R183) -/

/-- MTS by a bank number to the current bank's PC, above U level (R151, R152). -/
def mtsOwnPc (c : LaneCore) : Op → Bool
  | .mts sr _ => c.priv != 0 && decide (0x100 ≤ sr.toNat) && srBank sr.toNat == c.cur && decide (srIdx sr.toNat = 0x20)
  | _ => false

/-- The repeated instruction writes the RPC of the current bank (R104). -/
def mtsOwnRpc (c : LaneCore) : Op → Bool
  | .mts sr _ => decide (srCanon c.cur sr.toNat = 1)
  | _ => false

/-- The count a prefix latches (R104). -/
def repCount (c : LaneCore) : RepSrc → Nat
  | .imm n => n.toNat
  | .reg r => (c.rg r).toNat % 2 ^ 32

/-- What makes a prefix illegal: the bundle behind it, or a REPN count above 64 (R100, R104). A word behind it counts as the
branch, prefix or service call that its opcode names, an illegal encoding too (DEDUCED, log 29). -/
def prefixIllegal (s : State) (t : TriadId) (c : LaneCore) (pc : Word) (op : Op) : Bool :=
  let behind := match peekWord s t c (pc + 4) with
    | none => false
    | some w => !wordEnds w || (match namedOp w with
        | some o => repeatForbidden o || mtsOwnRpc c o
        | none => false)
  match op with
  | .repi _ => behind
  | .repn src => behind || decide (64 < repCount c src)
  | _ => false

/-- An operation that raises illegal instruction. -/
def opIllegal (s : State) (t : TriadId) (c : LaneCore) (pc : Word) (inDelay : Bool) (op : Op) : Bool :=
  !opEncodable op || (inDelay && delayForbidden op) || mtsOwnPc c op || prefixIllegal s t c pc op
    || (match op with | .rete => c.cur == 0 | _ => false)

/-- An operation that the privilege level admits (R54, R55, R134, R137, R152, R153). -/
def opAllowed (c : LaneCore) : Op → Bool
  | .mfs _ sr => mfsAllowed c sr.toNat
  | .mts sr r => mtsAllowed c sr.toNat (c.rg r)
  | .rete => c.priv != 0
  | .iinva => c.priv != 0
  | .dinva => c.priv != 0
  | _ => true

/-- An arithmetic exception at issue (R73, R74). -/
def opArith (c : LaneCore) : Op → Bool
  | .div _ _ b => c.rg b == 0
  | .alu .addv _ a b => addOverflows (c.rg a) (c.rg b)
  | .alu .subv _ a b => subOverflows (c.rg a) (c.rg b)
  | _ => false

/-- The exception one operation meets, with its rank (R142): rank, vector, fault record. -/
def opExc (s : State) (t : TriadId) (c : LaneCore) (pc : Word) (inDelay : Bool) (op : Op) :
    Option (Nat × Nat × Option Frec) :=
  if opIllegal s t c pc inDelay op then some (2, 1, none)
  else if !opAllowed c op then some (3, 2, none)
  else
    match op with
    | .mem fn _ rb post off =>
      (match accessCheck s t c fn (memAddr c rb post off) with
        | .align => some (4, 5, none)
        | .trap f => some (5, 4, some f)
        | .ok _ => none)
    | _ => if opArith c op then some (6, 8, none) else none

/-- A bundle as it issues: its operations with their own addresses and slot numbers. -/
def bundleOps (pc : Word) : Option Op → Op → List (Op × Word × Nat)
  | none, b => [(b, pc, 1)]
  | some a, b => [(a, pc, 1), (b, pc + 4, 2)]

/-- The exception a bundle meets at issue: the highest rank, slot 1 among equals (R142). `ends` is the E bit of its
last operation (R59). -/
def bundleExc (s : State) (t : TriadId) (c : LaneCore) (inDelay : Bool) (first : Option Op) (last : Op) (ends : Bool) :
    Option (Nat × Option Frec) :=
  let bad := !ends || (match first with | some a => !pairLegal a last | none => false)
  if bad then some (1, none)
  else
    let l := (bundleOps c.pc first last).filterMap fun p => opExc s t c c.pc inDelay p.1
    let best := l.foldl (fun b e => match b with
      | none => some e
      | some b => if e.1 < b.1 then some e else some b) none
    best.map fun e => (e.2.1, e.2.2)

/-! ### Gated stores as loads see them (R222, R223) -/

def GateEntry.bytes (e : GateEntry) : Nat := enCount e.be

/-- The ranges of an entry and of an access overlap, through whatever alias (R223). -/
def GateEntry.overlaps (e : GateEntry) (pa n : Nat) : Bool :=
  let a := plainAddr e.pa.toNat
  let p := plainAddr pa
  decide (a < p + n ∧ p < a + e.bytes)

/-- The octet that an entry holds for a plain address. -/
def GateEntry.octet? (e : GateEntry) (p : Nat) : Option Byte :=
  let a := plainAddr e.pa.toNat
  if e.aliasK = 0 ∧ a ≤ p ∧ p < a + e.bytes then some (BitVec.ofNat 8 (e.data.toNat / 256 ^ (p - a))) else none

/-- The octet of the youngest entry that covers an address. -/
def gatedOctet (es : List GateEntry) (p : Nat) : Option Byte :=
  es.foldl (fun b e => match e.octet? p with | some v => some v | none => b) none

/-- A lane's own copies of the stores that have not completed, oldest first (R222, R224). -/
def Triad.columnOf (x : Triad) (l : LaneId) : List GateEntry := (x.lane l).held ++ (x.lane l).gate

/-- Load data with the octets a column forwards. -/
def forwardData (es : List GateEntry) (pa n : Nat) (base : Word) : Word :=
  BitVec.ofNat 64 (natLE ((List.range n).map fun i =>
    (gatedOctet es (plainAddr pa + i)).getD (BitVec.ofNat 8 (base.toNat / 256 ^ i))))

def fullyForwarded (es : List GateEntry) (pa n : Nat) : Bool :=
  (List.range n).all fun i => (gatedOctet es (plainAddr pa + i)).isSome

/-- A load's octets overlap an alias store of the column (R223). -/
def aliasOverlap (es : List GateEntry) (pa n : Nat) : Bool := es.any fun e => e.aliasK != 0 && e.overlaps pa n

/-- The open clause holds a device store, or an alias store the load overlaps (R204 condition 6, R223). -/
def openDevStore (x : Triad) (pa n : Nat) : Bool :=
  (x.lane x.lead).gate.any fun e => decide (e.clause = x.clause) && (e.dev || (e.aliasK != 0 && e.overlaps pa n))

/-- A store that a device load must wait for has not completed (R225). In a delay slot a store of the open clause cannot
(log 29). -/
def devPending (x : Triad) (pa n : Nat) : Bool :=
  (x.columnOf x.lead).any fun e =>
    (x.delay.isNone || decide (e.clause ≠ x.clause)) && (e.dev || (e.aliasK != 0 && e.overlaps pa n))

/-- The load counts as a device-page load (R204, R223, R225). -/
def loadIsDev (x : Triad) (a : Access) : Bool := a.dev || aliasOverlap (x.columnOf x.lead) a.pa a.size

/-- Conditions 5 and 6 of R204 that a load makes due in front of its bundle (R230). -/
def loadDue (x : Triad) (a : Access) : BitVec 10 :=
  let devStore := (x.lane x.lead).gate.any fun e => decide (e.clause = x.clause) && e.dev
  bit10 5 (a.sens && (!x.sensOpen || devStore)) ||| bit10 6 (loadIsDev x a && openDevStore x a.pa a.size)

/-! ### How a memory operation goes -/

/-- What becomes of a bundle's memory operation: none there; it waits; a close is due in front of it; the SENS access
is a mismatch (R231, R236); the load has its data; the store enters the gate. -/
inductive MemStep where
  | none
  | wait
  | close (c : BitVec 10)
  | mismatch
  | load (a : Access) (s : State) (base : Word) (arrived fwd : Bool)
  | store (a : Access)

/-- Every ACTIVE lane computes the same address (R231). -/
def sameAddress (x : Triad) (rb : Reg) (post : Bool) (off : BitVec 12) : Bool :=
  let va := memAddr (x.lane x.lead).core rb post off
  x.actives.all fun l => memAddr (x.lane l).core rb post off == va

/-- The replay log with its next entry consumed; the clause that has consumed or recorded 32 closes (R204 condition 8,
R233, R235; log 29). -/
def Triad.logged (x : Triad) (log : List LogEntry) : Triad :=
  { x with log := log, logPos := x.logPos + 1, closeDue := x.closeDue ||| bit10 8 (x.logPos + 1 == 32) }

/-- A SENS access that may go on: replayed from the log, or made at the device where the log has room (R232 to R236). -/
def sensLoad (s : State) (t : TriadId) (a : Access) : MemStep :=
  let x := s.tri t
  match x.log[x.logPos]? with
  | some e =>
    if e.pa.toNat = a.pa ∧ e.size = a.size then
      let e' := { e with clause := x.clause }
      .load a (countL (s.setTriad t fun x => x.logged (x.log.set x.logPos e')) t 0x13 1) e.val true false
    else .mismatch
  | none =>
    if 32 ≤ x.log.length then (if x.slots = 0 ∨ x.delay.isSome then .wait else .close (bit10 8 true))
    else
      let (s, v) := busRead s t a.pa a.size
      let e : LogEntry := { pa := BitVec.ofNat 40 a.pa, size := a.size, val := v, clause := x.clause }
      .load a (s.setTriad t fun x => x.logged (x.log ++ [e])) v false false

/-- A line of DDR whose read delivers zero for it enters no L1D (R380, R387). -/
def ddrBad (s : State) (line : Nat) : Bool := ddrLost s line || ddrError s line == some true

/-- A load outside device pages: the L1D for DDR pages with CACHE, forwarding from the column (R30, R47, R222); a read
that its column does not answer waits as R28 and R381 say. -/
def plainLoad (s : State) (t : TriadId) (a : Access) : MemStep :=
  let x := s.tri t
  let full := fullyForwarded (x.columnOf x.lead) a.pa a.size
  let line := a.pa / 64 * 64
  let hit := a.cache && decide (ddrBase ≤ a.pa) && x.l1d.contains line
  let s :=
    if a.cache && decide (ddrBase ≤ a.pa) && !hit then
      (countL s t 0x1B 1).setTriad t fun x => { x with l1d := if ddrBad s line then x.l1d else line :: x.l1d }
    else if hit then countL s t 0x1A 1 else s
  let (s, v) := if hit then (s, BitVec.ofNat 64 (rdMem s a.pa a.size)) else busRead s t a.pa a.size
  if !hit && !full && readWaits s t a.pa a.size then .wait else .load a s v (full || hit) full

/-- The memory operation of the bundle that the leading lane is about to issue. -/
def memStep (s : State) (t : TriadId) (ops : List Op) : MemStep :=
  let x := s.tri t
  let c := (x.lane x.lead).core
  match memOf ops with
  | none => .none
  | some (fn, _, rb, post, off) =>
    let kind : XKind := if memIsLoad fn then .load else .store
    if coreWaits s t (c.cur == 3) c.priv kind (memAddr c rb post off) then .wait else
    match accessCheck s t c fn (memAddr c rb post off) with
    | .ok a =>
      let s := coreTouch s t (c.cur == 3) c.priv kind a.va
      if !memIsLoad fn then
        if x.actives.any fun l => decide (64 ≤ x.column l) then .wait else .store a
      else
        let due := if x.delay.isSome ∨ x.slots = 0 then 0 else loadDue x a
        if due ≠ 0 then .close due
        else if !loadIsDev x a then plainLoad s t a
        else if devPending x a.pa a.size || readWaits s t a.pa a.size then .wait
        else if !a.sens then
          let (s, v) := busRead s t a.pa a.size
          .load a s v false false
        else if !sameAddress x rb post off then .mismatch
        else sensLoad s t a
    | _ => .none

/-- The delay slot that a branch opens (R83, R85). -/
def delayOf (c : LaneCore) (ipc : Word) (op : Op) : Option Delay :=
  if opClass op == .branch then
    let taken := branchTaken c op
    let annul := match op with | .bcc _ a _ _ _ => a | _ => false
    some { branchPc := c.pc, target := if taken then some (branchTarget c ipc op) else none, annul := annul && !taken }
  else none

/-- The address of the bundle behind a bundle and its delay slot (R89). -/
def fallOf (s : State) (t : TriadId) (c : LaneCore) (size : Nat) (last : Op) : Word :=
  let behind := c.pc + BitVec.ofNat 64 size
  if opClass last == .branch then behind + BitVec.ofNat 64 (peekSize s t c behind) else behind

/-- The boundary due in front of the delay slot of a branch moves in front of the branch (R207): the delay slot's load
is looked at with the values it will read. An annulled delay slot accesses nothing (R85). -/
def delayDue (s : State) (t : TriadId) (ops : List (Op × Word × Nat)) (size : Nat) (last : Op) : BitVec 10 :=
  let x := s.tri t
  let l := x.lane x.lead
  let c := l.core
  match delayOf c c.pc last, memOf (peekOps s t c (c.pc + BitVec.ofNat 64 size)) with
  | some d, some (fn, _, rb, post, off) =>
    if x.slots = 0 ∨ d.annul = true ∨ memIsLoad fn = false then 0
    else
      let fall := fallOf s t c size last
      let y := ops.foldl (fun (y : Lane) p => y.act c ⟨c.pc, p.2.1, p.2.2, fall, 0, true⟩ p.1) l
      let d := (y.core.advance).1
      (match accessCheck s t d fn (memAddr d rb post off) with
        | .ok a => loadDue x a
        | _ => 0)
  | _, _ => 0

/-! ### Effects -/

/-- The gate entry a store makes in one lane: the leading lane's address, the lane's own data (R197, R216). -/
def gateEntry (x : Triad) (c : LaneCore) (a : Access) (fn : MemFn) (rt : Reg) : GateEntry :=
  { id := x.stores, pa := BitVec.ofNat 40 a.pa, data := storeData c fn rt, be := BitVec.ofNat 8 (2 ^ a.size - 1),
    dev := a.dev, aliasK := aliasKind a.pa, clause := x.clause }

/-- Cache maintenance (R137 to R139): the physical address of a valid leaf, whatever its permissions. -/
def leafOf (s : State) (t : TriadId) (bank3 : Bool) (va : Word) : Option Nat :=
  let q := coreReq s t 3 .load
  if bank3 || !q.ten then (if va.toNat < 2 ^ 40 then some va.toNat else none)
  else if field va 63 39 ≠ 0 then none
  else
    match tlbHit s t q.asid (va.toNat / 4096) with
    | some e => some (leafAddr e.pte e.level va.toNat)
    | none => match (walk s t q.root va).1 with
      | .ok (pa, _, _) => some pa
      | .error _ => none

/-- An address of installed DDR. -/
def inDdr (s : State) (pa : Nat) : Bool := regionOf s pa == .ddr

def cacheOp (s : State) (t : TriadId) (c : LaneCore) (op : Op) : State :=
  let bank3 := c.cur == 3
  let line (r : Reg) : Option Nat := (leafOf s t bank3 (c.rg r)).filter (inDdr s)
  let touch (r : Reg) : State := coreTouch s t bank3 3 .load (c.rg r)
  match op with
  | .iinv r =>
    (match line r with
      | some pa => (touch r).setTriad t fun x =>
          { x with l1i := x.l1i.filter (fun p => decide (p.1 ≠ pa / 64)), fetched := none }
      | none => touch r)
  | .iinva => s.setTriad t fun x => { x with l1i := [], fetched := none }
  | .dinv r =>
    (match line r with
      | some pa => (touch r).setTriad t fun x => { x with l1d := x.l1d.filter fun a => decide (a ≠ pa / 64 * 64) }
      | none => touch r)
  | .dinva => s.setTriad t fun x => { x with l1d := [] }
  | _ => s

/-- IINV and IINVA wait until the gate holds no entry of a closed clause (R139). -/
def iinvWaits (x : Triad) (op : Op) : Bool :=
  let held := !x.toRelease.isEmpty || (x.lane x.lead).gate.any fun e => decide (e.clause ≠ x.clause)
  match op with
  | .iinv _ => held
  | .iinva => held
  | _ => false

/-- The events a bundle counts (R692). -/
def bundleCounts (c : LaneCore) (ops : List Op) : List (Nat × Nat) :=
  let has (p : Op → Bool) : Nat := (ops.filter p).length
  let fp := has fun o => match o with | .fp .. => true | _ => false
  let dv := has fun o => match o with | .div .. => true | _ => false
  let br := ops.filter fun o => opClass o == .branch
  let calls := has fun o => match o with | .call _ => true | .callr _ => true | _ => false
  let rets := has fun o => match o with | .ret => true | _ => false
  let ind := has fun o => match o with | .jr _ => true | .callr _ => true | _ => false
  [(0x02, if ops.length = 2 then 1 else 0), (0x03, ops.length), (0x06, fp), (0x07, dv), (0x20, br.length),
   (0x21, (br.filter fun o => branchTaken c o).length), (0x23, calls), (0x24, rets), (0x26, ind)]

def Triad.countAll (x : Triad) (l : List (Nat × Nat)) : Triad :=
  l.foldl (fun x p => if p.2 = 0 then x else x.countC p.1 p.2) x

/-- Branch outcomes that the leading lane predicted wrongly: a conditional branch by R91, a RET by R93. -/
def mispredicted (l : Lane) (ipc : Word) (op : Op) : Bool :=
  match op with
  | .bcc .. => branchTaken l.core op != decide ((branchTarget l.core ipc op).toNat ≤ ipc.toNat)
  | .ret => l.ras.head? != some (branchTarget l.core ipc op)
  | _ => false

/-- Class L counts of a bundle's branch (R107, R692). -/
def branchCounts (s : State) (t : TriadId) (l : Lane) (ipc : Word) (op : Op) : State :=
  let s := if mispredicted l ipc op then countL s t 0x22 1 else s
  match op with
  | .ret => if mispredicted l ipc op then countL s t 0x25 1 else s
  | .call _ => if l.ras.length = 16 then countL s t 0x27 1 else s
  | .callr _ => if l.ras.length = 16 then countL s t 0x27 1 else s
  | _ => s

/-- Where a lane goes on after a bundle: a repeat stays or leaves its instruction, a delay slot goes to the branch's
target, anything else goes on behind (R83, R101 to R104). -/
def nextCore (c : LaneCore) (op : Op) (size : Nat) (rep : Bool) (d : Option Delay) : LaneCore :=
  let behind := c.pc + BitVec.ofNat 64 size
  c.setCur fun b =>
    match op with
    | .repi src =>
      let n := repCount c src
      { b with pc := if n = 0 then behind + 4 else behind, rpc := BitVec.ofNat 32 n, psw := putBit b.psw 10 (n != 0),
               repn := false }
    | .repn src =>
      let n := repCount c src
      { b with pc := if n = 0 then behind + 4 else behind, rpc := BitVec.ofNat 32 n, psw := putBit b.psw 10 (n != 0),
               repn := n != 0 }
    | _ =>
      if rep then
        if b.rpc = 0 then { b with pc := behind, psw := putBit b.psw 10 false, repn := false } else b
      else
        match d with
        | some x => { b with pc := x.target.getD behind }
        | none => { b with pc := behind }

/-- One iteration is counted down as it issues (R102, R103). -/
def startRep (rep : Bool) (c : LaneCore) : LaneCore := if rep then c.setCur fun b => { b with rpc := b.rpc - 1 } else c

/-- A bundle acts in one lane. -/
def laneIssue (x : Triad) (rep : Bool) (ops : List (Op × Word × Nat)) (size : Nat) (last : Op) (fall : Word)
    (data : LaneId → Word) (arrived : Bool) (st : Option (Access × MemFn × Reg)) (i : LaneId) (l : Lane) : Lane :=
  let src := startRep rep l.core
  let y := ops.foldl (fun (y : Lane) p => y.act src ⟨src.pc, p.2.1, p.2.2, fall, data i, arrived⟩ p.1) { l with core := src }
  let y := match st with
    | some (a, fn, rt) => { y with gate := y.gate ++ [gateEntry x src a fn rt] }
    | none => y
  { y with core := nextCore y.core last size rep x.delay }

/-- A service call's entry (R134, R161): SYS through vector 10, MCALL through vector 11 of the M table. -/
def Triad.service (x : Triad) (pc : Word) : Op → Option PendEntry
  | .sys code => some { x.exc 10 pc none with code := code }
  | .mcall code => some { x.exc 11 pc none with code := code, mTable := true }
  | _ => none

/-- Slots of R245 behind one more: those of a REPN and those with PSW.NI = 1 do not count. -/
def Triad.seenAfter (x : Triad) (due : Bool) : Option Nat :=
  let c := x.lanes[x.lead].core
  (if due then x.evSeen.or (some 0) else x.evSeen).map fun n => if pswNI c.psw || c.repnRuns then n else n + 1

/-- The slot is counted, and so is one executed again after a rollback (R204, R208, R692); the first slot of a handler
clears its event (R168); a deliverable event bounds the clause (R245). -/
def countSlot (s : State) (t : TriadId) : State :=
  let x := s.tri t
  let seen := x.seenAfter (eventDue s t)
  let s := if x.rollbacks ≠ 0 ∧ x.closed.isNone then countL s t 0x2F 1 else s
  let s := match x.evClear with
    | some n => s.up (Adr.evcPend (n.val / 32)) fun w => putBit w (n.val % 32) false
    | none => s
  s.setTriad t fun x =>
    { x.countC 0x01 1 with
      slots := x.slots + 1, slotOpen := true, first := none, evClear := none
      evGone := x.evGone || x.evClear.isSome, evSeen := seen }

/-- A bundle that has passed its checks issues in every ACTIVE lane (R63, R64, R192 to R197). -/
def issueNow (s : State) (t : TriadId) (rep : Bool) (ops : List (Op × Word × Nat)) (size : Nat) (last : Op)
    (data : LaneId → Word) (arrived : Bool) (st : Option (Access × MemFn × Reg)) : State :=
  let x := s.tri t
  let l := x.lane x.lead
  let c := startRep rep l.core
  let fall := fallOf s t c size last
  let ipc := (ops.getLast?.map fun p => p.2.1).getD c.pc
  let s := branchCounts s t l ipc last
  let s := cacheOp s t c last
  let s := countSlot s t
  s.setTriad t fun y =>
    let y := y.countAll (bundleCounts c (ops.map fun p => p.1) ++ [(0x05, if rep then 1 else 0)])
    { y with
      lanes := Vector.ofFn fun (i : Fin 3) =>
        if x.act i then laneIssue x rep ops size last fall data arrived st i y.lanes[i] else y.lanes[i]
      delay := delayOf c ipc last
      entry := (match x.service (c.pc + 4) last with | some p => some p | none => y.entry)
      stores := y.stores + (if st.isSome then 1 else 0)
      sensOpen := y.sensOpen && !(match st with | some (a, _, _) => a.dev | none => false)
      closeDue := y.closeDue ||| bit10 1 (last == .close) }

/-- An annulled delay slot: one issue slot, nothing else (R64, R85). -/
def issueAnnulled (s : State) (t : TriadId) (size : Nat) (d : Delay) : State :=
  let x := s.tri t
  (countSlot s t).setTriad t fun y =>
    { y.countC 0x04 1 with
      lanes := Vector.ofFn fun (i : Fin 3) =>
        if x.act i then { y.lanes[i] with core := nextCore y.lanes[i].core .close size false (some d) } else y.lanes[i]
      delay := none }

/-- A doorbell of a DMA channel. -/
def isDoorbell (pa : Nat) : Bool :=
  let k := pa / 0x10000
  let o := pa % 0x10000
  (k == 0x8006 || k == 0x8007) && decide (0x1000 ≤ o ∧ o < 0x2000 ∧ o % 0x100 = 8)

/-- What the release of a gate entry counts; class C, so with the clause that made the entry (R691, R692). -/
def releaseCounts (pa : Nat) (dev : Bool) : List (Nat × Nat) :=
  [(0x40, 1), (0x41, dev.toNat), (0x43, (decide (pa = Adr.tnsArm)).toNat), (0x44, (isDoorbell pa).toNat),
   (0x45, (decide (pa = Adr.sysRecap)).toNat)]

/-- Class C counts of a data access (R692); an agreed input sample is read by a load that covers a GPIO_g_IN (R569). -/
def accessCounts (x : Triad) (a : Access) (load fwd : Bool) : List (Nat × Nat) :=
  let gpio := match perAddr a.pa with
    | some (true, off) => decide (0x3000 ≤ off ∧ off < 0x3200 ∧ off % 0x40 ≤ 0x0C ∧ 0x0C < off % 0x40 + a.size)
    | _ => false
  if load then
    [(0x10, 1), (0x12, a.sens.toNat), (0x14, (loadIsDev x a).toNat), (0x15, fwd.toNat), (0x48, gpio.toNat)]
  else [(0x11, 1), (0x16, (aliasKind a.pa != 0).toNat)] ++ releaseCounts a.pa a.dev

/-- The bundle's memory operation decides whether it issues; none: nothing happens. -/
def issueMem (s : State) (t : TriadId) (rep : Bool) (ops : List (Op × Word × Nat)) (size : Nat) (last : Op) : Option State :=
  let x := s.tri t
  match memStep s t (ops.map fun p => p.1) with
  | .wait => none
  | .close c => some (s.setTriad t fun x => { x with closeDue := x.closeDue ||| c, first := none })
  | .mismatch => some (s.setTriad t fun x => { x with forced := true, first := none })
  | .none => some (issueNow s t rep ops size last (fun _ => 0) true none)
  | .load a s' base arrived fwd =>
    let data (l : LaneId) : Word := if loadIsDev x a then base else forwardData (x.columnOf l) a.pa a.size base
    some ((issueNow s' t rep ops size last data arrived none).setTriad t fun y => y.countAll (accessCounts x a true fwd))
  | .store a =>
    match memOf (ops.map fun p => p.1) with
    | some (fn, rt, _, _, _) =>
      let s := coreTouch s t ((x.lane x.lead).core.cur == 3) (x.priv) .store a.va
      some ((issueNow s t rep ops size last (fun _ => 0) true (some (a, fn, rt))).setTriad t fun y =>
        y.countAll (accessCounts x a false false))
    | none => none

/-- What the translation of a data access that faults leaves: the walk's reads and counts (R293, R692). -/
def memTouch (s : State) (t : TriadId) (c : LaneCore) (ops : List (Op × Word × Nat)) : State :=
  match memOf (ops.map fun p => p.1) with
  | some (fn, _, rb, post, off) =>
    coreTouch s t (c.cur == 3) c.priv (if memIsLoad fn then .load else .store) (memAddr c rb post off)
  | none => s

/-- A whole bundle at the leading lane's PC. None: it cannot issue now and nothing happens. An instruction that a
repeat in progress must not repeat raises illegal instruction (log 29). -/
def issueBundle (s : State) (t : TriadId) (first : Option Op) (last : Op) (ends : Bool) : Option State :=
  let x := s.tri t
  let c := (x.lane x.lead).core
  let ops := bundleOps c.pc first last
  let size := if first.isSome then 8 else 4
  let annul := match x.delay with | some d => d.annul | none => false
  let rep := pswRP c.psw && c.bank.rpc != 0 && x.delay.isNone
  if annul then (match x.delay with | some d => some (issueAnnulled s t size d) | none => none)
  else if rep && (first.isSome || repeatForbidden last || mtsOwnRpc c last) then some (raise s t 1 none)
  else
    match bundleExc s t c x.delay.isSome first last ends with
    | some (1, _) =>
      some (raiseIllegal s t c.pc (ops.map fun p => (p.1, p.2.1)) (ends && first.isNone && mtsOwnPc c last))
    | some (vec, f) => some (raise (if vec = 4 then memTouch s t c ops else s) t vec f)
    | none =>
      if iinvWaits x last then none
      else
        let due := delayDue s t ops size last
        if due ≠ 0 then some (s.setTriad t fun x => { x with closeDue := x.closeDue ||| due, first := none })
        else issueMem s t rep ops size last

/-- One instruction command: the open slot ends, then the instruction issues, alone or as the second of its bundle; a
first one with E = 0 is held until the second comes (R59, R110). It changes nothing while the lanes may not issue. -/
def opCommand (s : State) (t : TriadId) (e : Bool) (op : Op) : State :=
  let s1 := endSlot s t
  if (s.tri t).frozen || !canIssue s1 t then s
  else
    match (s1.tri t).first, e with
    | none, false => s.setTriad t fun x => { x with first := some op }
    | f, e => (issueBundle s1 t f op e).getD s

end Sys2Proof.Machine
end

