-- ==== Sys2Proof/Machine/Arith.lean ====
section
/-! DEFINITION. The integer instructions (R71 to R74, R118 to R120, R125), each one command of the stream. -/

namespace Sys2Proof.Machine

/-- ADD (R118). -/
def execAdd (t : TriadId) (e : Bool) (rd rs1 rs2 : Reg) (s : State) : Host.Outcome State Fault Refusal :=
  .next (opCommand s t e (.alu .add rd rs1 rs2))

/-- SUB (R118). -/
def execSub (t : TriadId) (e : Bool) (rd rs1 rs2 : Reg) (s : State) : Host.Outcome State Fault Refusal :=
  .next (opCommand s t e (.alu .sub rd rs1 rs2))

/-- ADDV (R74, R118). -/
def execAddv (t : TriadId) (e : Bool) (rd rs1 rs2 : Reg) (s : State) : Host.Outcome State Fault Refusal :=
  .next (opCommand s t e (.alu .addv rd rs1 rs2))

/-- SUBV (R74, R118). -/
def execSubv (t : TriadId) (e : Bool) (rd rs1 rs2 : Reg) (s : State) : Host.Outcome State Fault Refusal :=
  .next (opCommand s t e (.alu .subv rd rs1 rs2))

/-- AND (R118). -/
def execAnd (t : TriadId) (e : Bool) (rd rs1 rs2 : Reg) (s : State) : Host.Outcome State Fault Refusal :=
  .next (opCommand s t e (.alu .and rd rs1 rs2))

/-- OR (R118). -/
def execOr (t : TriadId) (e : Bool) (rd rs1 rs2 : Reg) (s : State) : Host.Outcome State Fault Refusal :=
  .next (opCommand s t e (.alu .or rd rs1 rs2))

/-- XOR (R118). -/
def execXor (t : TriadId) (e : Bool) (rd rs1 rs2 : Reg) (s : State) : Host.Outcome State Fault Refusal :=
  .next (opCommand s t e (.alu .xor rd rs1 rs2))

/-- ANDN (R118). -/
def execAndn (t : TriadId) (e : Bool) (rd rs1 rs2 : Reg) (s : State) : Host.Outcome State Fault Refusal :=
  .next (opCommand s t e (.alu .andn rd rs1 rs2))

/-- SLL (R118). -/
def execSll (t : TriadId) (e : Bool) (rd rs1 rs2 : Reg) (s : State) : Host.Outcome State Fault Refusal :=
  .next (opCommand s t e (.alu .sll rd rs1 rs2))

/-- SRL (R118). -/
def execSrl (t : TriadId) (e : Bool) (rd rs1 rs2 : Reg) (s : State) : Host.Outcome State Fault Refusal :=
  .next (opCommand s t e (.alu .srl rd rs1 rs2))

/-- SRA (R118). -/
def execSra (t : TriadId) (e : Bool) (rd rs1 rs2 : Reg) (s : State) : Host.Outcome State Fault Refusal :=
  .next (opCommand s t e (.alu .sra rd rs1 rs2))

/-- SLT (R118). -/
def execSlt (t : TriadId) (e : Bool) (rd rs1 rs2 : Reg) (s : State) : Host.Outcome State Fault Refusal :=
  .next (opCommand s t e (.alu .slt rd rs1 rs2))

/-- SLTU (R118). -/
def execSltu (t : TriadId) (e : Bool) (rd rs1 rs2 : Reg) (s : State) : Host.Outcome State Fault Refusal :=
  .next (opCommand s t e (.alu .sltu rd rs1 rs2))

/-- MIN (R118). -/
def execMin (t : TriadId) (e : Bool) (rd rs1 rs2 : Reg) (s : State) : Host.Outcome State Fault Refusal :=
  .next (opCommand s t e (.alu .min rd rs1 rs2))

/-- MAX (R118). -/
def execMax (t : TriadId) (e : Bool) (rd rs1 rs2 : Reg) (s : State) : Host.Outcome State Fault Refusal :=
  .next (opCommand s t e (.alu .max rd rs1 rs2))

/-- MINU (R118). -/
def execMinu (t : TriadId) (e : Bool) (rd rs1 rs2 : Reg) (s : State) : Host.Outcome State Fault Refusal :=
  .next (opCommand s t e (.alu .minu rd rs1 rs2))

/-- MAXU (R118). -/
def execMaxu (t : TriadId) (e : Bool) (rd rs1 rs2 : Reg) (s : State) : Host.Outcome State Fault Refusal :=
  .next (opCommand s t e (.alu .maxu rd rs1 rs2))

/-- SXW (R118). -/
def execSxw (t : TriadId) (e : Bool) (rd rs1 : Reg) (s : State) : Host.Outcome State Fault Refusal :=
  .next (opCommand s t e (.alu .sxw rd rs1 0))

/-- ZXW (R118). -/
def execZxw (t : TriadId) (e : Bool) (rd rs1 : Reg) (s : State) : Host.Outcome State Fault Refusal :=
  .next (opCommand s t e (.alu .zxw rd rs1 0))

/-- ADDI (R125). -/
def execAddi (t : TriadId) (e : Bool) (rd rs1 : Reg) (imm : BitVec 16) (s : State) : Host.Outcome State Fault Refusal :=
  .next (opCommand s t e (.imm .addi rd rs1 imm))

/-- ANDI (R125). -/
def execAndi (t : TriadId) (e : Bool) (rd rs1 : Reg) (imm : BitVec 16) (s : State) : Host.Outcome State Fault Refusal :=
  .next (opCommand s t e (.imm .andi rd rs1 imm))

/-- ORI (R125). -/
def execOri (t : TriadId) (e : Bool) (rd rs1 : Reg) (imm : BitVec 16) (s : State) : Host.Outcome State Fault Refusal :=
  .next (opCommand s t e (.imm .ori rd rs1 imm))

/-- XORI (R125). -/
def execXori (t : TriadId) (e : Bool) (rd rs1 : Reg) (imm : BitVec 16) (s : State) : Host.Outcome State Fault Refusal :=
  .next (opCommand s t e (.imm .xori rd rs1 imm))

/-- SLTI (R125). -/
def execSlti (t : TriadId) (e : Bool) (rd rs1 : Reg) (imm : BitVec 16) (s : State) : Host.Outcome State Fault Refusal :=
  .next (opCommand s t e (.imm .slti rd rs1 imm))

/-- SLTIU (R125). -/
def execSltiu (t : TriadId) (e : Bool) (rd rs1 : Reg) (imm : BitVec 16) (s : State) : Host.Outcome State Fault Refusal :=
  .next (opCommand s t e (.imm .sltiu rd rs1 imm))

/-- SLLI (R125). -/
def execSlli (t : TriadId) (e : Bool) (rd rs1 : Reg) (sh : BitVec 6) (s : State) : Host.Outcome State Fault Refusal :=
  .next (opCommand s t e (.imm .slli rd rs1 (sh.setWidth 16)))

/-- SRLI (R125). -/
def execSrli (t : TriadId) (e : Bool) (rd rs1 : Reg) (sh : BitVec 6) (s : State) : Host.Outcome State Fault Refusal :=
  .next (opCommand s t e (.imm .srli rd rs1 (sh.setWidth 16)))

/-- SRAI (R125). -/
def execSrai (t : TriadId) (e : Bool) (rd rs1 : Reg) (sh : BitVec 6) (s : State) : Host.Outcome State Fault Refusal :=
  .next (opCommand s t e (.imm .srai rd rs1 (sh.setWidth 16)))

/-- LUI (R125). -/
def execLui (t : TriadId) (e : Bool) (rd : Reg) (imm : BitVec 16) (s : State) : Host.Outcome State Fault Refusal :=
  .next (opCommand s t e (.imm .lui rd 0 imm))

/-- MUL (R71, R119). -/
def execMul (t : TriadId) (e : Bool) (pd : BitVec 2) (rs1 rs2 : Reg) (s : State) : Host.Outcome State Fault Refusal :=
  .next (opCommand s t e (.mul .mul pd rs1 rs2))

/-- MULU (R71, R119). -/
def execMulu (t : TriadId) (e : Bool) (pd : BitVec 2) (rs1 rs2 : Reg) (s : State) : Host.Outcome State Fault Refusal :=
  .next (opCommand s t e (.mul .mulu pd rs1 rs2))

/-- MAC (R71, R119). -/
def execMac (t : TriadId) (e : Bool) (pd : BitVec 2) (rs1 rs2 : Reg) (s : State) : Host.Outcome State Fault Refusal :=
  .next (opCommand s t e (.mul .mac pd rs1 rs2))

/-- MACU (R71, R119). -/
def execMacu (t : TriadId) (e : Bool) (pd : BitVec 2) (rs1 rs2 : Reg) (s : State) : Host.Outcome State Fault Refusal :=
  .next (opCommand s t e (.mul .macu pd rs1 rs2))

/-- DIV (R72, R73, R120). -/
def execDiv (t : TriadId) (e : Bool) (rs1 rs2 : Reg) (s : State) : Host.Outcome State Fault Refusal :=
  .next (opCommand s t e (.div true rs1 rs2))

/-- DIVU (R72, R73, R120). -/
def execDivu (t : TriadId) (e : Bool) (rs1 rs2 : Reg) (s : State) : Host.Outcome State Fault Refusal :=
  .next (opCommand s t e (.div false rs1 rs2))

/-- MFPL (R119). -/
def execMfpl (t : TriadId) (e : Bool) (rd : Reg) (ps : BitVec 2) (s : State) : Host.Outcome State Fault Refusal :=
  .next (opCommand s t e (.mfp false rd ps))

/-- MFPH (R119). -/
def execMfph (t : TriadId) (e : Bool) (rd : Reg) (ps : BitVec 2) (s : State) : Host.Outcome State Fault Refusal :=
  .next (opCommand s t e (.mfp true rd ps))

/-- MTP (R119). -/
def execMtp (t : TriadId) (e : Bool) (pd : BitVec 2) (rs1 rs2 : Reg) (s : State) : Host.Outcome State Fault Refusal :=
  .next (opCommand s t e (.mtp pd rs1 rs2))

/-- MFQ (R120). -/
def execMfq (t : TriadId) (e : Bool) (rd : Reg) (second : Bool) (s : State) : Host.Outcome State Fault Refusal :=
  .next (opCommand s t e (.mfq rd second))

end Sys2Proof.Machine
end

