-- ==== Sys2Proof/Machine/Repair.lean ====
section
/-! DEFINITION. The sub-arrays of the SRAM banks, the manufacturing repairs of the fuses and the soft repairs of memory
BIST (R638 to R641). -/

namespace Sys2Proof.Machine

/-- Entry n of the fuse field REPAIR; none where it is not in use or names what does not exist (R639). -/
def repairEntry (w : BitVec 2304) (n : Nat) : Option SpareUse :=
  let v := w.toNat / 2 ^ (24 * n)
  let u : SpareUse := { bank := v / 2 ^ 19 % 16, sub := v / 2 ^ 16 % 8, column := v / 2 ^ 15 % 2 == 1,
                        spare := v / 2 ^ 12 % 8, addr := v % 4096 }
  if v / 2 ^ 23 % 2 = 1 ∧ u.bank < 12 ∧ (u.column = true → u.spare < 4 ∧ u.addr < 576) then some u else none

/-- The 96 entries that count. -/
def repairsOf (w : BitVec 2304) : List SpareUse := (List.range 96).filterMap (repairEntry w)

/-- A line of cells as the memory addresses it: line x of n ordinary ones unless a repair replaces it, and the line that a
repair replaces where x is the spare it uses; none where x is not in use. -/
def lineSeen (uses : List SpareUse) (n x : Nat) : Option Nat :=
  if x < n then (if uses.any fun u => u.addr == x then none else some x)
  else (uses.find? fun u => u.spare == x - n).map fun u => u.addr

/-- The row and column at which a failing cell of sub-array sub of bank b shows under a list of repairs; none where no
access reaches it (R638, R639). -/
def cellSeen (uses : List SpareUse) (b sub : Nat) (x : BadCell) : Option (Nat × Nat) :=
  let mine := uses.filter fun u => u.bank == b && u.sub == sub
  if x.bank.val = b ∧ x.sub.val = sub then
    match lineSeen (mine.filter fun u => !u.column) 4096 x.row.val, lineSeen (mine.filter fun u => u.column) 576 x.col.val with
    | some r, some c => some (r, c)
    | _, _ => none
  else none

/-- A cover of a sub-array's failing cells by at most r rows and c columns, (column, address) each: one is found whenever
one exists, a row tried before a column (R640; log 26). -/
def coverCells : Nat → Nat → Nat → List (Nat × Nat) → Option (List (Bool × Nat))
  | _, _, _, [] => some []
  | 0, _, _, _ :: _ => none
  | n + 1, r, c, x :: l =>
    let byRow := if r = 0 then none
      else (coverCells n (r - 1) c (l.filter fun y => y.1 != x.1)).map fun p => (false, x.1) :: p
    let byCol := if c = 0 then none
      else (coverCells n r (c - 1) (l.filter fun y => y.2 != x.2)).map fun p => (true, x.2) :: p
    byRow.orElse fun _ => byCol

/-- The repairs in force: a soft repair takes the place of a fuse's for the same line. -/
def repairsInForce (fused soft : List SpareUse) : List SpareUse :=
  soft ++ fused.filter fun u => !soft.any fun v => v.bank == u.bank && v.sub == u.sub && v.column == u.column && v.addr == u.addr

/-- Spares of a sub-array that no entry of the fuses takes: its 8 rows or its 4 columns (R638). -/
def freeSpares (fused : List SpareUse) (b sub : Nat) (column : Bool) : List Nat :=
  (List.range (if column then 4 else 8)).filter fun k =>
    !fused.any fun u => u.bank == b && u.sub == sub && u.column == column && u.spare == k

/-- The soft repairs of one sub-array (R640 steps 1 to 4): none where its failing cells have no cover, or where the test
after the repair still finds one, in a spare that the repair uses (log 26). -/
def softRepair (fused : List SpareUse) (cells : List BadCell) (b : Fin 12) (sub : Fin 8) : Option (List SpareUse) :=
  match cells.filterMap (cellSeen fused b.val sub.val) with
  | [] => some []
  | l =>
    let rows := freeSpares fused b.val sub.val false
    let cols := freeSpares fused b.val sub.val true
    let put (column : Bool) (spares : List Nat) (p : List (Bool × Nat)) : List SpareUse :=
      ((p.filter fun y => y.1 == column).zip spares).map fun y =>
        { bank := b.val, sub := sub.val, column := column, spare := y.2, addr := y.1.2 }
    match coverCells (rows.length + cols.length) rows.length cols.length l with
    | none => none
    | some p =>
      let soft := put false rows p ++ put true cols p
      if (cells.filterMap (cellSeen (repairsInForce fused soft) b.val sub.val)).isEmpty then some soft else none

/-- The soft repairs of a bank; none where a sub-array makes it unrepairable. -/
def bankRepair (fused : List SpareUse) (cells : List BadCell) (b : Fin 12) : Option (List SpareUse) :=
  (List.finRange 8).foldr (fun sub acc => match softRepair fused cells b sub, acc with
    | some l, some m => some (l ++ m)
    | _, _ => none) (some [])

/-- The code of a bank in TST_BANK: 0 pass, 1 repaired, 2 unrepairable. -/
def bankCode (fused : List SpareUse) (cells : List BadCell) (b : Fin 12) : Nat :=
  match bankRepair fused cells b with
  | some [] => 0
  | some _ => 1
  | none => 2

/-- Object 0x7041 of a bank but for its low bits: spare rows and columns in use and fuse repairs applied (R661). -/
def spareCounts (fused soft : List SpareUse) (b : Fin 12) : BitVec 32 :=
  let n (p : SpareUse → Bool) (l : List SpareUse) : Nat := (l.filter fun u => u.bank == b.val && p u).length
  let all := fused ++ soft
  BitVec.ofNat 32 (n (fun u => !u.column) all * 2 ^ 8 + n (fun u => u.column) all * 2 ^ 16 + n (fun _ => true) fused * 2 ^ 24)

end Sys2Proof.Machine
end

