-- ==== Sys2Proof/Machine/Boot.lean ====
section
/-! DEFINITION. The boot sequence (R634 to R661): self-test results, the serial memory, DDR training, firmware
authentication, the registers loaded and the release of the triads. What the tests find comes with the command. -/

namespace Sys2Proof.Machine

/-! ### Results (R661) -/

/-- TST_STAT.STEP (R634). -/
def bootStep (s : State) (n : Nat) : State := s.up Adr.tstStat fun w => setField w 23 20 n

/-- READY of both rings once the session engine runs (R492, R637). -/
def ringsReady (s : State) : State :=
  if engineUp s then writeReady s 1 else s

/-- A step halts the boot (R634, R637). -/
def bootHalt (s : State) (step code : Nat) : State :=
  ringsReady (s.up Adr.tstStat fun w => setField (setField (putBit w 30 true) 23 20 step) 19 16 code)

/-- Bank n after memory BIST, coded as TST_BANK (R640). -/
def bankFound (f : BootFindings) (n : Fin 12) : Nat := bankCode (repairsOf Config.fuseRepair) f.cells n

/-- Memory BIST (R640, R641): every word zero, an unrepairable bank Off. -/
def memoryBist (s : State) (f : BootFindings) : State :=
  let fused := repairsOf Config.fuseRepair
  let s := clearRange s 0 sramSize
  let on := Vector.ofFn fun n : Fin 12 => if bankFound f n = 2 then (2 : BitVec 3) else 0
  let goal := Vector.ofFn fun n : Fin 12 => if bankFound f n = 2 then (2 : BitVec 2) else 0
  let s := { s with sram := { s.sram with errors := [], writeBack := [], power := on, goal := goal } }
  let s := s.wr Adr.tstBank (BitVec.ofNat 64 ((List.finRange 12).foldl (fun a (n : Fin 12) => a + bankFound f n * 4 ^ n.val) 0))
  let soft := (List.finRange 12).flatMap fun n => (bankRepair fused f.cells n).getD []
  s.upBoot fun b => { b with soft := soft, spares := (List.finRange 12).map (spareCounts fused soft) }

/-- The lanes of triad t that pass (R643). -/
def lanesPass (fail : BitVec 18) (t : TriadId) : Nat := (allLanes.filter fun l => !fail.getLsbD (3 * t.val + l.val)).length

/-- Lane logic BIST (R643, R644): TST_LANE, and a lane that fails starts RETIRED. -/
def laneBist (s : State) (fail : BitVec 18) : State :=
  let s := s.wr Adr.tstLane (BitVec.ofNat 64 ((List.range 18).foldl (fun a n => a + (fail.getLsbD n).toNat * 4 ^ n) 0))
  { s with triads := Vector.ofFn fun t => let x := s.triads[t]
      { x with lanes := Vector.ofFn fun l =>
          if fail.getLsbD (3 * t.val + l.val) then { x.lanes[l] with state := .retired } else x.lanes[l] } }

/-! ### The configuration (R655, R539) -/

/-- The newest valid configuration slot, and whether it is B (R655). -/
def newestCfg (b : Boot) : Option (CfgSlot × Bool) :=
  match cfgSlotOf b.cfgA, cfgSlotOf b.cfgB with
  | none, none => none
  | some x, none => some (x, false)
  | none, some y => some (y, true)
  | some x, some y => if (x.gen - y.gen).toNat < 2 ^ 31 then some (x, false) else some (y, true)

/-- A record of a slot is taken where its object is known and stored, its TYPE is the object's and its value in range
(R655). -/
def recordTaken (k ty : Nat) (bs : List Byte) : Bool :=
  match objInfo (k / 256) (k % 256) with
  | .ok i => i.keep == 1 && i.ty == ty && lengthOk (k / 256) i bs.length && valueOk (k / 256) (k % 256) bs
  | .error _ => false

/-- The records taken, as working copies. -/
def takenRecords (l : List (Nat × Nat × List Byte)) : List (Nat × List Byte) :=
  l.filterMap fun r => if recordTaken r.1 r.2.1 r.2.2 then some (r.1, r.2.2) else none

/-- Step 6: the stored values; M0's addresses and SRIS of the PCIe ports follow them (R487, R490). -/
def loadCfg (s : State) : State :=
  let s := match newestCfg s.boot with
    | none => s.upBoot fun b => { b with cfgUseB := true }
    | some (c, useB) =>
      (s.upHosts fun h => { h with objs := takenRecords c.recs }).upBoot
        fun b => { b with cfgUseB := useB }
  let s := [0, 1].foldl (fun s (p : Nat) =>
    s.up (Adr.hstPstat p) fun w => putBit w 16 (objNat s (0x1230 + p) 1 0 != 0)) s
  s.upHosts fun h =>
    { h with ip4 := BitVec.ofNat 32 (objNat s 0x1220 1 0), ip6 := BitVec.ofNat 128 (objNat s 0x1220 4 0),
             udp := BitVec.ofNat 16 (objNat s 0x1220 6 40412), proposalS := BitVec.ofNat 16 (objNat s 0x1200 4 30),
             pcieGen := Vector.ofFn fun p => BitVec.ofNat 3 (objNat s (0x1230 + p.val) 2 4) }

/-- What a credential's wrapped octets give under the wrapping key; disabled where they do not unwrap (R539). -/
def unwrapCredential (s : State) (k : Nat) : Cred :=
  let none' : Cred := { role := 0, enabled := false, key := [] }
  match if k = 0 then none else s.lcs.wrapped.find? fun x => x.1 == k with
  | none => none'
  | some x =>
    match keyUnwrap (wrappingKey s) x.2 with
    | none => none'
    | some o => { role := natLE (sliceOf o 32 1), enabled := sliceOf o 33 1 != [0], key := o.take 32 }

/-- Step 7: the credentials unwrapped into the secure region (R539). -/
def unwrapCreds (s : State) : State :=
  (List.finRange 32).foldl (fun s k => secureWrite s (.cred k (unwrapCredential s k.val))) s

/-! ### DDR training (R370 to R376) -/

/-- The modules of a channel, slot 0 first. -/
def DdrChan.dimms (c : DdrChan) : List Dimm := c.slot0.toList ++ c.slot1.toList

/-- Two modules of the same capacity and organisation: width, ranks and stacks (R371). -/
def Dimm.alike (d e : Dimm) : Bool := d.gb == e.gb && d.wide8 == e.wide8 && d.ranks == e.ranks && d.high == e.high

/-- A module within the limits of R370 in a channel of n modules. Four channels of two modules of 64 GB, or of one of
128 GB, are 512 GB, so the limit on the total holds where these do. -/
def Dimm.supported (d : Dimm) (n : Nat) : Bool :=
  d.rdimm && decide (16 ≤ d.gb ∧ d.gb ≤ (if n = 2 then 64 else 128)) && (d.ranks == 1 || d.ranks == 2)
  && (d.high == 1 || d.high == 2 || d.high == 4)

/-- A channel that may be used: slot 0 filled before slot 1, its modules supported and alike, trained (R370, R371). -/
def DdrChan.usable (c : DdrChan) : Bool :=
  c.slot0.isSome && c.dimms.all (fun d => d.supported c.dimms.length && (c.dimms.all fun e => d.alike e)) && c.trains

/-- Two channels hold modules of the same capacity, organisation and number (R371). -/
def DdrChan.alike (a b : DdrChan) : Bool :=
  a.dimms.length == b.dimms.length && (match a.slot0, b.slot0 with | some d, some e => d.alike e | _, _ => false)

/-- The channels in use (R371): those like the lowest-numbered usable one (DESIGN CHOICE, log 26), without the highest
of three. -/
def ddrUsed (f : Vector DdrChan 4) : List (Fin 4) :=
  match (List.finRange 4).filter fun c => f[c].usable with
  | [] => []
  | c :: t =>
    let l := c :: t.filter fun x => f[x].alike f[c]
    if l.length = 3 then l.take 2 else l

/-- The modules in use with their channel and slot. -/
def usedDimms (f : Vector DdrChan 4) : List (Nat × Nat × Dimm) :=
  (ddrUsed f).flatMap fun c => f[c].dimms.zipIdx.map fun p => (c.val, p.2, p.1)

/-- The highest speed that R370, every module and SPDMAX allow (R372). -/
def ddrSpeed (s : State) (f : Vector DdrChan 4) : Nat :=
  let top := if (ddrUsed f).any fun c => f[c].dimms.length == 2 then 0 else field (s.rd Adr.ddrCfg) 1 0
  (usedDimms f).foldl (fun m p => Nat.min m p.2.2.speed) top

/-- The octets of a module in the training record: channel, slot, serial number, temperature and a bias of 2^15. -/
def dimmOctets (p : Nat × Nat × Dimm) : List Byte :=
  [BitVec.ofNat 8 p.1, BitVec.ofNat 8 p.2.1] ++ bytesLE 8 p.2.2.serial.toNat ++ bytesLE 2 (p.2.2.temp + 32768).toNat

/-- A training record (R375): speed, ILV, the modules, octets no rule gives, and their CRC-32C. The layout is the model's
(log 26). -/
def trainingRecord (s : State) (f : Vector DdrChan 4) (speed ilv : Nat) : State × List Byte :=
  let (w, s) := s.draw
  let body := [BitVec.ofNat 8 speed, BitVec.ofNat 8 ilv] ++ bytesLE 8 w.toNat ++ (usedDimms f).flatMap dimmOctets
  (s, body ++ bytesLE 4 (crc32c body).toNat)

/-- A module is the one that 12 octets of the record name, within 20 degrees of its temperature then. -/
def dimmFits (p : Nat × Nat × Dimm) (o : List Byte) : Bool :=
  o.take 10 == (dimmOctets p).take 10 && decide (((leAt o 10 2 : Int) - 32768 - p.2.2.temp).natAbs ≤ 20)

/-- The record is valid and its speed, ILV, serial numbers and temperatures hold (R375). -/
def recordFits (l : List Byte) (f : Vector DdrChan 4) (speed ilv : Nat) : Bool :=
  let ds := usedDimms f
  let n := 10 + 12 * ds.length
  l.length == n + 4 && leAt l n 4 == (crc32c (l.take n)).toNat && leAt l 0 1 == speed && leAt l 1 1 == ilv
  && ds.zipIdx.all fun p => dimmFits p.1 (sliceOf l (10 + 12 * p.2) 12)

/-- A cached training: its conditions hold, and every rank passes the pattern that follows it (R375, R376). -/
def cachedWorks (s : State) (f : Vector DdrChan 4) (speed ilv : Nat) : Bool :=
  !(ddrUsed f).isEmpty && recordFits ((objStored s 0x1181 0).getD []) f speed ilv && (ddrUsed f).all fun c => f[c].verifies

/-- DDR_RETn from 0x1182 (R385, R389). -/
def loadRetired (s : State) : State :=
  let l := (objStored s 0x1182 0).getD []
  (List.range (l.length / 8)).foldl (fun s n =>
    s.wr (Adr.ddrRet n) (BitVec.ofNat 64 (leAt l (8 * n) 8) &&& 0x800000FFFFFFF000)) s

/-- Step 8. After a cold training that succeeds, a STORE keeps its record (R376). -/
def trainDdr (s : State) (f : Vector DdrChan 4) : State :=
  let s := s.up Adr.ddrCfg fun w => setField (setField w 9 8 (objNat s 0x1180 2 1)) 1 0 (objNat s 0x1180 1 2)
  let s := s.up Adr.ddrScrub fun w => setField (setField w 15 8 (objNat s 0x1180 4 4)) 7 0 (objNat s 0x1180 3 24)
  let used := ddrUsed f
  let speed := ddrSpeed s f
  let ilv := field (s.rd Adr.ddrCfg) 9 8
  let gb := match used with | [] => 0 | c :: _ => (f[c].dimms.map fun d => d.gb).sum
  let excl := (List.finRange 4).filter fun c => !f[c].dimms.isEmpty && !used.contains c
  let bitsOf (l : List (Fin 4)) : Nat := l.foldl (fun a c => a + 2 ^ c.val) 0
  let cached := cachedWorks s f speed ilv
  let trn := if !used.isEmpty then 2 else if excl.isEmpty then 0 else 3
  let s := s.wr Adr.ddrStat (BitVec.ofNat 64
    (bitsOf used * 65536 + bitsOf excl * 4096 + (if used.isEmpty then 0 else speed) * 256 + cached.toNat * 4 + trn))
  let s := { s.wr Adr.ddrTop (BitVec.ofNat 64 (used.length * gb)) with
    ddr := { s.ddr with perChannel := gb, wide8 := (usedDimms f).any fun p => p.2.2.wide8 } }
  let s := s.upBoot fun b => { b with cached := cached }
  let s := excl.foldl (fun s _ => genUp (report s 101 0) 10) s
  if cached || used.isEmpty then loadRetired s
  else
    let (s, r) := trainingRecord s f speed ilv
    startJob (loadRetired (objPut s 0x1181 0 r)) none 0 0x13 none [] true

/-! ### Firmware (R649 to R652) -/

/-- Segments of an image: DEST, OFS, SIZE (R649). -/
def imgSegs (img : List Byte) : List (Nat × Nat × Nat) :=
  (List.range (leAt img 0x10 2)).map fun i =>
    (leAt img (0x100 + 16 * i) 8, leAt img (0x108 + 16 * i) 4, leAt img (0x10C + 16 * i) 4)

def imgLen (img : List Byte) : Nat := leAt img 0x08 4

/-- Check 1: MAGIC, LEN, NSEG and the zero fields. -/
def imgHeader (img : List Byte) : Bool :=
  let n := imgLen img
  let zero (off k : Nat) : Bool := (sliceOf img off k).all fun b => b == 0
  leAt img 0 4 == 0x314B5457 && decide (n % 64 = 0 ∧ 4096 ≤ n ∧ n ≤ 29360128)
  && decide (1 ≤ leAt img 0x10 2 ∧ leAt img 0x10 2 ≤ 64) && zero 0x12 14 && zero 0x90 0x70

/-- Check 2: the digest of PUBKEY (R651, R536). -/
def imgKey (s : State) (img : List Byte) : Bool :=
  (lcState s == 0 && s.lcs.keyHash.isNone)
  || sha256 (sliceOf img 0x50 64) == s.lcs.keyHash.getD (List.replicate 32 0)

/-- A destination lies in SRAM banks 0 to 10 that are On, or in installed DDR (R650). -/
def destOk (s : State) (a n : Nat) : Bool :=
  (decide (a + n ≤ 0x1600000) && (List.range 11).all fun b =>
      decide (a + n ≤ b * 0x200000 ∨ (b + 1) * 0x200000 ≤ a) || bankOn s (b * 0x200000))
  || decide (ddrBase ≤ a ∧ a + n ≤ ddrBase + field (s.rd Adr.ddrTop) 9 0 * 0x40000000)

/-- No two ranges of a list meet. -/
def rangesApart : List (Nat × Nat × Nat) → Bool
  | [] => true
  | (d, _, n) :: t => t.all (fun x => decide (d + n ≤ x.1 ∨ x.1 + x.2.2 ≤ d)) && rangesApart t

/-- Check 3: every segment valid (R650). -/
def imgSegsOk (s : State) (img : List Byte) : Bool :=
  let l := imgSegs img
  l.all (fun x => decide (x.1 % 8 = 0 ∧ x.2.2 % 8 = 0 ∧ x.2.2 ≠ 0 ∧ 0x100 + 16 * l.length ≤ x.2.1
      ∧ x.2.1 + x.2.2 ≤ imgLen img - 64) && destOk s x.1 x.2.2)
  && rangesApart l

/-- Checks 1 to 3: the reason of the first that fails, 0 for none (R651). -/
def imgBefore (s : State) (img : List Byte) : Nat :=
  if !imgHeader img then 1 else if !imgKey s img then 2 else if !imgSegsOk s img then 3 else 0

/-- Checks 4 and 5. -/
def imgAfter (img : List Byte) : Nat :=
  let n := imgLen img
  if leAt img 0x0C 4 ≠ (crc32c (sliceOf img 0x10 (n - 64 - 0x10))).toNat then 4
  else if Config.ecdsaValid (sliceOf img 0x50 64) (sha256 (sliceOf img 0 (n - 64))) (sliceOf img (n - 64) 64) then 0
  else 5

/-- Every check of R651 on an image, without copying. -/
def imgReason (s : State) (img : List Byte) : Nat :=
  let r := imgBefore s img
  if r ≠ 0 then r else imgAfter img

/-- The segments copied to their destinations, or zeros in their place (R651, R652). -/
def putSegs (s : State) (img : List Byte) (zero : Bool) : State :=
  (imgSegs img).foldl (fun s x =>
    wrBytes s x.1 (if zero then List.replicate x.2.2 0 else sliceOf img x.2.1 x.2.2)) s

/-- One slot under R651: the state with its image in place, or its destinations zero, and the reason. -/
def trySlot (s : State) (useB : Bool) : State × Nat :=
  let img := if useB then s.boot.fwB else s.boot.fwA
  let r := imgBefore s img
  if r ≠ 0 then (s, r)
  else
    let r := imgAfter img
    (putSegs s img (r != 0), r)

/-- Step 9: none where both slots fail (R651, R652). -/
def loadFirmware (s : State) : State × Bool :=
  let first := prefB s.boot
  let took (s : State) (useB : Bool) (reason : Nat) : State :=
    s.upBoot fun b =>
      { b with triedB := first, bootedB := useB, anyBooted := true, fallback := BitVec.ofNat 8 reason,
               version := BitVec.ofNat 32 (leAt (if useB then b.fwB else b.fwA) 4 4) }
  let (s, r) := trySlot s first
  if r = 0 then (took s first 0, true)
  else
    let (s, r2) := trySlot s !first
    if r2 = 0 then (took s (!first) r, true)
    else (s.upBoot fun b => { b with triedB := first, anyBooted := false, fallback := BitVec.ofNat 8 r }, false)

/-! ### Registers and release (R635, R636) -/

/-- Stored values of the objects idx from lo up to hi, as index, sub-index and octets. -/
def objsIn (s : State) (lo hi : Nat) : List (Nat × Nat × List Byte) :=
  (s.hosts.objs.filter fun p => decide (lo ≤ p.1 / 256 ∧ p.1 / 256 < hi)).map fun p => (p.1 / 256, p.1 % 256, p.2)

/-- TNS_SERVO from object 0x3010, as a write of it (R435, R402); a SYNCTO of 0 is reserved and changes nothing (R12). -/
def loadServo (s : State) : State :=
  let old := s.rd Adr.tnsServo
  let syncto := objNat s 0x3010 6 100
  servoConfigured (s.up Adr.tnsServo fun w =>
    let w := setField (setField w 27 26 (objNat s 0x3010 1 0)) 28 28 (objNat s 0x3010 2 0)
    let w := setField (setField w 29 29 (objNat s 0x3010 3 1)) 15 8 (objNat s 0x3010 4 128)
    if syncto = 0 then w else setField w 7 0 syncto) old

/-- Step 10 (R635). -/
def loadRegisters (s : State) : State :=
  let s := loadServo s
  let s := s.up Adr.tnsSlim fun w => setField (setField w 15 0 (objNat s 0x3010 5 800)) 31 16 (objNat s 0x3010 7 1000)
  let s := s.up Adr.tnsCtl fun w => setField w 15 8 (objNat s 0x3020 0 10)
  let s := if field (s.rd Adr.sysRstcause) 3 0 ≤ 2 then
      s.up Adr.tnsEpoch fun w => setField w 62 0 (objNat s 0x3001 0 0x60000000) else s
  let s := (List.range 8).foldl loadLatelim s
  let s := s.up Adr.hstCtl fun w => setField w 15 0 (objNat s 0x1200 1 30)
  let s := s.up Adr.hstSoftcfg fun w => setField (setField w 15 0 (objNat s 0x1200 2 100)) 18 16 (objNat s 0x1200 3 0)
  let s := loadTable (loadFcuCfg s)
  let s := (objsIn s 0x4000 0x5000).foldl (fun s x =>
    if x.2.2.all fun b => b == 0 then s else wrBytes s (devAddr (x.1 - 0x4000)) (x.2.2.take 8)) s
  sclkLock ((objsIn s 0x2800 0x2900).foldl
    (fun s x => wrBytes s (connAddr (4 * (x.1 - 0x2800) + (x.2.1 - 1))) (x.2.2.take 32)) s)

/-- Whether RSTVEC n releases its triad (R636). -/
def rstvecOk (v : Nat) : Bool := decide (v / 2 ^ 63 % 2 = 1 ∧ v / 2 ^ 40 % 2 ^ 23 = 0 ∧ v % 4 = 0)

/-- Step 11 for one triad (R636, R191): the vector written and locked, the lanes not RETIRED released. -/
def releaseTriad (found : BootFindings) (img : List Byte) (s : State) (t : TriadId) : State :=
  let v := leAt img (0x20 + 8 * t.val) 8
  let s := s.wr (Adr.sysRstvec t.val) (BitVec.ofNat 64 (v / 4 % 2 ^ 38 * 4 + 1))
  let go := rstvecOk v && (match s.sram.power.toList[t.val]? with | some p => p == 0 | none => false)
    && decide (2 ≤ lanesPass found.laneFail t)
  let pc := BitVec.ofNat 64 (v / 4 % 2 ^ 38 * 4)
  s.setTriad t fun x =>
    { Triad.reset pc with released := go,
                          lanes := Vector.ofFn fun l => { Lane.reset pc with state := x.lanes[l].state } }

/-- The record of R658. -/
def crashRecord (s : State) : List Byte :=
  let w4 (a : Nat) : List Byte := bytesLE 4 (s.rd a).toNat
  let logW (i : Nat) : List Byte :=
    let n := (field (s.rd Adr.fcuLogptr) 5 0 + 63 - i) % 64
    bytesLE 8 (s.rd (Adr.fcuLogW0 n)).toNat ++ bytesLE 8 (s.rd (Adr.fcuLogW1 n)).toNat
  padTo (bytesLE 4 (s.boot.crashCount.toNat + 1) ++ bytesLE 8 (now s).toNat ++ (List.range 64).flatMap logW
    ++ bytesLE 8 (rcnt0View s).toNat ++ bytesLE 4 (rcnt1View s).toNat ++ bytesLE 4 (domView s).toNat
    ++ w4 Adr.sysLstat ++ w4 Adr.sysClkstat ++ w4 Adr.srbWipestat ++ w4 Adr.lcsTamper) 4096

/-- A crash record in the next slot, after a class X reset (R658). -/
def crashStore (s : State) : State :=
  if field (s.rd Adr.sysRstcause) 3 0 = 3 then
    let r := crashRecord s
    s.upBoot fun b =>
      let i := b.crashCount.toNat % 1024
      { b with crashCount := b.crashCount + 1,
               crash := if i < b.crash.length then b.crash.set i r else b.crash ++ [r] }
  else s

/-- Steps 5 to 11, once the self-test has passed (R634). -/
def bootLoad (s : State) (f : BootFindings) : State :=
  if !serialOk f.sfdp then bootHalt s 5 4
  else
    let s := s.upBoot fun b => { b with readMode := readModeOf f.sfdp (headerInUse b).1 }
    let s := unwrapCreds (loadCfg s)
    let s := trainDdr s f.ddr
    let (s, ok) := loadFirmware s
    if !ok then bootHalt s 9 5
    else
      let s := loadRegisters s
      let img := if s.boot.bootedB then s.boot.fwB else s.boot.fwA
      let s := bootStep (allTriads.foldl (releaseTriad f img) s) 11
      let (w, s) := s.draw
      let s := s.upBoot fun b => { b with releaseMs := w.setWidth 32 }
      let hold := s.sys.holdDue && lcState s != 0
      let s := setMode { s with sys := { s.sys with holdDue := false } } 1
      let s := if hold then setMode s 4 else s
      let s := ringsReady s
      crashStore s

/-- Step 1: the clock monitor starts afresh, and LOCK shows whether the root PLL has locked (R37, R39, R634). -/
def bootClocks (s : State) (locked : Bool) : State :=
  { s.up Adr.sysClkstat (fun w => putBit w 31 locked) with
    sys := { s.sys with freqSeen := 0, stopSeen := 0, lolSeen := false } }

/-- BOOT_SEQUENCE: in SELFTEST, where no step has halted the boot; without lock of the root PLL step 1 repeats (R634). -/
def bootSequence (s : State) (f : BootFindings) : State :=
  if modeOf s ≠ 0 ∨ bitOf (s.rd Adr.tstStat) 30 then s
  else
    let s := bootClocks s f.rootLock
    if !f.rootLock then bootStep s 1
    else if !f.avsAck then bootHalt s 1 7
    else
      let s := memoryBist s f
      if (List.finRange 12).any fun n => decide (6 ≤ n.val) && bankFound f n == 2 then bootHalt s 2 2
      else
        let s := s.wr Adr.tstUnc (f.uncore.setWidth 64)
        if f.uncore ≠ 0 then bootHalt s 3 1
        else
          let s := laneBist s f.laneFail
          let s := s.up Adr.tstStat fun w => setField (putBit w 31 true) 15 0 f.bistUs.toNat
          let s := s.upBoot fun b => { b with bistUs := f.bistUs.setWidth 32 }
          if allTriads.all fun t => decide (lanesPass f.laneFail t < 2) then bootHalt s 4 3
          else if lcState s = 3 then bootHalt s 4 6
          else bootLoad s f

def execBootSequence (found : BootFindings) (s : State) : Host.Outcome State Fault Refusal := .next (bootSequence s found)

/-- IMAGE_WRITE_DONE (R651, R653): the slot not booted is checked, without a copy. -/
def imageDone (s : State) : State :=
  if s.boot.imgWriting then
    let r := imgReason s (spareImage s.boot)
    s.upBoot fun b => { b with imgWriting := false, imgState := if r = 0 then 2 else 3, imgReason := BitVec.ofNat 8 r }
  else s

def execImageWriteDone (s : State) : Host.Outcome State Fault Refusal := .next (approvalsGoOn (imageDone s))

end Sys2Proof.Machine
end

