-- ==== Sys2Proof/Machine/Clause.lean ====
section
/-! DEFINITION. Clauses: closing one and opening the next (R204 to R212, R238), the compare and its outcome (R213, R214,
R250, R255, R266, R275 to R279), commit (R214, R233) and what happens at a boundary (R254, R257). -/

namespace Sys2Proof.Machine

/-! ### Closing a clause -/

/-- The parse counter behind a close, and whether the clause that opens begins with a parse (R238; log 14). -/
def nextParse (n interval : Nat) : Nat × Bool :=
  if interval ≠ 0 ∧ interval ≤ n + 1 then (0, true) else (n + 1, false)

/-- The clause as it is handed to the comparator, and whether it closed with the replay log full (R210, R211, R234). -/
def Triad.handOver (x : Triad) (full : Bool) : Closed :=
  { num := x.clause, ckpt := x.ckpt, sigs := x.lanes.map fun (l : Lane) => l.sig,
    bad := x.lanes.map fun (l : Lane) => l.bad, recs := x.lanes.map fun (l : Lane) => l.recs, excluded := x.excluded,
    forced := x.forced, counts := x.counts, evClear := x.evClear, evGone := x.evGone, full := full, done := false }

/-- The next clause opens behind a close (R203, R210, R230, R238, R249). `params` are the values of CLAUSE_LEN,
CLAUSE_TMAX, PARSE_INTERVAL and RCTL read now. -/
def Triad.openNext (x : Triad) (causes : BitVec 10) (entry : Option PendEntry) (len tmax interval : Nat) (rctl : Word) :
    Triad :=
  let (parse, parsed) := nextParse x.parse interval
  let sens := causes.getLsbD 5
  { x with
    closed := some (x.handOver (causes.getLsbD 8)), clause := x.clause + 1, slots := 0, timer := 0, sensOpen := sens, forced := false
    closeDue := 0, parse := parse, parsed := parsed, counts := [], excluded := none
    entered := false, entryWait := none, evSeen := none, evGone := false
    lanes := x.lanes.map fun (l : Lane) => if l.state == LaneState.active then l.openClause parsed else l
    ckpt :=
      { cores := x.lanes.map fun (l : Lane) => l.core, parse := parse, parsed := parsed, sens := sens,
        logPos := x.logPos, timer := 0, entry := entry, len := len, tmax := tmax, interval := interval, rctl := rctl }
    lenUse := len, tmaxUse := tmax, intervalUse := interval, rctlUse := rctl }

/-- Counts of a close: clauses closed and each condition (R692). -/
def countClose (s : State) (t : TriadId) (causes : BitVec 10) : State :=
  (List.range 10).foldl (fun s b => if causes.getLsbD b then countL s t (0x30 + b) 1 else s) (countL s t 0x28 1)

/-- The boundary: the open clause closes and the next opens (R204, R205, R210). It finds the lane that a swap-in or a
rotation takes (R254, R270), and an event that is deliverable (R167, R246). -/
def openClause (s : State) (t : TriadId) (causes : BitVec 10) (entry : Option PendEntry) : State :=
  let s := countClose s t causes
  let s := s.wr (Adr.cmpLastclose t.val) (causes.setWidth 64)
  let len := field (s.rd (Adr.cmpClauseLen t.val)) 10 0
  let tmax := field (s.rd (Adr.cmpClauseTmax t.val)) 11 0
  let iv := field (s.rd (Adr.cmpParseInterval t.val)) 15 0
  let rctl := s.rd (Adr.cmpRctl t.val)
  let s := s.setTriad t fun x => x.openNext causes entry len tmax iv rctl
  let rot := rotationFound s t
  let event := eventDue s t
  let s := s.setTriad t fun x => { x with swapAt := x.swapFound, rotAt := rot, eventAt := event }
  if (s.tri t).parsed then countL s t 0x2E 1 else s

/-! ### Commit (R214, R219, R233) -/

/-- A lane's entries of a committed clause leave its column; it keeps seeing its own copies (R222, R224). -/
def Lane.commit (l : Lane) (num : Nat) : Lane :=
  { l with
    gate := l.gate.filter fun e => decide (num < e.clause)
    held := if l.state == LaneState.active then l.held ++ l.gate.filter (fun e => decide (e.clause ≤ num)) else l.held }

/-- A clause leaves the columns and the log: its entries in column `col` await release. Log entries that it has not
consumed stay (R233, R235). -/
def Triad.commitEntries (x : Triad) (num : Nat) (col : LaneId) : Triad :=
  let later (n : Nat) : List LogEntry := (x.log.take n).filter fun e => decide (num < e.clause)
  { x with
    toRelease := x.toRelease ++ (x.lane col).gate.filter (fun e => decide (e.clause ≤ num))
    lanes := x.lanes.map fun (l : Lane) => l.commit num
    log := later x.logPos ++ x.log.drop x.logPos, logPos := (later x.logPos).length
    ckpt := { x.ckpt with logPos := (later x.ckpt.logPos).length }
    closed := none, rollbacks := 0 }

/-- The closed clause commits from a column: CMP_SEQ, its counts, its trace (R214, R682, R691). -/
def commit (s : State) (t : TriadId) (cl : Closed) (col : LaneId) : State :=
  let s := s.setTriad t fun x => x.commitEntries cl.num col
  let s := s.up (Adr.cmpSeq t.val) fun w => w + 1
  let s := commitCounts s t cl.counts
  let s := countAt s t 0x29 (s.tri t).priv 1
  traceCommit s t col cl.recs[col]

/-! ### What happens at a boundary whose clause has committed (R254, R257, R697) -/

/-- Lanes whose charges have reached the limit become SUSPECT; one awaiting its repair awaits it no more, and while it
does the two lanes that are compared stay (R266). -/
def settleCharges (s : State) (t : TriadId) : State :=
  refill (((s.tri t).repair.toList ++ allLanes).foldl (fun s (l : LaneId) =>
    if ((s.tri t).lane l).suspectDue && ((s.tri t).repair.isNone || (s.tri t).repair == some l) then
      let s := suspect s t l
      if (s.tri t).repair = some l then s.setTriad t fun x => { x with repair := none, repairReady := false, excluded := none }
      else s
    else s) s) t

/-- SEL = PAIR+SPARE with three lanes ACTIVE: lane C becomes the spare (R254). -/
def settleSel (s : State) (t : TriadId) : State :=
  let x := s.tri t
  if x.selPair && decide (x.actives.length = 3) && x.arb.isNone then setLane s t 2 .spareTest else s

/-- A halt asked for is taken: the triad is halted and in debug split (R282, R283, R697). -/
def takeHalt (s : State) (t : TriadId) : State :=
  if !(s.tri t).haltReq then s
  else
    let s := s.up Adr.sysLstat fun w => putBit (putBit w 0 true) (8 + t.val) true
    let s := s.setBitR (Adr.cmpRctl t.val) 30
    let s := s.setTriad t fun x => { x with haltReq := false, halted := true }
    reportTriad s t 12 3

/-- The boundary in front of a clause that has issued nothing, the clause before it committed; a repair in progress comes
before what else the boundary brings (R266). -/
def settle (s : State) (t : TriadId) : State :=
  let x := s.tri t
  if x.fenced ∨ x.slots ≠ 0 ∨ x.closed.isSome then s
  else if isSplit s t then takeHalt s t
  else
    let s := settleCharges s t
    if (s.tri t).fenced || (s.tri t).repair.isSome then s else takeHalt (settleSel s t) t

/-! ### The comparator (R196, R250) -/

inductive Verdict where
  | same | twoOfThree (out : LaneId) | mismatch | invalid
deriving DecidableEq, Repr

def Verdict.code : Verdict → Nat
  | .same => 0 | .twoOfThree _ => 1 | .mismatch => 2 | .invalid => 3

/-- Two signatures agree; a marked one differs from every other (R196). -/
def Closed.same (cl : Closed) (a b : LaneId) : Bool := cl.sigs[a] == cl.sigs[b] && !cl.bad[a] && !cl.bad[b]

/-- The pairs AB, AC, BC with their bit positions in CMP_RESULT. -/
def lanePairs : List (LaneId × LaneId × Nat) := [(0, 1, 0), (0, 2, 1), (1, 2, 2)]

/-- Lanes compared: ACTIVE and not left out for repair (R252, R266). -/
def Triad.compared (x : Triad) (cl : Closed) : List LaneId := x.actives.filter fun l => cl.excluded != some l

/-- The outcome; `invalid` names the pairs whose checker shows an invalid code. -/
def verdict (x : Triad) (cl : Closed) (invalid : BitVec 3) : Verdict :=
  let used := x.compared cl
  let pairs := lanePairs.filter fun p => used.contains p.1 && used.contains p.2.1
  if pairs.any fun p => invalid.getLsbD p.2.2 then .invalid
  else if cl.forced then .mismatch
  else
    let eq := pairs.filter fun p => cl.same p.1 p.2.1
    if eq.length = pairs.length then .same
    else if pairs.length = 3 then
      match eq with
      | [(a, b, _)] => .twoOfThree ((allLanes.find? fun l => l != a && l != b).getD 0)
      | _ => .mismatch
    else .mismatch

/-- CMP_SIG and CMP_RESULT. Which of its two values an invalid code shows is free (log 6). -/
def recordCompare (s : State) (t : TriadId) (cl : Closed) (invalid : BitVec 3) (v : Verdict) : State :=
  let x := s.tri t
  let (w, s) := s.draw
  let code (p : LaneId × LaneId × Nat) : Nat :=
    if !x.act p.1 || !x.act p.2.1 then 0
    else if invalid.getLsbD p.2.2 then (if bitOf w p.2.2 then 3 else 0)
    else if cl.same p.1 p.2.1 then 1 else 2
  let pairs := (lanePairs.map fun p => code p * 4 ^ p.2.2).sum
  let out := match v with | .twoOfThree l => l.val | _ => 0
  let s := allLanes.foldl (fun s (l : LaneId) =>
    s.wr (Adr.cmpSig t.val l.val) (if x.act l then cl.sigs[l] else 0)) s
  let s := s.wr (Adr.cmpResult t.val) (BitVec.ofNat 64 (out * 2 ^ 12 + v.code * 2 ^ 8 + pairs))
  if v = .invalid then countL s t 0x4C 1 else s

/-! ### A compare that passes (R214, R256, R266, R275) -/

/-- The outcome of an arbitration clause (R275); a marked signature counts for R279 as in VOTE3 (R278). -/
def arbitrated (s : State) (t : TriadId) (cl : Closed) (spare : LaneId) (out : Option LaneId) : State :=
  let s := s.setTriad t fun x => { x with arb := none }
  match out with
  | none => setLane s t spare .spareTest
  | some o =>
    let s := charge (countL s t 0x2B 1) t o
    let s := if o = spare then s else reportTriad (countL (countRec s t 47 32) t 0x2D 1) t 2 spare.val
    let s := if cl.bad[o] then attributed s t o else s
    if (s.tri t).act o then suspect s t o else s

/-- An outvoted lane in VOTE3: charged, attributed where its signature was marked, left out of the next compare for its
repair (R256, R266, R278). -/
def outvoted (s : State) (t : TriadId) (cl : Closed) (o : LaneId) : State :=
  let s := charge (countL s t 0x2B 1) t o
  let s := if cl.bad[o] then attributed s t o else s
  if (s.tri t).act o then s.setTriad t fun x => { x with repair := some o, excluded := some o } else s

/-- A passed compare. -/
def passed (s : State) (t : TriadId) (cl : Closed) (out : Option LaneId) : State :=
  let x := s.tri t
  let col := ((x.compared cl).find? fun l => some l != out).getD x.lead
  let s := commit s t cl col
  let s :=
    match x.arb, out with
    | some sp, _ => arbitrated s t cl sp out
    | none, some o => outvoted s t cl o
    | none, none =>
      if cl.excluded.isSome ∧ cl.excluded = x.repair then s.setTriad t fun x => { x with repairReady := true } else s
  settle (refill s t) t

/-! ### A compare that fails (R255, R264, R265, R276 to R279) -/

/-- Lanes whose signature was marked are charged, and the mismatch is attributed to them (R278). -/
def chargeBad (s : State) (t : TriadId) (bad : List LaneId) : State :=
  bad.foldl (fun s (l : LaneId) => attributed (charge s t l) t l) s

/-- The spare that joins for arbitration (R255, R275): the one that has joined already, unless a lane has been retired
meanwhile, else one in SPARE_READY or SPARE_TEST in PAIR+SPARE. -/
def arbSpare (x : Triad) : Option LaneId :=
  match x.arb with
  | some l => if x.act l ∧ x.actives.length = 3 then some l else none
  | none => if x.actives.length = 2 then x.spare else none

/-- The reaction to a failed compare. The rollback itself is the command ROLLBACK. -/
def failed (s : State) (t : TriadId) (cl : Closed) (v : Verdict) : State :=
  let bad := ((s.tri t).compared cl).filter fun l => cl.bad[l]
  let plainInvalid := v == .invalid && bad.isEmpty
  let again := (s.tri t).invalidOpen
  let s := if plainInvalid then (reportTriad s t 6 3).setTriad t fun x => { x with invalidOpen := true } else s
  if plainInvalid && again then fence s t 1
  else
    let s := refill (chargeBad s t bad) t
    if (s.tri t).fenced then s
    else if !recoveryEnabled s ⟨t.val, by omega⟩ then fence s t 3
    else
      let x := s.tri t
      let spare := arbSpare x
      let limit := if x.actives.length = 3 ∨ spare.isSome then 3 else 2
      if limit ≤ x.rollbacks then fence s t 2
      else s.setTriad t fun x => { x with rollbackDue := true, arb := spare }

/-- The closed clause's compare (R213, R250, R255); nothing where none is pending. In debug split it is recorded and not
acted on (R283). -/
def compared (s : State) (t : TriadId) (invalid : BitVec 3) : State :=
  let x := s.tri t
  if x.fenced || x.rollbackDue then s
  else
    match x.closed with
    | none => s
    | some cl =>
      let v := verdict x cl invalid
      let s := recordCompare s t cl invalid v
      if cl.done then s.setTriad t fun x => { x with closed := none }
      else
      match v with
      | .same => passed s t cl none
      | .twoOfThree o => passed s t cl (some o)
      | _ => failed s t cl v

/-- COMPARE_RESULT: the compare, its reports logged in ascending order of ID (R630). -/
def compareResult (s : State) (t : TriadId) (invalid : BitVec 3) : State := inIdOrder s (compared s t invalid)

def execCompareResult (t : TriadId) (invalid : BitVec 3) (s : State) : Host.Outcome State Fault Refusal :=
  .next (compareResult s t invalid)

/-! ### CLAUSE_CLOSE and CLAUSE_TIMEOUT -/

/-- In debug split a clause commits at its close from the leading lane's column (R283). A single step ends here
(R697). -/
def splitCommit (s : State) (t : TriadId) : State :=
  if !isSplit s t then s
  else
    match (s.tri t).closed with
    | none => s
    | some cl =>
      let s := commit s t cl (s.tri t).lead
      takeHalt (s.setTriad t fun x => { x with closed := some { cl with done := true } }) t

/-- A boundary may fall here: the slot has ended, the compare before is done, and no delay slot is due; a clause whose
SENS accesses disagree ends in front of the delay slot that holds one (R207, R212, R231). -/
def Triad.atBoundary (x : Triad) : Bool := (x.delay.isNone || x.forced) && x.closed.isNone && !x.slotOpen

/-- The conditions of R204 that apply at a boundary that falls now (R205). An event that has been deliverable in the
clause leaves its boundary due (R245, R246). -/
def Triad.dueNow (x : Triad) (event : Bool) : BitVec 10 :=
  x.closeDue ||| bit10 2 (x.entry.isSome || x.overrun) ||| bit10 4 (event || x.evSeen.isSome)

/-- The causes for which the open clause may close now; none: it may not. A forced mismatch closes even a clause
without a slot (R206, R231). -/
def closeCauses (s : State) (t : TriadId) : Option (BitVec 10) :=
  let x := s.tri t
  let c := x.dueNow (eventDue s t)
  if x.forced then some c
  else if x.slots = 0 then none
  else if c ≠ 0 ∨ x.repair.isSome ∨ s.sys.dormantDue.isSome then some c
  else none

/-- CLAUSE_CLOSE (R204, R266, R676, R697). -/
def clauseClose (s0 : State) (t : TriadId) : State :=
  if (s0.tri t).frozen || !(s0.tri t).runs || (s0.tri t).rollbackDue then s0
  else
    let s := endSlot s0 t
    let x := s.tri t
    if !x.atBoundary then s0
    else
      match closeCauses s t with
      | none => s0
      | some c => splitCommit (openClause s t c x.entry) t

def execClauseClose (t : TriadId) (s : State) : Host.Outcome State Fault Refusal := .next (clauseClose s t)

/-- CLAUSE_TIMEOUT (R209): the timer has reached CLAUSE_TMAX of a clause that has issued a slot. -/
def clauseTimeout (s : State) (t : TriadId) : State :=
  let x := s.tri t
  if x.runs && decide (x.slots ≠ 0 ∧ x.tmaxUse ≤ x.timer) then
    s.setTriad t fun x => { x with closeDue := x.closeDue ||| 0x200 }
  else s

def execClauseTimeout (t : TriadId) (s : State) : Host.Outcome State Fault Refusal := .next (clauseTimeout s t)

end Sys2Proof.Machine
end

