-- ==== Sys2Proof/Machine/Exceptions.lean ====
section
/-! DEFINITION. Taking an exception, an event or a budget overrun, and the return from one (R156 to R191, R199, R245 to
R248). The leading lane reads the vector entry and makes every check; each lane writes its own registers and forms its
own records (R197, R247). -/

namespace Sys2Proof.Machine

/-- f in every ACTIVE lane. -/
def Triad.eachActive (x : Triad) (f : Lane → Lane) : Triad :=
  { x with lanes := x.lanes.map fun (l : Lane) => if l.state == LaneState.active then f l else l }

/-! ### The vector entry (R156 to R160, R162, R169) -/

/-- Physical address of vector v; bits [14:0] of the base count as zero (R156). -/
def vectorAddr (c : LaneCore) (mTable : Bool) (vec : Nat) : Word :=
  ((if mTable then c.vbrM else c.vbr) &&& ~~~ (0x7FFF : Word)) + BitVec.ofNat 64 (16 * vec)

/-- Two 64-bit reads of the leading lane, with what its column holds for them (R222). -/
def leadRead64 (s : State) (t : TriadId) (pa : Nat) : State × Word :=
  let es := (s.tri t).columnOf (s.tri t).lead
  let (s, v) := busRead s t pa 8
  (s, if devAddress s pa then v else forwardData es pa 8 v)

/-- The two words of a vector entry; none where its read fails, which leaves a fault record (R157, R311 to R314). -/
def readVector (s : State) (t : TriadId) (mTable : Bool) (vec : Nat) : State × Option (Word × Word) :=
  let va := vectorAddr (s.tri t).lanes[(s.tri t).lead].core mTable vec
  let priv := if mTable then 3 else 1
  match checkPhysical s (coreReq s t priv .load) va.toNat with
  | .error f => (writeFrec s t { kind := 5, priv := priv, level := f.level, cause := f.cause, va := va }, none)
  | .ok x =>
    let (s, a) := leadRead64 s t x.pa
    let (s, b) := leadRead64 s t (x.pa + 8)
    (s, some (a, b))

def vecValid (w : Word) : Bool := bitOf w 0
def vecTpriv (w : Word) : Nat := field w 5 4
def vecTbank (w : Word) : Nat := field w 9 8
def vecBudget (w : Word) : Nat := field w 25 16

/-- The entry may be entered (R159, R162, R169). -/
def vectorOk (handler w : Word) (p : PendEntry) (priv : Nat) : Bool :=
  let tp := vecTpriv w
  vecValid w && decide (field handler 1 0 = 0) && (tp == 1 || tp == 3) && (vecTbank w == 1 || vecTbank w == 2)
  && !(p.mTable && tp == 1)
  && (if p.event.isSome then tp == (if p.mTable then 3 else 1) else !(!p.mTable && tp == 1 && priv == 3))

/-- The fetch check of every word of the handler's first bundle (R172 step 3). -/
def handlerCheck (s : State) (t : TriadId) (bank3 : Bool) (priv : Nat) (va : Word) : Option Frec :=
  let bad (va : Word) (f : Xfail) : Frec :=
    { kind := if bank3 then 6 else 0, priv := priv, level := f.level, cause := f.cause, va := va }
  match coreAccess s t bank3 priv .fetch va with
  | .error f => some (bad va f)
  | .ok x =>
    if wordEnds (wordAt s t x.pa) then none
    else
      match coreAccess s t bank3 priv .fetch (va + 4) with
      | .error f => some (bad (va + 4) f)
      | .ok _ => none

/-! ### The spill frame (R174 to R176) -/

/-- The 36 word addresses of a frame whose lowest is `low`. -/
def frameAddrs (low : Word) : List Word := (List.range 36).map fun i => low + BitVec.ofNat 64 (8 * i)

/-- The physical addresses of a frame with their device marks (R204), or the first failing word, ascending. -/
def frameXlat (s : State) (t : TriadId) (priv : Nat) (kind : XKind) : List Word → Except (Word × Xfail) (List (Nat × Bool))
  | [] => .ok []
  | va :: l =>
    match coreAccess s t false priv kind va with
    | .error f => .error (va, f)
    | .ok x =>
      match frameXlat s t priv kind l with
      | .error e => .error e
      | .ok r => .ok ((x.pa, attrDev x.attr || attrSens x.attr || devAddress s x.pa) :: r)

/-- What the accesses to a frame leave in the translation cache and its counters, up to the first that fails (R299,
R692). -/
def frameTouch (s : State) (t : TriadId) (priv : Nat) (kind : XKind) : List Word → State
  | [] => s
  | va :: l =>
    let s' := coreTouch s t false priv kind va
    match coreAccess s t false priv kind va with
    | .error _ => s'
    | .ok _ => frameTouch s' t priv kind l

/-- The check of a spill: the frame's physical addresses, or the fault record (R174, R312). -/
def spillCheck (s : State) (t : TriadId) (priv : Nat) (g30 : Word) : Except Frec (List Nat) :=
  let low := g30 - 288
  if g30.toNat % 16 ≠ 0 then .error { kind := 3, priv := priv, level := 0, cause := 0xC, va := low }
  else
    match frameXlat s t priv .spill (frameAddrs low) with
    | .ok l => .ok (l.map fun p => p.1)
    | .error (va, f) => .error { kind := 3, priv := priv, level := f.level, cause := f.cause, va := va }

/-- The 36 words of a frame (R175). -/
def frameWords (vec : Nat) (b : Bank) : List Word :=
  BitVec.ofNat 64 (vec % 2048) :: ((List.range 31).map fun i => b.g.toList.getD (i + 1) 0)
    ++ [b.pc, b.psw, b.rpc.setWidth 64, b.epriv]

/-! ### Writing a bank (R172 steps 5 to 7, R173, R177, R199) -/

/-- An entry whose checks have passed. -/
structure Entry where
  handler : Word
  tpriv : Nat
  bank : Fin 4
  budget : Nat
  /-- physical addresses of the frame where the target bank is busy -/
  frame : Option (List Nat)

/-- The PSW that entry gives bank b (R173); a budget counts for neither vector 7 nor 13 (R182). -/
def entryPsw (old : Word) (p : PendEntry) (e : Entry) : Word :=
  let ipl := if p.nmx then 15 else if p.event.isSome then p.prio.toNat else pswIPL old
  let ni := e.budget != 0 && p.vec != 7
  (old &&& 0x1FFF0000) ||| BitVec.ofNat 64 (ni.toNat * 2 ^ 11 + e.bank.val * 2 ^ 8 + ipl * 2 ^ 4 + e.tpriv)

/-- The EPRIV that entry gives bank b (R177). -/
def entryEpriv (c : LaneCore) (p : PendEntry) (spl : Bool) : Word :=
  BitVec.ofNat 64 (p.code.toNat * 2 ^ 32 + p.vec * 2 ^ 16 + spl.toNat * 2 ^ 8 + c.cur.val * 2 ^ 4 + c.priv)

/-- The interrupted context in its own bank: its PC (R161). -/
def LaneCore.leave (c : LaneCore) (saved : Word) : LaneCore := c.setCur fun b => { b with pc := saved }

/-- An overrun's entry clears NI in the interrupted context's PSW (R181). -/
def LaneCore.endAtomic (c : LaneCore) (vec : Nat) : LaneCore :=
  if vec = 7 then c.setCur fun b => { b with psw := putBit b.psw 11 false } else c

/-- The entry and PSW records (R199 to R202). The entry's DEST is the bank's number (DEDUCED, log 14). -/
def entryRecs (saved handler psw : Word) (vec : Nat) (b : Fin 4) : List Rec :=
  [⟨saved, handler, BitVec.ofNat 64 vec, 0x0B, BitVec.ofNat 8 b.val, 0, 0⟩,
   ⟨saved, 0, psw, 0x0A, BitVec.ofNat 8 (b.val * 64 + 0x21), 0, 0⟩]

/-- Steps 5 to 7 in one lane, with its spill (R172, R175, R176). `no` numbers the first gate entry, `clause` the open
clause. -/
def Lane.enter (l : Lane) (p : PendEntry) (saved : Word) (e : Entry) (no clause : Nat) : Lane :=
  let c := l.core.endAtomic p.vec
  let old := c.banks[e.bank]
  let psw := entryPsw c.psw p e
  let low := old.rg 30 - 288
  let spl := e.frame.isSome
  let words := frameWords p.vec old
  let stores := (e.frame.getD []).zip (words.zip (frameAddrs low))
  let recs := stores.map fun (q : Nat × Word × Word) => (⟨saved, q.2.2, q.2.1, 0x07, 0, 3, 0⟩ : Rec)
  let es := stores.zipIdx.map fun (q : (Nat × Word × Word) × Nat) =>
    ({ id := no + q.2, pa := BitVec.ofNat 40 q.1.1, data := q.1.2.1, be := 0xFF, dev := false,
       aliasK := aliasKind q.1.1, clause := clause } : GateEntry)
  let bank (b : Bank) : Bank :=
    { (if spl then b.wg 30 low else b) with
      pc := e.handler, rpc := 0, psw := psw, epriv := entryEpriv c p spl, busy := true, repn := false }
  let l := l.foldAll (entryRecs saved e.handler psw p.vec e.bank ++ recs)
  { l with
    core := { c.setBank e.bank bank with cur := e.bank, budget := if pswNI psw then e.budget * 16 else c.budget }
    gate := l.gate ++ es
    ras := if e.tpriv = c.priv then l.ras else [] }

/-- The double fault in one lane (R187, R199). -/
def Lane.double (l : Lane) (handler : Word) (dfc orig : Nat) : Lane :=
  let c := l.core
  let psw : Word := (c.psw &&& 0x1FFF0000) ||| 0x3F3
  let epriv := BitVec.ofNat 64 (dfc * 2 ^ 60 + orig * 2 ^ 48 + 13 * 2 ^ 16 + c.cur.val * 2 ^ 4 + c.priv)
  let bank (b : Bank) : Bank :=
    { b.wg 30 (c.dfsp &&& ~~~ (0xF : Word)) with
      pc := handler, rpc := 0, psw := psw, epriv := epriv, busy := true, repn := false }
  let l := l.foldAll (entryRecs c.pc handler psw 13 3)
  { l with core := { c.setBank 3 bank with cur := 3 }, ras := if c.priv = 3 then l.ras else [] }

/-! ### Taking an entry (R172, R186 to R190) -/

/-- A triple fault: a TRIAD reset of the triad alone, and its report (R190). -/
def tripleFault (s : State) (t : TriadId) : State := inIdOrder s (reportTriad (triadReset s t) t 9 3)

/-- The double-fault entry, or the triple fault (R186, R187, R189). The event of an entry that fails stays pending. -/
def doubleFault (s : State) (t : TriadId) (dfc orig : Nat) : State :=
  let c := (s.tri t).lanes[(s.tri t).lead].core
  if c.banks[(3 : Fin 4)].busy then tripleFault s t
  else
    match readVector s t true 13 with
    | (s, none) => tripleFault s t
    | (s, some (h, w)) =>
      if !vecValid w || field h 1 0 != 0 || c.dfsp &&& ~~~ (0xF : Word) == 0 then tripleFault s t
      else
        match handlerCheck s t true 3 h with
        | some f => tripleFault (writeFrec s t f) t
        | none =>
          s.setTriad t fun x => { (x.countC 0x3F 1).eachActive fun l => l.double h dfc orig with
            fetched := none, entry := none, entered := true, entryWait := none, evClear := none }

/-- The counts of an entry that is made, with those of its frame's 36 gate entries (R692). -/
def entryCounts (p : PendEntry) (spl : Bool) : List (Nat × Nat) :=
  [(0x3A, p.event.isNone.toNat), (0x3B, p.event.isSome.toNat), (0x3C, spl.toNat), (0x3E, (p.vec == 7).toNat),
   (0x40, 36 * spl.toNat)]

/-- The event whose pending bit the first bundle of the handler clears (R168), but not where a rollback performs the
entry again (R248). -/
def Triad.clears (x : Triad) (p : PendEntry) (again : Bool) : Option (Fin 1024) := if again then x.evClear else p.event

/-- Entry with its checks passed. -/
def enterHandler (s : State) (t : TriadId) (p : PendEntry) (saved : Word) (e : Entry) (again : Bool) : State :=
  let n := if e.frame.isSome then 36 else 0
  s.setTriad t fun x =>
    let y := (x.countAll (entryCounts p e.frame.isSome)).eachActive fun l => l.enter p saved e x.stores x.clause
    { y with
      stores := x.stores + n, fetched := none
      entry := none, entered := true, entryWait := none, evClear := x.clears p again }

/-- The PC that the interrupted context is left with (R161). -/
def savedPc (x : Triad) (p : PendEntry) : Word := if p.vec = 9 then x.lanes[x.lead].core.pc else p.pc

/-- Steps 4 to 7 of R172 for a vector entry (h, w) that has been read and checked. A frame that finds fewer than 36
entries free waits in front of step 4 (R218). -/
def enterBank (s : State) (t : TriadId) (p : PendEntry) (h w : Word) (again : Bool) : State :=
  let x := s.tri t
  let c := x.lanes[x.lead].core
  let saved := savedPc x p
  let tp := vecTpriv w
  let b : Fin 4 := ⟨vecTbank w % 4, Nat.mod_lt _ (by decide)⟩
  let e (fr : Option (List Nat)) : Entry := ⟨h, tp, b, vecBudget w, fr⟩
  if !c.banks[b].busy then enterHandler s t p saved (e none) again
  else if x.actives.any fun l => decide (28 < x.column l) then
    s.setTriad t fun x => { x with entry := some p, entryWait := some (h, w), evClear := x.clears p again }
  else
    let sp := c.banks[b].rg 30
    let check := spillCheck s t tp sp
    let s := if sp.toNat % 16 = 0 then frameTouch s t tp .spill (frameAddrs (sp - 288)) else s
    match check with
    | .error f => doubleFault (writeFrec s t f) t 1 p.vec
    | .ok l => enterHandler s t p saved (e (some l)) again

/-- Steps 3 to 7 of R172, the results drained. -/
def enterVector (s : State) (t : TriadId) (p : PendEntry) (again : Bool) : State :=
  let c := (s.tri t).lanes[(s.tri t).lead].core
  match readVector s t p.mTable p.vec with
  | (s, none) => doubleFault s t 2 p.vec
  | (s, some (h, w)) =>
    if !vectorOk h w p c.priv then doubleFault s t 2 p.vec
    else
      match handlerCheck s t false (vecTpriv w) h with
      | some f => doubleFault (writeFrec s t f) t 2 p.vec
      | none => enterBank (coreTouch s t false (vecTpriv w) .fetch h) t p h w again

/-- A synchronous exception (R161): every vector but the overrun's and the events'. -/
def syncVec (n : Nat) : Bool := decide (n < 13) && n != 7

/-- The interrupted context is left with its PC and no entry pends any more (R80, R161). -/
def Triad.leaveAll (x : Triad) (p : PendEntry) : Triad :=
  let saved := savedPc x p
  { x.eachActive fun l => { l with core := l.core.leave saved } with entry := none, first := none }

/-- An entry that has been made is taken back (R187): every lane stands as the boundary left it, its results drained, the
interrupted context with the PC that the failed entry saved (log 14). -/
def Triad.unenter (x : Triad) (q : PendEntry) : Triad :=
  let lane (i : Fin 3) (l : Lane) : Lane :=
    Lane.drain ({ l with core := x.ckpt.cores[i], gate := l.gate.filter fun e => e.clause != x.clause }.openClause x.parsed)
  let y := { x with
    lanes := Vector.ofFn fun (i : Fin 3) => if x.act i then lane i x.lanes[i] else x.lanes[i]
    entered := false, evClear := none, closeDue := 0 }
  y.leaveAll q

/-- An exception in the entry window of a bank other than 3: the entry fails (R172, R186). -/
def windowFault (s : State) (t : TriadId) (p : PendEntry) : State :=
  let q := (s.tri t).ckpt.entry.getD p
  let s := s.setTriad t fun x => x.unenter q
  doubleFault (match p.frec with | some f => writeFrec s t f | none => s) t 2 q.vec

/-- Draining, the fault record, escalation (R79, R186, R189, R311), then the entry itself; one that waits for room goes
on at step 4 (R218). -/
def enter (s : State) (t : TriadId) (p : PendEntry) (again : Bool) : State :=
  let x := s.tri t
  match x.entryWait with
  | some (h, w) => enterBank s t p h w true
  | none =>
    if x.entryWindow && syncVec p.vec && x.lanes[x.lead].core.cur != 3 then windowFault s t p
    else
      let s := s.setTriad t fun x => x.eachActive Lane.drain
      let c := (s.tri t).lanes[(s.tri t).lead].core
      let s := match p.frec with | some f => writeFrec s t f | none => s
      let s := s.setTriad t fun x => x.leaveAll p
      if syncVec p.vec ∧ c.cur = 3 then tripleFault s t
      else if syncVec p.vec ∧ pswNI c.psw = true then doubleFault s t 3 p.vec
      else enterVector s t p again

/-- The triad stands where an entry may be taken: the slot ended, no delay slot due, every load's data there, no
recovery due, and a compare still pending only where the clause in front has issued nothing (R172, R207, R212). -/
def entryReady (s : State) (t : TriadId) : Bool :=
  let x := s.tri t
  x.runs && modeOf s != 5 && x.delay.isNone && !x.slotOpen && !x.rollbackDue && !x.forced
    && !x.lanes[x.lead].core.waiting && (decide (x.slots = 0) || x.closed.isNone) && !boundaryWait s t

/-- An enabled flag that the drain in front of an entry sets is taken first (R78, R170; log 29). -/
def Triad.drainFirst (x : Triad) (p : PendEntry) : Triad × PendEntry :=
  if p.vec != 9 && x.entryWait.isNone && x.drainTraps then
    let y := x.fpFirst (x.behindFp p)
    (y, y.entry.getD p)
  else (x, p)

/-- The read of the vector entry, or of the double fault's, would have to wait (R28, R381). -/
def vectorWaits (s : State) (t : TriadId) (p : PendEntry) : Bool :=
  let c := (s.tri t).lanes[(s.tri t).lead].core
  readWaits s t (vectorAddr c p.mTable p.vec).toNat 16 || readWaits s t (vectorAddr c true 13).toNat 16

/-- The entry that a rollback owed is made (R248). -/
def Triad.payOwed (x : Triad) (p : PendEntry) : Triad :=
  { x with owed := x.owed.filter (fun q => q.event != p.event), evGone := true }

/-- Step 1 of R172 and what follows: the boundary in front of the entry, which the checkpoint records (R211). In the
clause it stands in front of, an entry closes nothing (R206). -/
def takeEntry (s : State) (t : TriadId) (p : PendEntry) : Option State :=
  if !entryReady s t || vectorWaits s t p then none
  else
    let r := (s.tri t).drainFirst p
    let s := s.setTriad t fun _ => r.1
    let p := r.2
    let x := s.tri t
    let owed := x.entry.isNone && p.event.isSome && (owedEntry s t).isSome
    let again := owed || (x.entry.isSome && p.event.isSome)
    let pay (s : State) : State := if owed then s.setTriad t fun x => x.payOwed p else s
    if x.slots = 0 then
      some (enter (pay (s.setTriad t fun x => { x with ckpt := { x.ckpt with entry := x.ckpt.entry.or (some p) } })) t p again)
    else
      let causes := x.dueNow (eventDue s t) ||| bit10 2 true ||| bit10 4 p.event.isSome
      let s := splitCommit (openClause s t causes (some p)) t
      if (s.tri t).halted then some (s.setTriad t fun y => { y with ckpt := { y.ckpt with entry := x.entry } })
      else some (enter (pay s) t p again)

/-! ### The rows -/

/-- The slot that ended in front of an entry, and the entry. A freeze holds it back. -/
def entryCommand (s : State) (t : TriadId) (which : State → Option PendEntry) : State :=
  if (s.tri t).frozen then s
  else
    let s1 := endSlot s t
    match which s1 with
    | none => s
    | some p => (takeEntry s1 t p).getD s

/-- The exception that is due (R80, R161). -/
def dueException (s : State) (t : TriadId) : Option PendEntry :=
  (s.tri t).entry.filter fun p => p.event.isNone && p.vec != 7

/-- The event taken: the one a rollback left to be entered again, one it owes (R248), else the one deliverable now
(R165 to R167). -/
def dueEvent (s : State) (t : TriadId) : Option PendEntry :=
  let x := s.tri t
  match x.entry with
  | some p => if p.event.isSome then some p else none
  | none =>
    (owedEntry s t).or ((deliverable s t).map fun n =>
      let r := s.rd (Adr.evcRoute n)
      { vec := 16 + n, mTable := evM r, code := 0, pc := x.lanes[x.lead].core.pc,
        event := if h : n < 1024 then some ⟨n, h⟩ else none, prio := BitVec.ofNat 4 (evPrio r), nmx := evNmx r, frec := none })

/-- The budget overrun (R181, R182). -/
def dueOverrun (s : State) (t : TriadId) : Option PendEntry :=
  let x := s.tri t
  match x.entry with
  | some p => if p.vec = 7 then some p else none
  | none => if x.overrun then some (x.exc 7 x.lanes[x.lead].core.pc none) else none

/-- EXCEPTION_ENTRY. -/
def execExceptionEntry (t : TriadId) (s : State) : Host.Outcome State Fault Refusal :=
  .next (entryCommand s t fun s => dueException s t)

/-- EVENT_ENTRY. -/
def execEventEntry (t : TriadId) (s : State) : Host.Outcome State Fault Refusal :=
  .next (entryCommand s t fun s => dueEvent s t)

/-- BUDGET_OVERRUN. -/
def execBudgetOverrun (t : TriadId) (s : State) : Host.Outcome State Fault Refusal :=
  .next (entryCommand s t fun s => dueOverrun s t)

/-! ### RETE (R183 to R185) -/

/-- Reserved bits of PSW and EPRIV as a frame loads them, DFC and ORIG with them (R185). -/
def framePsw (w : Word) : Word := w &&& 0x1FFF0FF7
def frameEpriv (w : Word) : Word := w &&& 0x0000FFFF07FF0133

/-- Privileges in their order; 0b10 is none of them (R143). -/
def privCode (w : Word) : Nat := field w 1 0

/-- The frame words a return loads: PC, PSW, RPC, EPRIV. -/
def frameAt (l : List Word) (i : Nat) : Word := l.getD i 0

/-- The checks of R184 on bank b's EPRIV, the current privilege and the frame (empty without SPL). -/
def reteOk (c : LaneCore) (frame : List Word) : Bool :=
  let e := c.bank.epriv
  let spl := bitOf e 8
  let rb : Fin 4 := ⟨field e 5 4 % 4, Nat.mod_lt _ (by decide)⟩
  let fpsw := frameAt frame 33
  let fOk := decide (pswBank fpsw = c.cur.val) && privCode fpsw != 2 && decide (privCode fpsw ≤ c.priv)
    && decide (privCode (frameAt frame 35) ≤ privCode fpsw)
  let resumed := if spl ∧ rb = c.cur then fpsw else c.banks[rb].psw
  (!spl || fOk) && decide (pswPriv resumed ≤ privCode e)

/-- A bank loaded from a frame (R185 step 1). -/
def Bank.load (b : Bank) (f : List Word) : Bank :=
  { g := Vector.ofFn fun (i : Fin 32) => if i.val = 0 then b.g[i] else frameAt f i.val
    pc := frameAt f 32, psw := framePsw (frameAt f 33), rpc := (frameAt f 34).setWidth 32
    epriv := frameEpriv (frameAt f 35), busy := b.busy, repn := false }

/-- The resumed bank `n`: its PSW names it (R185 step 2). RP = 1 with RPC = 0: RP is cleared and issue goes on behind the
repeated instruction (R104). -/
def Bank.resume (b : Bank) (n : Fin 4) : Bank :=
  let b := { b with psw := setField b.psw 9 8 n.val }
  if pswRP b.psw ∧ b.rpc = 0 then { b with psw := putBit b.psw 10 false, pc := b.pc + 4, repn := false } else b

/-- The return in one lane, `frame` the words its own reads gave (R185, R198). -/
def Lane.rete (l : Lane) (frame : List Word) : Lane :=
  let c := l.core
  let e := c.bank.epriv
  let rb : Fin 4 := ⟨field e 5 4 % 4, Nat.mod_lt _ (by decide)⟩
  let stop := pswNI c.psw
  let d := c.setCur fun b => if bitOf e 8 then b.load frame else { b with busy := false }
  let d := { d.setBank rb (fun b => b.resume rb) with cur := rb, budget := if stop then 0 else c.budget }
  let recs : List Rec :=
    [⟨c.pc, 0, d.psw, 0x0A, BitVec.ofNat 8 (rb.val * 64 + 0x21), 0, 1⟩, ⟨c.pc, 0, d.pc, 0x0C, BitVec.ofNat 8 rb.val, 0, 1⟩]
  { { l with core := d }.foldAll recs with ras := if d.priv = c.priv then l.ras else [] }

/-- The frame as its targets give it, word by word. -/
def readFrame (s : State) (t : TriadId) : List (Nat × Bool) → State × List Word
  | [] => (s, [])
  | p :: l =>
    let (s, v) := busRead s t p.1 8
    let (s, r) := readFrame s t l
    (s, v :: r)

/-- A frame word is a device-page load (R204, R223). -/
def frameDev (x : Triad) (p : Nat × Bool) : Bool := p.2 || aliasOverlap (x.columnOf x.lead) p.1 8

/-- What a lane reads of a frame: its own column over memory, a device word as it was read (R222, R223). -/
def laneFrame (x : Triad) (l : LaneId) (ws : List (Nat × Bool)) (base : List Word) : List Word :=
  (ws.zip base).map fun (q : (Nat × Bool) × Word) =>
    if frameDev x q.1 then q.2 else forwardData (x.columnOf l) q.1.1 8 q.2

/-- The return itself: one issue slot, after which the clause closes (R79, R185, R204). -/
def reteDone (s : State) (t : TriadId) (ws : List (Nat × Bool)) (base : List Word) : State :=
  let x := s.tri t
  (countSlot s t).setTriad t fun y =>
    let y := y.countAll (bundleCounts (y.lanes[y.lead].core) [Op.rete] ++ [(0x3D, 1)])
    let z := { y with
      lanes := Vector.ofFn fun (i : Fin 3) =>
        if x.act i then y.lanes[i].rete (laneFrame x i ws base) else y.lanes[i]
      fetched := none }
    Triad.slotEnds { z with closeDue := z.closeDue ||| bit10 3 true }

/-- RETE with its drain and its checks (R79, R184). A frame in device pages obeys R225: condition 6 of R204 closes the
clause in front, and the lanes wait for device stores before it. An enabled flag that the drain sets raises the FP
exception in front of the RETE (R78, R170; log 29). -/
def rete (s0 : State) (t : TriadId) : State :=
  let s := s0.setTriad t fun x => x.eachActive Lane.drain
  let x := s.tri t
  let c := x.lanes[x.lead].core
  if (s0.tri t).drainTraps then s0.setTriad t fun x => { x with entry := some (x.exc 9 x.lanes[x.lead].core.pc none) }
  else if !bitOf c.bank.epriv 8 then
    if reteOk c [] then reteDone s t [] [] else raise s t 6 none
  else if (c.bank.rg 30).toNat % 16 ≠ 0 then raise s t 6 none
  else
    let frame := frameAddrs (c.bank.rg 30)
    let xlat := frameXlat s t c.priv .reteRead frame
    let s := frameTouch s t c.priv .reteRead frame
    match xlat with
    | .error (va, f) => raise s t 4 (some { kind := 4, priv := c.priv, level := f.level, cause := f.cause, va := va })
    | .ok ws =>
      let dev := ws.filter (frameDev x)
      if x.slots ≠ 0 ∧ dev.any (fun p => openDevStore x p.1 8) = true then
        s0.setTriad t fun x => { x with closeDue := x.closeDue ||| bit10 6 true }
      else if dev.any (fun p => devPending x p.1 8) || ws.any fun p => readWaits s t p.1 8 then s0
      else
        let (s, base) := readFrame s t ws
        if reteOk c (laneFrame (s.tri t) x.lead ws base) then reteDone s t ws base else raise s t 6 none

/-- The command RETE: as any instruction where it does not return (in a delay slot, paired, repeated, not allowed). -/
def reteCommand (s : State) (t : TriadId) (e : Bool) : State :=
  let s1 := endSlot s t
  let x := s1.tri t
  let c := x.lanes[x.lead].core
  let plain := e && x.first.isNone && x.delay.isNone && !(pswRP c.psw && c.bank.rpc != 0)
    && (bundleExc s1 t c false none .rete true).isNone
  if (s.tri t).frozen || !canIssue s1 t then s
  else if !plain then opCommand s t e .rete
  else if c.waiting then s
  else rete s1 t

end Sys2Proof.Machine
end

