-- ==== Sys2Proof/Machine/Control.lean ====
section
/-! DEFINITION. Branches, repeats, CLOSE, the service calls and RETE (R83 to R105, R130 to R134, R183 to R185). -/

namespace Sys2Proof.Machine

/-- BEQ (R83 to R88, R131). -/
def execBeq (word : LoneWord) (annul : Bool) (rs1 rs2 : Reg) (off : BitVec 12) (s : State) : Host.Outcome State Fault Refusal :=
  .next (opCommand s word.t word.e (.bcc .beq annul rs1 rs2 off))

/-- BNE (R83 to R88, R131). -/
def execBne (word : LoneWord) (annul : Bool) (rs1 rs2 : Reg) (off : BitVec 12) (s : State) : Host.Outcome State Fault Refusal :=
  .next (opCommand s word.t word.e (.bcc .bne annul rs1 rs2 off))

/-- BLT (R83 to R88, R131). -/
def execBlt (word : LoneWord) (annul : Bool) (rs1 rs2 : Reg) (off : BitVec 12) (s : State) : Host.Outcome State Fault Refusal :=
  .next (opCommand s word.t word.e (.bcc .blt annul rs1 rs2 off))

/-- BGE (R83 to R88, R131). -/
def execBge (word : LoneWord) (annul : Bool) (rs1 rs2 : Reg) (off : BitVec 12) (s : State) : Host.Outcome State Fault Refusal :=
  .next (opCommand s word.t word.e (.bcc .bge annul rs1 rs2 off))

/-- BLTU (R83 to R88, R131). -/
def execBltu (word : LoneWord) (annul : Bool) (rs1 rs2 : Reg) (off : BitVec 12) (s : State) : Host.Outcome State Fault Refusal :=
  .next (opCommand s word.t word.e (.bcc .bltu annul rs1 rs2 off))

/-- BGEU (R83 to R88, R131). -/
def execBgeu (word : LoneWord) (annul : Bool) (rs1 rs2 : Reg) (off : BitVec 12) (s : State) : Host.Outcome State Fault Refusal :=
  .next (opCommand s word.t word.e (.bcc .bgeu annul rs1 rs2 off))

/-- BR (R83, R130). -/
def execBr (word : LoneWord) (off : BitVec 25) (s : State) : Host.Outcome State Fault Refusal :=
  .next (opCommand s word.t word.e (.br off))

/-- CALL (R89, R130). -/
def execCall (word : LoneWord) (off : BitVec 25) (s : State) : Host.Outcome State Fault Refusal :=
  .next (opCommand s word.t word.e (.call off))

/-- JR (R90). -/
def execJr (word : LoneWord) (rs1 : Reg) (s : State) : Host.Outcome State Fault Refusal :=
  .next (opCommand s word.t word.e (.jr rs1))

/-- CALLR (R89, R90). -/
def execCallr (word : LoneWord) (rs1 : Reg) (s : State) : Host.Outcome State Fault Refusal :=
  .next (opCommand s word.t word.e (.callr rs1))

/-- RET (R90, R93). -/
def execRet (word : LoneWord) (s : State) : Host.Outcome State Fault Refusal :=
  .next (opCommand s word.t word.e .ret)

/-- REPI (R100 to R105). -/
def execRepi (word : LoneWord) (src : RepSrc) (s : State) : Host.Outcome State Fault Refusal :=
  .next (opCommand s word.t word.e (.repi src))

/-- REPN (R100 to R105). -/
def execRepn (word : LoneWord) (src : RepSrc) (s : State) : Host.Outcome State Fault Refusal :=
  .next (opCommand s word.t word.e (.repn src))

/-- The iteration that a repeat in progress issues next: the instruction at the leading lane's PC (R102). -/
def repeatIteration (s : State) (t : TriadId) : State :=
  let s1 := endSlot s t
  let x := s1.tri t
  let c := x.lanes[x.lead].core
  if pswRP c.psw && c.bank.rpc != 0 && x.delay.isNone then
    match peekOps s1 t c c.pc with
    | [op] => opCommand s t true op
    | _ => s
  else s

/-- REPEAT_ITERATION (R102, R103). -/
def execRepeatIteration (t : TriadId) (s : State) : Host.Outcome State Fault Refusal :=
  .next (repeatIteration s t)

/-- CLOSE (R134, R204). -/
def execClose (word : LoneWord) (s : State) : Host.Outcome State Fault Refusal :=
  .next (opCommand s word.t word.e .close)

/-- SYS (R134, R161). -/
def execSys (word : LoneWord) (code : BitVec 16) (s : State) : Host.Outcome State Fault Refusal :=
  .next (opCommand s word.t word.e (.sys code))

/-- MCALL (R134, R161). -/
def execMcall (word : LoneWord) (code : BitVec 16) (s : State) : Host.Outcome State Fault Refusal :=
  .next (opCommand s word.t word.e (.mcall code))

/-- RETE (R134, R183 to R185). -/
def execRete (word : LoneWord) (s : State) : Host.Outcome State Fault Refusal :=
  .next (reteCommand s word.t word.e)

end Sys2Proof.Machine
end

