-- ==== Sys2Proof/Machine/Debug.lean ====
section
/-! DEFINITION. The debugger's commands (R282 to R284, R697), which exist in DEVELOPMENT only (R696). -/

namespace Sys2Proof.Machine

/-- DBG decodes (R696). -/
def debugOn (s : State) : Bool := lcState s == 1

/-- A halted triad that a debugger reaches. -/
def debugHalted (s : State) (t : TriadId) : Bool := debugOn s && (s.tri t).halted && !(s.tri t).fenced

/-- HALT_REQUEST: taken at the next boundary whose clause has committed (R697). -/
def haltRequest (s : State) (t : TriadId) : State :=
  if debugOn s && (s.tri t).runs then settle (s.setTriad t fun x => { x with haltReq := true }) t else s

def execHaltRequest (t : TriadId) (s : State) : Host.Outcome State Fault Refusal := .next (s.powered fun s => haltRequest s t)

/-- DEBUG_RESUME: debug split stays (R284). -/
def debugResume (s : State) (t : TriadId) : State :=
  if debugHalted s t then s.setTriad t fun x => { x with halted := false, haltReq := false } else s

def execDebugResume (t : TriadId) (s : State) : Host.Outcome State Fault Refusal := .next (s.powered fun s => debugResume s t)

/-- SINGLE_STEP: the triad runs until one clause has closed (R283). -/
def singleStep (s : State) (t : TriadId) : State :=
  if debugHalted s t then s.setTriad t fun x => { x with halted := false, haltReq := true } else s

def execSingleStep (t : TriadId) (s : State) : Host.Outcome State Fault Refusal := .next (s.powered fun s => singleStep s t)

/-- A debugger's write of a register: as at M level, and the PC of the current bank too (R135, R149, R154; log 30). -/
def debugWrite (c : LaneCore) (num : Nat) (v : Word) : LaneCore :=
  let n := srCanon c.cur num
  if n = 0 then c.setCur fun b => { b with psw := pswMts b.psw v }
  else if 0x100 ≤ n then
    let i := srIdx n
    c.setBank (srBank n) fun b =>
      if i < 0x20 then b.wg (BitVec.ofNat 5 i) v
      else if i = 0x20 then { b with pc := v }
      else if i = 0x21 then { b with psw := pswOther 3 b.psw v }
      else if i = 0x22 then { b with rpc := v.setWidth 32 }
      else b
  else mtsWrite c num v

/-- DEBUG_REGISTER_ACCESS: a read from the leading lane, a write into every ACTIVE lane (R697). -/
def debugRegister (s : State) (t : TriadId) (num : Nat) (write : Option Word) : State :=
  if !debugHalted s t || !srExists num then s
  else
    match write with
    | none => { s with busData := mfsValue ((s.tri t).lane (s.tri t).lead).core num }
    | some v =>
      s.setTriad t fun x =>
        { x with
          fetched := none
          lanes := x.lanes.map fun (l : Lane) =>
            if l.state == LaneState.active then { l with core := debugWrite l.core num v } else l }

def execDebugRegisterAccess (t : TriadId) (num : BitVec 12) (write : Option Word) (s : State) :
    Host.Outcome State Fault Refusal := .next (s.powered fun s => debugRegister s t num.toNat write)

/-- The load or store of an access of 2^size octets (R126). -/
def debugFn (size : BitVec 2) (load : Bool) : MemFn :=
  match size.toNat, load with
  | 0, true => .ldbu | 1, true => .ldhu | 2, true => .ldwu | _, true => .ld
  | 0, false => .stb | 1, false => .sth | 2, false => .stw | _, false => .st

/-- The one-bundle clause closes and commits (R283, R697). -/
def debugClause (s : State) (t : TriadId) (r : LaneCore → Rec) : State :=
  let s := s.setTriad t fun x =>
    { x with lanes := x.lanes.map fun (l : Lane) => if l.state == LaneState.active then l.fold (r l.core) else l }
  splitCommit (openClause s t 0 (s.tri t).entry) t

/-- The read of a debugger's load waits as that of any load (R28, R225, R381). -/
def debugLoadWaits (s : State) (x : Triad) (t : TriadId) (a : Access) : Bool :=
  (loadIsDev x a && devPending x a.pa a.size)
  || (!fullyForwarded (x.columnOf x.lead) a.pa a.size && readWaits s t a.pa a.size)

/-- DEBUG_MEMORY_ACCESS: under the triad's translation and windows. One that fails a check, or must still wait for a
write before it (R28, R225, R381) or for the compare of the clause before, does nothing (log 30). -/
def debugMemory (s : State) (t : TriadId) (va : Word) (size : BitVec 2) (write : Option Word) : State :=
  let x := s.tri t
  let c := (x.lane x.lead).core
  let fn := debugFn size write.isNone
  let kind : XKind := if write.isNone then .load else .store
  if !debugHalted s t || x.closed.isSome || x.slots != 0 || coreWaits s t (c.cur == 3) c.priv kind va then s
  else
    match accessCheck s t c fn va with
    | .ok a =>
      let s := coreTouch s t (c.cur == 3) c.priv kind va
      (match write with
        | none =>
          if debugLoadWaits s x t a then s
          else
            let (s, base) := busRead s t a.pa a.size
            let v := if loadIsDev x a then base else forwardData (x.columnOf x.lead) a.pa a.size base
            debugClause { s with busData := v } t fun c => ⟨c.pc, va, 0, 6, 0, BitVec.ofNat 8 size.toNat, 1⟩
        | some v =>
          let d := BitVec.ofNat 64 (v.toNat % 2 ^ (8 * a.size))
          let e : GateEntry :=
            { id := x.stores, pa := BitVec.ofNat 40 a.pa, data := d, be := BitVec.ofNat 8 (2 ^ a.size - 1), dev := a.dev,
              aliasK := aliasKind a.pa, clause := x.clause }
          let s := s.setTriad t fun x =>
            { x with
              stores := x.stores + 1
              lanes := x.lanes.map fun (l : Lane) =>
                if l.state == LaneState.active then { l with gate := l.gate ++ [e] } else l }
          debugClause s t fun c => ⟨c.pc, va, d, 7, 0, BitVec.ofNat 8 size.toNat, 1⟩)
    | _ => s

def execDebugMemoryAccess (t : TriadId) (va : Word) (size : BitVec 2) (write : Option Word) (s : State) :
    Host.Outcome State Fault Refusal := .next (s.powered fun s => debugMemory s t va size write)

end Sys2Proof.Machine
end

