-- ==== Sys2Proof/Machine/Dormant.lean ====
section
/-! DEFINITION. The entry into DORMANT (R676) and what it writes into the dormancy save area (R340). -/

namespace Sys2Proof.Machine

/-- A register that the dormancy save area takes: survival D or T, outside the always-on domain, whose registers lie in
the SYS, FCU, LCS and TNS blocks (R676, R677; log 35). -/
def savedReg (a : Nat) : Bool :=
  (survivalOf a == .d || survivalOf a == .t) && !(a / 0x10000 == 0x8000 || a / 0x10000 == 0x8001 || a / 0x10000 == 0x8003
    || a / 0x10000 == 0x800A)

/-- Every instance of a heading. -/
def RegDesc.instances (d : RegDesc) : List Nat :=
  (List.range d.n1).flatMap fun i => (List.range d.n2).map fun j => d.base + i * d.s1 + j * d.s2

/-- The registers saved, by ascending block. -/
def savedRegs : List Nat :=
  (([0x8000, 0x8001, 0x8002, 0x8003, 0x8004, 0x8005, 0x8006, 0x8008, 0x8009, 0x800A, 0x800B, 0x800C] ++
    [0x800D, 0x800E, 0x800F, 0x8010]).flatMap fun k => (blockRegs (k * 0x10000)).flatMap RegDesc.instances).filter savedReg

/-- A register as it is saved: what software reads. -/
def savedValue (s : State) (a : Nat) : Word :=
  match a / 0x10000 with
  | 0x800D => (tmrRead32 s (a % 0x10000)).2
  | 0x800E => (legRead32 s (.triad 0) (a % 0x10000)).2
  | _ => regView s a

/-- The wide registers and FIFOs of the legacy edge, which its units hold (R547). -/
def legacyWords (g : Legacy) : List Nat :=
  (g.timers.toList.flatMap fun (x : Timer) =>
    [x.cnt.toNat, x.top.toNat, x.cmp0.toNat, x.cmp1.toNat, x.topW.toNat, x.cmp0W.toNat, x.cmp1W.toNat, x.presc, x.fifo.length]
      ++ x.fifo.map BitVec.toNat)
  ++ (g.ssi.toList.flatMap fun (x : Ssi) => [x.pos.toNat, x.time.toNat])
  ++ (g.uart.toList.flatMap fun (x : Uart) =>
    [x.tx.length, x.rx.length] ++ x.tx.map BitVec.toNat ++ x.rx.map BitVec.toNat)
  ++ (g.gpio.toList.flatMap fun (x : Gpio) => x.fifo.length :: x.fifo.map BitVec.toNat)

/-- A bank and a lane's checkpoint as doublewords. -/
def Bank.words (b : Bank) : List Nat :=
  b.g.toList.map BitVec.toNat ++ [b.pc.toNat, b.psw.toNat, b.rpc.toNat, b.epriv.toNat, b.busy.toNat, b.repn.toNat]

def Result.words (r : Result) : List Nat :=
  let d := match r.dest with | .g x => x.toNat | .f x => 32 + x.toNat | .p x => 64 + x.toNat | .q => 68
  [d, r.val.toNat % 2 ^ 64, r.val.toNat / 2 ^ 64, r.left, r.flags.toNat]

def LaneCore.words (c : LaneCore) : List Nat :=
  c.banks.toList.flatMap Bank.words ++ [c.cur.val] ++ c.f.toList.map BitVec.toNat
    ++ (c.p.toList.flatMap fun (x : BitVec 128) => [x.toNat % 2 ^ 64, x.toNat / 2 ^ 64])
    ++ [c.q0.toNat, c.q1.toNat, c.vbr.toNat, c.vbrM.toNat, c.dfsp.toNat, c.budget, c.flight.length]
    ++ c.flight.flatMap Result.words

/-- What a DORMANT-RETAIN entry writes into the save area: every register of survival D or T as it reads, in the order of
the map, the registers that units hold, and each lane's checkpoint (R340, R676; the layout is a DESIGN CHOICE, log 35). -/
def saveOctets (s : State) : List Byte :=
  ((savedRegs.map fun a => (savedValue s a).toNat) ++ legacyWords s.legacy ++ s.triads.toList.flatMap fun (x : Triad) =>
    x.lanes.toList.flatMap fun (l : Lane) => l.core.words).flatMap (bytesLE 8)

/-- DORMANT_ENTRY (R676): once every triad stands still. A source that came meanwhile wakes the device at once. -/
def dormantEntry (s : State) : State :=
  match s.sys.dormantDue with
  | none => s
  | some off =>
    if !(allTriads.all fun t => triadStill (s.tri t)) then s
    else
      let s := withdrawWhere (closeAll s) fun _ => true
      let s := writeReady s 0
      let s := allPorts.foldl (fun s p => linkChange s p false 0) s
      let s := { s with tlb := [], triads := s.triads.map fun x => { x with l1i := [], l1d := [] } }
      let s := if servoState s = 1 ∨ servoState s = 2 then enterHoldover s else s
      let s := dormantBanks (if off then s else sramWrite s .store 0x1740000 0 (enabled ((saveOctets s).take 0xC0000))) off
      let s := { s with sys := { s.sys with dormantFrom := BitVec.ofNat 3 (modeOf s), dormantOff := off, dormantDue := none } }
      let s := setMode s 5
      let s := s.upLive fun u => { u with hwHold := true }
      let s := { s with fcu := { s.fcu with alive := false } }
      match s.sys.wakeDue with
      | some c => wakeBy { s with sys := { s.sys with wakeDue := none } } c.toNat
      | none => s

def execDormantEntry (s : State) : Host.Outcome State Fault Refusal := .next (dormantEntry s)

end Sys2Proof.Machine
end

