-- ==== Sys2Proof/Machine/FloatOps.lean ====
section
/-! DEFINITION. The floating-point instructions (R75 to R78, R121 to R124), each one command of the stream. -/

namespace Sys2Proof.Machine

/-- FADD (R121). -/
def execFadd (t : TriadId) (e single : Bool) (rd rs1 rs2 : Reg) (s : State) : Host.Outcome State Fault Refusal :=
  .next (opCommand s t e (.fp .fadd single rd rs1 rs2 0))

/-- FSUB (R121). -/
def execFsub (t : TriadId) (e single : Bool) (rd rs1 rs2 : Reg) (s : State) : Host.Outcome State Fault Refusal :=
  .next (opCommand s t e (.fp .fsub single rd rs1 rs2 0))

/-- FMUL (R121). -/
def execFmul (t : TriadId) (e single : Bool) (rd rs1 rs2 : Reg) (s : State) : Host.Outcome State Fault Refusal :=
  .next (opCommand s t e (.fp .fmul single rd rs1 rs2 0))

/-- FDIV (R121). -/
def execFdiv (t : TriadId) (e single : Bool) (rd rs1 rs2 : Reg) (s : State) : Host.Outcome State Fault Refusal :=
  .next (opCommand s t e (.fp .fdiv single rd rs1 rs2 0))

/-- FMIN (R121). -/
def execFmin (t : TriadId) (e single : Bool) (rd rs1 rs2 : Reg) (s : State) : Host.Outcome State Fault Refusal :=
  .next (opCommand s t e (.fp .fmin single rd rs1 rs2 0))

/-- FMAX (R121). -/
def execFmax (t : TriadId) (e single : Bool) (rd rs1 rs2 : Reg) (s : State) : Host.Outcome State Fault Refusal :=
  .next (opCommand s t e (.fp .fmax single rd rs1 rs2 0))

/-- FCEQ (R121). -/
def execFceq (t : TriadId) (e single : Bool) (rd rs1 rs2 : Reg) (s : State) : Host.Outcome State Fault Refusal :=
  .next (opCommand s t e (.fp .fceq single rd rs1 rs2 0))

/-- FCLT (R121). -/
def execFclt (t : TriadId) (e single : Bool) (rd rs1 rs2 : Reg) (s : State) : Host.Outcome State Fault Refusal :=
  .next (opCommand s t e (.fp .fclt single rd rs1 rs2 0))

/-- FCLE (R121). -/
def execFcle (t : TriadId) (e single : Bool) (rd rs1 rs2 : Reg) (s : State) : Host.Outcome State Fault Refusal :=
  .next (opCommand s t e (.fp .fcle single rd rs1 rs2 0))

/-- FMA (R121). -/
def execFma (t : TriadId) (e single : Bool) (rd rs1 rs2 rs3 : Reg) (s : State) : Host.Outcome State Fault Refusal :=
  .next (opCommand s t e (.fp .fma single rd rs1 rs2 rs3))

/-- FMS (R121). -/
def execFms (t : TriadId) (e single : Bool) (rd rs1 rs2 rs3 : Reg) (s : State) : Host.Outcome State Fault Refusal :=
  .next (opCommand s t e (.fp .fms single rd rs1 rs2 rs3))

/-- FSQRT (R121). -/
def execFsqrt (t : TriadId) (e single : Bool) (rd rs1 : Reg) (s : State) : Host.Outcome State Fault Refusal :=
  .next (opCommand s t e (.fp .fsqrt single rd rs1 0 0))

/-- FNEG (R121). -/
def execFneg (t : TriadId) (e single : Bool) (rd rs1 : Reg) (s : State) : Host.Outcome State Fault Refusal :=
  .next (opCommand s t e (.fp .fneg single rd rs1 0 0))

/-- FABS (R121). -/
def execFabs (t : TriadId) (e single : Bool) (rd rs1 : Reg) (s : State) : Host.Outcome State Fault Refusal :=
  .next (opCommand s t e (.fp .fabs single rd rs1 0 0))

/-- FMV (R121). -/
def execFmv (t : TriadId) (e single : Bool) (rd rs1 : Reg) (s : State) : Host.Outcome State Fault Refusal :=
  .next (opCommand s t e (.fp .fmv single rd rs1 0 0))

/-- FCVTL (R121). -/
def execFcvtl (t : TriadId) (e single : Bool) (rd rs1 : Reg) (s : State) : Host.Outcome State Fault Refusal :=
  .next (opCommand s t e (.fp .fcvtl single rd rs1 0 0))

/-- FCVTFL (R121). -/
def execFcvtfl (t : TriadId) (e single : Bool) (rd rs1 : Reg) (s : State) : Host.Outcome State Fault Refusal :=
  .next (opCommand s t e (.fp .fcvtfl single rd rs1 0 0))

/-- FCVTF (R121). -/
def execFcvtf (t : TriadId) (e single : Bool) (rd rs1 : Reg) (s : State) : Host.Outcome State Fault Refusal :=
  .next (opCommand s t e (.fp .fcvtf single rd rs1 0 0))

/-- FMVGF (R121). -/
def execFmvgf (t : TriadId) (e single : Bool) (rd rs1 : Reg) (s : State) : Host.Outcome State Fault Refusal :=
  .next (opCommand s t e (.fp .fmvgf single rd rs1 0 0))

/-- FMVFG (R121). -/
def execFmvfg (t : TriadId) (e single : Bool) (rd rs1 : Reg) (s : State) : Host.Outcome State Fault Refusal :=
  .next (opCommand s t e (.fp .fmvfg single rd rs1 0 0))

end Sys2Proof.Machine
end

