-- ==== Sys2Proof/Machine/MemoryOps.lean ====
section
/-! DEFINITION. Loads and stores (R126 to R129), each one command of the stream. -/

namespace Sys2Proof.Machine

/-- LDB (R126, R127). -/
def execLdb (t : TriadId) (e : Bool) (rt rb : Reg) (post : Bool) (off : BitVec 12) (s : State) : Host.Outcome State Fault Refusal :=
  .next (opCommand s t e (.mem .ldb rt rb post off))

/-- LDBU (R126, R127). -/
def execLdbu (t : TriadId) (e : Bool) (rt rb : Reg) (post : Bool) (off : BitVec 12) (s : State) : Host.Outcome State Fault Refusal :=
  .next (opCommand s t e (.mem .ldbu rt rb post off))

/-- LDH (R126, R127). -/
def execLdh (t : TriadId) (e : Bool) (rt rb : Reg) (post : Bool) (off : BitVec 12) (s : State) : Host.Outcome State Fault Refusal :=
  .next (opCommand s t e (.mem .ldh rt rb post off))

/-- LDHU (R126, R127). -/
def execLdhu (t : TriadId) (e : Bool) (rt rb : Reg) (post : Bool) (off : BitVec 12) (s : State) : Host.Outcome State Fault Refusal :=
  .next (opCommand s t e (.mem .ldhu rt rb post off))

/-- LDW (R126, R127). -/
def execLdw (t : TriadId) (e : Bool) (rt rb : Reg) (post : Bool) (off : BitVec 12) (s : State) : Host.Outcome State Fault Refusal :=
  .next (opCommand s t e (.mem .ldw rt rb post off))

/-- LDWU (R126, R127). -/
def execLdwu (t : TriadId) (e : Bool) (rt rb : Reg) (post : Bool) (off : BitVec 12) (s : State) : Host.Outcome State Fault Refusal :=
  .next (opCommand s t e (.mem .ldwu rt rb post off))

/-- LD (R126, R127). -/
def execLd (t : TriadId) (e : Bool) (rt rb : Reg) (post : Bool) (off : BitVec 12) (s : State) : Host.Outcome State Fault Refusal :=
  .next (opCommand s t e (.mem .ld rt rb post off))

/-- STB (R126, R127). -/
def execStb (t : TriadId) (e : Bool) (rt rb : Reg) (post : Bool) (off : BitVec 12) (s : State) : Host.Outcome State Fault Refusal :=
  .next (opCommand s t e (.mem .stb rt rb post off))

/-- STH (R126, R127). -/
def execSth (t : TriadId) (e : Bool) (rt rb : Reg) (post : Bool) (off : BitVec 12) (s : State) : Host.Outcome State Fault Refusal :=
  .next (opCommand s t e (.mem .sth rt rb post off))

/-- STW (R126, R127). -/
def execStw (t : TriadId) (e : Bool) (rt rb : Reg) (post : Bool) (off : BitVec 12) (s : State) : Host.Outcome State Fault Refusal :=
  .next (opCommand s t e (.mem .stw rt rb post off))

/-- ST (R126, R127). -/
def execSt (t : TriadId) (e : Bool) (rt rb : Reg) (post : Bool) (off : BitVec 12) (s : State) : Host.Outcome State Fault Refusal :=
  .next (opCommand s t e (.mem .st rt rb post off))

/-- FLW (R126, R127). -/
def execFlw (t : TriadId) (e : Bool) (rt rb : Reg) (post : Bool) (off : BitVec 12) (s : State) : Host.Outcome State Fault Refusal :=
  .next (opCommand s t e (.mem .flw rt rb post off))

/-- FSW (R126, R127). -/
def execFsw (t : TriadId) (e : Bool) (rt rb : Reg) (post : Bool) (off : BitVec 12) (s : State) : Host.Outcome State Fault Refusal :=
  .next (opCommand s t e (.mem .fsw rt rb post off))

/-- FLD (R126, R127). -/
def execFld (t : TriadId) (e : Bool) (rt rb : Reg) (post : Bool) (off : BitVec 12) (s : State) : Host.Outcome State Fault Refusal :=
  .next (opCommand s t e (.mem .fld rt rb post off))

/-- FSD (R126, R127). -/
def execFsd (t : TriadId) (e : Bool) (rt rb : Reg) (post : Bool) (off : BitVec 12) (s : State) : Host.Outcome State Fault Refusal :=
  .next (opCommand s t e (.mem .fsd rt rb post off))

end Sys2Proof.Machine
end

