-- ==== Sys2Proof/Machine/Pins.lean ====
section
/-! DEFINITION. Input pins (R241 to R244, R544, R578): one sample of a pin's three rails reaches the agreed value of every
triad, the voted level the legacy edge uses, and the island's counters. -/

namespace Sys2Proof.Machine

/-- The level that at least two rails hold. -/
def majority (r : BitVec 3) : Bool :=
  decide (2 ≤ (r.getLsbD 0).toNat + (r.getLsbD 1).toNat + (r.getLsbD 2).toNat)

/-- The agreed value for a triad, the lane at fault (3: unknown) and whether the sample disagreed (R242, R244). -/
def agree (x : Triad) (old : Bool) (r : BitVec 3) : Bool × Nat × Bool :=
  match x.actives with
  | [a, b] => if r.getLsbD a.val = r.getLsbD b.val then (r.getLsbD a.val, 3, false) else (old, 3, true)
  | _ =>
    let m := majority r
    match allLanes.find? fun l => r.getLsbD l.val != m with
    | some l => (m, l.val, true)
    | none => (m, 3, false)

def setBit128 (v : BitVec 128) (i : Nat) (b : Bool) : BitVec 128 :=
  if b then v ||| BitVec.ofNat 128 (2 ^ i) else v &&& ~~~ BitVec.ofNat 128 (2 ^ i)

def setBit64 (v : BitVec 64) (i : Nat) (b : Bool) : BitVec 64 :=
  if b then v ||| BitVec.ofNat 64 (2 ^ i) else v &&& ~~~ BitVec.ofNat 64 (2 ^ i)

/-- One sample of GPIO pin p at triad t's agreement stage: INDIS, and the report at the third sample of a run
(R242, R244). A fenced triad forms none. -/
def gpioSample (s : State) (t : TriadId) (p : Nat) (r : BitVec 3) : State :=
  let x := s.tri t
  if x.fenced then s
  else
    let (v, lane, bad) := agree x (x.agreed.getLsbD p) r
    let run := if bad then (x.inRun.lookup p).getD 0 + 1 else 0
    let rest := x.inRun.filter fun q => decide (q.1 ≠ p)
    let s := s.setTriad t fun x =>
      { x with agreed := setBit128 x.agreed p v, inRun := if bad then (p, run) :: rest else rest }
    let s := if bad then countL (s.up (Adr.cmpErrcnt t) fun w => satField w 31 16) t 0x49 1 else s
    if run = 3 then reportTriad s t 8 lane else s

/-- A GPIO pin serves as an index or timestamp source (R544). -/
def gpioServes (s : State) (p : Fin 128) : Bool :=
  let e := s.rd (Adr.gpioEdge (p.val / 16))
  bitOf e (p.val % 16) || bitOf e (16 + p.val % 16)
  || (List.finRange 64).any fun n =>
      indexPin s n == p.val && ((tmrMode s n == 2 && bitOf (s.rd (Adr.tmrCfg n)) 7) || capSrc s n == 6)

/-- The pin is an input that a legacy-edge unit uses (R544). -/
def railWatched (s : State) (pin : Pin) : Bool :=
  match pin with
  | .gpio p => gpioServes s p
  | .tmrA n => !tmrDrives s n false
  | .tmrB n => !tmrDrives s n true
  | .ssiDat _ => true
  | .uartRx _ => true
  | _ => false

/-- One rail's run against the majority; F167 at its third sample (R544). -/
def railSample (s : State) (pin : Pin) (r : BitVec 3) (rail : Nat) : State :=
  let bad := r.getLsbD rail != majority r
  let n := match s.legacy.railRun.find? fun e => e.1 == pin && e.2.1 == rail with | some e => e.2.2 | none => 0
  let rest := s.legacy.railRun.filter fun e => !(e.1 == pin && e.2.1 == rail)
  let s := { s with legacy := { s.legacy with railRun := if bad then (pin, rail, n + 1) :: rest else rest } }
  if bad && n == 2 then report s 167 0 else s

/-- A capture where the edge is the one CAPSRC selects (R555). -/
def captureEdge (s : State) (n : Fin 64) (pinB rise : Bool) : State :=
  let sel := match capSrc s n with
    | 1 => !pinB && rise
    | 2 => !pinB && !rise
    | 3 => !pinB
    | 4 => pinB && rise
    | 5 => pinB && !rise
    | _ => false
  if sel && !tmrDrives s n pinB then capture s n rise (countAtEdge s n) else s

/-- Captures of the channels whose index is pin p, at its rising edge (R555), which in QUAD with ZCLR clears the count
(R551). -/
def captureIndex (s : State) (p : Nat) : State :=
  (List.finRange 64).foldl (fun s (n : Fin 64) =>
    if capSrc s n = 6 ∧ indexPin s n = p then
      capture s n true (if tmrMode s n = 2 ∧ bitOf (s.rd (Adr.tmrCfg n)) 7 then 0 else countAtEdge s n)
    else s) s

/-- The voted level of a pin takes a value, which holds from this cycle on; an edge is captured where a channel asks for
it. -/
def voted (s : State) (pin : Pin) (v : Bool) : State :=
  let g := s.legacy
  match pin with
  | .gpio p =>
    let s' := { s with legacy := { g with gpioIn := setBit128 g.gpioIn p.val v } }
    if v && !g.gpioIn.getLsbD p.val then captureIndex s' p.val else s'
  | .tmrA n =>
    let s' := { s with legacy := { g with tmrAIn := setBit64 g.tmrAIn n.val v } }
    if v = g.tmrAIn.getLsbD n.val then s' else captureEdge (s'.upTimer n fun x => { x with holdA := 1 }) n false v
  | .tmrB n =>
    let s' := { s with legacy := { g with tmrBIn := setBit64 g.tmrBIn n.val v } }
    if v = g.tmrBIn.getLsbD n.val then s' else captureEdge (s'.upTimer n fun x => { x with holdB := 1 }) n true v
  | .ssiDat m => { s with legacy := { g with ssiIn := (setBit64 (g.ssiIn.setWidth 64) m.val v).setWidth 16 } }
  | .uartRx u => { s with legacy := { g with uartIn := (setBit64 (g.uartIn.setWidth 64) u.val v).setWidth 8 } }
  | _ => s

/-! ### The island's counter channels (R578, R581) -/

/-- A count step of channel n that stays within 48 bits (R578). -/
def ytcStep (c : BitVec 48) (up : Bool) : BitVec 48 :=
  if up then (if c = 0xFFFFFFFFFFFF then c else c + 1) else (if c = 0 then c else c - 1)

/-- The levels of a channel as counted: each counts once it has held for FILT + 1 cycles, the channel's mode says how; the
island firmware sets both (R550, R578; log 21). -/
def ytcCount (y : Yober) (n : Fin 8) : Yober :=
  let p := y.ytcIn[n]
  let f := (Config.yoberFilt n.val).toNat
  let a := y.ytcA.getLsbD n.val
  let b := y.ytcB.getLsbD n.val
  let a' := if f < p.heldA then p.a else a
  let b' := if f < p.heldB then p.b else b
  let old : BitVec 2 := BitVec.ofNat 2 (a.toNat + 2 * b.toNat)
  let new : BitVec 2 := BitVec.ofNat 2 (a'.toNat + 2 * b'.toNat)
  let c := y.ytc[n]
  let rise := a' && !a
  let c' := match Config.yoberMode n.val with
    | 0 => if old = new ∨ old ^^^ new = 3 then c else ytcStep c (quadUp old new)
    | 1 => if rise then ytcStep c b' else c
    | _ => if rise then ytcStep c true else c
  let setB (w : BitVec 8) (x : Bool) : BitVec 8 := (setBit64 (w.setWidth 64) n.val x).setWidth 8
  { y with ytcA := setB y.ytcA a', ytcB := setB y.ytcB b', ytc := y.ytc.set n.val c' n.isLt }

/-- A sample of YTC_A or YTC_B; while CLK_TNS is stopped none is taken (R581). -/
def ytcSample (s : State) (n : Fin 8) (pinB v : Bool) : State :=
  if s.yob.clkStopped then s
  else
    let put (p : YtcFilter) : YtcFilter :=
      if pinB then (if p.b = v then p else { p with b := v, heldB := 1 }) else (if p.a = v then p else { p with a := v, heldA := 1 })
    { s with yob := ytcCount { s.yob with ytcIn := vmod s.yob.ytcIn n put } n }

/-- A sample of YADC_DIN. -/
def adcSample (s : State) (n : Fin 4) (v : Bool) : State :=
  if s.yob.clkStopped then s
  else { s with yob := { s.yob with adc := vmod s.yob.adc n fun p => { p with din := v } } }

/-- A cycle of the island's counter channels (R578; log 21). -/
def islandCycle (s : State) : State :=
  if s.yob.clkStopped then s
  else
    let held (p : YtcFilter) : YtcFilter := { p with heldA := Nat.min 16 (p.heldA + 1), heldB := Nat.min 16 (p.heldB + 1) }
    { s with yob := (List.finRange 8).foldl ytcCount { s.yob with ytcIn := s.yob.ytcIn.map held } }

/-- PIN_LEVEL_CHANGE (R241 to R244, R544): one sample of the three rails. An island pin has one synchroniser, taken from
rail A (R35). A pin that no unit uses has no run (R544). -/
def pinSample (s : State) (pin : Pin) (r : BitVec 3) : State :=
  match pin with
  | .ytcA n => ytcSample s n false (r.getLsbD 0)
  | .ytcB n => ytcSample s n true (r.getLsbD 0)
  | .yadcDin n => adcSample s n (r.getLsbD 0)
  | _ =>
    let agreed := match pin with
      | .gpio p => allTriads.foldl (fun s t => gpioSample s t p.val r) s
      | _ => s
    let railed := if railWatched s pin then [0, 1, 2].foldl (fun s k => railSample s pin r k) agreed
      else { agreed with legacy := { agreed.legacy with railRun := agreed.legacy.railRun.filter fun e => e.1 != pin } }
    voted (inIdOrder s railed) pin (majority r)

/-- A pin of the island, which stays powered in DORMANT (R579). -/
def islandPin : Pin → Bool
  | .ytcA _ => true
  | .ytcB _ => true
  | .yadcDin _ => true
  | _ => false

def execPinLevelChange (pin : Pin) (rails : BitVec 3) (s : State) : Host.Outcome State Fault Refusal :=
  .next (if islandPin pin then pinSample s pin rails else s.powered fun s => pinSample s pin rails)

end Sys2Proof.Machine
end

