-- ==== Sys2Proof/Machine/Recovery.lean ====
section
/-! DEFINITION. Load data arriving (R729), the release of committed stores and their completion (R219 to R224, R348 to
R350), and recovery: rollback (R260 to R265), repair (R266), swap-in and rotation (R270, R272). -/

namespace Sys2Proof.Machine

/-! ### LOAD_DATA_ARRIVAL -/

/-- The load issued first among those without data has its data. -/
def arriveFirst : List Result → List Result
  | [] => []
  | r :: l => if r.arrived then r :: arriveFirst l else { r with arrived := true } :: l

/-- Data arrive in every ACTIVE lane, through the delay registers in all but the leading one (R195, R729). -/
def loadArrives (s : State) (t : TriadId) : State :=
  s.setTriad t fun x =>
    { x with lanes := x.lanes.map fun (l : Lane) =>
        if l.state == LaneState.active then { l with core := { l.core with flight := arriveFirst l.core.flight } } else l }

def execLoadDataArrival (t : Arrival) (s : State) : Host.Outcome State Fault Refusal :=
  .next (delayErrors (loadArrives s t.t) t)

/-! ### GATE_RELEASE and WRITE_COMPLETION -/

/-- The head of the committed entries may be released (R220). -/
def releasable (x : Triad) (e : GateEntry) : Bool := if e.dev then x.flying.isEmpty else !(x.flying.any fun g => g.dev)

/-- One entry leaves the gate (R219). -/
def gateRelease (s : State) (t : TriadId) : State :=
  match (s.tri t).toRelease with
  | [] => s
  | e :: l =>
    if releasable (s.tri t) e then
      s.setTriad t fun x =>
        let x := { x with toRelease := l, flying := x.flying ++ [e] }
        { x with colFull := x.colFull && x.colHolds }
    else s

def execGateRelease (t : TriadId) (s : State) : Host.Outcome State Fault Refusal := .next (gateRelease s t)

/-- The SRAM bank a write goes to, and whether through the owner port of triad t (R339, R341). -/
def bankPort (t : TriadId) (e : GateEntry) : Option (Fin 12 × Bool) :=
  let a := plainAddr e.pa.toNat
  if h : a / 0x200000 < 12 then some (⟨a / 0x200000, h⟩, e.aliasK == 0 && decide (a / 0x200000 = t.val)) else none

/-- A write meets a collision that the bank is resolving: the fabric port takes nothing else, and the owner port nothing
in the same row (R348). -/
def bankHeld (s : State) (t : TriadId) (e : GateEntry) : Bool :=
  match bankPort t e with
  | some (b, owner) =>
    (match s.sram.collided[b] with
      | some k => !owner || decide (plainAddr k.pa / 64 = plainAddr e.pa.toNat / 64)
      | none => false)
  | none => false

/-- A write whose response an invalidation barrier holds back (R300). -/
def barrierHolds (s : State) (t : TriadId) (e : GateEntry) : Bool := s.barriers[t].any fun b => b.waits.contains e.id

/-- A released write takes effect at its slave and completes (R224); one that starts an invalidation completes as its
barrier ends (R300). -/
def complete (s : State) (t : TriadId) (e : GateEntry) : State :=
  let s' := busWrite s t e.pa.toNat e.data e.be
  if e.pa.toNat = Adr.tapuInval t.val ∧ s'.barriers[t] ≠ s.barriers[t] then
    { s' with barriers := s'.barriers.set t.val (s'.barriers[t].map fun b => { b with waits := e.id :: b.waits }) t.isLt }
  else s'.setTriad t fun x => x.landed e.id

/-- WRITE_COMPLETION: the k-th write in flight, no earlier one to the same slave (R28). `hit` says that the owner port
writes to the word in the same fabric cycle, which only the fabric port of an SRAM bank can meet. -/
def writeCompletion (s : State) (t : TriadId) (k : Nat) (hit : Bool) : State :=
  let x := s.tri t
  match x.flying[k]? with
  | none => s
  | some e =>
    if (x.flying.take k).any (fun g => slaveOf g.pa.toNat == slaveOf e.pa.toNat) || bankHeld s t e || barrierHolds s t e then s
    else
      match hit, refusingBank s (.triad t) e.pa.toNat with
      | true, some b => countL (collide s b ⟨.gate t e.id, e.pa.toNat, (octetsOf e.data e.be).take (enCount e.be)⟩) t 0x17 1
      | _, _ => complete s t e

def execWriteCompletion (t : TriadId) (k : Nat) (collide : Bool) (s : State) : Host.Outcome State Fault Refusal :=
  .next (writeCompletion s t k collide)

/-! ### ROLLBACK (R260 to R265) -/

/-- Results in flight of a checkpoint: the accesses behind them have completed (R260 step 2). -/
def LaneCore.settled (c : LaneCore) : LaneCore :=
  { c with flight := c.flight.map fun r => { r with arrived := true } }

/-- Lanes that take a copy at the rollback: one still to be repaired, a spare for arbitration (R261). -/
def Triad.takesCopy (x : Triad) (l : LaneId) : Bool := x.repair == some l || x.arb == some l

/-- The lane whose checkpoint is copied (R261). -/
def Triad.copySource (x : Triad) : LaneId := (x.actives.find? fun l => !x.takesCopy l).getD x.lead

/-- The entries whose events had cleared their pending bit in the clause that a rollback discards unexecuted (R248). -/
def Triad.owes (x : Triad) : List PendEntry := if x.evGone then x.ckpt.entry.toList ++ x.owed else x.owed

/-- Steps 3 to 5 of R260: every ACTIVE lane at the checkpoint of the clause that failed, which runs again with the
register values it opened with (R249). -/
def Triad.restore (x : Triad) (cl : Closed) : Triad :=
  let src := x.copySource
  let core (i : LaneId) : LaneCore := (if x.takesCopy i then cl.ckpt.cores[src] else cl.ckpt.cores[i]).settled
  let ck := { cl.ckpt with cores := Vector.ofFn core, logPos := 0 }
  { x with
    lanes := Vector.ofFn fun (i : Fin 3) =>
      if x.act i then { x.lanes[i] with core := core i, gate := [], held := [], ras := [] }.openClause ck.parsed else x.lanes[i]
    slotOpen := false, first := none, fetched := none, delay := none, entry := ck.entry
    entered := false, entryWait := none, evSeen := none, eventAt := false, colFull := false, evClear := cl.evClear, evGone := cl.evGone, owed := x.owes
    clause := cl.num, slots := 0
    timer := ck.timer, sensOpen := ck.sens, forced := false, closeDue := 0, parse := ck.parse, parsed := ck.parsed
    counts := [], ckpt := ck, closed := none, logPos := 0, rollbacks := x.rollbacks + 1, rollbackDue := false
    repair := none, repairReady := false, excluded := none, swapAt := none, rotAt := none
    lenUse := ck.len, tmaxUse := ck.tmax, intervalUse := ck.interval, rctlUse := ck.rctl }

/-- A spare that has been retired since it was chosen joins no arbitration (R251, R269). -/
def dropRetired (s : State) (t : TriadId) : State :=
  s.setTriad t fun x => { x with arb := x.arb.filter fun l => (x.lane l).state != LaneState.retired }

/-- ROLLBACK: once every access and every committed release has completed (R260 step 2). -/
def rollback (s : State) (t : TriadId) : State :=
  let x := s.tri t
  if !x.rollbackDue || x.fenced || !x.toRelease.isEmpty || !x.flying.isEmpty || x.lanes[x.lead].core.waiting then s
  else
    match x.closed with
    | none => s
    | some cl =>
      let s := dropRetired s t
      let s := match (s.tri t).arb with
        | some l => setLane s t l .active
        | none => s
      let s := s.setTriad t fun x => x.restore cl
      let s := countL (countRec s t 15 0) t 0x2A 1
      let s := if cl.ckpt.parsed then countL s t 0x2E 1 else s
      reportTriad s t 0 3

def execRollback (t : TriadId) (s : State) : Host.Outcome State Fault Refusal := .next (rollback s t)

/-! ### REPAIR, SWAP_IN and ROTATION -/

/-- The triad stands in front of a clause that has issued nothing, the clause before it committed. -/
def atFresh (s : State) (t : TriadId) : Bool :=
  let x := s.tri t
  x.runs && decide (x.slots = 0) && x.closed.isNone && !x.rollbackDue && !isSplit s t

/-- REPAIR (R266), and what else the boundary brings (R254, R257). -/
def repair (s : State) (t : TriadId) : State :=
  let x := s.tri t
  if !atFresh s t || !x.repairReady then s
  else
    match x.repair with
    | none => s
    | some l =>
      let s := s.setTriad t fun x =>
        { (match x.sourceFor l with
            | some src => x.copyLane l src
            | none => x) with repair := none, repairReady := false, excluded := none }
      inIdOrder s (settle (reportTriad (countL (countRec s t 31 16) t 0x2C 1) t 1 l.val) t)

def execRepair (t : TriadId) (s : State) : Host.Outcome State Fault Refusal := .next (repair s t)

/-- SWAP_IN (R254, R272). -/
def swapIn (s : State) (t : TriadId) (l : LaneId) : State :=
  if atFresh s t && (s.tri t).swapDue == some l then swapTo s t l else s

def execSwapIn (t : TriadId) (l : LaneId) (s : State) : Host.Outcome State Fault Refusal := .next (swapIn s t l)

/-- The lane after another in the order A, B, C, A. -/
def nextLane (l : LaneId) : LaneId := l + 1

/-- ROTATION (R270): the spare swaps in and the lane after it leaves. -/
def rotation (s : State) (t : TriadId) : State :=
  if !atFresh s t then s
  else
    match rotationDue s t with
    | none => s
    | some l =>
      let s := setLane (swapTo s t l) t (nextLane l) .spareTest
      let s := s.up (Adr.cmpReccnt t.val) fun w => wrapField w 63 48
      s.setTriad t fun x => { x with lastRotation := some s.sys.upTicks }

def execRotation (t : TriadId) (s : State) : Host.Outcome State Fault Refusal := .next (rotation s t)

end Sys2Proof.Machine
end

