-- ==== Sys2Proof/Machine/SystemOps.lean ====
section
/-! DEFINITION. System registers and cache maintenance (R54 to R56, R135 to R139, R148 to R155). -/

namespace Sys2Proof.Machine

/-- MFS (R54, R135, R148 to R155). -/
def execMfs (t : TriadId) (e : Bool) (rd : Reg) (sr : BitVec 12) (s : State) : Host.Outcome State Fault Refusal :=
  .next (opCommand s t e (.mfs rd sr))

/-- MTS (R55, R56, R135, R148 to R155). -/
def execMts (word : LoneWord) (sr : BitVec 12) (rs : Reg) (s : State) : Host.Outcome State Fault Refusal :=
  .next (opCommand s word.t word.e (.mts sr rs))

/-- IINV (R137 to R139). -/
def execIinv (word : LoneWord) (rs : Reg) (s : State) : Host.Outcome State Fault Refusal :=
  .next (opCommand s word.t word.e (.iinv rs))

/-- IINVA (R137 to R139). -/
def execIinva (word : LoneWord) (s : State) : Host.Outcome State Fault Refusal :=
  .next (opCommand s word.t word.e .iinva)

/-- DINV (R137, R138). -/
def execDinv (word : LoneWord) (rs : Reg) (s : State) : Host.Outcome State Fault Refusal :=
  .next (opCommand s word.t word.e (.dinv rs))

/-- DINVA (R137, R138). -/
def execDinva (word : LoneWord) (s : State) : Host.Outcome State Fault Refusal :=
  .next (opCommand s word.t word.e .dinva)

end Sys2Proof.Machine
end

