-- ==== Sys2Proof/Machine/Dispatch.lean ====
section
/-! DEFINITION. The meaning of each command, by name. -/

namespace Sys2Proof.Machine

def exec (i : Instr) (s : State) : Host.Outcome State Fault Refusal :=
  match i with
  | .instructionFetch t wrongPath => Sys2Proof.Machine.execInstructionFetch t wrongPath s
  | .add t e rd rs1 rs2 => Sys2Proof.Machine.execAdd t e rd rs1 rs2 s
  | .sub t e rd rs1 rs2 => Sys2Proof.Machine.execSub t e rd rs1 rs2 s
  | .addv t e rd rs1 rs2 => Sys2Proof.Machine.execAddv t e rd rs1 rs2 s
  | .subv t e rd rs1 rs2 => Sys2Proof.Machine.execSubv t e rd rs1 rs2 s
  | .and t e rd rs1 rs2 => Sys2Proof.Machine.execAnd t e rd rs1 rs2 s
  | .or t e rd rs1 rs2 => Sys2Proof.Machine.execOr t e rd rs1 rs2 s
  | .xor t e rd rs1 rs2 => Sys2Proof.Machine.execXor t e rd rs1 rs2 s
  | .andn t e rd rs1 rs2 => Sys2Proof.Machine.execAndn t e rd rs1 rs2 s
  | .sll t e rd rs1 rs2 => Sys2Proof.Machine.execSll t e rd rs1 rs2 s
  | .srl t e rd rs1 rs2 => Sys2Proof.Machine.execSrl t e rd rs1 rs2 s
  | .sra t e rd rs1 rs2 => Sys2Proof.Machine.execSra t e rd rs1 rs2 s
  | .slt t e rd rs1 rs2 => Sys2Proof.Machine.execSlt t e rd rs1 rs2 s
  | .sltu t e rd rs1 rs2 => Sys2Proof.Machine.execSltu t e rd rs1 rs2 s
  | .min t e rd rs1 rs2 => Sys2Proof.Machine.execMin t e rd rs1 rs2 s
  | .max t e rd rs1 rs2 => Sys2Proof.Machine.execMax t e rd rs1 rs2 s
  | .minu t e rd rs1 rs2 => Sys2Proof.Machine.execMinu t e rd rs1 rs2 s
  | .maxu t e rd rs1 rs2 => Sys2Proof.Machine.execMaxu t e rd rs1 rs2 s
  | .sxw t e rd rs1 => Sys2Proof.Machine.execSxw t e rd rs1 s
  | .zxw t e rd rs1 => Sys2Proof.Machine.execZxw t e rd rs1 s
  | .addi t e rd rs1 imm => Sys2Proof.Machine.execAddi t e rd rs1 imm s
  | .andi t e rd rs1 imm => Sys2Proof.Machine.execAndi t e rd rs1 imm s
  | .ori t e rd rs1 imm => Sys2Proof.Machine.execOri t e rd rs1 imm s
  | .xori t e rd rs1 imm => Sys2Proof.Machine.execXori t e rd rs1 imm s
  | .slti t e rd rs1 imm => Sys2Proof.Machine.execSlti t e rd rs1 imm s
  | .sltiu t e rd rs1 imm => Sys2Proof.Machine.execSltiu t e rd rs1 imm s
  | .slli t e rd rs1 sh => Sys2Proof.Machine.execSlli t e rd rs1 sh s
  | .srli t e rd rs1 sh => Sys2Proof.Machine.execSrli t e rd rs1 sh s
  | .srai t e rd rs1 sh => Sys2Proof.Machine.execSrai t e rd rs1 sh s
  | .lui t e rd imm => Sys2Proof.Machine.execLui t e rd imm s
  | .mul t e pd rs1 rs2 => Sys2Proof.Machine.execMul t e pd rs1 rs2 s
  | .mulu t e pd rs1 rs2 => Sys2Proof.Machine.execMulu t e pd rs1 rs2 s
  | .mac t e pd rs1 rs2 => Sys2Proof.Machine.execMac t e pd rs1 rs2 s
  | .macu t e pd rs1 rs2 => Sys2Proof.Machine.execMacu t e pd rs1 rs2 s
  | .div t e rs1 rs2 => Sys2Proof.Machine.execDiv t e rs1 rs2 s
  | .divu t e rs1 rs2 => Sys2Proof.Machine.execDivu t e rs1 rs2 s
  | .mfpl t e rd ps => Sys2Proof.Machine.execMfpl t e rd ps s
  | .mfph t e rd ps => Sys2Proof.Machine.execMfph t e rd ps s
  | .mtp t e pd rs1 rs2 => Sys2Proof.Machine.execMtp t e pd rs1 rs2 s
  | .mfq t e rd second => Sys2Proof.Machine.execMfq t e rd second s
  | .fadd t e single rd rs1 rs2 => Sys2Proof.Machine.execFadd t e single rd rs1 rs2 s
  | .fsub t e single rd rs1 rs2 => Sys2Proof.Machine.execFsub t e single rd rs1 rs2 s
  | .fmul t e single rd rs1 rs2 => Sys2Proof.Machine.execFmul t e single rd rs1 rs2 s
  | .fdiv t e single rd rs1 rs2 => Sys2Proof.Machine.execFdiv t e single rd rs1 rs2 s
  | .fsqrt t e single rd rs1 => Sys2Proof.Machine.execFsqrt t e single rd rs1 s
  | .fma t e single rd rs1 rs2 rs3 => Sys2Proof.Machine.execFma t e single rd rs1 rs2 rs3 s
  | .fms t e single rd rs1 rs2 rs3 => Sys2Proof.Machine.execFms t e single rd rs1 rs2 rs3 s
  | .fmin t e single rd rs1 rs2 => Sys2Proof.Machine.execFmin t e single rd rs1 rs2 s
  | .fmax t e single rd rs1 rs2 => Sys2Proof.Machine.execFmax t e single rd rs1 rs2 s
  | .fneg t e single rd rs1 => Sys2Proof.Machine.execFneg t e single rd rs1 s
  | .fabs t e single rd rs1 => Sys2Proof.Machine.execFabs t e single rd rs1 s
  | .fmv t e single rd rs1 => Sys2Proof.Machine.execFmv t e single rd rs1 s
  | .fceq t e single rd rs1 rs2 => Sys2Proof.Machine.execFceq t e single rd rs1 rs2 s
  | .fclt t e single rd rs1 rs2 => Sys2Proof.Machine.execFclt t e single rd rs1 rs2 s
  | .fcle t e single rd rs1 rs2 => Sys2Proof.Machine.execFcle t e single rd rs1 rs2 s
  | .fcvtl t e single rd rs1 => Sys2Proof.Machine.execFcvtl t e single rd rs1 s
  | .fcvtfl t e single rd rs1 => Sys2Proof.Machine.execFcvtfl t e single rd rs1 s
  | .fcvtf t e single rd rs1 => Sys2Proof.Machine.execFcvtf t e single rd rs1 s
  | .fmvgf t e single rd rs1 => Sys2Proof.Machine.execFmvgf t e single rd rs1 s
  | .fmvfg t e single rd rs1 => Sys2Proof.Machine.execFmvfg t e single rd rs1 s
  | .ldb t e rt rb post off => Sys2Proof.Machine.execLdb t e rt rb post off s
  | .ldbu t e rt rb post off => Sys2Proof.Machine.execLdbu t e rt rb post off s
  | .ldh t e rt rb post off => Sys2Proof.Machine.execLdh t e rt rb post off s
  | .ldhu t e rt rb post off => Sys2Proof.Machine.execLdhu t e rt rb post off s
  | .ldw t e rt rb post off => Sys2Proof.Machine.execLdw t e rt rb post off s
  | .ldwu t e rt rb post off => Sys2Proof.Machine.execLdwu t e rt rb post off s
  | .ld t e rt rb post off => Sys2Proof.Machine.execLd t e rt rb post off s
  | .stb t e rt rb post off => Sys2Proof.Machine.execStb t e rt rb post off s
  | .sth t e rt rb post off => Sys2Proof.Machine.execSth t e rt rb post off s
  | .stw t e rt rb post off => Sys2Proof.Machine.execStw t e rt rb post off s
  | .st t e rt rb post off => Sys2Proof.Machine.execSt t e rt rb post off s
  | .flw t e rt rb post off => Sys2Proof.Machine.execFlw t e rt rb post off s
  | .fsw t e rt rb post off => Sys2Proof.Machine.execFsw t e rt rb post off s
  | .fld t e rt rb post off => Sys2Proof.Machine.execFld t e rt rb post off s
  | .fsd t e rt rb post off => Sys2Proof.Machine.execFsd t e rt rb post off s
  | .loadDataArrival t => Sys2Proof.Machine.execLoadDataArrival t s
  | .pageTableWalk who va => Sys2Proof.Machine.execPageTableWalk who va s
  | .beq word annul rs1 rs2 off => Sys2Proof.Machine.execBeq word annul rs1 rs2 off s
  | .bne word annul rs1 rs2 off => Sys2Proof.Machine.execBne word annul rs1 rs2 off s
  | .blt word annul rs1 rs2 off => Sys2Proof.Machine.execBlt word annul rs1 rs2 off s
  | .bge word annul rs1 rs2 off => Sys2Proof.Machine.execBge word annul rs1 rs2 off s
  | .bltu word annul rs1 rs2 off => Sys2Proof.Machine.execBltu word annul rs1 rs2 off s
  | .bgeu word annul rs1 rs2 off => Sys2Proof.Machine.execBgeu word annul rs1 rs2 off s
  | .br word off => Sys2Proof.Machine.execBr word off s
  | .call word off => Sys2Proof.Machine.execCall word off s
  | .jr word rs1 => Sys2Proof.Machine.execJr word rs1 s
  | .callr word rs1 => Sys2Proof.Machine.execCallr word rs1 s
  | .ret word => Sys2Proof.Machine.execRet word s
  | .repi word src => Sys2Proof.Machine.execRepi word src s
  | .repn word src => Sys2Proof.Machine.execRepn word src s
  | .repeatIteration t => Sys2Proof.Machine.execRepeatIteration t s
  | .close word => Sys2Proof.Machine.execClose word s
  | .sys word code => Sys2Proof.Machine.execSys word code s
  | .mcall word code => Sys2Proof.Machine.execMcall word code s
  | .rete word => Sys2Proof.Machine.execRete word s
  | .mfs t e rd sr => Sys2Proof.Machine.execMfs t e rd sr s
  | .mts word sr rs => Sys2Proof.Machine.execMts word sr rs s
  | .iinv word rs => Sys2Proof.Machine.execIinv word rs s
  | .iinva word => Sys2Proof.Machine.execIinva word s
  | .dinv word rs => Sys2Proof.Machine.execDinv word rs s
  | .dinva word => Sys2Proof.Machine.execDinva word s
  | .resultLands t => Sys2Proof.Machine.execResultLands t s
  | .exceptionEntry t => Sys2Proof.Machine.execExceptionEntry t s
  | .budgetOverrun t => Sys2Proof.Machine.execBudgetOverrun t s
  | .eventPulse n => Sys2Proof.Machine.execEventPulse n s
  | .eventEntry t => Sys2Proof.Machine.execEventEntry t s
  | .evcSwset src => Sys2Proof.Machine.execEvcSwset src s
  | .evcDbset who src => Sys2Proof.Machine.execEvcDbset who src s
  | .clauseClose t => Sys2Proof.Machine.execClauseClose t s
  | .clauseTimeout t => Sys2Proof.Machine.execClauseTimeout t s
  | .compareResult t invalid => Sys2Proof.Machine.execCompareResult t invalid s
  | .gateRelease t => Sys2Proof.Machine.execGateRelease t s
  | .writeCompletion t k collide => Sys2Proof.Machine.execWriteCompletion t k collide s
  | .collideRetry bank => Sys2Proof.Machine.execCollideRetry bank s
  | .rollback t => Sys2Proof.Machine.execRollback t s
  | .repair t => Sys2Proof.Machine.execRepair t s
  | .swapIn t l => Sys2Proof.Machine.execSwapIn t l s
  | .rotation t => Sys2Proof.Machine.execRotation t s
  | .laneBistStart t l => Sys2Proof.Machine.execLaneBistStart t l s
  | .laneBistDone t l pass => Sys2Proof.Machine.execLaneBistDone t l pass s
  | .chargeWindowExpiry t l => Sys2Proof.Machine.execChargeWindowExpiry t l s
  | .invalidCodeWindowExpiry t => Sys2Proof.Machine.execInvalidCodeWindowExpiry t s
  | .pinLevelChange pin rails => Sys2Proof.Machine.execPinLevelChange pin rails s
  | .tapuCtxWrite w t v => Sys2Proof.Machine.execTapuCtxWrite w t v s
  | .invalidatePage w t asid vpn => Sys2Proof.Machine.execInvalidatePage w t asid vpn s
  | .invalidateAsid w t asid => Sys2Proof.Machine.execInvalidateAsid w t asid s
  | .invalidateTriad w t => Sys2Proof.Machine.execInvalidateTriad w t s
  | .invalidationBarrierEnd t => Sys2Proof.Machine.execInvalidationBarrierEnd t s
  | .doorbell w c v => Sys2Proof.Machine.execDoorbell w c v s
  | .descriptorFetch c => Sys2Proof.Machine.execDescriptorFetch c s
  | .segmentStart x => Sys2Proof.Machine.execSegmentStart x s
  | .segmentComplete seg => Sys2Proof.Machine.execSegmentComplete seg s
  | .resume w c => Sys2Proof.Machine.execResume w c s
  | .abort w c => Sys2Proof.Machine.execAbort w c s
  | .engineComparisonFault x => Sys2Proof.Machine.execEngineComparisonFault x s
  | .arm w k => Sys2Proof.Machine.execArm w k s
  | .disarm w k => Sys2Proof.Machine.execDisarm w k s
  | .actionDispatch k => Sys2Proof.Machine.execActionDispatch k s
  | .lateByCongestion k => Sys2Proof.Machine.execLateByCongestion k s
  | .tmrWrite k => Sys2Proof.Machine.execTmrWrite k s
  | .legWrite k => Sys2Proof.Machine.execLegWrite k s
  | .dmaStart k => Sys2Proof.Machine.execDmaStart k s
  | .frameLaunch k => Sys2Proof.Machine.execFrameLaunch k s
  | .inputFlip k => Sys2Proof.Machine.execInputFlip k s
  | .outputFlip k => Sys2Proof.Machine.execOutputFlip k s
  | .raiseEvent k => Sys2Proof.Machine.execRaiseEvent k s
  | .instantiation j => Sys2Proof.Machine.execInstantiation j s
  | .tableStart j v => Sys2Proof.Machine.execTableStart j v s
  | .tableStop j v => Sys2Proof.Machine.execTableStop j v s
  | .regionEnable r v => Sys2Proof.Machine.execRegionEnable r v s
  | .tnsOrrRdy w r v => Sys2Proof.Machine.execTnsOrrRdy w r v s
  | .step v => Sys2Proof.Machine.execStep v s
  | .syncTimeout => Sys2Proof.Machine.execSyncTimeout s
  | .holdoverExpiry => Sys2Proof.Machine.execHoldoverExpiry s
  | .frameReception p rxTime octets fcsOk => Sys2Proof.Machine.execFrameReception p rxTime octets fcsOk s
  | .frameBuild slot => Sys2Proof.Machine.execFrameBuild slot s
  | .frameTransmissionStart p q => Sys2Proof.Machine.execFrameTransmissionStart p q s
  | .frameSent p => Sys2Proof.Machine.execFrameSent p s
  | .netPpAtx p v => Sys2Proof.Machine.execNetPpAtx p v s
  | .gateScheduleRestart p => Sys2Proof.Machine.execGateScheduleRestart p s
  | .gateIntervalEnd p => Sys2Proof.Machine.execGateIntervalEnd p s
  | .gateEnable p v => Sys2Proof.Machine.execGateEnable p v s
  | .syncTransmission p d => Sys2Proof.Machine.execSyncTransmission p d s
  | .pdelayReq p => Sys2Proof.Machine.execPdelayReq p s
  | .linkChange p up speed => Sys2Proof.Machine.execLinkChange p up speed s
  | .streamHistoryReset q src vid => Sys2Proof.Machine.execStreamHistoryReset q src vid s
  | .fdbAgeing mac vid => Sys2Proof.Machine.execFdbAgeing mac vid s
  | .safeWatchdogExpiry c => Sys2Proof.Machine.execSafeWatchdogExpiry c s
  | .netSack c => Sys2Proof.Machine.execNetSack c s
  | .netSclkLk => Sys2Proof.Machine.execNetSclkLk s
  | .safeChannelComparisonFault => Sys2Proof.Machine.execSafeChannelComparisonFault s
  | .arp v6 target src payload => Sys2Proof.Machine.execArp v6 target src payload s
  | .echoRequest v6 target src payload => Sys2Proof.Machine.execEchoRequest v6 target src payload s
  | .aopOpen via m => Sys2Proof.Machine.execAopOpen via m s
  | .aopClose via m => Sys2Proof.Machine.execAopClose via m s
  | .aopPing via m => Sys2Proof.Machine.execAopPing via m s
  | .aopRead via m => Sys2Proof.Machine.execAopRead via m s
  | .aopWrite via m => Sys2Proof.Machine.execAopWrite via m s
  | .aopDescribe via m => Sys2Proof.Machine.execAopDescribe via m s
  | .aopStore via m => Sys2Proof.Machine.execAopStore via m s
  | .storeDone ok => Sys2Proof.Machine.execStoreDone ok s
  | .aopPropose via m => Sys2Proof.Machine.execAopPropose via m s
  | .aopCountersign via m => Sys2Proof.Machine.execAopCountersign via m s
  | .aopWithdraw via m => Sys2Proof.Machine.execAopWithdraw via m s
  | .hstSoftdone w entry => Sys2Proof.Machine.execHstSoftdone w entry s
  | .softTimeout entry => Sys2Proof.Machine.execSoftTimeout entry s
  | .sessionIdleTimeout sess => Sys2Proof.Machine.execSessionIdleTimeout sess s
  | .pcieLinkDown p => Sys2Proof.Machine.execPcieLinkDown p s
  | .rqProd p v => Sys2Proof.Machine.execRqProd p v s
  | .rsCons p v => Sys2Proof.Machine.execRsCons p v s
  | .sysRecap w v => Sys2Proof.Machine.execSysRecap w v s
  | .recapCapture t => Sys2Proof.Machine.execRecapCapture t s
  | .triadPropose w v => Sys2Proof.Machine.execTriadPropose w v s
  | .triadWithdraw w v => Sys2Proof.Machine.execTriadWithdraw w v s
  | .keySwitchApproval => Sys2Proof.Machine.execKeySwitchApproval s
  | .proposalTimeout k => Sys2Proof.Machine.execProposalTimeout k s
  | .tamper cause => Sys2Proof.Machine.execTamper cause s
  | .wipeComplete readBackOk => Sys2Proof.Machine.execWipeComplete readBackOk s
  | .wideLoRead q leg off => Sys2Proof.Machine.execWideLoRead q leg off s
  | .wideLoWrite q leg off v => Sys2Proof.Machine.execWideLoWrite q leg off v s
  | .wideHiWrite q leg off v => Sys2Proof.Machine.execWideHiWrite q leg off v s
  | .captureFifoPop q n => Sys2Proof.Machine.execCaptureFifoPop q n s
  | .countStep n => Sys2Proof.Machine.execCountStep n s
  | .indexClear n => Sys2Proof.Machine.execIndexClear n s
  | .channelStart q n v => Sys2Proof.Machine.execChannelStart q n v s
  | .channelStop q n v => Sys2Proof.Machine.execChannelStop q n v s
  | .force q n v => Sys2Proof.Machine.execForce q n v s
  | .tmrChnCfg w n pins v => Sys2Proof.Machine.execTmrChnCfg w n pins v s
  | .groupStart q g => Sys2Proof.Machine.execGroupStart q g s
  | .staggeredStart n => Sys2Proof.Machine.execStaggeredStart n s
  | .ssiStart q m => Sys2Proof.Machine.execSsiStart q m s
  | .ssiTransferDone m samples => Sys2Proof.Machine.execSsiTransferDone m samples s
  | .monoflopEnd m => Sys2Proof.Machine.execMonoflopEnd m s
  | .uartTxd q u v => Sys2Proof.Machine.execUartTxd q u v s
  | .uartStart q u => Sys2Proof.Machine.execUartStart q u s
  | .characterSent u => Sys2Proof.Machine.execCharacterSent u s
  | .deRelease u => Sys2Proof.Machine.execDeRelease u s
  | .characterReceived u data fe pe => Sys2Proof.Machine.execCharacterReceived u data fe pe s
  | .uartIdleTimeout u => Sys2Proof.Machine.execUartIdleTimeout u s
  | .uartRxd q u => Sys2Proof.Machine.execUartRxd q u s
  | .sdmVal q k v => Sys2Proof.Machine.execSdmVal q k v s
  | .sdmUpd q mask => Sys2Proof.Machine.execSdmUpd q mask s
  | .sdmEnable q k v => Sys2Proof.Machine.execSdmEnable q k v s
  | .sdmWatchdog k => Sys2Proof.Machine.execSdmWatchdog k s
  | .gpioOut q g v => Sys2Proof.Machine.execGpioOut q g v s
  | .gpioSet q g v => Sys2Proof.Machine.execGpioSet q g v s
  | .gpioClr q g v => Sys2Proof.Machine.execGpioClr q g v s
  | .gpioEdge p rise => Sys2Proof.Machine.execGpioEdge p rise s
  | .timestampFifoPop q g => Sys2Proof.Machine.execTimestampFifoPop q g s
  | .safeClear w leg mask => Sys2Proof.Machine.execSafeClear w leg mask s
  | .yoberPing => Sys2Proof.Machine.execYoberPing s
  | .ident => Sys2Proof.Machine.execIdent s
  | .measure => Sys2Proof.Machine.execMeasure s
  | .pread => Sys2Proof.Machine.execPread s
  | .pwrite => Sys2Proof.Machine.execPwrite s
  | .keyset => Sys2Proof.Machine.execKeyset s
  | .fwbegin => Sys2Proof.Machine.execFwbegin s
  | .fwdata => Sys2Proof.Machine.execFwdata s
  | .fwend => Sys2Proof.Machine.execFwend s
  | .fwact => Sys2Proof.Machine.execFwact s
  | .audit => Sys2Proof.Machine.execAudit s
  | .cqProd w v => Sys2Proof.Machine.execCqProd w v s
  | .rrCons w v => Sys2Proof.Machine.execRrCons w v s
  | .recordWrite => Sys2Proof.Machine.execRecordWrite s
  | .sealChange intact => Sys2Proof.Machine.execSealChange intact s
  | .islandReset cause => Sys2Proof.Machine.execIslandReset cause s
  | .islandReady bistOk => Sys2Proof.Machine.execIslandReady bistOk s
  | .faultReport f info route => Sys2Proof.Machine.execFaultReport f info route s
  | .fcuSwrep idx info => Sys2Proof.Machine.execFcuSwrep idx info s
  | .crossCheckExchange => Sys2Proof.Machine.execCrossCheckExchange s
  | .fcuSelfCheckError u => Sys2Proof.Machine.execFcuSelfCheckError u s
  | .pulseEnd u => Sys2Proof.Machine.execPulseEnd u s
  | .decisionWindowEnd u => Sys2Proof.Machine.execDecisionWindowEnd u s
  | .hold => Sys2Proof.Machine.execHold s
  | .rel => Sys2Proof.Machine.execRel s
  | .activeFaultClear k v => Sys2Proof.Machine.execActiveFaultClear k v s
  | .quietPeriodEnd u => Sys2Proof.Machine.execQuietPeriodEnd u s
  | .aliveToggle => Sys2Proof.Machine.execAliveToggle s
  | .permitToggle u => Sys2Proof.Machine.execPermitToggle u s
  | .packNAcknowledgement heldMs => Sys2Proof.Machine.execPackNAcknowledgement heldMs s
  | .clockMonitorWindow off => Sys2Proof.Machine.execClockMonitorWindow off s
  | .clockStop c => Sys2Proof.Machine.execClockStop c s
  | .pllLossOfLock => Sys2Proof.Machine.execPllLossOfLock s
  | .bankPowerRequest v => Sys2Proof.Machine.execBankPowerRequest v s
  | .bankPowerChangeDone n => Sys2Proof.Machine.execBankPowerChangeDone n s
  | .eccWriteBack word => Sys2Proof.Machine.execEccWriteBack word s
  | .backgroundTestRegion run => Sys2Proof.Machine.execBackgroundTestRegion run s
  | .scrubRead read => Sys2Proof.Machine.execScrubRead read s
  | .zqCalibration => Sys2Proof.Machine.execZqCalibration s
  | .commandRepeat rep => Sys2Proof.Machine.execCommandRepeat rep s
  | .channelLoss c => Sys2Proof.Machine.execChannelLoss c s
  | .traceEntryWrite => Sys2Proof.Machine.execTraceEntryWrite s
  | .tracePortSend => Sys2Proof.Machine.execTracePortSend s
  | .traceEnable v => Sys2Proof.Machine.execTraceEnable v s
  | .counterWrite w t n v => Sys2Proof.Machine.execCounterWrite w t n v s
  | .haltRequest t => Sys2Proof.Machine.execHaltRequest t s
  | .debugResume t => Sys2Proof.Machine.execDebugResume t s
  | .singleStep t => Sys2Proof.Machine.execSingleStep t s
  | .debugRegisterAccess t num write => Sys2Proof.Machine.execDebugRegisterAccess t num write s
  | .debugMemoryAccess t va size write => Sys2Proof.Machine.execDebugMemoryAccess t va size write s
  | .modeRequestCommission w => Sys2Proof.Machine.execModeRequestCommission w s
  | .modeRequestOperate w => Sys2Proof.Machine.execModeRequestOperate w s
  | .modeRequestSafeHold w => Sys2Proof.Machine.execModeRequestSafeHold w s
  | .dormantRetainRequest w => Sys2Proof.Machine.execDormantRetainRequest w s
  | .dormantOffRequest w => Sys2Proof.Machine.execDormantOffRequest w s
  | .dormantEntry => Sys2Proof.Machine.execDormantEntry s
  | .wake => Sys2Proof.Machine.execWake s
  | .wakeTime => Sys2Proof.Machine.execWakeTime s
  | .degradedLimit => Sys2Proof.Machine.execDegradedLimit s
  | .por => Sys2Proof.Machine.execPor s
  | .pinReset => Sys2Proof.Machine.execPinReset s
  | .deviceReset cause => Sys2Proof.Machine.execDeviceReset cause s
  | .triadReset t => Sys2Proof.Machine.execTriadReset t s
  | .bootSequence found => Sys2Proof.Machine.execBootSequence found s
  | .registerWrite w addr dbl v => Sys2Proof.Machine.execRegisterWrite w addr dbl v s
  | .attributionWindowExpiry t l => Sys2Proof.Machine.execAttributionWindowExpiry t l s
  | .domainWindowExpiry u d => Sys2Proof.Machine.execDomainWindowExpiry u d s
  | .pllLockRegained => Sys2Proof.Machine.execPllLockRegained s
  | .pcieLinkUp p gen width => Sys2Proof.Machine.execPcieLinkUp p gen width s
  | .tamperConditionEnd => Sys2Proof.Machine.execTamperConditionEnd s
  | .keyswNChange asserted => Sys2Proof.Machine.execKeyswNChange asserted s
  | .imageWriteDone => Sys2Proof.Machine.execImageWriteDone s
  | .firmwareRecord chan => Sys2Proof.Machine.execFirmwareRecord chan s

end Sys2Proof.Machine
end

