-- ==== Sys2Proof/Machine/Tick.lean ====
section
/-! DEFINITION. One CLK_TNS tick, which is what a step does on an empty queue (DESIGN CHOICE, log 2): the timebase, four
core cycles of every triad, half a peripheral cycle of the legacy edge, the DEGRADED clock. Everything else that time
brings about is a command. -/

namespace Sys2Proof.Machine

/-- Core cycles in a tick (R33). -/
def coreCycles : Nat := 4

/-- Four core cycles of a lane's budget, of every bank and level (R179). -/
def LaneCore.spend (c : LaneCore) : LaneCore := { c with budget := c.budget - coreCycles }

/-- The budget of the handler that is being entered has not begun (R179). -/
def Triad.budgetHeld (x : Triad) : Bool := x.entryWindow && pswNI x.lanes[x.lead].core.psw

/-- Four core cycles of a triad: clause timer (R209) and budgets (R179, R695). -/
def Triad.tick (x : Triad) : Triad :=
  if !x.runs then x
  else
    { x with
      timer := if x.slots ≠ 0 ∨ x.parsed = true then x.timer + coreCycles else x.timer
      lanes := x.lanes.map fun (l : Lane) =>
        if l.state == LaneState.active && !x.budgetHeld then { l with core := l.core.spend } else l }

/-- The cycle counts of a triad (R692). -/
def tickCounts (s : State) (t : TriadId) : State :=
  let x := s.tri t
  let up (s : State) (code : Nat) (b : Bool) : State := if b then countL s t code coreCycles else s
  if !x.released || x.fenced then s
  else
    up (up (up (up s 0x00 true) 0x42 (!x.toRelease.isEmpty)) 0x46 (pswNI x.lanes[x.lead].core.psw)) 0x47
      (eventDue s t)

/-- A triad's share of a tick. -/
def triadTick (s : State) (t : TriadId) : State := (tickCounts s t).setTriad t Triad.tick

/-- One peripheral cycle of the legacy edge (R549, R550, R557, R559, R561 to R565). -/
def peripheralCycle (s : State) : State :=
  { s with legacy := { s.legacy with
      timers := Vector.ofFn (timerCycle s), ssi := Vector.ofFn (ssiCycle s), uart := Vector.ofFn (uartCycle s),
      sdm := Vector.ofFn (sdmCycle s) } }

/-- The DEGRADED clock (R668). -/
def modeClock (s : State) : State :=
  if modeOf s = 3 then { s with sys := { s.sys with degTicks := s.sys.degTicks + 1 } } else s

/-- A tick of a boot header's rewriting: the copy, then the header, valid once it is programmed (R654, R659). -/
def headerTick (b : Boot) : Boot :=
  match b.headerWrite with
  | none => b
  | some w =>
    match w.copyLeft, w.left with
    | some (n + 1), _ => { b with headerWrite := some { w with copyLeft := some n } }
    | some 0, _ => { b with headerCopy := w.octets, header := [], headerWrite := some { w with copyLeft := none } }
    | none, n + 1 => { b with headerWrite := some { w with left := n } }
    | none, 0 => { b with header := w.octets, headerWrite := none }

/-- One tick. In DORMANT the core and peripheral clocks are stopped (R677). -/
def tick (s : State) : State :=
  let s := timebaseTick s
  let s := { s with sys := { s.sys with upTicks := s.sys.upTicks + 1 } }
  let s := if s.sys.upTicks % 2 = 0 then islandCycle s else s
  if modeOf s = 5 then s
  else
    let s := modeClock (allTriads.foldl triadTick s)
    let s := { s with boot := headerTick s.boot }
    let s := if s.legacy.half then peripheralCycle s else s
    { s with legacy := { s.legacy with half := !s.legacy.half } }

end Sys2Proof.Machine
end

