-- ==== Sys2Proof/Safety.lean ====
section
/-! DEFINITION. What counts as a sound state and a safe run: the canonical forms of memory and registers. -/

namespace Sys2Proof.Machine

/-- Keys strictly rise. -/
abbrev Rising {α : Type} (l : List (Nat × α)) : Prop := l.Pairwise fun a b => a.1 < b.1

/-- The canonical form of memory: addresses rise, no octet is 0, what an unlisted address reads as (log 9). -/
abbrev Memory.wf (m : List Host.Cell) : Prop := Rising m ∧ ∀ c ∈ m, c.2 ≠ 0

/-- The canonical form of the registers: addresses rise, none at its reset value. -/
abbrev Registers.wf (r : List (Nat × Word)) : Prop := Rising r ∧ ∀ c ∈ r, c.2 ≠ resetValue c.1

/-- A sound state: memory and registers in canonical form, so that equal contents are equal data. -/
def State.Sound (s : State) : Prop := Memory.wf s.mem ∧ Registers.wf s.regs

/-- A run is safe as long as every step answers a next state. -/
def safeRun : Nat → State → Prop
  | 0, _ => True
  | n + 1, s =>
    match step s with
    | .next t => safeRun n t
    | _ => False

/-! ### The words of the statements -/

/-- The command completes in a state of which P holds. -/
def Completes (i : Instr) (s : State) (P : State → Prop) : Prop := ∃ s', exec i s = .next s' ∧ P s'

/-- No register differs but those of the list. -/
def SameRegs (s s' : State) (l : List Nat) : Prop := ∀ a, a ∉ l → s'.rd a = s.rd a

/-- From s to s' event n has pulsed: its pending bit is set, its overrun bit too where it was pending (R164). In DORMANT
the event controller is powered down, and both stay (R677). -/
structure Pulsed (s s' : State) (n : Nat) : Prop where
  pend : ∀ i, bitOf (s'.rd (Adr.evcPend (n / 32))) i =
    (bitOf (s.rd (Adr.evcPend (n / 32))) i || decide (modeOf s ≠ 5 ∧ i = n % 32))
  ovr : ∀ i, bitOf (s'.rd (Adr.evcOvr (n / 32))) i =
    (bitOf (s.rd (Adr.evcOvr (n / 32))) i || (decide (modeOf s ≠ 5 ∧ i = n % 32) && bitOf (s.rd (Adr.evcPend (n / 32))) i))

/-- The two registers event n shows in. -/
def eventRegs (n : Nat) : List Nat := [Adr.evcPend (n / 32), Adr.evcOvr (n / 32)]

/-- The n octets of a number stand at a, least significant first, and every other octet of memory as before (R9). -/
def Stored (s s' : State) (a n v : Nat) : Prop :=
  ∀ x, rdByte s' x = if a ≤ x ∧ x < a + n then BitVec.ofNat 8 (v / 256 ^ (x - a)) else rdByte s x

/-- No SRAM word holds an error, no bank keeps a refused write, and the bank of a is On (R345, R348, R359). -/
structure State.clean (s : State) (a : Nat) : Prop where
  good : s.sram.errors = []
  kept : ∀ b : Fin 12, s.sram.collided[b] = none
  on : bankOn s a = true

/-- The registers of the leading lane of triad t. -/
def State.leadCore (s : State) (t : TriadId) : LaneCore := ((s.tri t).lane (s.tri t).lead).core

/-- Triad t stands in front of an ordinary bundle: it runs (R284), no slot is open (R67), no delay slot (R83), entry
(R161, R172), event's bound (R245), repair (R266), recovery (R260), close (R204) or halt (R697) is due, and no repeat is in progress (R102). -/
structure Ready (s : State) (t : TriadId) : Prop where
  runs : (s.tri t).runs = true
  awake : modeOf s ≠ 5
  slot : (s.tri t).slotOpen = false
  first : (s.tri t).first = none
  delay : (s.tri t).delay = none
  entry : (s.tri t).entry = none
  inTime : (s.tri t).overrun = false
  bound : (s.tri t).eventBound = false
  forced : (s.tri t).forced = false
  closeDue : (s.tri t).closeDue = 0
  repair : (s.tri t).repair = none
  recovery : (s.tri t).rollbackDue = false
  halt : (s.tri t).haltReq = false
  dormant : s.sys.dormantDue = none
  boundary : boundaryWait s t = false
  event : (s.tri t).evClear = none
  noEvent : heldByEvent s t = false
  noRepeat : pswRP (s.leadCore t).psw = false

/-- A core whose PC has moved to `pc` and which has started the results `rs` (R64, R67). -/
def LaneCore.onward (c : LaneCore) (pc : Word) (rs : List Result) : LaneCore :=
  { c.setCur (fun b => { b with pc := pc }) with flight := c.flight ++ rs }

/-- A result on its way: destination, value, distance, without flags (R66). -/
def result (pc : Word) (d : Dest) (v : BitVec 128) (n : Nat) : Result :=
  { dest := d, val := v, left := n, flags := 0, unit := .plain, arrived := true, pc := pc, slot := 1 }

/-- One issue slot of triad t: every ACTIVE lane's registers go by `f` and nothing else of them changes, the lanes not
in use, the other triads and all of memory stay; each lane's column gets the entries `g` (R64, R192, R216). -/
structure Issued (s s' : State) (t : TriadId) (f : LaneCore → LaneCore) (g : LaneId → List GateEntry) : Prop where
  lanes : ∀ l, (s.tri t).act l = true → ((s'.tri t).lane l).core = f ((s.tri t).lane l).core
  gates : ∀ l, (s.tri t).act l = true → ((s'.tri t).lane l).gate = ((s.tri t).lane l).gate ++ g l
  idle : ∀ l, (s.tri t).act l = false → (s'.tri t).lane l = (s.tri t).lane l
  others : ∀ u, u ≠ t → s'.tri u = s.tri u
  memory : s'.mem = s.mem
  slots : (s'.tri t).slots = (s.tri t).slots + 1

/-- The instruction `i e` (E bit e) does its work: with E = 1, alone in its bundle, every lane in use moves past it and
starts the results `rs`; with E = 0 it is held as the first of its bundle (R59, R64, R67). -/
def Starts (s : State) (t : TriadId) (i : Bool → Instr) (op : Op) (rs : Word → LaneCore → List Result) : Prop :=
  Completes (i true) s (fun s' => Issued s s' t (fun c => c.onward (c.pc + 4) (rs (s.leadCore t).pc c)) fun _ => [])
  ∧ exec (i false) s = .next (s.setTriad t fun x => { x with first := some op })

/-- One result at distance 1 in a g register (R66, R67). -/
def gives (rd : Reg) (f : LaneCore → Word) (pc : Word) (c : LaneCore) : List Result :=
  [result pc (.g rd) ((f c).setWidth 128) 1]

/-- One result in an accumulator pair (R66, R71). -/
def givesPair (pd : BitVec 2) (f : LaneCore → BitVec 128) (n : Nat) (pc : Word) (c : LaneCore) : List Result :=
  [result pc (.p pd) (f c) n]

end Sys2Proof.Machine
end

