-- ==== Sys2Proof/Certificates/Slice0/Obligations.lean ====
section
/-! DEFINITION. The statements for the provers. -/

open Sys2Proof Sys2Proof.Machine

/-! ### Integer instructions -/

/-- R118, R125: the integer instructions of types A and B, ADDV and SUBV without overflow among them. -/
def Clause.IntegerResults : Prop :=
  ∀ (s : State) (t : TriadId), Ready s t → ∀ (rd a b : Reg) (i : BitVec 16) (sh : BitVec 6),
    Starts s t (fun e => .add t e rd a b) (.alu .add rd a b) (gives rd fun c => c.rg a + c.rg b)
    ∧ Starts s t (fun e => .sub t e rd a b) (.alu .sub rd a b) (gives rd fun c => c.rg a - c.rg b)
    ∧ Starts s t (fun e => .and t e rd a b) (.alu .and rd a b) (gives rd fun c => c.rg a &&& c.rg b)
    ∧ Starts s t (fun e => .or t e rd a b) (.alu .or rd a b) (gives rd fun c => c.rg a ||| c.rg b)
    ∧ Starts s t (fun e => .xor t e rd a b) (.alu .xor rd a b) (gives rd fun c => c.rg a ^^^ c.rg b)
    ∧ Starts s t (fun e => .andn t e rd a b) (.alu .andn rd a b) (gives rd fun c => c.rg a &&& ~~~ c.rg b)
    ∧ Starts s t (fun e => .sll t e rd a b) (.alu .sll rd a b) (gives rd fun c => c.rg a <<< ((c.rg b).toNat % 64))
    ∧ Starts s t (fun e => .srl t e rd a b) (.alu .srl rd a b) (gives rd fun c => c.rg a >>> ((c.rg b).toNat % 64))
    ∧ Starts s t (fun e => .sra t e rd a b) (.alu .sra rd a b)
        (gives rd fun c => (c.rg a).sshiftRight ((c.rg b).toNat % 64))
    ∧ Starts s t (fun e => .slt t e rd a b) (.alu .slt rd a b)
        (gives rd fun c => if (c.rg a).toInt < (c.rg b).toInt then 1 else 0)
    ∧ Starts s t (fun e => .sltu t e rd a b) (.alu .sltu rd a b)
        (gives rd fun c => if (c.rg a).toNat < (c.rg b).toNat then 1 else 0)
    ∧ Starts s t (fun e => .min t e rd a b) (.alu .min rd a b)
        (gives rd fun c => if (c.rg a).toInt < (c.rg b).toInt then c.rg a else c.rg b)
    ∧ Starts s t (fun e => .max t e rd a b) (.alu .max rd a b)
        (gives rd fun c => if (c.rg a).toInt < (c.rg b).toInt then c.rg b else c.rg a)
    ∧ Starts s t (fun e => .minu t e rd a b) (.alu .minu rd a b)
        (gives rd fun c => if (c.rg a).toNat < (c.rg b).toNat then c.rg a else c.rg b)
    ∧ Starts s t (fun e => .maxu t e rd a b) (.alu .maxu rd a b)
        (gives rd fun c => if (c.rg a).toNat < (c.rg b).toNat then c.rg b else c.rg a)
    ∧ Starts s t (fun e => .sxw t e rd a) (.alu .sxw rd a 0) (gives rd fun c => ((c.rg a).setWidth 32).signExtend 64)
    ∧ Starts s t (fun e => .zxw t e rd a) (.alu .zxw rd a 0) (gives rd fun c => BitVec.ofNat 64 ((c.rg a).toNat % 2 ^ 32))
    ∧ Starts s t (fun e => .addi t e rd a i) (.imm .addi rd a i) (gives rd fun c => c.rg a + i.signExtend 64)
    ∧ Starts s t (fun e => .andi t e rd a i) (.imm .andi rd a i) (gives rd fun c => c.rg a &&& i.setWidth 64)
    ∧ Starts s t (fun e => .ori t e rd a i) (.imm .ori rd a i) (gives rd fun c => c.rg a ||| i.setWidth 64)
    ∧ Starts s t (fun e => .xori t e rd a i) (.imm .xori rd a i) (gives rd fun c => c.rg a ^^^ i.setWidth 64)
    ∧ Starts s t (fun e => .slti t e rd a i) (.imm .slti rd a i)
        (gives rd fun c => if (c.rg a).toInt < i.toInt then 1 else 0)
    ∧ Starts s t (fun e => .sltiu t e rd a i) (.imm .sltiu rd a i)
        (gives rd fun c => if (c.rg a).toNat < (i.signExtend 64).toNat then 1 else 0)
    ∧ Starts s t (fun e => .slli t e rd a sh) (.imm .slli rd a (sh.setWidth 16)) (gives rd fun c => c.rg a <<< sh.toNat)
    ∧ Starts s t (fun e => .srli t e rd a sh) (.imm .srli rd a (sh.setWidth 16)) (gives rd fun c => c.rg a >>> sh.toNat)
    ∧ Starts s t (fun e => .srai t e rd a sh) (.imm .srai rd a (sh.setWidth 16))
        (gives rd fun c => (c.rg a).sshiftRight sh.toNat)
    ∧ Starts s t (fun e => .lui t e rd i) (.imm .lui rd 0 i) (gives rd fun _ => i.signExtend 64 <<< 16)

/-- R74: ADDV and SUBV whose result fits 64 bits, signed, on the leading lane. -/
def Clause.CheckedSums : Prop :=
  ∀ (s : State) (t : TriadId), Ready s t → ∀ (rd a b : Reg),
    let x := ((s.leadCore t).rg a).toInt
    let y := ((s.leadCore t).rg b).toInt
    ((-2 ^ 63 ≤ x + y ∧ x + y < 2 ^ 63) →
      Starts s t (fun e => .addv t e rd a b) (.alu .addv rd a b) (gives rd fun c => c.rg a + c.rg b))
    ∧ ((-2 ^ 63 ≤ x - y ∧ x - y < 2 ^ 63) →
      Starts s t (fun e => .subv t e rd a b) (.alu .subv rd a b) (gives rd fun c => c.rg a - c.rg b))

/-- R71, R119: products, accumulations and the moves of accumulator pairs. -/
def Clause.PairResults : Prop :=
  ∀ (s : State) (t : TriadId), Ready s t → ∀ (rd a b : Reg) (pd : BitVec 2),
    Starts s t (fun e => .mul t e pd a b) (.mul .mul pd a b)
      (givesPair pd (fun c => BitVec.ofInt 128 ((c.rg a).toInt * (c.rg b).toInt)) 4)
    ∧ Starts s t (fun e => .mulu t e pd a b) (.mul .mulu pd a b)
      (givesPair pd (fun c => BitVec.ofNat 128 ((c.rg a).toNat * (c.rg b).toNat)) 4)
    ∧ Starts s t (fun e => .mac t e pd a b) (.mul .mac pd a b)
      (givesPair pd (fun c => c.rp pd + BitVec.ofInt 128 ((c.rg a).toInt * (c.rg b).toInt)) 4)
    ∧ Starts s t (fun e => .macu t e pd a b) (.mul .macu pd a b)
      (givesPair pd (fun c => c.rp pd + BitVec.ofNat 128 ((c.rg a).toNat * (c.rg b).toNat)) 4)
    ∧ Starts s t (fun e => .mtp t e pd a b) (.mtp pd a b) (givesPair pd (fun c => c.rg b ++ c.rg a) 1)
    ∧ Starts s t (fun e => .mfpl t e rd pd) (.mfp false rd pd) (gives rd fun c => BitVec.ofNat 64 (c.rp pd).toNat)
    ∧ Starts s t (fun e => .mfph t e rd pd) (.mfp true rd pd) (gives rd fun c => BitVec.ofNat 64 ((c.rp pd).toNat / 2 ^ 64))
    ∧ Starts s t (fun e => .mfq t e rd false) (.mfq rd false) (gives rd fun c => c.q0)
    ∧ Starts s t (fun e => .mfq t e rd true) (.mfq rd true) (gives rd fun c => c.q1)

/-- R72, R73, R120: a division cancels the one in flight and starts quotient and remainder, truncated toward zero; a
divisor of zero on the leading lane raises the arithmetic exception and starts nothing. -/
def Clause.Divisions : Prop :=
  ∀ (s : State) (t : TriadId), Ready s t → ∀ (a b : Reg),
    let onLead := (s.leadCore t).rg b
    let put (q r : LaneCore → Word) (c : LaneCore) : LaneCore :=
      { c.onward (c.pc + 4) [] with flight := c.flight.filter (fun x => x.unit != .divide) ++
          [{ result (s.leadCore t).pc .q (r c ++ q c) 24 with unit := .divide }] }
    (onLead ≠ 0 →
      Completes (.div t true a b) s (fun s' => Issued s s' t (put
        (fun c => BitVec.ofInt 64 ((c.rg a).toInt.tdiv (c.rg b).toInt))
        (fun c => BitVec.ofInt 64 ((c.rg a).toInt.tmod (c.rg b).toInt))) fun _ => [])
      ∧ Completes (.divu t true a b) s (fun s' => Issued s s' t (put
        (fun c => BitVec.ofNat 64 ((c.rg a).toNat / (c.rg b).toNat))
        (fun c => BitVec.ofNat 64 ((c.rg a).toNat % (c.rg b).toNat))) fun _ => []))
    ∧ (onLead = 0 → ∀ i ∈ [Instr.div t true a b, Instr.divu t true a b],
      exec i s = .next (s.setTriad t fun x => { x with
        entry := some (x.exc 8 (s.leadCore t).pc none), delay := none, first := none }))

/-- R74: a sum or difference outside 64 bits on the leading lane raises the arithmetic exception with the PC of the
bundle and writes no register. -/
def Clause.OverflowTraps : Prop :=
  ∀ (s : State) (t : TriadId), Ready s t → ∀ (rd a b : Reg),
    let x := ((s.leadCore t).rg a).toInt
    let y := ((s.leadCore t).rg b).toInt
    let trapped := s.setTriad t fun z => { z with
      entry := some (z.exc 8 (s.leadCore t).pc none), delay := none, first := none }
    ((x + y < -2 ^ 63 ∨ 2 ^ 63 ≤ x + y) → exec (.addv t true rd a b) s = .next trapped)
    ∧ ((x - y < -2 ^ 63 ∨ 2 ^ 63 ≤ x - y) → exec (.subv t true rd a b) s = .next trapped)

/-! ### Floating point -/

/-- R76 to R78, R121: the rounded operations read f registers in the format named, round once by PSW.RM and start value
and flags at distance 4. -/
def Clause.FloatRounded : Prop :=
  ∀ (s : State) (t : TriadId), Ready s t → ∀ (single : Bool) (rd a b e : Reg),
    let v (c : LaneCore) (r : Reg) : FVal := (fmtOf single).unpack (if single then (c.rf r).toNat % 2 ^ 32 else (c.rf r).toNat)
    let put (d : Dest) (f : LaneCore → FRes) (pc : Word) (c : LaneCore) : List Result :=
      [{ result pc d (BitVec.ofNat 128 (f c).bits) 4 with flags := BitVec.ofNat 5 (f c).flags }]
    let rm (c : LaneCore) : Nat := pswRM c.psw
    Starts s t (fun x => .fadd t x single rd a b) (.fp .fadd single rd a b 0)
      (put (.f rd) fun c => fAdd (fmtOf single) (rm c) (v c a) (v c b))
    ∧ Starts s t (fun x => .fsub t x single rd a b) (.fp .fsub single rd a b 0)
      (put (.f rd) fun c => fAdd (fmtOf single) (rm c) (v c a) (fNegV (v c b)))
    ∧ Starts s t (fun x => .fmul t x single rd a b) (.fp .fmul single rd a b 0)
      (put (.f rd) fun c => fMul (fmtOf single) (rm c) (v c a) (v c b))
    ∧ Starts s t (fun x => .fma t x single rd a b e) (.fp .fma single rd a b e)
      (put (.f rd) fun c => fMa (fmtOf single) (rm c) (v c a) (v c b) (v c e))
    ∧ Starts s t (fun x => .fms t x single rd a b e) (.fp .fms single rd a b e)
      (put (.f rd) fun c => fMa (fmtOf single) (rm c) (v c a) (v c b) (fNegV (v c e)))
    ∧ Starts s t (fun x => .fcvtl t x single rd a) (.fp .fcvtl single rd a 0 0)
      (put (.g rd) fun c => fToInt (rm c) (v c a))
    ∧ Starts s t (fun x => .fcvtfl t x single rd a) (.fp .fcvtfl single rd a 0 0)
      (put (.f rd) fun c => fFromInt (fmtOf single) (rm c) (c.rg a).toNat)
    ∧ Starts s t (fun x => .fcvtf t x single rd a) (.fp .fcvtf single rd a 0 0)
      (put (.f rd) fun c => fConv (fmtOf single) (rm c)
        ((fmtOf (!single)).unpack (if single then (c.rf a).toNat else (c.rf a).toNat % 2 ^ 32)))

/-- R75, R121: FDIV and FSQRT cancel the operation in flight in their unit and start at distances 16 and 22. -/
def Clause.FloatDivides : Prop :=
  ∀ (s : State) (t : TriadId), Ready s t → ∀ (single : Bool) (rd a b : Reg),
    let v (c : LaneCore) (r : Reg) : FVal := (fmtOf single).unpack (if single then (c.rf r).toNat % 2 ^ 32 else (c.rf r).toNat)
    let put (n : Nat) (f : LaneCore → FRes) (c : LaneCore) : LaneCore :=
      { c.onward (c.pc + 4) [] with flight := c.flight.filter (fun x => x.unit != .fpDivide) ++
          [{ result (s.leadCore t).pc (.f rd) (BitVec.ofNat 128 (f c).bits) n with
              unit := .fpDivide, flags := BitVec.ofNat 5 (f c).flags }] }
    Completes (.fdiv t true single rd a b) s (fun s' => Issued s s' t
      (put 16 fun c => fDiv (fmtOf single) (pswRM c.psw) (v c a) (v c b)) fun _ => [])
    ∧ Completes (.fsqrt t true single rd a) s (fun s' => Issued s s' t
      (put 22 fun c => fSqrt (fmtOf single) (pswRM c.psw) (v c a)) fun _ => [])

/-- R76, R121 to R124: moves, signs, comparisons and selections, exact and at distance 4. -/
def Obligations.FloatExact : Prop :=
  ∀ (s : State) (t : TriadId), Ready s t → ∀ (single : Bool) (rd a b : Reg),
    let low (w : Word) : Nat := if single then w.toNat % 2 ^ 32 else w.toNat
    let sign : Nat := if single then 2 ^ 31 else 2 ^ 63
    let v (c : LaneCore) (r : Reg) : FVal := (fmtOf single).unpack (low (c.rf r))
    let nan (c : LaneCore) : Bool := isNan (v c a) || isNan (v c b)
    let put (d : Dest) (f : LaneCore → FRes) (pc : Word) (c : LaneCore) : List Result :=
      [{ result pc d (BitVec.ofNat 128 (f c).bits) 4 with flags := BitVec.ofNat 5 (f c).flags }]
    Starts s t (fun x => .fneg t x single rd a) (.fp .fneg single rd a 0 0)
      (put (.f rd) fun c => ⟨(low (c.rf a) + sign) % (2 * sign), 0⟩)
    ∧ Starts s t (fun x => .fabs t x single rd a) (.fp .fabs single rd a 0 0)
      (put (.f rd) fun c => ⟨low (c.rf a) % sign, 0⟩)
    ∧ Starts s t (fun x => .fmv t x single rd a) (.fp .fmv single rd a 0 0) (put (.f rd) fun c => ⟨low (c.rf a), 0⟩)
    ∧ Starts s t (fun x => .fmvgf t x single rd a) (.fp .fmvgf single rd a 0 0) (put (.g rd) fun c => ⟨low (c.rf a), 0⟩)
    ∧ Starts s t (fun x => .fmvfg t x single rd a) (.fp .fmvfg single rd a 0 0) (put (.f rd) fun c => ⟨low (c.rg a), 0⟩)
    ∧ Starts s t (fun x => .fmin t x single rd a b) (.fp .fmin single rd a b 0)
      (put (.f rd) fun c => fMinMax (fmtOf single) false (low (c.rf a)) (low (c.rf b)))
    ∧ Starts s t (fun x => .fmax t x single rd a b) (.fp .fmax single rd a b 0)
      (put (.f rd) fun c => fMinMax (fmtOf single) true (low (c.rf a)) (low (c.rf b)))
    ∧ Starts s t (fun x => .fceq t x single rd a b) (.fp .fceq single rd a b 0)
      (put (.g rd) fun c => ⟨(fEq (v c a) (v c b)).toNat, nanFlags [v c a, v c b]⟩)
    ∧ Starts s t (fun x => .fclt t x single rd a b) (.fp .fclt single rd a b 0)
      (put (.g rd) fun c => if nan c then ⟨0, 16⟩ else ⟨(fLt (v c a) (v c b)).toNat, 0⟩)
    ∧ Starts s t (fun x => .fcle t x single rd a b) (.fp .fcle single rd a b 0)
      (put (.g rd) fun c => if nan c then ⟨0, 16⟩ else ⟨(fLt (v c a) (v c b) || fEq (v c a) (v c b)).toNat, 0⟩)

/-! ### Loads and stores -/

/-- An access of n octets at va that plain SRAM serves: untranslated (R288), without windows (R304), aligned (R129), in a
bank that is On (R361), outside the secure region (R366), with no error in any word (R345) and no write kept by a bank (R348). -/
structure PlainSram (s : State) (t : TriadId) (va : Word) (n : Nat) : Prop where
  physical : bitOf (s.rd (Adr.tapuCtx t.val)) 63 = false
  windows : windowsActive s t = false
  aligned : va.toNat % n = 0
  inside : va.toNat < sramSize
  open_ : sramHole s va.toNat = false
  clean : s.sram.errors = []
  kept : ∀ b : Fin 12, s.sram.collided[b] = none

/-- No write of triad t to the bank of va is on its way, behind which a read would wait (R28). -/
abbrev NothingAhead (s : State) (t : TriadId) (va : Word) : Prop :=
  ∀ g ∈ (s.tri t).flying, slaveOf g.pa.toNat ≠ slaveOf va.toNat

/-- R65, R66, R126, R127, R222: a load from plain SRAM starts its value, extended by its function, at distance 3; octets
that the lane's column holds come from there. With POST the base moves by the offset at distance 1. -/
def Clause.LoadsFromSram : Prop :=
  ∀ (s : State) (t : TriadId), Ready s t → ∀ (rt rb : Reg) (post : Bool) (off : BitVec 12),
    let x := s.tri t
    let va := if post then (s.leadCore t).rg rb else (s.leadCore t).rg rb + off.signExtend 64
    let does (i : Instr) (n : Nat) (d : Dest) (ext : Nat → Word) : Prop :=
      PlainSram s t va n → NothingAhead s t va → aliasOverlap (x.columnOf x.lead) va.toNat n = false →
      Completes i s (fun s' =>
        (∀ l, x.act l = true → ((s'.tri t).lane l).core = (x.lane l).core.onward ((x.lane l).core.pc + 4)
          ({ result (s.leadCore t).pc d
              ((ext (forwardData (x.columnOf l) va.toNat n (BitVec.ofNat 64 (rdMem s va.toNat n))).toNat).setWidth 128) 3 with
              unit := .load, arrived := fullyForwarded (x.columnOf x.lead) va.toNat n } ::
            (if post then [result (s.leadCore t).pc (.g rb) (((x.lane l).core.rg rb + off.signExtend 64).setWidth 128) 1]
              else [])))
        ∧ (∀ l, x.act l = true → ((s'.tri t).lane l).gate = (x.lane l).gate)
        ∧ (∀ l, x.act l = false → (s'.tri t).lane l = x.lane l)
        ∧ (∀ u, u ≠ t → s'.tri u = s.tri u) ∧ s'.mem = s.mem ∧ (s'.tri t).slots = x.slots + 1)
    ((post = true → rb ≠ 0 ∧ rb ≠ rt) →
      does (.ldb t true rt rb post off) 1 (.g rt) (fun v => BitVec.signExtend 64 (BitVec.ofNat 8 v))
      ∧ does (.ldbu t true rt rb post off) 1 (.g rt) (fun v => BitVec.ofNat 64 (v % 2 ^ 8))
      ∧ does (.ldh t true rt rb post off) 2 (.g rt) (fun v => BitVec.signExtend 64 (BitVec.ofNat 16 v))
      ∧ does (.ldhu t true rt rb post off) 2 (.g rt) (fun v => BitVec.ofNat 64 (v % 2 ^ 16))
      ∧ does (.ldw t true rt rb post off) 4 (.g rt) (fun v => BitVec.signExtend 64 (BitVec.ofNat 32 v))
      ∧ does (.ldwu t true rt rb post off) 4 (.g rt) (fun v => BitVec.ofNat 64 (v % 2 ^ 32))
      ∧ does (.ld t true rt rb post off) 8 (.g rt) (fun v => BitVec.ofNat 64 v))
    ∧ ((post = true → rb ≠ 0) →
      does (.flw t true rt rb post off) 4 (.f rt) (fun v => BitVec.ofNat 64 (v % 2 ^ 32))
      ∧ does (.fld t true rt rb post off) 8 (.f rt) (fun v => BitVec.ofNat 64 v))

/-- R126, R127, R215, R216: a store to plain SRAM enters every lane's column with the leading lane's address and the
lane's own data, and changes no octet of memory; with POST the base moves by the offset. -/
def Clause.StoresEnterTheGate : Prop :=
  ∀ (s : State) (t : TriadId), Ready s t → ∀ (rt rb : Reg) (post : Bool) (off : BitVec 12), (post = true → rb ≠ 0) →
    (∀ l, (s.tri t).act l = true → (s.tri t).column l < 64) →
    let x := s.tri t
    let va := if post then (s.leadCore t).rg rb else (s.leadCore t).rg rb + off.signExtend 64
    let does (i : Instr) (n : Nat) (be : Byte) (src : LaneCore → Word) : Prop :=
      PlainSram s t va n →
      Completes i s (fun s' => Issued s s' t
        (fun c => c.onward (c.pc + 4)
          (if post then [result (s.leadCore t).pc (.g rb) ((c.rg rb + off.signExtend 64).setWidth 128) 1] else []))
        fun l => [{ id := x.stores, pa := BitVec.ofNat 40 va.toNat,
                    data := BitVec.ofNat 64 ((src (x.lane l).core).toNat % 2 ^ (8 * n)), be := be, dev := false,
                    aliasK := 0, clause := x.clause }])
    does (.stb t true rt rb post off) 1 0x01 (fun c => c.rg rt)
    ∧ does (.sth t true rt rb post off) 2 0x03 (fun c => c.rg rt)
    ∧ does (.stw t true rt rb post off) 4 0x0F (fun c => c.rg rt)
    ∧ does (.st t true rt rb post off) 8 0xFF (fun c => c.rg rt)
    ∧ does (.fsw t true rt rb post off) 4 0x0F (fun c => c.rf rt)
    ∧ does (.fsd t true rt rb post off) 8 0xFF (fun c => c.rf rt)

/-- R45, R129, R142: a load or store at an address that is no multiple of its size raises the alignment exception
(vector 5) with the bundle's PC and leaves memory and every register alone. -/
def Obligations.Misalignment : Prop :=
  ∀ (s : State) (t : TriadId), Ready s t → ∀ (rt rb : Reg) (post : Bool) (off : BitVec 12),
    let va := if post then (s.leadCore t).rg rb else (s.leadCore t).rg rb + off.signExtend 64
    ∀ i n own, (i, n, own) ∈ [(Instr.ldh t true rt rb post off, 2, true), (.ldhu t true rt rb post off, 2, true),
      (.ldw t true rt rb post off, 4, true), (.ldwu t true rt rb post off, 4, true), (.ld t true rt rb post off, 8, true),
      (.sth t true rt rb post off, 2, false), (.stw t true rt rb post off, 4, false), (.st t true rt rb post off, 8, false),
      (.flw t true rt rb post off, 4, false), (.fsw t true rt rb post off, 4, false),
      (.fld t true rt rb post off, 8, false), (.fsd t true rt rb post off, 8, false)] →
    (post = true → rb ≠ 0 ∧ (own = true → rb ≠ rt)) → va.toNat % n ≠ 0 →
    exec i s = .next (s.setTriad t fun x => { x with
      entry := some (x.exc 5 (s.leadCore t).pc none), delay := none, first := none })

/-! ### Control flow -/

/-- A first word with E = 0 is held until the second comes (R59, R110). -/
abbrev Clause.Held (s : State) (t : TriadId) (i : Bool → Instr) (op : Op) : Prop :=
  exec (i false) s = .next (s.setTriad t fun x => { x with first := some op })

/-- No bundle has issued in the clause, or the bundle behind the branch holds no load (R207). -/
abbrev Clause.NoLoadBehind (s : State) (t : TriadId) : Prop :=
  (s.tri t).slots = 0 ∨ ∀ m, memOf (peekOps s t (s.leadCore t) ((s.leadCore t).pc + 4)) = some m → memIsLoad m.1 = false

/-- R83, R130, R131: a conditional branch writes no register but PC and opens its delay slot with the target, or without
one where it is not taken; a form with annul that is not taken annuls the slot (R85). -/
def Clause.ConditionalBranches : Prop :=
  ∀ (s : State) (t : TriadId), Ready s t → ∀ (annul : Bool) (a b : Reg) (off : BitVec 12),
    Clause.NoLoadBehind s t →
    let c := s.leadCore t
    let does (i : Bool → Instr) (k : Cond) (taken : Bool) : Prop :=
      Clause.Held s t i (.bcc k annul a b off)
      ∧ Completes (i true) s (fun s' => Issued s s' t (fun c => c.onward (c.pc + 4) []) (fun _ => [])
        ∧ (s'.tri t).delay = some
            { branchPc := c.pc, target := if taken then some (c.pc + off.signExtend 64 * 4) else none,
              annul := annul && !taken })
    does (fun e => .beq ⟨t, e⟩ annul a b off) .beq (decide (c.rg a = c.rg b))
    ∧ does (fun e => .bne ⟨t, e⟩ annul a b off) .bne (decide (c.rg a ≠ c.rg b))
    ∧ does (fun e => .blt ⟨t, e⟩ annul a b off) .blt (decide ((c.rg a).toInt < (c.rg b).toInt))
    ∧ does (fun e => .bge ⟨t, e⟩ annul a b off) .bge (decide ((c.rg b).toInt ≤ (c.rg a).toInt))
    ∧ does (fun e => .bltu ⟨t, e⟩ annul a b off) .bltu (decide ((c.rg a).toNat < (c.rg b).toNat))
    ∧ does (fun e => .bgeu ⟨t, e⟩ annul a b off) .bgeu (decide ((c.rg b).toNat ≤ (c.rg a).toNat))

/-- R83, R89, R90, R130: the unconditional transfers; CALL and CALLR start the address behind their delay slot in g31. -/
def Clause.Transfers : Prop :=
  ∀ (s : State) (t : TriadId), Ready s t → ∀ (off : BitVec 25) (r : Reg),
    Clause.NoLoadBehind s t →
    let c := s.leadCore t
    let fall := c.pc + 4 + BitVec.ofNat 64 (peekSize s t c (c.pc + 4))
    let does (i : Bool → Instr) (op : Op) (rs : List Result) (target : Word) : Prop :=
      Clause.Held s t i op
      ∧ Completes (i true) s (fun s' => Issued s s' t (fun c => c.onward (c.pc + 4) rs) (fun _ => [])
        ∧ (s'.tri t).delay = some { branchPc := c.pc, target := some target, annul := false })
    does (fun e => .br ⟨t, e⟩ off) (.br off) [] (c.pc + off.signExtend 64 * 4)
    ∧ does (fun e => .call ⟨t, e⟩ off) (.call off) [result c.pc (.g 31) (fall.setWidth 128) 1] (c.pc + off.signExtend 64 * 4)
    ∧ does (fun e => .jr ⟨t, e⟩ r) (.jr r) [] (c.rg r &&& ~~~ 3)
    ∧ does (fun e => .callr ⟨t, e⟩ r) (.callr r) [result c.pc (.g 31) (fall.setWidth 128) 1] (c.rg r &&& ~~~ 3)
    ∧ does (fun e => .ret ⟨t, e⟩) .ret [] (c.rg 31 &&& ~~~ 3)

/-- R59, R61, R110, R115: a control or system instruction with E = 0 is held as the first of its bundle, and the bundle
that a second word then completes is illegal (vector 1, R141), with the bundle's PC; so is one with a branch first. -/
def Clause.UnpairableFirsts : Prop :=
  ∀ (s : State) (t : TriadId), Ready s t → ∀ (src : RepSrc) (code : BitVec 16) (sr : BitVec 12) (r rd a b : Reg),
    (∀ p ∈ [((fun e => .repi ⟨t, e⟩ src : Bool → Instr), Op.repi src), (fun e => .repn ⟨t, e⟩ src, .repn src),
        (fun e => .close ⟨t, e⟩, .close), (fun e => .sys ⟨t, e⟩ code, .sys code), (fun e => .mcall ⟨t, e⟩ code, .mcall code),
        (fun e => .rete ⟨t, e⟩, .rete), (fun e => .mts ⟨t, e⟩ sr r, .mts sr r), (fun e => .iinv ⟨t, e⟩ r, .iinv r),
        (fun e => .iinva ⟨t, e⟩, .iinva), (fun e => .dinv ⟨t, e⟩ r, .dinv r), (fun e => .dinva ⟨t, e⟩, .dinva)],
      Clause.Held s t p.1 p.2)
    ∧ ∀ o : Op, pairLegal o (.alu .add rd a b) = false →
      exec (.add t true rd a b) (s.setTriad t fun x => { x with first := some o }) =
        .next (s.setTriad t fun x => { x with
          entry := some (x.exc 1 (s.leadCore t).pc none), delay := none, first := none })

/-- R83, R85: the instruction in a delay slot acts and goes on at the branch's target, or behind itself where the branch
was not taken; in an annulled slot it acts on nothing and issue goes on behind it. -/
def Clause.DelaySlots : Prop :=
  ∀ (s : State) (t : TriadId) (d : Delay) (rd a b : Reg),
    (s.tri t).delay = some d → Ready (s.setTriad t fun x => { x with delay := none }) t →
    Completes (.add t true rd a b) s (fun s' =>
      (s'.tri t).delay = none ∧ s'.mem = s.mem ∧ (s'.tri t).slots = (s.tri t).slots + 1
      ∧ ∀ l, (s.tri t).act l = true →
        let c := ((s.tri t).lane l).core
        ((s'.tri t).lane l).core =
          if d.annul then c.onward (d.target.getD (c.pc + 4)) []
          else c.onward (d.target.getD (c.pc + 4))
            [result (s.leadCore t).pc (.g rd) ((c.rg a + c.rg b).setWidth 128) 1])

/-- R100 to R104, R134: a prefix latches its count in RPC and sets RP; a count of 0 passes over the instruction behind. -/
def Clause.RepeatPrefixes : Prop :=
  ∀ (s : State) (t : TriadId), Ready s t → ∀ (src : RepSrc) (w : BitVec 32) (o : Op),
    peekWord s t (s.leadCore t) ((s.leadCore t).pc + 4) = some w → wordEnds w = true → decodeOp w = some o →
    repeatForbidden o = false → mtsOwnRpc (s.leadCore t) o = false →
    let count (c : LaneCore) : Nat := match src with
      | .imm n => n.toNat
      | .reg r => (c.rg r).toNat % 2 ^ 32
    let latched (repn : Bool) (c : LaneCore) : LaneCore := c.setCur fun b =>
      { b with
        pc := if count c = 0 then c.pc + 8 else c.pc + 4
        rpc := BitVec.ofNat 32 (count c), psw := putBit b.psw 10 (decide (count c ≠ 0)), repn := repn && decide (count c ≠ 0) }
    (src ≠ .imm 0 → Completes (.repi ⟨t, true⟩ src) s (fun s' => Issued s s' t (latched false) fun _ => []))
    ∧ (count (s.leadCore t) ≤ 64 → Completes (.repn ⟨t, true⟩ src) s (fun s' => Issued s s' t (latched true) fun _ => []))

/-- R102, R103: an iteration of a repeat in progress issues the instruction at PC once more with RPC one lower; the last
one leaves the instruction and clears RP. -/
def Clause.RepeatIterations : Prop :=
  ∀ (s : State) (t : TriadId) (rd a b : Reg),
    let c := s.leadCore t
    (s.tri t).runs = true → modeOf s ≠ 5 → (s.tri t).slotOpen = false → (s.tri t).first = none → (s.tri t).delay = none →
    (s.tri t).entry = none → (s.tri t).overrun = false → (s.tri t).forced = false → (s.tri t).closeDue = 0 →
    (s.tri t).repair = none → (s.tri t).eventBound = false → (s.tri t).rollbackDue = false → (s.tri t).haltReq = false → s.sys.dormantDue = none →
    boundaryWait s t = false → heldByEvent s t = false → pswRP c.psw = true → c.bank.rpc ≠ 0 → peekOps s t c c.pc = [.alu .add rd a b] →
    Completes (.repeatIteration t) s (fun s' =>
      s'.mem = s.mem ∧ (s'.tri t).slots = (s.tri t).slots + 1
      ∧ ∀ l, (s.tri t).act l = true →
        let k := ((s.tri t).lane l).core
        let n := k.bank.rpc - 1
        ((s'.tri t).lane l).core =
          { k.setCur (fun q =>
              if n = 0 then { q with rpc := n, pc := k.pc + 4, psw := putBit q.psw 10 false, repn := false }
              else { q with rpc := n }) with
            flight := k.flight ++ [result c.pc (.g rd) ((k.rg a + k.rg b).setWidth 128) 1] })

/-- R134, R161, R204: CLOSE makes the clause close behind its slot; SYS and MCALL make an entry through vectors 10 and 11
due, with their code and the address behind them. -/
def Obligations.CloseAndServiceCalls : Prop :=
  ∀ (s : State) (t : TriadId), Ready s t → ∀ code : BitVec 16,
    let x := s.tri t
    let on (s' : State) : Prop := Issued s s' t (fun c => c.onward (c.pc + 4) []) fun _ => []
    Completes (.close ⟨t, true⟩) s (fun s' => on s' ∧ (s'.tri t).entry = none ∧ (s'.tri t).closeDue.getLsbD 1 = true)
    ∧ Completes (.sys ⟨t, true⟩ code) s (fun s' => on s' ∧ (s'.tri t).entry = some
        { vec := 10, mTable := decide (x.priv = 3), code := code, pc := (s.leadCore t).pc + 4, event := none, prio := 0,
          nmx := false, frec := none })
    ∧ Completes (.mcall ⟨t, true⟩ code) s (fun s' => on s' ∧ (s'.tri t).entry = some
        { vec := 11, mTable := true, code := code, pc := (s.leadCore t).pc + 4, event := none, prio := 0, nmx := false,
          frec := none })

/-! ### System registers, the end of a slot, caches -/

/-- R54, R149, R152, R153: the system register numbers that a level reads: PSW and RPC at every level, VBR and EPRIV and
the banks above U level, at S level not bank 3 nor a bank whose PSW.PRIV is M unless it is the current one (R151), VBR_M
and DFSP at M level. -/
def Clause.MayRead (c : LaneCore) (n : Nat) : Prop :=
  n = 0 ∨ n = 1 ∨ (c.priv ≠ 0 ∧ (n = 2 ∨ n = 5)) ∨ (c.priv = 3 ∧ (n = 3 ∨ n = 4))
  ∨ (c.priv ≠ 0 ∧ 0x100 ≤ n ∧ n < 0x200 ∧ 1 ≤ n % 64 ∧ n % 64 ≤ 0x23
    ∧ ∃ b : Fin 4, b.val = n / 64 % 4 ∧ (b = c.cur ∨ c.priv = 3 ∨ (b ≠ 3 ∧ pswPriv (c.banks[b]).psw ≠ 3)))

/-- R54, R55, R151 to R153: the numbers that a level writes with a value: those it reads, but RPC only above U level,
PSW at U level only where no field but FEN, RM and FFLAGS would change, and never the PC of the current bank. -/
def Clause.MayWrite (c : LaneCore) (n : Nat) (v : Word) : Prop :=
  Clause.MayRead c n ∧ (n = 1 → c.priv ≠ 0) ∧ (n = 0 → c.priv = 0 → pswOtherChange c.psw v = false)
  ∧ n ≠ 0x120 + 64 * c.cur.val

/-- R135, R148 to R153: an MFS that the level admits starts its register's value at distance 1, whatever the register; what
each number reads is the register that R135 and R149 name. -/
def Clause.SystemRegisterReads : Prop :=
  ∀ (s : State) (t : TriadId), Ready s t → ∀ rd : Reg,
    let does (sr : Nat) (f : LaneCore → Word) : Prop :=
      Starts s t (fun e => .mfs t e rd (BitVec.ofNat 12 sr)) (.mfs rd (BitVec.ofNat 12 sr)) (gives rd f)
    (∀ n, Clause.MayRead (s.leadCore t) n → does n fun c => mfsValue c n)
    ∧ (∀ c : LaneCore, mfsValue c 0 = c.psw ∧ mfsValue c 1 = c.bank.rpc.setWidth 64 ∧ mfsValue c 2 = c.vbr
      ∧ mfsValue c 3 = c.vbrM ∧ mfsValue c 4 = c.dfsp ∧ mfsValue c 5 = c.bank.epriv
      ∧ ∀ b : Fin 4,
        (∀ i, 1 ≤ i → i < 32 → mfsValue c (0x100 + 64 * b.val + i) = (c.banks[b]).rg (BitVec.ofNat 5 i))
        ∧ mfsValue c (0x120 + 64 * b.val) = (c.banks[b]).pc ∧ mfsValue c (0x121 + 64 * b.val) = (c.banks[b]).psw
        ∧ mfsValue c (0x122 + 64 * b.val) = (c.banks[b]).rpc.setWidth 64
        ∧ mfsValue c (0x123 + 64 * b.val) = (c.banks[b]).epriv)

/-- R54, R55, R136, R152: an MTS that the level admits takes its value at issue and writes no register before the end of
its slot; that end, where no other result lands with it, leaves the register written in every lane in use. -/
def Clause.SystemRegisterWrites : Prop :=
  ∀ (s : State) (t : TriadId), Ready s t → ∀ (sr : BitVec 12) (r : Reg),
    Clause.MayWrite (s.leadCore t) sr.toNat ((s.leadCore t).rg r) →
    Completes (.mts ⟨t, true⟩ sr r) s (fun s' => Issued s s' t (fun c => c.onward (c.pc + 4) []) (fun _ => [])
      ∧ (∀ l, (s.tri t).act l = true → ((s'.tri t).lane l).mts = some (sr, ((s.tri t).lane l).core.rg r))
      ∧ ((∀ l, (s.tri t).act l = true → ((s.tri t).lane l).core.flight = []) →
        Completes (.resultLands t) s' (fun u => ∀ l, (s.tri t).act l = true →
          let c := ((s.tri t).lane l).core
          ((u.tri t).lane l).core = mtsWrite (c.onward (c.pc + 4) []) sr.toNat (c.rg r))))

/-- R67, R68, R77, R78, R198: at the end of the slot a result at distance 1 lands in its register and its flags in PSW, one
further away comes one slot nearer, and an MTS of the slot writes its register; a flag that FEN enables makes the FP
exception due. Where a load's data are not there the slot stays open (R65), and with none open nothing ends. That an FP
exception meets no other entry here is a condition: the two together are the model's (log 29). -/
def Obligations.SlotEnds : Prop :=
  ∀ (s : State) (t : TriadId),
    (((s.tri t).slotOpen = false ∨ (s.tri t).frozen = true) → exec (.resultLands t) s = .next s)
    ∧ ((s.tri t).slotOpen = true → (s.tri t).frozen = false →
      ((s.tri t).entry = none ∨ ∀ r ∈ (s.leadCore t).flight, r.flags = 0) →
      Completes (.resultLands t) s (fun s' =>
        (s'.tri t).slotOpen = false ∧ s'.mem = s.mem ∧ s'.regs = s.regs ∧ (∀ u, u ≠ t → s'.tri u = s.tri u)
        ∧ ((∀ r ∈ (s.leadCore t).flight, r.flags = 0) → (s'.tri t).entry = (s.tri t).entry)
        ∧ (∀ d v f pc, (s.tri t).entry = none → (s.tri t).act (s.tri t).lead = true →
          ((s.tri t).lane (s.tri t).lead).mts = none → (s.leadCore t).flight = [{ result pc d v 1 with flags := f }] →
          (s'.tri t).entry = if f.toNat &&& pswFEN (s.leadCore t).psw = 0 then none
            else some ((s.tri t).exc 9 (s.leadCore t).pc none))
        ∧ (∀ l, (s.tri t).act l = false → (s'.tri t).lane l = (s.tri t).lane l)
        ∧ ∀ l, (s.tri t).act l = true →
          let y := (s.tri t).lane l
          let c := y.core
          let c' := ((s'.tri t).lane l).core
          (∀ d v f pc, y.mts = none → c.flight = [{ result pc d v 1 with flags := f }] →
            let k := { c.setCur (fun b => { b with psw := addFlags b.psw f.toNat }) with flight := [] }
            c' = match d with
              | .g n => k.setCur (fun b => b.wg n (v.setWidth 64))
              | .f n => { k with f := c.f.set n.toNat (v.setWidth 64) }
              | .p n => { k with p := c.p.set n.toNat v }
              | .q => { k with q0 := v.setWidth 64, q1 := (v >>> 64).setWidth 64 })
          ∧ (∀ d v f pc n, y.mts = none → c.flight = [{ result pc d v (n + 2) with flags := f }] →
            c' = { c with flight := [{ result pc d v (n + 1) with flags := f }] })
          ∧ (∀ sr v, y.mts = some (sr, v) → c.flight = [] → c' = mtsWrite c sr.toNat v)))

/-- R54 to R56, R151, R154: what an MTS leaves, register by register. -/
def Clause.MtsLeaves : Prop :=
  ∀ (c : LaneCore) (v : Word),
    mtsWrite c 1 v = c.setCur (fun b => { b with rpc := v.setWidth 32 })
    ∧ mtsWrite c 2 v = { c with vbr := v } ∧ mtsWrite c 3 v = { c with vbrM := v } ∧ mtsWrite c 4 v = { c with dfsp := v }
    ∧ mtsWrite c 5 v = c
    ∧ (pswPriv (mtsWrite c 0 v).psw = c.priv)
    ∧ (c.priv = 0 → pswIE (mtsWrite c 0 v).psw = pswIE c.psw ∧ pswIPL (mtsWrite c 0 v).psw = pswIPL c.psw)
    ∧ (c.priv ≠ 0 → pswIE (mtsWrite c 0 v).psw = pswIE v ∧ pswIPL (mtsWrite c 0 v).psw = pswIPL v)
    ∧ ∀ b : Fin 4, b ≠ c.cur →
      (∀ i, 1 ≤ i → i < 32 → mtsWrite c (0x100 + 64 * b.val + i) v = c.setBank b fun k => k.wg (BitVec.ofNat 5 i) v)
      ∧ mtsWrite c (0x120 + 64 * b.val) v = c.setBank b (fun k => { k with pc := v })
      ∧ mtsWrite c (0x122 + 64 * b.val) v = c.setBank b (fun k => { k with rpc := v.setWidth 32 })
      ∧ mtsWrite c (0x123 + 64 * b.val) v = c.setBank b fun k => k

/-- R137 to R139: cache maintenance by a triad with nothing of a closed clause in its gate: IINVA and DINVA, above U level,
empty the caches; IINV and DINV drop the line of an untranslated DDR address; none writes a register or memory. -/
def Obligations.CacheMaintenance : Prop :=
  ∀ (s : State) (t : TriadId), Ready s t → (s.tri t).toRelease = [] →
    ((s.tri t).lane (s.tri t).lead).gate.any (fun e => decide (e.clause ≠ (s.tri t).clause)) = false →
    ∀ r : Reg,
    let va := ((s.leadCore t).rg r).toNat
    let on (s' : State) : Prop := Issued s s' t (fun c => c.onward (c.pc + 4) []) fun _ => []
    ((s.leadCore t).priv ≠ 0 →
      Completes (.iinva ⟨t, true⟩) s (fun s' => on s' ∧ (s'.tri t).l1i = [] ∧ (s'.tri t).l1d = (s.tri t).l1d)
      ∧ Completes (.dinva ⟨t, true⟩) s (fun s' => on s' ∧ (s'.tri t).l1d = [] ∧ (s'.tri t).l1i = (s.tri t).l1i))
    ∧ (bitOf (s.rd (Adr.tapuCtx t.val)) 63 = false → va < 2 ^ 40 → regionOf s va = .ddr →
      Completes (.iinv ⟨t, true⟩ r) s (fun s' => on s' ∧ (s'.tri t).l1d = (s.tri t).l1d
        ∧ (s'.tri t).l1i = (s.tri t).l1i.filter fun p => decide (p.1 ≠ va / 64))
      ∧ Completes (.dinv ⟨t, true⟩ r) s (fun s' => on s' ∧ (s'.tri t).l1i = (s.tri t).l1i
        ∧ (s'.tri t).l1d = (s.tri t).l1d.filter fun a => decide (a ≠ va / 64 * 64)))

/-- R54, R134, R137, R152: at U level RETE, IINVA, DINVA and a read of VBR, and below M level a read of VBR_M, raise the
privilege exception (vector 2) and write no register. -/
def Obligations.PrivilegeTraps : Prop :=
  ∀ (s : State) (t : TriadId), Ready s t → ∀ rd : Reg,
    let trapped := s.setTriad t fun z => { z with
      entry := some (z.exc 2 (s.leadCore t).pc none), delay := none, first := none }
    ((s.leadCore t).priv = 0 → (s.leadCore t).cur ≠ 0 →
      ∀ i ∈ [Instr.rete ⟨t, true⟩, .iinva ⟨t, true⟩, .dinva ⟨t, true⟩, .mfs t true rd 2], exec i s = .next trapped)
    ∧ ((s.leadCore t).priv ≠ 3 → exec (.mfs t true rd 3) s = .next trapped)

/-! ### Fetch, loads' data, walks -/

/-- R59, R106, R195, R278, R729: the correct-path fetch of a one-word bundle from plain SRAM holds it for issue; a
wrong-path fetch from DDR only fills the L1I; load data arrive in every lane in use; a lane that a double-bit error in its
delay register reached, not the leading one, is marked; none of them writes memory. -/
def Clause.FetchAndArrival : Prop :=
  ∀ (s : State) (t : TriadId),
    let marked (unc : BitVec 3) (l : LaneId) : Lane :=
      if unc.getLsbD l.val && (s.tri t).act l && l != (s.tri t).lead then { (s.tri t).lane l with bad := true }
      else (s.tri t).lane l
    (Ready s t → ∀ (w : BitVec 32) (op : Op), PlainSram s t (s.leadCore t).pc 4 → NothingAhead s t (s.leadCore t).pc →
      (s.tri t).l1i = [] →
      rdMem s (s.leadCore t).pc.toNat 4 = w.toNat → wordEnds w = true → decodeOp w = some op →
      ∀ corr unc : BitVec 3, Completes (.instructionFetch ⟨t, corr, unc⟩ none) s (fun s' =>
        (s'.tri t).fetched = some ⟨(s.leadCore t).pc, none, op⟩ ∧ s'.mem = s.mem
        ∧ ∀ l, (s'.tri t).lane l = marked unc l))
    ∧ (∀ va : Word, (s.tri t).runs = true → (s.leadCore t).cur = 3 → windowsActive s t = false →
      regionOf s va.toNat = .ddr → va.toNat < 2 ^ 40 → s.ddr.errors = [] →
      (s.tri t).l1i.lookup (va.toNat / 64) = none →
      ∀ corr unc : BitVec 3, Completes (.instructionFetch ⟨t, corr, unc⟩ (some va)) s (fun s' =>
        ((s'.tri t).l1i.lookup (va.toNat / 64)).isSome = true ∧ s'.mem = s.mem ∧ (s'.tri t).lanes = (s.tri t).lanes))
    ∧ ∀ corr unc : BitVec 3, Completes (.loadDataArrival ⟨t, corr, unc⟩) s (fun s' =>
        s'.mem = s.mem ∧ (corr = 0 → unc = 0 → s'.regs = s.regs) ∧ (∀ u, u ≠ t → s'.tri u = s.tri u)
        ∧ ∀ l, ((s'.tri t).lane l) = if (s.tri t).act l then
            { marked unc l with core := { ((s.tri t).lane l).core with
                flight := arriveFirst ((s.tri t).lane l).core.flight } }
          else (s.tri t).lane l)

/-- R290, R293, R298: a walk whose first PTE is a leaf of level 1 in plain SRAM gives the leaf's page with the low 30 bits
of the address, shows it and keeps the leaf in the translation cache. -/
def Clause.WalkAtLevelOne : Prop :=
  ∀ (s : State) (t : TriadId) (va pte : Word),
    let q := coreReq s t 3 .load
    let pa := q.root + 8 * (va.toNat / 2 ^ 30 % 512)
    q.ten = true → field va 63 39 = 0 → windowsActive s t = false → pa < sramSize → sramHole s pa = false →
    s.sram.errors = [] → rdMem s pa 8 = pte.toNat → bitOf pte 0 = true → pteReserved pte 1 = false →
    (attrR pte || attrW pte || attrX pte) = true → tlbHit s t q.asid (va.toNat / 4096) = none → s.barriers[t] = none →
    Completes (.pageTableWalk (.core t) va) s (fun s' =>
      s'.busData = BitVec.ofNat 64 (field pte 39 12 * 4096 / 2 ^ 30 * 2 ^ 30 + va.toNat % 2 ^ 30)
      ∧ s'.tlb = (⟨t, q.asid, BitVec.ofNat 27 (va.toNat / 4096), pte, 1⟩ :: s.tlb).take 2048
      ∧ s'.mem = s.mem ∧ s'.triads = s.triads)

/-! ### Exceptions, events, overruns and the return (R156 to R191) -/

/-- An entry p of triad t that meets no further exception: at the start of a clause that has issued nothing, nothing in
flight or in a column and no DDR write repeated (R381), its vector entry in plain SRAM valid (R157, R159, R162), its target bank free. -/
structure CleanEntry (s : State) (t : TriadId) (p : PendEntry) (h w : Word) : Prop where
  slot : (s.tri t).slotOpen = false
  ready : entryReady s t = true
  fresh : (s.tri t).entered = false ∧ (s.tri t).entryWait = none
  slots : (s.tri t).slots = 0
  frec : p.frec = none
  empty : ∀ l, ((s.tri t).lane l).core.flight = [] ∧ ((s.tri t).lane l).gate = [] ∧ ((s.tri t).lane l).held = []
  column : (s.tri t).toRelease = [] ∧ (s.tri t).flying = []
  ddr : ∀ c : Fin 4, s.ddr.repeats[c] = []
  bank : (s.leadCore t).cur ≠ 3
  masked : syncVec p.vec = true → pswNI (s.leadCore t).psw = false
  vector : ∀ k, k < 2 → PlainSram s t (vectorAddr (s.leadCore t) p.mTable p.vec + BitVec.ofNat 64 (8 * k)) 8
  first : rdMem s (vectorAddr (s.leadCore t) p.mTable p.vec).toNat 8 = h.toNat
  second : rdMem s (vectorAddr (s.leadCore t) p.mTable p.vec + 8).toNat 8 = w.toNat
  valid : vectorOk h w p (s.leadCore t).priv = true
  handler : handlerCheck s t false (vecTpriv w) h = none
  free : ((s.leadCore t).banks[vecTbank w % 4]'(Nat.mod_lt _ (by decide))).busy = false

/-- R161, R172, R173, R177, R181: an exception, an event or a budget overrun enters its handler: the interrupted bank
keeps its registers with the saved PC, the target bank gets the handler's address, PSW and EPRIV, nothing else of the
lane's registers and no octet of memory changes. -/
def Clause.EntriesReachTheHandler : Prop :=
  ∀ (s : State) (t : TriadId) (p : PendEntry) (h w : Word), CleanEntry s t p h w →
    let b : Fin 4 := ⟨vecTbank w % 4, Nat.mod_lt _ (by decide)⟩
    let e : Entry := ⟨h, vecTpriv w, b, vecBudget w, none⟩
    let saved := if p.vec = 9 then (s.leadCore t).pc else p.pc
    let entered (s' : State) : Prop :=
      s'.mem = s.mem ∧ (∀ u, u ≠ t → s'.tri u = s.tri u) ∧ (s'.tri t).entry = none
      ∧ (∀ l, (s.tri t).act l = false → (s'.tri t).lane l = (s.tri t).lane l)
      ∧ ∀ l, (s.tri t).act l = true →
        let c := ((s.tri t).lane l).core
        let c1 := c.setCur fun k => { k with pc := saved, psw := if p.vec = 7 then putBit k.psw 11 false else k.psw }
        let psw := entryPsw c1.psw p e
        ((s'.tri t).lane l).core = { c1.setBank b (fun k => { k with
            pc := h, rpc := 0, psw := psw, epriv := entryEpriv c1 p false, busy := true, repn := false }) with
          cur := b, budget := if pswNI psw then vecBudget w * 16 else c.budget }
    (dueException s t = some p → Completes (.exceptionEntry t) s entered)
    ∧ (dueEvent s t = some p → Completes (.eventEntry t) s entered)
    ∧ (dueOverrun s t = some p → Completes (.budgetOverrun t) s entered)

/-- R173: the PSW at entry: privilege and bank of the vector, IE and RP clear, NI with a budget, the FP fields kept, IPL
the event's priority, or kept for an exception. -/
def Clause.PswAtEntry : Prop :=
  ∀ (old : Word) (p : PendEntry) (e : Entry), e.tpriv < 4 →
    let psw := entryPsw old p e
    pswPriv psw = e.tpriv ∧ pswBank psw = e.bank.val ∧ pswIE psw = false ∧ pswRP psw = false
    ∧ pswNI psw = (e.budget != 0 && p.vec != 7)
    ∧ pswIPL psw = (if p.nmx then 15 else if p.event.isSome then p.prio.toNat else pswIPL old)
    ∧ pswFlags psw = pswFlags old ∧ pswRM psw = pswRM old ∧ pswFEN psw = pswFEN old

/-- R79, R184, R185: RETE from a handler without a spill, with nothing in flight, frees its bank and goes back to the
bank and, through that bank's PC and PSW, to the place EPRIV names, that PSW's bank field naming it; the clause closes behind it. -/
def Obligations.ReturnsFromHandler : Prop :=
  ∀ (s : State) (t : TriadId), Ready s t → (∀ l, ((s.tri t).lane l).core.flight = []) →
    let c := s.leadCore t
    c.priv ≠ 0 → c.cur ≠ 0 → bitOf c.bank.epriv 8 = false → reteOk c [] = true →
    (∀ l, (s.tri t).act l = true → ((s.tri t).lane l).core.cur = c.cur ∧
      ((s.tri t).lane l).core.bank.epriv = c.bank.epriv ∧ pswNI ((s.tri t).lane l).core.psw = false) →
    let rb : Fin 4 := ⟨field c.bank.epriv 5 4 % 4, Nat.mod_lt _ (by decide)⟩
    rb ≠ c.cur →
    Completes (.rete ⟨t, true⟩) s (fun s' =>
      s'.mem = s.mem ∧ (∀ u, u ≠ t → s'.tri u = s.tri u) ∧ (s'.tri t).closeDue.getLsbD 3 = true
      ∧ (∀ l, (s.tri t).act l = false → (s'.tri t).lane l = (s.tri t).lane l)
      ∧ ∀ l, (s.tri t).act l = true →
        let k := ((s.tri t).lane l).core
        ((s'.tri t).lane l).core =
          { (k.setCur fun q => { q with busy := false }).setBank rb (fun q =>
              let q := { q with psw := setField q.psw 9 8 rb.val }
              if pswRP q.psw = true ∧ q.rpc = 0 then
                { q with psw := putBit q.psw 10 false, pc := q.pc + 4, repn := false } else q) with cur := rb })

/-! ### Clauses, the compare, the gate (R203 to R224, R250 to R279) -/

/-- R203, R204, R209, R210: an open clause that has issued a slot and has a close due closes at a boundary: it is handed
to the comparator with each lane's signature, the next clause opens with a checkpoint of every lane's registers and
a fresh signature, CMP_LASTCLOSE shows the causes; registers, columns and memory stay. A clause timer at its limit makes
the close due. -/
def Obligations.ClausesClose : Prop :=
  ∀ (s : State) (t : TriadId),
    let x := s.tri t
    (x.runs = true → x.rollbackDue = false → x.slotOpen = false → x.delay = none → x.closed = none → x.first = none →
      x.forced = false → x.slots ≠ 0 → x.closeDue ≠ 0 → isSplit s t = false →
      field (s.rd (Adr.cmpParseInterval t.val)) 15 0 = 0 →
      Completes (.clauseClose t) s (fun s' =>
        let y := s'.tri t
        y.clause = x.clause + 1 ∧ y.slots = 0 ∧ y.closeDue = 0 ∧ y.timer = 0 ∧ s'.mem = s.mem
        ∧ (∃ cl, y.closed = some cl ∧ cl.num = x.clause ∧ cl.sigs = x.lanes.map (fun l => l.sig) ∧ cl.ckpt = x.ckpt)
        ∧ y.ckpt.cores = x.lanes.map (fun l => l.core)
        ∧ s'.rd (Adr.cmpLastclose t.val) = (x.closeDue ||| bit10 2 (x.entry.isSome || x.overrun)
            ||| bit10 4 (eventDue s t || x.evSeen.isSome)).setWidth 64
        ∧ (∀ u, u ≠ t → s'.tri u = s.tri u)
        ∧ ∀ l, ((y.lane l).core = (x.lane l).core) ∧ (y.lane l).gate = (x.lane l).gate
          ∧ (x.act l = true → (y.lane l).sig = sigInit)))
    ∧ (x.runs = true → x.slots ≠ 0 → x.tmaxUse ≤ x.timer →
      exec (.clauseTimeout t) s = .next (s.setTriad t fun y => { y with closeDue := y.closeDue ||| 0x200 }))

/-- R213, R214, R219: a compare in which every lane in use has the same unmarked signature commits the clause: its stores
await release, no clause is pending, CMP_SEQ counts it; no register of a lane and no octet of memory changes. -/
def Clause.EqualCompareCommits : Prop :=
  ∀ (s : State) (t : TriadId) (cl : Closed),
    let x := s.tri t
    x.fenced = false → x.rollbackDue = false → x.closed = some cl → cl.done = false → cl.forced = false → cl.excluded = none →
    2 ≤ x.actives.length → (∀ a b, x.act a = true → x.act b = true → cl.sigs[a] = cl.sigs[b]) →
    (∀ a, x.act a = true → cl.bad[a] = false) → x.arb = none → x.slots ≠ 0 → traceOn s = false →
    Completes (.compareResult t 0) s (fun s' =>
      let y := s'.tri t
      y.closed = none ∧ y.rollbacks = 0 ∧ s'.mem = s.mem ∧ (∀ u, u ≠ t → s'.tri u = s.tri u)
      ∧ s'.rd (Adr.cmpSeq t.val) = s.rd (Adr.cmpSeq t.val) + 1
      ∧ y.toRelease = x.toRelease ++ (x.lane x.lead).gate.filter (fun e => decide (e.clause ≤ cl.num))
      ∧ ∀ l, (y.lane l).core = (x.lane l).core
        ∧ (y.lane l).gate = (x.lane l).gate.filter fun e => decide (cl.num < e.clause))

/-- R255, R264, R265: a mismatch of the two lanes of a triad in PAIR+SPARE or PAIR, within its limit and with recovery
enabled, commits nothing and makes a rollback due. -/
def Clause.MismatchRollsBack : Prop :=
  ∀ (s : State) (t : TriadId) (cl : Closed) (a b : LaneId),
    let x := s.tri t
    x.fenced = false → x.rollbackDue = false → x.closed = some cl → cl.done = false → x.actives = [a, b] → cl.excluded = none →
    cl.sigs[a] ≠ cl.sigs[b] → (∀ l : LaneId, cl.bad[l] = false) → x.rollbacks < 2 → x.arb = none →
    recoveryEnabled s ⟨t.val, by omega⟩ = true →
    Completes (.compareResult t 0) s (fun s' =>
      let y := s'.tri t
      y.rollbackDue = true ∧ y.closed = some cl ∧ y.toRelease = x.toRelease ∧ y.lanes = x.lanes ∧ s'.mem = s.mem
      ∧ ∀ u, u ≠ t → s'.tri u = s.tri u)

/-- R260 to R263: with every access and release completed, a rollback puts every lane in use at its registers of the
failed clause's checkpoint, its column and the clause's slots empty, and the clause opens again. -/
def Clause.RollbackRestores : Prop :=
  ∀ (s : State) (t : TriadId) (cl : Closed),
    let x := s.tri t
    x.rollbackDue = true → x.fenced = false → x.toRelease = [] → x.flying = [] → (s.leadCore t).waiting = false →
    x.closed = some cl → x.arb = none → x.repair = none →
    Completes (.rollback t) s (fun s' =>
      let y := s'.tri t
      y.clause = cl.num ∧ y.slots = 0 ∧ y.closed = none ∧ y.rollbackDue = false ∧ y.rollbacks = x.rollbacks + 1
      ∧ y.delay = none ∧ y.entry = cl.ckpt.entry ∧ (∀ u, u ≠ t → s'.tri u = s.tri u)
      ∧ (∀ l, x.act l = false → y.lane l = x.lane l)
      ∧ ∀ l, x.act l = true → (y.lane l).gate = []
        ∧ (y.lane l).core = { cl.ckpt.cores[l] with
            flight := cl.ckpt.cores[l].flight.map fun r => { r with arrived := true } })

/-- R219, R220: the oldest committed entry leaves for its target unless a device write is on its way, and a device entry
leaves alone; a column that falls below 48 entries may close a clause again (R204, R218). -/
def Clause.GateReleases : Prop :=
  ∀ (s : State) (t : TriadId) (e : GateEntry) (l : List GateEntry),
    let x := s.tri t
    x.toRelease = e :: l → (if e.dev then x.flying = [] else x.flying.all (fun g => !g.dev) = true) →
    Completes (.gateRelease t) s (fun s' =>
      s'.tri t = { x with toRelease := l, flying := x.flying ++ [e],
                          colFull := x.colFull && decide (48 ≤ (x.lane x.lead).gate.length + l.length) }
      ∧ s'.mem = s.mem ∧ s'.regs = s.regs ∧ ∀ u, u ≠ t → s'.tri u = s.tri u)

/-- Entry e writes n octets of plain SRAM, outside the device table (R40, R343, R366, R449). -/
structure PlainWrite (s : State) (e : GateEntry) (n : Nat) : Prop where
  size : (n, e.be) ∈ [(1, (0x01 : Byte)), (2, 0x03), (4, 0x0F), (8, 0xFF)]
  aligned : e.pa.toNat % n = 0
  inside : e.pa.toNat < sramSize
  open_ : sramHole s e.pa.toNat = false
  clean : s.sram.errors = []
  plain : e.aliasK = 0
  table : e.pa.toNat + 8 ≤ devTable ∨ devTable + 0x10000 ≤ e.pa.toNat

/-- R28, R224, R347 to R350: a write that completes stores its octets at its own address, in its own order, and leaves
every other octet and every lane's registers alone; a collision, which only the fabric port can meet, keeps the write in the bank,
and the retry performs it. -/
def Clause.WritesComplete : Prop :=
  ∀ (s : State) (t : TriadId) (e : GateEntry) (n : Nat), PlainWrite s e n →
    let kept : Kept := ⟨.gate t e.id, e.pa.toNat, (octetsOf e.data e.be).take n⟩
    let stored (s' : State) : Prop :=
      (∀ a, rdByte s' a = if e.pa.toNat ≤ a ∧ a < e.pa.toNat + n
          then BitVec.ofNat 8 (e.data.toNat / 256 ^ (a - e.pa.toNat)) else rdByte s a)
      ∧ (s'.tri t).flying = (s.tri t).flying.filter (fun g => decide (g.id ≠ e.id))
      ∧ (∀ u, u ≠ t → s'.tri u = s.tri u)
      ∧ ∀ l, (s'.tri t).lane l =
          { (s.tri t).lane l with held := ((s.tri t).lane l).held.filter fun g => decide (g.id ≠ e.id) }
    (∀ k, (s.tri t).flying[k]? = some e → ((s.tri t).flying.take k).all (fun g => slaveOf g.pa.toNat != slaveOf e.pa.toNat) = true →
      (∀ b : Fin 12, s.sram.collided[b] = none) → barrierHolds s t e = false →
      Completes (.writeCompletion t k false) s stored
      ∧ ∀ b : Fin 12, e.pa.toNat / 0x200000 = b.val →
        Completes (.writeCompletion t k true) s (fun s' =>
          if b.val = t.val then stored s' else s'.sram.collided[b] = some kept ∧ s'.mem = s.mem ∧ s'.triads = s.triads))
    ∧ (∀ b : Fin 12, s.sram.collided[b] = some kept →
      Completes (.collideRetry b) s (fun s' => stored s' ∧ s'.sram.collided[b] = none))


/-! ### Events, lanes, pins (R163, R164, R171, R242, R254 to R279) -/

/-- R163, R164, R171: a pulse sets the event's pending bit, and its overrun bit where it was pending; a doorbell that
triads ring in one cycle pulses once and shows the lowest of them; a source that never pulses does not, and in DORMANT
none does (R677); no other register and nothing else of the machine changes. -/
def Obligations.EventPulses : Prop :=
  ∀ (s : State) (n : Fin 1024) (who src : BitVec 6),
    (neverPulses n.val = false →
      Completes (.eventPulse n) s (fun s' => Pulsed s s' n ∧ SameRegs s s' (eventRegs n) ∧ s' = { s with regs := s'.regs }))
    ∧ ((neverPulses n.val = true ∨ modeOf s = 5) → exec (.eventPulse n) s = .next s)
    ∧ Completes (.evcSwset src) s (fun s' => Pulsed s s' (960 + src.toNat) ∧ SameRegs s s' (eventRegs (960 + src.toNat))
      ∧ s' = { s with regs := s'.regs })
    ∧ (who = 0 → exec (.evcDbset who src) s = .next s)
    ∧ ∀ w : TriadId, who.getLsbD w.val = true → (∀ v : TriadId, v < w → who.getLsbD v.val = false) →
      Completes (.evcDbset who src) s (fun s' =>
        let d := Adr.evcDbfrom (src.toNat / 8)
        let i := 4 * (src.toNat % 8)
        Pulsed s s' (704 + src.toNat) ∧ SameRegs s s' (d :: eventRegs (704 + src.toNat)) ∧ s' = { s with regs := s'.regs }
        ∧ field (s'.rd d) (i + 2) i = w.val ∧ bitOf (s'.rd d) (i + 3) = true
        ∧ ∀ j, (j < i ∨ i + 3 < j) → bitOf (s'.rd d) j = bitOf (s.rd d) j)

/-- R257, R277, R279, R619: at the end of a window a lane's charges, the invalid code or the attributed mismatch that
opened it counts no more, and a report leaves its domain's count; nothing else changes. -/
def Clause.WindowsExpire : Prop :=
  ∀ (s : State) (t : TriadId) (l : LaneId) (u : FcuId) (d : Fin 7),
    let x := s.tri t
    exec (.chargeWindowExpiry t l) s = .next (s.setTriad t fun y => { y with lanes := x.lanes.set l.val { x.lane l with chg := 0 } })
    ∧ exec (.attributionWindowExpiry t l) s
        = .next (s.setTriad t fun y => { y with lanes := x.lanes.set l.val { x.lane l with attrib := false } })
    ∧ exec (.invalidCodeWindowExpiry t) s = .next (s.setTriad t fun y => { y with invalidOpen := false })
    ∧ Completes (.domainWindowExpiry u d) s (fun s' =>
        (fcuOf s' u).domCount[d] = (fcuOf s u).domCount[d] - 1
        ∧ (∀ e : Fin 7, e ≠ d → (fcuOf s' u).domCount[e] = (fcuOf s u).domCount[e])
        ∧ fcuOf s' u = { fcuOf s u with domCount := (fcuOf s' u).domCount }
        ∧ (∀ v, v ≠ u → fcuOf s' v = fcuOf s v) ∧ s' = { s with fcu := s'.fcu } ∧ s'.regs = s.regs)

/-- R269, R271: with fewer than two lanes under test, a lane that waits and is first in the order of service starts its
test; a lane that passes becomes SPARE_READY, one that came from SUSPECT with no charge; one that fails is RETIRED. No
other lane and no octet of memory changes. -/
def Clause.LaneTests : Prop :=
  ∀ (s : State) (t : TriadId) (l : LaneId),
    let y := (s.tri t).lane l
    let before (u : TriadId) (k : LaneId) : Prop :=
      let z := (s.tri u).lane k
      (y.state = .suspect ∧ z.state ≠ .suspect) ∨ ((y.state = .suspect ↔ z.state = .suspect) ∧
        ∀ a b, y.bistWait = some a → z.bistWait = some b →
          a < b ∨ (a = b ∧ t < u))
    let others (s' : State) : Prop :=
      s'.mem = s.mem ∧ (∀ u, u ≠ t → s'.tri u = s.tri u) ∧ ∀ k, k ≠ l → (s'.tri t).lane k = (s.tri t).lane k
    (y.bistWait.isSome = true → (s.tri t).fenced = false → bistCount s < 2 → modeOf s ≠ 5 →
      (∀ u k, ((s.tri u).lane k).bistWait.isSome = true → (u = t ∧ k = l) ∨ before u k) →
      Completes (.laneBistStart t l) s (fun s' => others s' ∧ s'.regs = s.regs
        ∧ (s'.tri t).lane l = { y with bistRun := true, bistWait := none }))
    ∧ (y.bistRun = true → y.state = .spareTest ∨ y.state = .suspect → modeOf s ≠ 5 →
      Completes (.laneBistDone t l true) s (fun s' => others s' ∧ s'.regs = s.regs
        ∧ (s'.tri t).lane l = { y with
            state := .spareReady, bistRun := false, bistWait := none, suspectDue := false
            chg := if y.state = .suspect then 0 else y.chg })
      ∧ Completes (.laneBistDone t l false) s (fun s' => others s'
        ∧ (s'.tri t).lane l = { y with state := .retired, bistRun := false, bistWait := none, suspectDue := false }))

/-- R254, R266, R270, R272: at a boundary whose clause has committed, the lane to be repaired takes the registers and the
column of the first other lane in use, where no charge and no change to PAIR+SPARE comes with it (R254, R257); a ready spare that VOTE3 asks for joins with such a copy; in a rotation the spare
joins and the lane after it leaves for its test. The lane copied, the other triads and memory stay. -/
def Obligations.LanesJoin : Prop :=
  ∀ (s : State) (t : TriadId) (l src : LaneId),
    let x := s.tri t
    atFresh s t = true → x.sourceFor l = some src →
    let joined (s' : State) (st : LaneState) : Prop :=
      s'.mem = s.mem ∧ (∀ u, u ≠ t → s'.tri u = s.tri u) ∧ ((s'.tri t).lane src).core = (x.lane src).core
      ∧ ((s'.tri t).lane src).gate = (x.lane src).gate ∧ ((s'.tri t).lane l).core = (x.lane src).core ∧ ((s'.tri t).lane l).gate = (x.lane src).gate
      ∧ ((s'.tri t).lane l).state = st
      ∧ (s'.tri t).ckpt.cores[l] = x.ckpt.cores[src]
    (modeOf s ≠ 5 → x.repairReady = true → x.repair = some l → 2 ≤ x.actives.length →
      (x.selPair = true → x.actives.length ≠ 3) → (∀ k, (x.lane k).suspectDue = false) →
      Completes (.repair t) s (fun s' => joined s' (x.lane l).state
        ∧ (s'.tri t).repair = none ∧ (s'.tri t).repairReady = false ∧ (s'.tri t).excluded = none
        ∧ ∀ k, k ≠ l → (s'.tri t).lane k = x.lane k))
    ∧ (x.swapDue = some l →
      Completes (.swapIn t l) s (fun s' => joined s' .active ∧ (∀ k, k ≠ l → (s'.tri t).lane k = x.lane k)
        ∧ field (s'.rd (Adr.cmpReccnt t.val)) 47 32 = satSucc (field (s.rd (Adr.cmpReccnt t.val)) 47 32) 0xFFFF))
    ∧ (rotationDue s t = some l →
      Completes (.rotation t) s (fun s' => joined s' .active ∧ ((s'.tri t).lane (l + 1)).state = .spareTest
        ∧ (s'.tri t).lastRotation = some s.sys.upTicks
        ∧ field (s'.rd (Adr.cmpReccnt t.val)) 63 48 = (field (s.rd (Adr.cmpReccnt t.val)) 63 48 + 1) % 0x10000))

/-- R673: a TRIAD reset of a released triad that no recovery or charge holds puts every lane at its reset values with the
PC at SYS_RSTVEC, empties its columns, its log, its caches and its entries of the translation cache, and leaves the
lanes' states, the other triads and memory alone. -/
def Obligations.TriadResets : Prop :=
  ∀ (s : State) (t : TriadId),
    let x := s.tri t
    x.released = true → x.fenced = false → x.arb = none → 2 ≤ x.actives.length →
    (∀ l, (x.lane l).suspectDue = false) →
    Completes (.triadReset t) s (fun s' =>
      let y := s'.tri t
      y.released = true ∧ y.fenced = false ∧ y.clause = 0 ∧ y.closed = none ∧ y.log = [] ∧ y.toRelease = [] ∧ y.flying = x.flying
      ∧ y.l1i = [] ∧ y.l1d = [] ∧ s'.tlb = s.tlb.filter (fun e => decide (e.triad ≠ t))
      ∧ s'.mem = s.mem ∧ (∀ u, u ≠ t → s'.tri u = s.tri u)
      ∧ ∀ l, (y.lane l).core = LaneCore.reset (s.rd (Adr.sysRstvec t.val) &&& 0xFFFFFFFFFC) ∧ (y.lane l).gate = []
        ∧ (y.lane l).state = (x.lane l).state)

/-- R242, R543: one sample of a GPIO pin gives every triad in VOTE3 the majority of the rails, and a triad with two
lanes their common level or, where they differ, the level it had; the legacy edge takes the majority; a sample of a
plain input reaches the legacy edge alone, and no lane's registers and no octet of memory change. -/
def Clause.PinsAgree : Prop :=
  ∀ (s : State) (r : BitVec 3), modeOf s ≠ 5 →
    let kept (s' : State) : Prop := s'.mem = s.mem ∧ ∀ u, (s'.tri u).lanes = (s.tri u).lanes
    (∀ p : Fin 128, Completes (.pinLevelChange (.gpio p) r) s (fun s' => kept s'
      ∧ s'.legacy.gpioIn.getLsbD p.val = majority r
      ∧ (∀ q, q ≠ p.val → q < 128 → s'.legacy.gpioIn.getLsbD q = s.legacy.gpioIn.getLsbD q)
      ∧ ∀ u, (s.tri u).fenced = false →
        ((s.tri u).actives.length = 3 → (s'.tri u).agreed.getLsbD p.val = majority r)
        ∧ (∀ a b, (s.tri u).actives = [a, b] → (s'.tri u).agreed.getLsbD p.val =
            if r.getLsbD a.val = r.getLsbD b.val then r.getLsbD a.val else (s.tri u).agreed.getLsbD p.val)))
    ∧ (∀ n : Fin 64, Completes (.pinLevelChange (.tmrA n) r) s (fun s' => kept s' ∧ s'.triads = s.triads
        ∧ s'.legacy.tmrAIn.getLsbD n.val = majority r)
      ∧ Completes (.pinLevelChange (.tmrB n) r) s (fun s' => kept s' ∧ s'.triads = s.triads
        ∧ s'.legacy.tmrBIn.getLsbD n.val = majority r))
    ∧ (∀ m : Fin 16, Completes (.pinLevelChange (.ssiDat m) r) s (fun s' => kept s' ∧ s'.triads = s.triads
      ∧ s'.legacy.ssiIn.getLsbD m.val = majority r))
    ∧ (∀ u : Fin 8, Completes (.pinLevelChange (.uartRx u) r) s (fun s' => kept s' ∧ s'.triads = s.triads
      ∧ s'.legacy.uartIn.getLsbD u.val = majority r))

/-- R550, R577 to R579, R581: a sample of a counter channel's pin reaches the island alone, in every mode: the level counts once
it has held for FILT + 1 cycles, no other channel changes, and while CLK_TNS is stopped nothing does. FILT, which the
island firmware sets, is the model's open value (log 21). -/
def Clause.IslandPins : Prop :=
  ∀ (s : State) (r : BitVec 3) (n : Fin 8),
    let v := r.getLsbD 0
    let f := (Config.yoberFilt n.val).toNat
    let p := s.yob.ytcIn[n]
    let alone (s' : State) : Prop := s' = { s with yob := s'.yob } ∧ s'.yob.mbox = s.yob.mbox
      ∧ ∀ m : Fin 8, m ≠ n → s'.yob.ytcIn[m] = s.yob.ytcIn[m] ∧ s'.yob.ytc[m] = s.yob.ytc[m]
    (s.yob.clkStopped = false →
      Completes (.pinLevelChange (.ytcA n) r) s (fun s' => alone s'
        ∧ s'.yob.ytcIn[n] = (if p.a = v then p else { p with a := v, heldA := 1 })
        ∧ s'.yob.ytcA.getLsbD n.val = if f < (s'.yob.ytcIn[n]).heldA then v else s.yob.ytcA.getLsbD n.val)
      ∧ Completes (.pinLevelChange (.ytcB n) r) s (fun s' => alone s'
        ∧ s'.yob.ytcIn[n] = (if p.b = v then p else { p with b := v, heldB := 1 })
        ∧ s'.yob.ytcB.getLsbD n.val = if f < (s'.yob.ytcIn[n]).heldB then v else s.yob.ytcB.getLsbD n.val)
      ∧ ∀ k : Fin 4, Completes (.pinLevelChange (.yadcDin k) r) s (fun s' => s' = { s with yob := s'.yob }
        ∧ (s'.yob.adc[k]).din = v ∧ ∀ m : Fin 4, m ≠ k → s'.yob.adc[m] = s.yob.adc[m]))
    ∧ (s.yob.clkStopped = true → ∀ k : Fin 4, ∀ i ∈ [Instr.pinLevelChange (.ytcA n) r, .pinLevelChange (.ytcB n) r,
        .pinLevelChange (.yadcDin k) r], exec i s = .next s)

/-! ### Translation contexts and invalidations (R285, R286, R298 to R300) -/

/-- R285, R286: a triad's write of its own TAPU_CTX sets it and, with another ASID, empties the return-address stacks and
the fetch-ahead buffer; a write of another triad is ignored. -/
def Clause.ContextWrites : Prop :=
  ∀ (s : State) (w t : TriadId) (v : Word),
    (w ≠ t → exec (.tapuCtxWrite w t v) s = .next s)
    ∧ Completes (.tapuCtxWrite t t v) s (fun s' =>
        field (s'.rd (Adr.tapuCtx t.val)) 39 12 = field v 39 12 ∧ field (s'.rd (Adr.tapuCtx t.val)) 51 40 = field v 51 40
        ∧ bitOf (s'.rd (Adr.tapuCtx t.val)) 63 = bitOf v 63
        ∧ SameRegs s s' [Adr.tapuCtx t.val] ∧ s'.mem = s.mem ∧ s'.tlb = s.tlb ∧ (∀ u, u ≠ t → s'.tri u = s.tri u)
        ∧ (field (s.rd (Adr.tapuCtx t.val)) 51 40 = field v 51 40 → s'.tri t = s.tri t)
        ∧ (field (s.rd (Adr.tapuCtx t.val)) 51 40 ≠ field v 51 40 →
            s'.tri t = { s.tri t with fetched := none, lanes := (s.tri t).lanes.map fun l => { l with ras := [] } }))

/-- R298 to R300, R303: an invalidation by the triad itself removes its matching translations at once: one page of an
ASID or GLOBAL, an ASID's pages that are not GLOBAL, or all of the triad; its barrier runs until no segment in flight
uses one of them, and its end pulses E0896 + t and completes the writes that started it. -/
def Clause.Invalidations : Prop :=
  ∀ (s : State) (t : TriadId) (asid : BitVec 12) (vpn : BitVec 27),
    let starts (i : Instr) (b : Barrier) (hit : TlbEntry → Prop) : Prop :=
      Completes i s (fun s' => s'.barriers[t] = some b ∧ (∀ u : TriadId, u ≠ t → s'.barriers[u] = s.barriers[u])
        ∧ (∀ e, e ∈ s'.tlb ↔ e ∈ s.tlb ∧ ¬ (e.triad = t ∧ hit e))
        ∧ s' = { s with tlb := s'.tlb, barriers := s'.barriers })
    (s.barriers[t] = none →
      starts (.invalidatePage t t asid vpn) ⟨0, asid, vpn, barrierSegs s t 0 asid vpn, []⟩ (fun e => e.vpn = vpn ∧ (e.asid = asid ∨ bitOf e.pte 5 = true))
      ∧ starts (.invalidateAsid t t asid) ⟨1, asid, 0, barrierSegs s t 1 asid 0, []⟩ (fun e => e.asid = asid ∧ bitOf e.pte 5 = false)
      ∧ starts (.invalidateTriad t t) ⟨2, 0, 0, barrierSegs s t 2 0 0, []⟩ (fun _ => True))
    ∧ (∀ b, s.barriers[t] = some b → allFin32.any (segHolds s b) = false →
      Completes (.invalidationBarrierEnd t) s (fun s' => s'.barriers[t] = none ∧ Pulsed s s' (896 + t.val)
        ∧ SameRegs s s' (eventRegs (896 + t.val))
        ∧ s' = { s with regs := s'.regs, barriers := s'.barriers, triads := s'.triads }
        ∧ (b.waits = [] → s'.triads = s.triads) ∧ (∀ u, u ≠ t → s'.tri u = s.tri u)
        ∧ (s'.tri t).flying = (s.tri t).flying.filter fun g => !b.waits.contains g.id))

/-! ### DMA engines (R315 to R337) -/

/-- R316, R317, R324, R333, R334: the owner's doorbell stamps an idle channel with its context and makes its descriptor
due; RESUME of a suspended channel makes it READY; ABORT ends an armed, ready or suspended transfer at once and a
running one behind the segments in flight, and is rejected where there is none. Other channels, memory and the triads stay. -/
def Clause.ChannelCommands : Prop :=
  ∀ (s : State) (w : TriadId) (c : Fin 32) (v : Word), w.val = chanOwner s c →
    let k := s.chans[c]
    let only (s' : State) (l : List Nat) : Prop :=
      SameRegs s s' l ∧ (∀ d : Fin 32, d ≠ c → s'.chans[d] = s.chans[d]) ∧ s'.mem = s.mem ∧ s'.triads = s.triads
    (k.state = .idle → Completes (.doorbell w c v) s (fun s' =>
        only s' [ctxOf c, res0Of c, res1Of c]
        ∧ s'.chans[c].state = .ready ∧ s'.chans[c].fetchDue = true ∧ s'.chans[c].desc = none
        ∧ s'.rd (res0Of c) = v &&& 0xFFFFFFFFFFFFFFC0 ∧ s'.rd (res1Of c) = 0
        ∧ field (s'.rd (ctxOf c)) 39 12 = field (s.rd (Adr.tapuCtx w.val)) 39 12
        ∧ field (s'.rd (ctxOf c)) 51 40 = field (s.rd (Adr.tapuCtx w.val)) 51 40
        ∧ bitOf (s'.rd (ctxOf c)) 63 = bitOf (s.rd (Adr.tapuCtx w.val)) 63
        ∧ field (s'.rd (ctxOf c)) 54 52 = w.val ∧ bitOf (s'.rd (ctxOf c)) 56 = bitOf (s.rd (cfgOf c)) 4))
    ∧ (k.state = .suspended → Completes (.resume w c) s (fun s' =>
        only s' (eventRegs (904 + c.val)) ∧ Pulsed s s' (904 + c.val) ∧ s'.chans[c].state = .ready
        ∧ (field (s.rd (res1Of c)) 37 36 = 0 → s'.chans[c].fetchDue = true ∧ s'.chans[c].desc = none)
        ∧ (field (s.rd (res1Of c)) 37 36 ≠ 0 → s'.chans[c].desc = k.desc ∧ s'.chans[c].nextSeg = chanDone s c / 256)))
    ∧ (k.state = .armed ∨ k.state = .ready → Completes (.abort w c) s (fun s' =>
        only s' [statOf c] ∧ s'.chans[c].state = .idle ∧ s'.chans[c].desc = none ∧ bitOf (s'.rd (statOf c)) 10 = true))
    ∧ (k.state = .suspended → Completes (.abort w c) s (fun s' =>
        only s' (statOf c :: eventRegs (904 + c.val)) ∧ Pulsed s s' (904 + c.val) ∧ s'.chans[c].state = .idle
        ∧ s'.chans[c].desc = none ∧ bitOf (s'.rd (statOf c)) 10 = true))
    ∧ (k.state = .idle ∨ k.state = .error → Completes (.abort w c) s (fun s' =>
        only s' [statOf c] ∧ s'.chans = s.chans ∧ bitOf (s'.rd (statOf c)) 9 = true))
    ∧ (k.state = .running → k.flying ≠ [] →
        exec (.abort w c) s = .next { s with chans := s.chans.set c.val { k with abortDue := true } })

/-- Channel c reads and writes plain SRAM without translation (R317): no translation, no windows, no ECC error, no write kept by a bank. -/
structure PlainDma (s : State) (c : Fin 32) : Prop where
  physical : bitOf (s.rd (ctxOf c)) 63 = false
  windows : ∀ t, windowsActive s t = false
  clean : s.sram.errors = []
  kept : ∀ b : Fin 12, s.sram.collided[b] = none

/-- The n octets at a lie inside one page of plain SRAM, outside the device table and the secure region (R40, R366). -/
def plainRange (s : State) (a n : Nat) : Prop :=
  a % 4096 + n ≤ 4096 ∧ a + n ≤ sramSize ∧ sramHole s a = false ∧ (a + n ≤ devTable ∨ devTable + 0x10000 ≤ a)

/-- R319, R320, R323, R324, R326, R327: a valid descriptor is fetched and, with TWAIT, armed; the next segment of the one
channel that can run starts; a segment that completes has copied its octets and no others and adds them to DONE; one whose
write meets the owner port stays in flight while the bank keeps that write (R338, R348). -/
def Obligations.DescriptorsRun : Prop :=
  ∀ (s : State) (c : Fin 32), PlainDma s c →
    let k := s.chans[c]
    let pa := (s.rd (res0Of c)).toNat
    (∀ d : Desc, k.fetchDue = true → k.flying = [] → plainRange s pa 32 → d = descOf (rdBytes s pa 32) →
      d.invalid = false → d.len ≠ 0 →
      Completes (.descriptorFetch c) s (fun s' =>
        s'.chans[c] = { k with desc := some d, nextSeg := 0, fetchDue := false
                               state := if d.ctl.getLsbD 8 then .armed else k.state }
        ∧ (∀ e : Fin 32, e ≠ c → s'.chans[e] = s.chans[e]) ∧ s'.mem = s.mem ∧ s'.regs = s.regs ∧ s'.triads = s.triads))
    ∧ (∀ d : Desc, k.state = .ready → k.desc = some d → k.flying = [] → canStart s c = true → engStopped s (engOf c) = false →
      k.abortDue = false → k.failed = none →
      (∀ e ∈ engChans (engOf c), e ≠ c → runnable s e = false ∧ s.chans[e].state ≠ .running) →
      d.ctl.getLsbD 2 = true → d.ctl.getLsbD 3 = true →
      let off := k.nextSeg * 256
      let n := Nat.min 256 (d.len.toNat - off)
      plainRange s (d.src.toNat + off) n → plainRange s (d.dst.toNat + off) n →
      Completes (.segmentStart (engOf c)) s (fun s' =>
        s'.chans[c].state = .running ∧ s'.chans[c].nextSeg = k.nextSeg + 1
        ∧ (∃ g, s'.chans[c].flying = [g] ∧ g.num = k.nextSeg ∧ g.bytes = n ∧ g.live = true
            ∧ g.src = [(d.src.toNat + off, n)] ∧ g.dst = [(d.dst.toNat + off, n)])
        ∧ (∀ e : Fin 32, e ≠ c → s'.chans[e] = s.chans[e]) ∧ s'.mem = s.mem ∧ s'.regs = s.regs ∧ s'.triads = s.triads))
    ∧ (∀ (g : Seg) (d : Desc) (a b n : Nat), k.flying = [g] → g.moved = false → g.kept = 0 → g.live = true → g.bytes = n → g.src = [(a, n)] →
      g.dst = [(b, n)] → n ≤ 256 → plainRange s a n → plainRange s b n → k.abortDue = false → k.failed = none →
      k.desc = some d → chanDone s c + n < d.len.toNat →
      Completes (.segmentComplete ⟨c, []⟩) s (fun s' =>
        (∀ x, rdByte s' x = if b ≤ x ∧ x < b + n then rdByte s (x - b + a) else rdByte s x)
        ∧ chanDone s' c = chanDone s c + n ∧ SameRegs s s' [res1Of c] ∧ s'.chans[c] =
            { k with flying := [], state := if k.state = .running ∧ s.engCur[engOf c] ≠ some (chOf c) then .ready else k.state }
        ∧ (∀ e : Fin 32, e ≠ c → s'.chans[e] = s.chans[e]) ∧ s'.triads = s.triads)
      ∧ ∀ bank : Fin 12, b / 0x200000 = bank.val → 0 < n → b % 64 + n ≤ 64 →
        Completes (.segmentComplete ⟨c, [0]⟩) s (fun s' =>
          s'.mem = s.mem ∧ s'.triads = s.triads ∧ s'.chans[c] = { k with flying := [{ g with moved := true, kept := 1 }] }
          ∧ s'.sram.collided[bank] = some ⟨.seg c g.id, b, enabled (rdBytes s a n)⟩ ∧ SameRegs s s' [Adr.srbColcnt]))

/-- R332: a comparison fault of a DMA engine puts each of its channels in ERROR with nothing in flight and sets its STAT
bit 31; where the engine had nothing in flight, the other engine's channels, the triads and memory stay. -/
def Clause.EnginesStop : Prop :=
  ∀ (s : State) (x : Fin 2), engStopped s x = false → modeOf s ≠ 5 →
    Completes (.engineComparisonFault x) s (fun s' =>
      engStopped s' x = true ∧ (∀ c ∈ engChans x, s'.chans[c].state = .error ∧ s'.chans[c].flying = [])
      ∧ ((∀ c ∈ engChans x, s.chans[c].flying = []) →
        (∀ c : Fin 32, c.val / 16 ≠ x.val → s'.chans[c] = s.chans[c]) ∧ s'.mem = s.mem ∧ s'.triads = s.triads))

/-! ### SRAM banks, DDR, the wipe (R345, R355 to R387) -/

/-- R359, R360: a write of SRB_PWR, with no write kept by a bank (R349), starts each bank's change: a bank that leaves On or Retain downward does so at once
and loses its octets in Off; one that goes to On wakes or is cleared, and its change's end makes it On and pulses E0883.
No octet of another bank changes. -/
def Clause.BankPower : Prop :=
  ∀ (s : State) (v : BitVec 32),
    let old (n : Nat) : Nat := field (s.rd Adr.srbPwr) (2 * n + 1) (2 * n)
    let new (n : Nat) : Nat := field (v.setWidth 64) (2 * n + 1) (2 * n)
    (bitOf (s.rd Adr.srbPwr) 31 = false → (∀ n, n < 11 → new n ≠ 3) → (∀ b : Fin 12, s.sram.collided[b] = none) →
      Completes (.bankPowerRequest v) s (fun s' =>
        (∀ n, n < 11 → field (s'.rd Adr.srbPwr) (2 * n + 1) (2 * n) = new n) ∧ SameRegs s s' [Adr.srbPwr]
        ∧ s'.triads = s.triads
        ∧ (∀ n : Fin 12, n.val < 11 → s'.sram.power[n] =
            if new n = old n then s.sram.power[n]
            else match s.sram.power[n].toNat, new n with
              | 0, 1 => 1 | 0, 2 => 2 | 1, 0 => 3 | 1, 2 => 2 | 2, 0 => 4 | 2, 1 => 4
              | _, _ => s.sram.power[n])
        ∧ s'.sram.power[11] = s.sram.power[11]
        ∧ ∀ a, (∀ n : Fin 12, a / 0x200000 = n.val → n.val = 11 ∨ new n = old n ∨ new n ≠ 2 ∨ 2 ≤ s.sram.power[n].toNat) →
          rdByte s' a = rdByte s a)
      ∧ Completes (.bankPowerRequest v) s (fun s' => ∀ (n : Fin 12) (a : Nat), n.val < 11 → a / 0x200000 = n.val →
          new n ≠ old n → new n = 2 → s.sram.power[n].toNat ≤ 1 → rdByte s' a = 0))
    ∧ (∀ n : Fin 12, s.sram.power[n] = 3 ∨ s.sram.power[n] = 4 → s.sram.goal[n] = 0 →
      Completes (.bankPowerChangeDone n) s (fun s' =>
        s'.sram.power[n] = 0 ∧ (∀ m : Fin 12, m ≠ n → s'.sram.power[m] = s.sram.power[m]) ∧ Pulsed s s' 883
        ∧ SameRegs s s' (eventRegs 883) ∧ s'.triads = s.triads
        ∧ ∀ a, rdByte s' a = if s.sram.power[n] = 4 ∧ a / 0x200000 = n.val then 0 else rdByte s a))

/-- R345, R355, R356, R377, R381 to R383, R386, R387, R368: write-back and background test end recorded errors and change
no octet; a failing cell is recorded and reported; a scrub read counts a clean line and corrects a correctable one; flipped cells and
wrong symbols, which the model brings in with these two commands (log 36), are there before the command acts; calibration changes nothing; a repeated
command is counted, and a fourth repeat that fails loses the channel; a lost channel is marked; the wipe's end releases the secure region. -/
def Clause.MemoryUpkeep : Prop :=
  ∀ (s : State),
    let kept (s' : State) : Prop := s'.mem = s.mem ∧ s'.triads = s.triads
    (∀ word : BitVec 40, s.sram.writeBack.contains (word.toNat / 8 * 8) = true →
      Completes (.eccWriteBack word) s (fun s' => kept s' ∧ s'.regs = s.regs
        ∧ s'.sram.errors = s.sram.errors.filter (fun p => decide (p.1 ≠ word.toNat / 8 * 8))
        ∧ s'.sram.writeBack = s.sram.writeBack.filter (fun x => decide (x ≠ word.toNat / 8 * 8))))
    ∧ (modeOf s ≠ 5 → modeOf s ≠ 0 → bitOf (s.rd Adr.srbBgtctl) 16 = true → bankOn s (field (s.rd Adr.srbBgtstat) 16 0 * 256) = true →
      Completes (.backgroundTestRegion ⟨false, []⟩) s (fun s' => kept s'
        ∧ field (s'.rd Adr.srbBgtstat) 16 0 = (field (s.rd Adr.srbBgtstat) 16 0 + 1) % 98304
        ∧ SameRegs s s' [Adr.srbBgtstat])
      ∧ (live s.fcu.a = true → live s.fcu.b = true → Completes (.backgroundTestRegion ⟨true, []⟩) s (fun s' => kept s'
        ∧ s'.rd Adr.srbBgtfail = BitVec.ofNat 64 (field (s.rd Adr.srbBgtstat) 16 0 * 256)
        ∧ bitOf (s'.rd Adr.srbBgtstat) 63 = true ∧ bitOf (s'.rd (Adr.evcPend 27)) 18 = true
        ∧ s'.fcu.a.active.getLsbD 97 = true ∧ s'.fcu.b.active.getLsbD 97 = true)))
    ∧ (∀ (f : Bool) (flips : List (BitVec 40 × BitVec 72)),
      exec (.backgroundTestRegion ⟨f, flips⟩) s = exec (.backgroundTestRegion ⟨f, []⟩) (flips.foldl sramFlip s))
    ∧ (∀ (w : BitVec 40) (cells : BitVec 72), w.toNat / 8 * 8 < sramSize →
      s.sram.errors.lookup (w.toNat / 8 * 8) = none → s.sram.writeBack.contains (w.toNat / 8 * 8) = false → (cells = 1 → sramError (sramFlip s (w, cells)) (w.toNat / 8 * 8) = some false)
      ∧ (cells = 3 → sramError (sramFlip s (w, cells)) (w.toNat / 8 * 8) = some true))
    ∧ (∀ (line : BitVec 40) (wrong : List (BitVec 40 × Fin 10)) (away : List (BitVec 40)),
      exec (.scrubRead ⟨line, wrong, away⟩) s = exec (.scrubRead ⟨line, [], []⟩) (away.foldl ddrMisplace (wrong.foldl ddrUpset s)))
    ∧ (∀ line : BitVec 40, modeOf s ≠ 5 → bitOf (s.rd Adr.ddrScrub) 16 = true →
      let a := line.toNat / 64 * 64
      ddrBase ≤ a → a < ddrBase + ddrLines s * 64 → s.ddr.swept.contains a = false → ddrWaits s a 64 = false → s.ddr.swept.length + 1 < ddrLines s →
      (ddrError s a = none → exec (.scrubRead ⟨line, [], []⟩) s = .next { s with ddr := { s.ddr with swept := a :: s.ddr.swept } })
      ∧ (ddrError s a = some false → ddrLost s a = false →
        Completes (.scrubRead ⟨line, [], []⟩) s (fun s' => kept s' ∧ s'.ddr.swept = a :: s.ddr.swept ∧ ddrError s' a = none
          ∧ field (s'.rd Adr.ddrEccstat) 15 0 = satSucc (field (s.rd Adr.ddrEccstat) 15 0) 0xFFFF)))
    ∧ exec .zqCalibration s = .next s
    ∧ (∀ (c : Fin 4) (line : Option (BitVec 40)) (write crc : Bool), modeOf s ≠ 5 → channelUp s c = true →
      let l := line.map fun a => a.toNat / 64 * 64
      let other (r : Repeat) : Bool := !(r.line == l && r.write == write)
      (∀ fails : Bool, (fails = false ∨ ∀ r ∈ s.ddr.repeats[c], other r = true) →
        Completes (.commandRepeat ⟨c, line, write, crc, fails⟩) s (fun s' => kept s' ∧ Pulsed s s' 869
          ∧ (crc = false → field (s'.rd Adr.ddrRetry) 15 0 = satSucc (field (s.rd Adr.ddrRetry) 15 0) 0xFFFF)
          ∧ (crc = true → field (s'.rd Adr.ddrRetry) 31 16 = satSucc (field (s.rd Adr.ddrRetry) 31 16) 0xFFFF)
          ∧ SameRegs s s' (Adr.ddrRetry :: eventRegs 869)
          ∧ s'.ddr.repeats[c] = (if fails then [⟨l, write, 1⟩] else []) ++ s.ddr.repeats[c].filter other))
      ∧ (∀ rest, s.ddr.repeats[c] = ⟨l, write, 3⟩ :: rest → Completes (.commandRepeat ⟨c, line, write, crc, true⟩) s (fun s' =>
          kept s' ∧ bitOf (s'.rd Adr.ddrStat) (28 + c.val) = true ∧ s'.ddr.repeats[c] = [])))
    ∧ (∀ c : Fin 4, modeOf s ≠ 5 → bitOf (s.rd Adr.ddrStat) (16 + c.val) = true →
      bitOf (s.rd Adr.ddrStat) (28 + c.val) = false →
      Completes (.channelLoss c) s (fun s' => kept s' ∧ bitOf (s'.rd Adr.ddrStat) (28 + c.val) = true
        ∧ s'.hosts.gens[10] = s.hosts.gens[10] + 1))
    ∧ (s.sram.wiping = true →
      Completes (.wipeComplete true) s (fun s' => kept s' ∧ s'.sram.wiping = false ∧ s'.lcs.held = [] ∧ Pulsed s s' 885
        ∧ bitOf (s'.rd Adr.srbWipestat) 31 = false ∧ SameRegs s s' (Adr.srbWipestat :: eventRegs 885))
      ∧ (modeOf s ≠ 5 → Completes (.wipeComplete false) s (fun s' => kept s' ∧ s'.sram.wiping = false
        ∧ bitOf (s'.rd Adr.srbWipestat) 31 = false ∧ bitOf (s'.rd Adr.srbWipestat) 30 = true)))

/-! ### Time, the calendar, cycle tables, regions (R390 to R433) -/

/-- R393, in the model's idle step (log 2): one tick of CLK_TNS adds 40 units and the accumulated fraction F + ADJ to
TIME64; no command is made and no octet of memory changes. -/
def Clause.TimeAdvances : Prop :=
  ∀ s : State, s.pending = [] →
    ∃ s', step s = .next s' ∧ s'.pending = [] ∧ s'.mem = s.mem
      ∧ ((now s').toNat : Int) = ((now s).toNat + 40 + (s.tense.frac.toNat + adjOf s) / 2 ^ 32) % 2 ^ 64
      ∧ (s'.tense.frac.toNat : Int) = (s.tense.frac.toNat + adjOf s) % 2 ^ 32

/-- R397, R402, R404, R405: an allowed step adds its offset to TIME64; SYNCTO without a sample moves a servo that
follows to HOLDOVER, with its rate kept where software sets it, else at the mean of the last values, or to the other
domain where failover is enabled and that one has given a sample of late; the end of HOLDOVER's limit is reported once. -/
def Clause.TimeIsServed : Prop :=
  ∀ s : State,
    (∀ v : Word, (∀ b : Fin 12, s.sram.collided[b] = none) → anyTableRuns s = false → (bitOf (s.rd Adr.tnsServo) 30 = true ∨ servoState s = 0) →
      Completes (.step v) s (fun s' => now s' = now s + v ∧ s'.triads = s.triads))
    ∧ ((servoState s = 1 ∨ servoState s = 2) → syncTo s ≤ (now s - s.tense.sampleAt).toNat →
      (bitOf (s.rd Adr.tnsServo) 29 = false → bitOf (s.rd Adr.tnsServo) 30 = true →
        Completes .syncTimeout s (fun s' => servoState s' = 3 ∧ s'.rd Adr.tnsRate = s.rd Adr.tnsRate ∧ Pulsed s s' 442
          ∧ SameRegs s s' (Adr.tnsSstat :: eventRegs 442) ∧ s'.mem = s.mem ∧ s'.triads = s.triads))
      ∧ (bitOf (s.rd Adr.tnsServo) 29 = false → bitOf (s.rd Adr.tnsServo) 30 = false → s.tense.adjHist ≠ [] →
        s.tense.adjHist.sum % s.tense.adjHist.length = 0 →
        Completes .syncTimeout s (fun s' => servoState s' = 3 ∧ Pulsed s s' 442
          ∧ s'.rd Adr.tnsRate = BitVec.ofNat 64 (unsigned 32 (clampInt (s.tense.adjHist.sum / s.tense.adjHist.length) 85899346))
          ∧ SameRegs s s' (Adr.tnsRate :: Adr.tnsSstat :: eventRegs 442) ∧ s'.mem = s.mem ∧ s'.triads = s.triads))
      ∧ (∀ u : Word, bitOf (s.rd Adr.tnsServo) 29 = true →
        (if bitOf (s.rd Adr.tnsSstat) 61 then s.tense.seenAt[0] else s.tense.seenAt[1]) = some u →
        (now s - u).toNat ≤ field (s.rd Adr.tnsServo) 7 0 * 16000000 →
        Completes .syncTimeout s (fun s' => servoState s' = 1
          ∧ bitOf (s'.rd Adr.tnsSstat) 61 = !bitOf (s.rd Adr.tnsSstat) 61 ∧ s'.rd Adr.tnsRate = s.rd Adr.tnsRate
          ∧ s'.mem = s.mem ∧ s'.triads = s.triads)))
    ∧ (servoState s = 3 → s.tense.holdReported = false →
      field (s.rd Adr.tnsSlim) 31 16 * 16000000 ≤ (now s - s.tense.holdAt).toNat → modeOf s ≠ 5 → live s.fcu.a = true → live s.fcu.b = true →
      Completes .holdoverExpiry s (fun s' => s'.tense.holdReported = true ∧ s'.fcu.a.active.getLsbD 129 = true
        ∧ s'.fcu.b.active.getLsbD 129 = true ∧ s'.mem = s.mem ∧ s'.triads = s.triads))

/-- R408, R409, R411 to R415, R417: a valid entry of the writer, early enough, is armed in place of an undispatched copy
of it; a disarm takes such a copy away; the first action is dispatched from 1 us to 100 ns before its time; one found late is fired
late or dropped by its policy, with its STATUS written. -/
def Clause.CalendarCommands : Prop :=
  ∀ (s : State) (w : TriadId) (k : BitVec 14),
    let e := entryAddr k.toNat
    let only (s' : State) (l : List Nat) : Prop := SameRegs s s' l ∧ s'.triads = s.triads
    s.clean e →
    (∀ a : Armed, parseEntry (rdBytes s e 32) k.toNat = some a → a.kind ≠ 5 → a.owner = w.val →
      entryOwned s k.toNat = false → (field (s.rd Adr.tnsCtl) 15 8 * 16000 : Int) ≤ (a.time - now s).toInt →
      Completes (.arm w k) s (fun s' => only s' [Adr.tnsArmres w] ∧ s'.mem = s.mem
        ∧ s'.rd (Adr.tnsArmres w) = BitVec.ofNat 64 (k.toNat * 65536 + 1)
        ∧ a.idx = k.toNat ∧ a.time.toNat = rdMem s e 8 ∧ a.arg0.toNat = rdMem s (e + 16) 8 ∧ a.dispatched = false
        ∧ s'.tense.armed = (s.tense.armed.filter fun b => decide (b.idx ≠ k.toNat ∨ b.dispatched = true)) ++ [a]))
    ∧ (∀ a : Armed, entryOwned s k.toNat = false →
      s.tense.armed.find? (fun b => b.idx == k.toNat && !b.dispatched) = some a → a.owner = w.val →
      Completes (.disarm w k) s (fun s' => only s' [Adr.tnsArmres w] ∧ s'.mem = s.mem
        ∧ s'.rd (Adr.tnsArmres w) = BitVec.ofNat 64 (k.toNat * 65536 + 8) ∧ s'.tense.armed = s.tense.armed.erase a))
    ∧ (∀ a : Armed, firstDue s.tense.armed = some a → a.idx = k.toNat → atOrAfter (now s) (a.time - 16000) = true →
      atOrAfter (a.time - 1600) (now s) = true → a.kind ≠ 4 →
      exec (.actionDispatch k) s = .next { s with tense := { s.tense with
        armed := s.tense.armed.map fun b => if b = a then { b with dispatched := true } else b } })
    ∧ (∀ a : Armed, s.tense.armed.find? (fun b => b.idx == k.toNat && !b.dispatched) = some a →
      atOrAfter (now s) (a.time - 1600) = true → a.idx = k.toNat →
      (a.late = 0 → a.kind ≠ 4 →
        let late (s' : State) : Prop :=
          only s' (Adr.tnsLatecnt :: Adr.tnsStat :: eventRegs 440) ∧ Pulsed s s' 440 ∧ s'.mem = s.mem
          ∧ s'.tense.armed = s.tense.armed.erase a ++ [{ a with dispatched := true, isLate := true }]
        Completes (.lateByCongestion k) s late
        ∧ (firstDue s.tense.armed = some a → atOrAfter (now s) (a.time - 16000) = true →
          atOrAfter (a.time - 1600) (now s) = false → Completes (.actionDispatch k) s late))
      ∧ (a.late = 1 → a.cyc = none → Completes (.lateByCongestion k) s (fun s' =>
        only s' (Adr.tnsLatecnt :: Adr.tnsStat :: eventRegs 440) ∧ Pulsed s s' 440 ∧ Stored s s' (e + 28) 4 6
        ∧ s'.tense.armed = s.tense.armed.erase a)))

/-- R324, R410, R414: an action whose effect is due acts, leaves the calendar and gets STATUS 1, or 3 where it was late:
a raised event pulses, a start makes an armed channel READY, a timed write reaches its unit's register. -/
def Clause.ActionsFire : Prop :=
  ∀ (s : State) (k : BitVec 14) (a : Armed), a.cyc = none → a.idx = k.toNat → s.clean (entryAddr k.toNat) →
    let fires (s' : State) (l : List Nat) : Prop :=
      s'.tense.armed = s.tense.armed.erase a ∧ Stored s s' (entryAddr k.toNat + 28) 4 (if a.isLate then 3 else 1)
      ∧ s'.triads = s.triads ∧ SameRegs s s' l
    (dueAction s k 6 = some a → Completes (.raiseEvent k) s (fun s' =>
      fires s' (eventRegs (320 + a.tgt.toNat)) ∧ Pulsed s s' (320 + a.tgt.toNat)))
    ∧ (∀ c : Fin 32, dueAction s k 3 = some a → a.tgt.toNat = c.val → chanOwner s c = a.owner → s.chans[c].state = .armed →
      Completes (.dmaStart k) s (fun s' => fires s' [] ∧ s'.chans[c] = { s.chans[c] with state := .ready }
        ∧ ∀ d : Fin 32, d ≠ c → s'.chans[d] = s.chans[d]))
    ∧ (∀ g : Fin 8, dueAction s k 2 = some a → a.tgt.toNat * 4 = 0x3010 + 0x40 * g.val → a.owner < 6 →
      ownerAt s (Adr.gpioCfg g) = a.owner →
      Completes (.legWrite k) s (fun s' => fires s' [Adr.gpioOut g]
        ∧ s'.rd (Adr.gpioOut g) = (a.arg0.setWidth 16).setWidth 64))
    ∧ (∀ (n : Fin 64) (o : TriadId), dueAction s k 1 = some a → a.tgt.toNat * 4 = 0x80 * n.val + 0x1C → a.owner = o.val →
      ownerAt s (Adr.tmrCfg n) = o.val → bitOf (s.rd (Adr.tmrCfg n)) 6 = false →
      let v : BitVec 48 := a.arg0.setWidth 16 ++ s.legacy.latchW[0][latchIx (.tense o)]
      Completes (.tmrWrite k) s (fun s' => fires s' []
        ∧ s'.legacy.timers[n] = { s.legacy.timers[n] with topW := v, top := v }
        ∧ ∀ m : Fin 64, m ≠ n → s'.legacy.timers[m] = s.legacy.timers[m]))

/-- R420, R422, R424, R428, R430: a table whose checks hold runs from its first possible cycle; it stops at once where no
element waits; the instance of a cycle, in the order of the tables and behind the instances of the cycle before, names it
and arms an element at its time; an output region that fits takes EN,
one that does not is refused; only the region's owner writes its RDY. -/
def Clause.CycleTables : Prop :=
  ∀ (s : State) (j : Fin 64),
    let ctl := s.rd (Adr.tnsCycCtl j)
    (∀ v : BitVec 32, s.clean (0x1100000 + 0x2000 * j.val) → bitOf ctl 31 = false → bitOf ctl 29 = false → v.toNat % 2048 ≤ 1024 →
      500000 ≤ cycPeriod s j → cycPeriod s j ≤ 16000000000 → (∀ e ∈ readList s j (v.toNat % 2048), elemOk s j e = true) →
      Completes (.tableStart j v) s (fun s' => tabRuns s' j = true ∧ bitOf (s'.rd (Adr.tnsCycCtl j)) 16 = true
        ∧ s'.tense.nextN[j] = firstCycle s j ∧ s'.tense.owned[j] = (readList s j (v.toNat % 2048)).map elemEntry
        ∧ s'.mem = s.mem ∧ s'.triads = s.triads))
    ∧ (∀ v : BitVec 32, bitOf ctl 31 = false → bitOf ctl 29 = true →
      Completes (.tableStop j v) s (fun s' => bitOf (s'.rd (Adr.tnsCycCtl j)) 16 = false ∧ tabRuns s' j = tabPending s j
        ∧ SameRegs s s' [Adr.tnsCycCtl j] ∧ s'.tense.armed = s.tense.armed ∧ s'.mem = s.mem ∧ s'.triads = s.triads))
    ∧ (∀ (a : Armed) (e : Nat), bitOf ctl 29 = true → bitOf ctl 16 = true → cycCount s j = 1 →
      readList s j 1 = [e] → s.clean (entryAddr (elemEntry e)) →
      let n := s.tense.nextN[j]
      let at_ := cycleStart s j n + BitVec.ofNat 64 (elemOffset e)
      atOrAfter (now s) (cycleStart s j n - 32000) = true →
      allTables.any (fun i => instDue s i && instFirst s i j) = false → instanceDue s j = false →
      parseEntry (rdBytes s (entryAddr (elemEntry e)) 32) (elemEntry e) = some a → a.owner = cycOwner s j →
      elemOk s j e = true → (16000 : Int) ≤ (at_ - instStart s j).toInt →
      Completes (.instantiation j) s (fun s' => s'.tense.nextN[j] = n + 1
        ∧ s'.rd (Adr.tnsCycNum j) = BitVec.ofNat 64 n ∧ SameRegs s s' [Adr.tnsCycNum j] ∧ s'.mem = s.mem
        ∧ s'.triads = s.triads
        ∧ s'.tense.armed = (s.tense.armed.filter fun b => decide (b.idx ≠ elemEntry e ∨ b.dispatched = true))
            ++ [{ a with time := at_, cyc := some (j.val, n) }]))
    ∧ (∀ (r : Fin 8) (v : Word), bitOf (s.rd (Adr.tnsOrCfg r)) 63 = false → field v 50 48 ≤ 5 → field v 29 16 ≤ 8192 →
      Completes (.regionEnable r v) s (fun s' =>
        bitOf (s'.rd (Adr.tnsOrCfg r)) 62 = regionFits s r v
        ∧ field (s'.rd (Adr.tnsOrCfg r)) 12 0 = field v 12 0 ∧ field (s'.rd (Adr.tnsOrCfg r)) 29 16 = field v 29 16
        ∧ bitOf (s'.rd Adr.tnsStat) 4 = (bitOf (s.rd Adr.tnsStat) 4 || !regionFits s r v)
        ∧ SameRegs s s' [Adr.tnsOrCfg r, Adr.tnsStat] ∧ s' = { s with regs := s'.regs }))
    ∧ (∀ (w : TriadId) (r : Fin 8) (v : BitVec 32),
      (regOwner s r = w.val → exec (.tnsOrrRdy w r v) s = .next (s.wr (Adr.tnsOrRdy r) (v.setWidth 64)))
      ∧ (regOwner s r ≠ w.val → exec (.tnsOrrRdy w r v) s = .next s))

/-- R427, R429: an input flip of the bound table toggles READ and shows its cycle; an output flip gives every region of
its table whose owner has committed that cycle the other buffer, and leaves the other regions alone. -/
def Clause.ImagesFlip : Prop :=
  ∀ (s : State) (k : BitVec 14) (a : Armed) (j : Fin 64) (n : Nat), dueAction s k 5 = some a → a.cyc = some (j.val, n) →
    bitOf (s.rd (Adr.tnsCycCtl j)) 16 = true →
    (a.tgt = 0 → (∀ b : Fin 12, s.sram.collided[b] = none) → bitOf (s.rd Adr.tnsIcfg) 16 = true → field (s.rd Adr.tnsIcfg) 5 0 = j.val →
      Completes (.inputFlip k) s (fun s' => bitOf (s'.rd Adr.tnsIstat) 63 = !bitOf (s.rd Adr.tnsIstat) 63
        ∧ field (s'.rd Adr.tnsIstat) 31 0 = n % 2 ^ 32 ∧ s'.net.accepted = []
        ∧ s'.tense.armed = s.tense.armed.erase a ∧ s'.triads = s.triads))
    ∧ (a.tgt = 1 → s.clean (entryAddr a.idx) → a.idx < 2 ^ 14 →
      let bound (r : Fin 8) : Prop :=
        bitOf (s.rd (Adr.tnsOrCfg r)) 62 = true ∧ field (s.rd (Adr.tnsOrCfg r)) 45 40 = j.val
      (∀ r, bound r → field (s.rd (Adr.tnsOrRdy r)) 31 0 = n % 2 ^ 32) →
      Completes (.outputFlip k) s (fun s' =>
        (∀ r, bound r → bitOf (s'.rd (Adr.tnsOrStat r)) 63 = !bitOf (s.rd (Adr.tnsOrStat r)) 63
          ∧ bitOf (s'.rd (Adr.tnsOrStat r)) 62 = false ∧ field (s'.rd (Adr.tnsOrStat r)) 47 40 = 0
          ∧ field (s'.rd (Adr.tnsOrStat r)) 31 0 = n % 2 ^ 32)
        ∧ (∀ r, ¬ bound r → s'.rd (Adr.tnsOrStat r) = s.rd (Adr.tnsOrStat r))
        ∧ Stored s s' (entryAddr a.idx + 28) 4 ((if a.isLate then 3 else 1) + n % 2 ^ 24 * 256)
        ∧ s'.tense.armed = s.tense.armed.erase a ∧ s'.triads = s.triads))

/-! ### The field network (R436 to R483) -/

/-- R437, R438, R443, R454, R455, R458: a cyclic frame that is built is queued at its launch, STATUS of its slot cleared to
the cycle; a frame in staging becomes built; on an idle port without a schedule the head of the highest queue starts, a
gPTP message before it, and with none of them the frame that was cut goes on; a busy port starts nothing but at a
preemption point, where a gPTP message cuts the frame. The points are the model's reading of IEEE 802.3br (log 20). -/
def Clause.FramesLeave : Prop :=
  ∀ (s : State) (k : BitVec 14) (a : Armed) (p q : Fin 8) (b : Built) (f : Frame) (l : List Frame),
    let x := s.net.ports[p]
    let elsewhere (s' : State) : Prop := (∀ o : Fin 8, o ≠ p → s'.net.ports[o] = s.net.ports[o]) ∧ s'.triads = s.triads
    (dueAction s k 4 = some a → a.cyc = none → s.clean (entryAddr a.idx) → a.idx < 2 ^ 14 → s.clean (slotAddr b.slot) →
      b.slot < 4096 → b.port = p → b.queue = q → b.done = true → b.rtag = false → linkUp s p = true →
      s.net.staging.find? (fun c => decide (c.slot = field a.arg0 15 0 ∧ c.time = a.time ∧ c.launched = false)) = some b →
      (∀ o : Fin 8, slotWaits s b.slot o = false) →
      Completes (.frameLaunch k) s (fun s' => elsewhere s'
        ∧ s'.net.ports[p].queues[q] = x.queues[q] ++ [⟨.cyclic b.slot b.cyc 0, untagged s p b⟩]
        ∧ (bitOf (s.rd (Adr.netPCfg p)) 26 = false → untagged s p b = b.octets)
        ∧ (∀ r : Fin 8, r ≠ q → s'.net.ports[p].queues[r] = x.queues[r]) ∧ s'.net.staging = s.net.staging.erase b
        ∧ s'.tense.armed = s.tense.armed.erase a ∧ rdMem s' (slotAddr b.slot + 28) 4 = b.cyc % 2 ^ 24 * 256))
    ∧ (∀ slot : BitVec 12, s.net.staging.find? (fun c => decide (c.slot = slot.toNat ∧ c.done = false)) = some b →
      b.launched = false → exec (.frameBuild slot) s = .next { s with net := { s.net with
        staging := s.net.staging.map fun c => if c = b then { c with done := true } else c } })
    ∧ (linkUp s p = true →
      let starts (y : Port) : Prop := Completes (.frameTransmissionStart p q) s (fun s' =>
        elsewhere s' ∧ s'.regs = s.regs ∧ s'.mem = s.mem ∧ s'.net.ports[p] = y)
      (x.sending = none →
        (x.gptp = [] → gateEnabled s p = false → x.cut = none → x.queues[q] = f :: l →
          (∀ r : Fin 8, q < r → x.queues[r] = []) →
          starts { x with sending := some f, queues := x.queues.set q.val l, txQueue := q.val, txSent := 0, txAt := now s })
        ∧ (x.gptp = f :: l → f.kind = .gptp .plain →
          starts { x with sending := some f, gptp := l, txQueue := 8, txSent := 0, txAt := now s })
        ∧ (∀ m, x.gptp = f :: l → f.kind = .gptp (.follow m) →
          ∃ g : Frame, g.kind = .gptp .plain
            ∧ starts { x with sending := some f, gptp := l ++ [g], txQueue := 8, txSent := 0, txAt := now s })
        ∧ (∀ k n, x.gptp = [] → gateEnabled s p = false → x.cut = some (k, n, f) → (∀ r : Fin 8, x.queues[r] = []) →
          starts { x with sending := some f, cut := none, txQueue := k, txSent := n, txAt := now s }))
      ∧ ∀ g, x.sending = some g →
        (atCut s p = false → exec (.frameTransmissionStart p q) s = .next s)
        ∧ (atCut s p = true → x.gptp = f :: l → f.kind = .gptp .plain →
          starts { x with sending := some f, cut := some (x.txQueue, octetsSent s p, g), gptp := l, txQueue := 8, txSent := 0,
                          txAt := now s }))

/-- R453, R468, R480: a cyclic frame that has left counts in CYCTX and shows its cycle and SENT in its slot, beside the
flags it has, which the launch's other copies keep; an acyclic one
counts in ADONE and pulses E0528 + p; a valid write of NET_Pp_ATX puts the frame it names, addresses unchanged, at the
end of its queue. -/
def Clause.FramesSent : Prop :=
  ∀ (s : State) (p : Fin 8) (o : List Byte),
    let x := s.net.ports[p]
    let elsewhere (s' : State) : Prop := (∀ r : Fin 8, r ≠ p → s'.net.ports[r] = s.net.ports[r]) ∧ s'.triads = s.triads
    (∀ slot cyc flags, x.sending = some ⟨.cyclic slot cyc flags, o⟩ → slot < 4096 → flags < 256 → s.clean (slotAddr slot) →
      Completes (.frameSent p) s (fun s' => s'.triads = s.triads
        ∧ (∀ r : Fin 8, s'.net.ports[r] = (if r = p then { x with sending := none } else s.net.ports[r]).marked slot cyc 1)
        ∧ field (s'.rd (Adr.netPCnt p)) 31 0 = (field (s.rd (Adr.netPCnt p)) 31 0 + 1) % 2 ^ 32
        ∧ SameRegs s s' [Adr.netPCnt p]
        ∧ rdMem s' (slotAddr slot + 24) 4 = cyc % 2 ^ 32 ∧ rdMem s' (slotAddr slot + 28) 4 = (flags ||| 1) + cyc % 2 ^ 24 * 256))
    ∧ (x.sending = some ⟨.acyclic, o⟩ →
      Completes (.frameSent p) s (fun s' => elsewhere s' ∧ s'.net.ports[p] = { x with sending := none }
        ∧ field (s'.rd (Adr.netPStat p)) 15 0 = (field (s.rd (Adr.netPStat p)) 15 0 + 1) % 2 ^ 16
        ∧ Pulsed s s' (528 + p.val) ∧ SameRegs s s' (Adr.netPStat p :: eventRegs (528 + p.val)) ∧ s'.mem = s.mem))
    ∧ (∀ v : Word, let a := field v 23 0
      let n := field v 42 32
      let q : Fin 8 := ⟨field v 62 60 % 8, Nat.mod_lt _ (by decide)⟩
      0xC00000 ≤ a → a + n ≤ 0x1000000 → a % 8 = 0 → 60 ≤ n → n ≤ 1518 → acyclicWaiting s p < 16 → s.clean a →
      s.clean (a + n - 1) →
      Completes (.netPpAtx p v) s (fun s' => elsewhere s' ∧ s'.mem = s.mem ∧ s'.regs = s.regs
        ∧ (∃ f : Frame, f.kind = .acyclic ∧ s'.net.ports[p].queues[q] = x.queues[q] ++ [f] ∧ f.octets.take 12 = rdBytes s a 12)
        ∧ ∀ r : Fin 8, r ≠ q → s'.net.ports[p].queues[r] = x.queues[r]))

/-- R437, R438, R440, R481, R483: a frame with a bad FCS counts as an error; a frame for the device's own address that is
not cyclic enters the receive ring with its time and length; an untagged frame for an unknown address goes to every
other port with link; its source is learned. No port takes a jumbo frame (log 5). -/
def Obligations.FramesArrive : Prop :=
  ∀ (s : State) (p : Fin 8) (rx : Word) (o : List Byte), linkUp s p = true → 60 ≤ o.length →
    (∀ ok, frameFits o = false → exec (.frameReception p rx o ok) s = .next s)
    ∧ (frameFits o = true → let c := field (s.rd (Adr.netPCnt p)) 63 48
     Completes (.frameReception p rx o false) s (fun s' =>
       field (s'.rd (Adr.netPCnt p)) 63 48 = satSucc c 0xFFFF ∧ s' = { s with regs := s'.regs }))
    ∧ (frameFits o = true → beAt o 12 2 ∉ [0x8100, 0x88F7, 0xF1C1, field (s.rd Adr.netCtl) 15 0] → beAt o 6 6 / 2 ^ 40 % 2 = 0 →
      let vid := field (s.rd (Adr.netPCfg p)) 23 12
      let learned : FdbEntry := ⟨BitVec.ofNat 48 (beAt o 6 6), BitVec.ofNat 12 vid, p⟩
      s.net.fdb.length < 4096 →
      (beAt o 0 6 = netMac s →
        let arx := s.rd (Adr.netPArx p)
        let head := field (s.rd (Adr.netPArxp p)) 23 16
        let a := field arx 23 11 * 2048 + head * 2048
        bitOf arx 30 = true → 2 ≤ field arx 7 0 →
        (head + 1) % field arx 7 0 ≠ field (s.rd (Adr.netPArxp p)) 7 0 % field arx 7 0 →
        0xC00000 ≤ a → a + 2048 ≤ 0x1000000 → s.clean a → o.length ≤ 2032 →
        Completes (.frameReception p rx o true) s (fun s' =>
          learned ∈ s'.net.fdb ∧ s'.net.ports = s.net.ports ∧ s'.triads = s.triads
          ∧ rdMem s' a 8 = rx.toNat ∧ rdMem s' (a + 8) 2 = o.length ∧ rdBytes s' (a + 16) o.length = o
          ∧ (∀ y, (y < a ∨ a + 16 + o.length ≤ y) → rdByte s' y = rdByte s y)
          ∧ field (s'.rd (Adr.netPArxp p)) 23 16 = (head + 1) % field arx 7 0 ∧ Pulsed s s' (520 + p.val)))
      ∧ (beAt o 0 6 ≠ netMac s → beAt o 0 6 / 2 ^ 40 % 2 = 0 → (∀ e ∈ s.net.fdb, e.mac.toNat ≠ beAt o 0 6) →
        beAt o 0 6 ≠ beAt o 6 6 →
        Completes (.frameReception p rx o true) s (fun s' =>
          learned ∈ s'.net.fdb ∧ s'.triads = s.triads ∧ s'.mem = s.mem ∧ s'.regs = s.regs
          ∧ s'.net.ports[p] = s.net.ports[p]
          ∧ ∀ r : Fin 8, r ≠ p →
            (linkUp s r = false → s'.net.ports[r] = s.net.ports[r])
            ∧ (linkUp s r = true → ∃ f : Frame, f.kind = .bridged ∧ f.octets.take 12 = o.take 12
              ∧ s'.net.ports[r] = { s.net.ports[r] with queues := s.net.ports[r].queues.set 0 (s.net.ports[r].queues[0] ++ [f]) }))))

/-- R443, R446, R447, R437, R469, R482, R483: at a cycle start a running gate schedule takes its list afresh and entry 0
sets the gates, at an interval's end the next entry does; GEN with a list that passes the checks starts, one that fails
is refused; a grandmaster sends Sync and its follow-up, a gPTP port its Pdelay_Req; a link change shows and pulses
E0512 + p; ageing and history resets remove their entry alone. -/
def Obligations.PortsServe : Prop :=
  ∀ (s : State) (p : Fin 8),
    let x := s.net.ports[p]
    let only (s' : State) : Prop := (∀ r : Fin 8, r ≠ p → s'.net.ports[r] = s.net.ports[r]) ∧ s'.mem = s.mem ∧ s'.triads = s.triads
    (modeOf s ≠ 5 → atCut s p = false → ∀ e l, gateRuns s p = true → gclOf s p = e :: l →
      Completes (.gateScheduleRestart p) s (fun s' => only s' ∧ s'.regs = s.regs
        ∧ s'.net.ports[p] = { x with gcl := e :: l, gclPos := 0, cycStart := now s, gates := e.extractLsb' 56 8 }))
    ∧ (modeOf s ≠ 5 → ∀ e, gateRuns s p = true → x.gcl[x.gclPos + 1]? = some e →
      let y : Port := { x with gclPos := x.gclPos + 1, gates := e.extractLsb' 56 8 }
      Completes (.gateIntervalEnd p) s (fun s' => only s' ∧ s'.regs = s.regs
        ∧ (atCut s p = false → s'.net.ports[p] = y)
        ∧ ∀ f, atCut s p = true → x.sending = some f → s'.net.ports[p] =
          if (e.extractLsb' 56 8).getLsbD x.txQueue then y
          else { y with sending := none, cut := some (x.txQueue, octetsSent s p, f) }))
    ∧ (∀ v : BitVec 32, let t := s.sw32 (Adr.netPGcfg p) (v ||| 0x10000000)
      bitOf (s.rd (Adr.netPGcfg p)) 31 = false →
      Completes (.gateEnable p v) s (fun s' => only s' ∧ s'.net.ports[p] = { x with gateOk := gateChecks t p }
        ∧ SameRegs s s' [Adr.netPGcfg p] ∧ bitOf (s'.rd (Adr.netPGcfg p)) 28 = gateChecks t p
        ∧ (gateChecks t p = false → bitOf (s'.rd (Adr.netPGcfg p)) 30 = true)
        ∧ field (s'.rd (Adr.netPGcfg p)) 27 22 = field (v.setWidth 64) 27 22))
    ∧ (let sends (d : Fin 2) : Bool := isGrandmaster s d && (masterPorts s d).contains p
      (∀ d : Fin 2,
        (sends d = false → exec (.syncTransmission p d) s = .next s)
        ∧ (sends d = true → Completes (.syncTransmission p d) s (fun s' => only s' ∧ s'.regs = s.regs ∧ ∃ f m,
          f.kind = .gptp (.follow m) ∧ f.octets.take 12 = bytesBE 6 gptpAddr ++ bytesBE 6 (netMac s)
          ∧ s'.net.ports[p] =
            { x with gptp := x.gptp ++ [f], syncSeq := x.syncSeq.set d.val (x.syncSeq[d] + 1) d.isLt })))
      ∧ (linkUp s p = true → (gptpOn s 0 p = true ∨ gptpOn s 1 p = true) →
        Completes (.pdelayReq p) s (fun s' => only s' ∧ SameRegs s s' (eventRegs 550)
          ∧ (∀ d : Fin 2, s'.net.grandmaster[d] = grandmasterId s d)
          ∧ s'.net.ports[p].queues = x.queues ∧ s'.net.ports[p].sending = x.sending
          ∧ s'.net.ports[p].peer = { x.peer with seq := x.peer.seq + 1, t1 := none, resp := none }
          ∧ ∃ f l, f.kind = .gptp .req ∧ (∀ g ∈ l, g.kind = .gptp .plain)
            ∧ l.length = ((List.finRange 2).filter sends).length ∧ s'.net.ports[p].gptp = x.gptp ++ f :: l)))
    ∧ (∀ speed : BitVec 3, bitOf (s.rd (Adr.netPStat p)) 31 = false →
      (bitOf (s.rd (Adr.netPCfg p)) 30 = true → serdesUp s = true →
        Completes (.linkChange p true speed) s (fun s' => only s' ∧ s'.net.ports[p] = x ∧ linkUp s' p = true
          ∧ field (s'.rd (Adr.netPStat p)) 30 28 = linkSpeed s p speed.toNat ∧ Pulsed s s' (512 + p.val)
          ∧ SameRegs s s' (Adr.netPStat p :: eventRegs (512 + p.val) ++ eventRegs 550)))
      ∧ (bitOf (s.rd (Adr.netPCfg p)) 30 = false ∨ serdesUp s = false → exec (.linkChange p true speed) s = .next s))
    ∧ (∀ speed : BitVec 3, linkUp s p = true → ringOn s p = false → x.cut = none →
      ((∀ f, x.sending = some f → f.kind = .bridged) →
        Completes (.linkChange p false speed) s (fun s' => only s'
          ∧ s'.net.ports[p] = { x with sending := none, peer := Port.reset.peer }
          ∧ linkUp s' p = false ∧ Pulsed s s' (512 + p.val)
          ∧ SameRegs s s' (Adr.netPStat p :: eventRegs (512 + p.val) ++ eventRegs 550)))
      ∧ ∀ slot cyc flags o, x.sending = some ⟨.cyclic slot cyc flags, o⟩ → slot < 4096 → flags < 256 → s.clean (slotAddr slot) →
        Completes (.linkChange p false speed) s (fun s' => s'.net.ports[p].sending = none
          ∧ rdMem s' (slotAddr slot + 28) 4 = (flags ||| 16) + cyc % 2 ^ 24 * 256 ∧ s'.triads = s.triads))
    ∧ (∀ (mac : BitVec 48) (vid : BitVec 12), Completes (.fdbAgeing mac vid) s (fun s' =>
        (∀ e, e ∈ s'.net.fdb ↔ e ∈ s.net.fdb ∧ ¬ (e.mac = mac ∧ e.vid = vid)) ∧ s' = { s with net := { s.net with fdb := s'.net.fdb } }))
    ∧ (∀ (q : Fin 4) (src : BitVec 48) (vid : BitVec 12), Completes (.streamHistoryReset q src vid) s (fun s' =>
        (∀ e, e ∈ s'.net.streams ↔ e ∈ s.net.streams ∧ ¬ (e.pair = q ∧ e.src = src ∧ e.vid = vid))
        ∧ s' = { s with net := { s.net with streams := s'.net.streams } }))

/-- R473, R477 to R479: LK copies the enabled connections' entries once, and a consumer that can never leave FAILSAFE sets
SFAIL; a consumer WDOG us after LASTT enters FAILSAFE
with zero data; NET_SACK ends a FAILSAFE once a container has been accepted since; a comparison fault of the safe
channel stops producers and fails consumers for good. -/
def Obligations.SafeConnections : Prop :=
  ∀ (s : State) (c : Fin 1024) (x : SafeConn),
    (bitOf (s.rd Adr.netSclk) 0 = false → s.clean (connAddr 0) → s.clean 0x1000000 → modeOf s ≠ 5 →
      let cs := (connsOn s).filterMap fun n => parseConn n (rdBytes s (connAddr n) 32)
      Completes .netSclkLk s (fun s' => bitOf (s'.rd Adr.netSclk) 0 = true
        ∧ s'.net.conns = (if bitOf (s.rd Adr.netSclk) 31 then cs.map SafeConn.stopped else cs)
        ∧ (∀ a, (a < 0x1000000 ∨ 0x1100000 ≤ a) → rdByte s' a = rdByte s a) ∧ s'.triads = s.triads
        ∧ ((∀ y ∈ cs, y.never = false) → SameRegs s s' [Adr.netSclk])
        ∧ ((∃ y ∈ cs, y.never = true ∧ y.fits (devEntry s y.dev).inLen = true) → bitOf (s'.rd Adr.netStat) 5 = true)))
    ∧ (s.net.conns.find? (fun y => decide (y.num = c.val)) = some x → x.num = c.val →
      (x.produce = false → x.never = false → x.accepted = true → modeOf s ≠ 5 → (∀ b : Fin 12, s.sram.collided[b] = none) →
        x.fits (devEntry s x.dev).inLen = true → atOrAfter (now s) (x.lastT + BitVec.ofNat 64 (x.wdog.toNat * 16000)) = true →
        Completes (.safeWatchdogExpiry c) s (fun s' => s'.triads = s.triads
          ∧ s'.net.conns = s.net.conns.map fun y => if y.num = c.val then
              { x with failsafe := true, wdogFail := true, freshOk := false, lastC := zeroData x } else y))
      ∧ (x.never = false → x.produce = false → x.wdogFail = true → (∀ y ∈ s.net.conns, y.num = c.val → y = x) →
        exec (.netSack c) s = .next { s with net := { s.net with conns := s.net.conns.map fun y =>
          if y.num = c.val then { x with wdogFail := false, failsafe := if x.freshOk then false else x.failsafe } else y } }))
    ∧ (bitOf (s.rd Adr.netSclk) 31 = false → modeOf s ≠ 5 → s.clean (connAddr 0) → s.clean 0x1000000 →
      Completes .safeChannelComparisonFault s (fun s' => bitOf (s'.rd Adr.netSclk) 31 = true ∧ s'.triads = s.triads
        ∧ (∀ a, (a < 0x1000000 ∨ 0x1400000 ≤ a) → rdByte s' a = rdByte s a)
        ∧ s'.net.conns = s.net.conns.map SafeConn.stopped
        ∧ ∀ y ∈ s'.net.conns, if y.produce then y.enabled = false else y.failsafe = true ∧ y.never = true))

/-! ### The legacy edge (R546 to R572, R732) -/

/-- R549 to R553: a TIMER step, which comes no sooner than PRESC + 1 cycles after the last one, adds one and, at TOP, wraps to 0 and pulses the wrap event; a compare that is met
pulses its match event; QUAD counts up along the states (A, B) 00, 10, 11, 01 and down against them; a rising index edge
with ZCLR clears the count. Nothing but the channel and the events named changes. -/
def Clause.TimersCount : Prop :=
  ∀ (s : State) (n : Fin 64), modeOf s ≠ 5 →
    let x := s.legacy.timers[n]
    let only (s' : State) (l : List Nat) : Prop :=
      (∀ m : Fin 64, m ≠ n → s'.legacy.timers[m] = s.legacy.timers[m]) ∧ SameRegs s s' l
      ∧ s' = { s with regs := s'.regs, legacy := { s.legacy with timers := s'.legacy.timers } }
    (bitOf (s.rd (Adr.tmrCtl n)) 0 = true →
      (tmrMode s n = 1 → field (s.rd (Adr.tmrCfg n)) 15 8 + 1 ≤ x.presc →
        let left := x.presc - (field (s.rd (Adr.tmrCfg n)) 15 8 + 1)
        (x.cnt.toNat < x.top.toNat → x.cmp0 ≠ x.cnt + 1 → x.cmp1 ≠ x.cnt + 1 →
          Completes (.countStep n) s (fun s' => only s' [] ∧ s'.legacy.timers[n] = { x with cnt := x.cnt + 1, dir := true, presc := left }))
        ∧ (x.cnt.toNat < x.top.toNat → x.cmp0 = x.cnt + 1 → x.cmp1 ≠ x.cnt + 1 → tmrDrives s n (bitOf (s.rd (Adr.tmrPincfg n)) 4) = false →
          Completes (.countStep n) s (fun s' => only s' (eventRegs (4 * n.val)) ∧ Pulsed s s' (4 * n.val)
            ∧ s'.legacy.timers[n] = { x with cnt := x.cnt + 1, dir := true, presc := left }))
        ∧ (x.top.toNat ≤ x.cnt.toNat → x.cmp0 ≠ 0 → x.cmp1 ≠ 0 → bitOf (s.rd (Adr.tmrCfg n)) 6 = false →
          Completes (.countStep n) s (fun s' => only s' (eventRegs (4 * n.val + 3)) ∧ Pulsed s s' (4 * n.val + 3)
            ∧ s'.legacy.timers[n] = { x with cnt := 0, dir := true, presc := left })))
      ∧ (tmrMode s n = 2 →
        ((x.last, tmrCounted s n) ∈ [((0 : BitVec 2), (1 : BitVec 2)), (1, 3), (3, 2), (2, 0)] → x.cnt.toNat < x.top.toNat →
          x.cmp0 ≠ x.cnt + 1 → x.cmp1 ≠ x.cnt + 1 →
          Completes (.countStep n) s (fun s' => only s' [] ∧ s'.legacy.timers[n] =
            { x with cnt := x.cnt + 1, dir := true, last := tmrCounted s n }))
        ∧ ((tmrCounted s n, x.last) ∈ [((0 : BitVec 2), (1 : BitVec 2)), (1, 3), (3, 2), (2, 0)] → x.cnt ≠ 0 →
          x.cmp0 ≠ x.cnt - 1 → x.cmp1 ≠ x.cnt - 1 →
          Completes (.countStep n) s (fun s' => only s' [] ∧ s'.legacy.timers[n] =
            { x with cnt := x.cnt - 1, dir := false, last := tmrCounted s n }))))
    ∧ (tmrMode s n = 2 → bitOf (s.rd (Adr.tmrCfg n)) 7 = true → s.legacy.gpioIn.getLsbD (indexPin s n) = true →
      Completes (.indexClear n) s (fun s' => only s' [] ∧ s'.legacy.timers[n] = { x with cnt := 0, last := tmrLevels s n }))

/-- R546, R547, R553, R554, R557, R732: the owner's writes: EN starts a channel from its present count with its initial
pin levels or stops it with its pins kept, FORCE0 acts as a match, a new mode restarts the prescaler, a GO starts the
group's members at once or after their share of STEP, and a member whose time has come starts. -/
def Clause.ChannelsStart : Prop :=
  ∀ (s : State) (q : Requester) (n : Fin 64), ownedBy s q (Adr.tmrCfg n) = true →
    let x := s.legacy.timers[n]
    let ctl := s.rd (Adr.tmrCtl n)
    let others (s' : State) : Prop :=
      (∀ m : Fin 64, m ≠ n → s'.legacy.timers[m] = s.legacy.timers[m]) ∧ s'.mem = s.mem ∧ s'.triads = s.triads
    let started : Timer := { x with
      presc := 0, last := tmrLevels s n, startDue := none
      outA := if tmrDrives s n false && !safeTmrAt s (Adr.tmrCfg n) then bitOf (s.rd (Adr.tmrPincfg n)) 9 else x.outA
      outB := if tmrDrives s n true && !safeTmrAt s (Adr.tmrCfg n) then bitOf (s.rd (Adr.tmrPincfg n)) 8 else x.outB }
    (∀ v : BitVec 32, v.getLsbD 2 = false → v.getLsbD 3 = false → bitOf ctl 1 = false →
      (bitOf ctl 0 = false → Completes (.channelStart q n v) s (fun s' => others s' ∧ SameRegs s s' [Adr.tmrCtl n]
        ∧ bitOf (s'.rd (Adr.tmrCtl n)) 0 = true ∧ bitOf (s'.rd (Adr.tmrCtl n)) 1 = v.getLsbD 1 ∧ s'.legacy.timers[n] = started))
      ∧ Completes (.channelStop q n v) s (fun s' => others s' ∧ SameRegs s s' [Adr.tmrCtl n]
        ∧ bitOf (s'.rd (Adr.tmrCtl n)) 0 = false ∧ bitOf (s'.rd (Adr.tmrCtl n)) 1 = v.getLsbD 1 ∧ s'.legacy.timers[n] = x))
    ∧ (∀ v : BitVec 32, v.getLsbD 2 = true → v.getLsbD 3 = false → v.getLsbD 0 = bitOf ctl 0 →
      bitOf (s.rd (Adr.tmrPincfg n)) 4 = false → tmrDrives s n false = true → safeTmrAt s (Adr.tmrCfg n) = false →
      Completes (.force q n v) s (fun s' => others s' ∧ Pulsed s s' (4 * n.val)
        ∧ SameRegs s s' (Adr.tmrCtl n :: eventRegs (4 * n.val))
        ∧ s'.legacy.timers[n] = { x with outA := match field (s.rd (Adr.tmrPincfg n)) 1 0 with
            | 1 => true | 2 => false | 3 => !x.outA | _ => x.outA }))
    ∧ (∀ v : BitVec 32, bitOf (s.rd (Adr.tmrCfg n)) 31 = false → field (v.setWidth 64) 22 20 ≤ 4 → tmrMode s n ≠ field (v.setWidth 64) 22 20 →
      Completes (.tmrChnCfg q n false v) s (fun s' => others s' ∧ SameRegs s s' [Adr.tmrCfg n]
        ∧ tmrMode s' n = field (v.setWidth 64) 22 20 ∧ s'.legacy.timers[n].presc = 0 ∧ s'.legacy.timers[n].cnt = x.cnt))
    ∧ (∀ g : Fin 8, n.val / 8 = g.val → inMask s g n = true → (∀ m, m.val / 8 = g.val → inMask s g m = true → m = n) →
      bitOf ctl 1 = true →
      Completes (.groupStart q g) s (fun s' => Pulsed s s' (304 + g.val) ∧ s'.mem = s.mem ∧ s'.triads = s.triads
        ∧ (∀ m : Fin 64, m.val / 8 ≠ g.val → s'.legacy.timers[m] = s.legacy.timers[m])
        ∧ if n.val % 8 * field (s.rd (Adr.tmrGrpCfg g)) 7 0 = 0
          then bitOf (s'.rd (Adr.tmrCtl n)) 0 = true ∧ s'.legacy.timers[n] = started
          else s'.rd (Adr.tmrCtl n) = ctl ∧ s'.legacy.timers[n] = { x with startDue := some (n.val % 8 * field (s.rd (Adr.tmrGrpCfg g)) 7 0) }))
    ∧ (x.startDue = some 0 → modeOf s ≠ 5 → Completes (.staggeredStart n) s (fun s' => others s' ∧ SameRegs s s' [Adr.tmrCtl n]
        ∧ bitOf (s'.rd (Adr.tmrCtl n)) 0 = true ∧ s'.legacy.timers[n] = started))

/-- R547, R548, R562: the owner's pop takes the oldest capture or timestamp entry, a read of UART_u_RXD the oldest
character, and returns it, 0 from an empty FIFO; a read of a _LO half returns it and latches the other half; a write of
_LO only latches, one of _HI then writes the whole count. -/
def Clause.PopsAndHalves : Prop :=
  ∀ (s : State) (q : Requester) (n : Fin 64) (g : Fin 8) (v : BitVec 32),
    let x := s.legacy.timers[n]
    let kept (s' : State) : Prop := s'.regs = s.regs ∧ s'.mem = s.mem ∧ s'.triads = s.triads
    (ownedBy s q (Adr.tmrCfg n) = true →
      Completes (.captureFifoPop q n) s (fun s' => kept s' ∧ s'.busData = x.fifo.headD 0
        ∧ s'.legacy.timers[n] = { x with fifo := x.fifo.tail }
        ∧ ∀ m : Fin 64, m ≠ n → s'.legacy.timers[m] = s.legacy.timers[m])
      ∧ Completes (.wideLoWrite q false (BitVec.ofNat 16 (0x80 * n.val + 0x10)) v) s (fun s' => kept s'
        ∧ s'.legacy.latchW[0][latchIx q] = v ∧ s'.legacy.timers = s.legacy.timers)
      ∧ Completes (.wideHiWrite q false (BitVec.ofNat 16 (0x80 * n.val + 0x14)) v) s (fun s' => kept s'
        ∧ s'.legacy.timers[n] = { x with cnt := v.setWidth 16 ++ s.legacy.latchW[0][latchIx q] }
        ∧ ∀ m : Fin 64, m ≠ n → s'.legacy.timers[m] = s.legacy.timers[m]))
    ∧ (ownedBy s q (Adr.gpioCfg g) = true →
      Completes (.timestampFifoPop q g) s (fun s' => kept s' ∧ s'.busData = s.legacy.gpio[g].fifo.headD 0
        ∧ s'.legacy.gpio[g] = { s.legacy.gpio[g] with fifo := s.legacy.gpio[g].fifo.tail }
        ∧ ∀ m : Fin 8, m ≠ g → s'.legacy.gpio[m] = s.legacy.gpio[m]))
    ∧ Completes (.uartRxd q g) s (fun s' => kept s' ∧ s'.busData = (s.legacy.uart[g].rx.headD 0).setWidth 64
        ∧ s'.legacy.uart[g] = { s.legacy.uart[g] with rx := s.legacy.uart[g].rx.tail }
        ∧ ∀ m : Fin 8, m ≠ g → s'.legacy.uart[m] = s.legacy.uart[m])
    ∧ Completes (.wideLoRead q false (BitVec.ofNat 16 (0x80 * n.val + 0x10))) s (fun s' => kept s'
        ∧ s'.busData = (x.cnt.setWidth 32).setWidth 64 ∧ s'.legacy.latchR[0][latchIx q] = (x.cnt >>> 32).setWidth 32
        ∧ s'.legacy.timers = s.legacy.timers)

/-- R559 to R564: SSI: a GO on an idle line starts, the end of a transfer without a second read, its bits sampled, writes POS, most
significant bit first, sets DONE and pulses; the monoflop's end clears BUSY. UART: a push starts sending at once without
TSTART, a GO with it; a sent character leaves; DE falls at the end and pulses; a received character enters its FIFO. -/
def Obligations.SerialUnits : Prop :=
  ∀ (s : State) (q : Requester) (m : Fin 16) (u : Fin 8),
    let x := s.legacy.ssi[m]
    let y := s.legacy.uart[u]
    let ucfg := s.rd (Adr.uartCfg u)
    let ssiOnly (s' : State) : Prop :=
      s' = { s with regs := s'.regs, legacy := { s.legacy with ssi := s.legacy.ssi.set m.val s'.legacy.ssi[m] } }
    let uartOnly (s' : State) : Prop :=
      s' = { s with regs := s'.regs, legacy := { s.legacy with uart := s.legacy.uart.set u.val s'.legacy.uart[u] } }
    (ownedBy s q (Adr.ssiCfg m) = true → x.busy = false → safeLegAt s (Adr.ssiCfg m) = false →
      s.legacy.ssiIn.getLsbD m.val = true →
      Completes (.ssiStart q m) s (fun s' => ssiOnly s' ∧ s'.regs = s.regs
        ∧ s'.legacy.ssi[m] = { x with transfer := true, busy := true, time := now s, age := 0, samples := [] }))
    ∧ (modeOf s ≠ 5 → ∀ l : List Bool, x.transfer = true → x.samples = l → l.length = field (s.rd (Adr.ssiCfg m)) 5 0 →
      bitOf (s.rd (Adr.ssiCfg m)) 10 = false → bitOf (s.rd (Adr.ssiCfg m)) 9 = false → bitOf (s.rd (Adr.ssiCfg m)) 8 = false →
      Completes (.ssiTransferDone m l) s (fun s' => ssiOnly s' ∧ Pulsed s s' (256 + m.val)
        ∧ SameRegs s s' (Adr.ssiStat m :: eventRegs (256 + m.val)) ∧ bitOf (s'.rd (Adr.ssiStat m)) 0 = true
        ∧ s'.legacy.ssi[m] = { x with transfer := false, pos := BitVec.ofNat 48 (l.foldl (fun a b => 2 * a + b.toNat) 0) }))
    ∧ (x.transfer = false → ssiRested s m = true → modeOf s ≠ 5 → Completes (.monoflopEnd m) s (fun s' => ssiOnly s' ∧ s'.regs = s.regs
        ∧ s'.legacy.ssi[m] = { x with busy := false }))
    ∧ (ownedBy s q (Adr.uartCfg u) = true → safeLegAt s (Adr.uartCfg u) = false →
      (∀ v : BitVec 32, y.tx.length < 64 → Completes (.uartTxd q u v) s (fun s' => uartOnly s' ∧ s'.regs = s.regs
        ∧ s'.legacy.uart[u] =
            let z := { y with tx := y.tx ++ [v.setWidth 9] }
            if bitOf ucfg 27 then z
            else if !y.busy then { z with de := true, busy := true, phase := .lead, cyc := 0 }
            else if y.phase = .hold then { z with phase := .char, cyc := 0 } else z))
      ∧ (bitOf ucfg 27 = true → y.busy = false → y.tx ≠ [] → Completes (.uartStart q u) s (fun s' => uartOnly s'
        ∧ s'.regs = s.regs ∧ s'.legacy.uart[u] = { y with de := true, busy := true, phase := .lead, cyc := 0, toSend := y.tx.length })))
    ∧ (y.busy = true → modeOf s ≠ 5 →
      (y.tx ≠ [] → (bitOf ucfg 27 = true → 0 < y.toSend) → y.phase = .char → uartChar s u ≤ y.cyc →
        let more : Bool := if bitOf ucfg 27 then decide (1 < y.toSend) && decide (1 < y.tx.length) else decide (1 < y.tx.length)
        Completes (.characterSent u) s (fun s' => uartOnly s' ∧ s'.regs = s.regs
          ∧ s'.legacy.uart[u] = { y with tx := y.tx.tail, toSend := y.toSend - 1, cyc := y.cyc - uartChar s u
                                         phase := if more then .char else .hold }))
      ∧ ((y.tx = [] ∨ (bitOf ucfg 27 = true ∧ y.toSend = 0)) → y.phase = .hold → field ucfg 20 16 * field ucfg 15 0 ≤ y.cyc → Completes (.deRelease u) s (fun s' => uartOnly s'
        ∧ Pulsed s s' (273 + 2 * u.val) ∧ SameRegs s s' (eventRegs (273 + 2 * u.val))
        ∧ s'.legacy.uart[u] = { y with de := false, busy := false, toSend := 0 })))
    ∧ (modeOf s ≠ 5 → ∀ (d : BitVec 9) (rest : List (BitVec 9 × Bool × Bool)), y.found = (d, false, false) :: rest → y.rx.length < 64 →
      y.rx.length + 1 ≠ field (s.rd (Adr.uartThr u)) 5 0 →
      Completes (.characterReceived u d false false) s (fun s' => uartOnly s' ∧ s'.regs = s.regs
        ∧ s'.legacy.uart[u] = { y with rx := y.rx ++ [BitVec.ofNat 32 (2 ^ 31 + d.toNat)], found := rest }))
    ∧ (field (s.rd (Adr.uartThr u)) 15 8 ≠ 0 → y.rx ≠ [] → modeOf s ≠ 5 → y.idleDone = false → y.rxCyc = none →
      field (s.rd (Adr.uartThr u)) 15 8 * uartChar s u + field ucfg 15 0 ≤ y.quiet → Completes (.uartIdleTimeout u) s (fun s' =>
        Pulsed s s' (272 + 2 * u.val) ∧ SameRegs s s' (eventRegs (272 + 2 * u.val)) ∧ uartOnly s' ∧ s'.legacy.uart[u] = { y with idleDone := true }))

/-- R565 to R572: sigma-delta values are clamped to 7,549,747 and act at once, or wait for their group's update; EN starts
from zero integrators; the watchdog marks the channel; the owner's GPIO writes set OUT as written, set or cleared; a
selected edge is stamped; SAFE ends for the writer's own outputs alone, outside SAFE HOLD. -/
def Clause.OutputsAndEdges : Prop :=
  ∀ (s : State) (q : Requester) (k : Fin 32) (g : Fin 8) (v : BitVec 32),
    let z := s.legacy.sdm[k]
    let clamped : BitVec 24 := BitVec.ofInt 24 (max (-7549747) (min 7549747 (v.setWidth 24).toInt))
    let old := s.rd (Adr.gpioOut g)
    let sdmOnly (s' : State) : Prop :=
      s' = { s with regs := s'.regs, legacy := { s.legacy with sdm := s.legacy.sdm.set k.val s'.legacy.sdm[k] } }
    (ownedBy s q (Adr.sdmCfg k) = true →
      Completes (.sdmVal q k v) s (fun s' => sdmOnly s' ∧ SameRegs s s' [Adr.sdmVal k]
        ∧ s'.legacy.sdm[k] = if bitOf (s.rd (Adr.sdmCfg k)) 15 then { z with held := some clamped }
            else { z with act := clamped, wdx := false, held := none, age := 0 })
      ∧ (∀ mask : BitVec 8, bitOf (s.rd (Adr.sdmCfg k)) 15 = true → mask.getLsbD (field (s.rd (Adr.sdmCfg k)) 18 16) = true →
        Completes (.sdmUpd q mask) s (fun s' => s'.mem = s.mem ∧ s'.triads = s.triads
          ∧ s'.legacy.sdm[k] = match z.held with
            | some a => { z with act := a, held := none, wdx := false, age := 0 }
            | none => z))
      ∧ (bitOf (s.rd (Adr.sdmCfg k)) 24 = false → bitOf (s.rd (Adr.sdmCfg k)) 31 = false → v.getLsbD 24 = true →
        Completes (.sdmEnable q k v) s (fun s' => sdmOnly s' ∧ SameRegs s s' [Adr.sdmCfg k]
          ∧ bitOf (s'.rd (Adr.sdmCfg k)) 24 = true ∧ s'.legacy.sdm[k] = { z with i1 := 0, i2 := 0 })))
    ∧ (field (s.rd (Adr.sdmCfg k)) 7 0 ≠ 0 → field (s.rd (Adr.sdmCfg k)) 7 0 * 2000 ≤ z.age → z.wdx = false → modeOf s ≠ 5 → live s.fcu.a = true → live s.fcu.b = true →
      Completes (.sdmWatchdog k) s (fun s' => s'.legacy.sdm[k] = { z with wdx := true }
        ∧ s'.fcu.a.active.getLsbD 168 = true ∧ s'.fcu.b.active.getLsbD 168 = true
        ∧ s'.mem = s.mem ∧ s'.triads = s.triads))
    ∧ (ownedBy s q (Adr.gpioCfg g) = true →
      exec (.gpioOut q g v) s = .next (s.wr (Adr.gpioOut g) (v.setWidth 64 &&& 0xFFFF))
      ∧ exec (.gpioSet q g v) s = .next (s.wr (Adr.gpioOut g) ((old ||| v.setWidth 64) &&& 0xFFFF))
      ∧ exec (.gpioClr q g v) s = .next (s.wr (Adr.gpioOut g) ((old &&& ~~~ v.setWidth 64) &&& 0xFFFF)))
    ∧ (modeOf s ≠ 5 → ∀ (p : Fin 128) (rise : Bool), p.val / 16 = g.val → s.legacy.gpioIn.getLsbD p.val = rise →
      bitOf (s.rd (Adr.gpioEdge g)) (if rise then p.val % 16 else 16 + p.val % 16) = true → s.legacy.gpio[g].fifo.length < 16 →
      Completes (.gpioEdge p rise) s (fun s' => Pulsed s s' (296 + g.val) ∧ SameRegs s s' (eventRegs (296 + g.val))
        ∧ s'.mem = s.mem ∧ s'.triads = s.triads ∧ s'.legacy.gpio[g].lost = false
        ∧ s'.legacy.gpio[g].fifo = s.legacy.gpio[g].fifo ++ [BitVec.ofNat 64 (2 ^ 63 + s.legacy.gpio[g].lost.toNat * 2 ^ 62
            + rise.toNat * 2 ^ 61 + p.val % 16 * 2 ^ 56 + (now s).toNat % 2 ^ 56)]))
    ∧ (∀ (w : TriadId) (mask : BitVec 6), mask.getLsbD w.val = true → modeOf s ≠ 4 → (s.tri w).fenced = false →
      Completes (.safeClear w false mask) s (fun s' =>
        (∀ i, s'.legacy.safeTmr.getLsbD i = (s.legacy.safeTmr.getLsbD i && decide (i ≠ w.val)))
        ∧ s' = { s with legacy := { s.legacy with safeTmr := s'.legacy.safeTmr, timers := s'.legacy.timers } })
      ∧ Completes (.safeClear w true mask) s (fun s' =>
        (∀ i, s'.legacy.safeLeg.getLsbD i = (s.legacy.safeLeg.getLsbD i && decide (i ≠ w.val)))
        ∧ s' = { s with legacy := { s.legacy with safeLeg := s'.legacy.safeLeg } }))

/-! ### Host sessions (R484 to R513) -/

/-- Request m of operation op reaches the engine on M0 from (a, u) in its turn for the open session k, which is idle: the
header and tag are good (R494 to R496), SEQ follows the last (R497) and the datagram is one to the AOP port of an address of
M0 (R487); no approval waits (R533). -/
structure InTurn (s : State) (k : Fin 8) (a : BitVec 128) (u : BitVec 16) (op : Byte) (m : AopMsg) : Prop where
  up : engineUp s = true
  reached : m0Accepts s m.dgram = true
  quiet : s.lcs.waiting = []
  fits : msgFits m = true
  header : headerOk m = true
  named : m.sess.toNat = k.val
  isOpen : (sess s k).isOpen = true
  via : (sess s k).via = some (.m0 a u)
  tag : tagOk (sess s k).key op m = true
  seq : m.seq = (sess s k).last + 1
  idle : (sess s k).executing = none
  alone : (sess s k).waiting = []

/-- The response of session k to request m: under the session's key, sent to (a, u) as the newest datagram. -/
def response (s s' : State) (k : Fin 8) (a : BitVec 128) (u : BitVec 16) (op : Byte) (m : AopMsg) (status : Nat)
    (payload : List Byte) : Prop :=
  s'.hosts.m0Sent =
    (a, u, tagged (sess s k).key (msgOctets 0x12 op (BitVec.ofNat 8 k.val) m.seq status payload)) :: s.hosts.m0Sent

/-- R497, R504, R505, R507: requests in their turn are executed and answered under the session's key: PING with nothing,
READ and DESCRIBE with the object's octets, WRITE after the value has become the working copy, CLOSE before the session
closes. No octet of memory and no lane changes. -/
def Obligations.RequestsAreAnswered : Prop :=
  ∀ (s : State) (k : Fin 8) (a : BitVec 128) (u : BitVec 16) (m : AopMsg),
    let via : HostVia := .m0 a u
    let kept (s' : State) : Prop := s'.mem = s.mem ∧ s'.triads = s.triads ∧ ∀ j, j ≠ k → sess s' j = sess s j
    let served (s' : State) : Prop := kept s' ∧ s'.regs = s.regs ∧ (sess s' k).last = m.seq ∧ (sess s' k).executing = none
      ∧ (sess s' k).isOpen = true ∧ (sess s' k).key = (sess s k).key
    (InTurn s k a u 0x03 m → m.payload = [] →
      Completes (.aopPing via m) s (fun s' => served s' ∧ response s s' k a u 0x03 m 0 []))
    ∧ (InTurn s k a u 0x02 m → m.payload = [] →
      Completes (.aopClose via m) s (fun s' => kept s' ∧ response s s' k a u 0x02 m 0 [] ∧ (sess s' k).isOpen = false))
    ∧ (InTurn s k a u 0x10 m → m.payload = [0x20, 0x02, 0, 0, 0, 0, 0, 0, 0x01, 0x00, 0, 0] → objStored s 0x2002 0 = none →
      Completes (.aopRead via m) s (fun s' => served s' ∧ s'.hosts.objs = s.hosts.objs
        ∧ response s s' k a u 0x10 m 0 [0x02, 0x03, 0, 0, 0, 0, 0, 1, 8]))
    ∧ (∀ hi lo : Byte, InTurn s k a u 0x11 m → m.payload = [0x12, 0x00, 4, 1, 0, 0, 0, 0, hi, lo] →
      ((sess s k).role = 2 ∨ (sess s k).role = 5) → (hi ≠ 0 ∨ lo ≠ 0) →
      Completes (.aopWrite via m) s (fun s' => served s' ∧ response s s' k a u 0x11 m 0 []
        ∧ objNat s' 0x1200 4 30 = hi.toNat * 256 + lo.toNat
        ∧ ∀ i j, objKey i j ≠ objKey 0x1200 4 → objStored s' i j = objStored s i j))
    ∧ (InTurn s k a u 0x12 m → m.payload = [0x20, 0x02, 0, 0] →
      Completes (.aopDescribe via m) s (fun s' => served s' ∧ s'.hosts.objs = s.hosts.objs
        ∧ response s s' k a u 0x12 m 0 [0x02, 0x03, 0x01, 0, 0, 0, 0, 1]))

/-- R503, R520, R526 to R529, R531, R537, R655, R656: a STORE captures the working copies and is answered when it has ended,
its captured values in the configuration slot not in use, one generation ahead; a PROPOSE of an acceptable setting takes the lowest free slot; a
COUNTERSIGN by another party freezes the windows it approves, starts the STORE of the setting, or makes the transition of
the life cycle, after which the region is wiped and a reset is due, where its fuse reads back (a free value, log 25); a
WITHDRAW by the proposer frees the slot. -/
def Obligations.ChangesNeedTwo : Prop :=
  ∀ (s : State) (k j : Fin 8) (a : BitVec 128) (u : BitVec 16) (m : AopMsg),
    let via : HostVia := .m0 a u
    let kept (s' : State) : Prop := s'.mem = s.mem ∧ s'.triads = s.triads
    let slotIs (p : Proposal) : Prop :=
      s.lcs.slots[j] = some p ∧ p.applying = false ∧ m.payload = [BitVec.ofNat 8 j.val, 0, 0, 0] ++ bytesBE 8 p.tag.toNat
    (InTurn s k a u 0x20 m → m.payload = [] → (sess s k).role ∈ [2, 3, 5] → storeBusy s = false →
      Completes (.aopStore via m) s (fun s' => kept s' ∧ s'.regs = s.regs ∧ s'.hosts.m0Sent = s.hosts.m0Sent
        ∧ s'.hosts.storeState = 1 ∧ (sess s' k).executing = some m.seq
        ∧ ∃ g, s'.hosts.job = some g ∧ g.sess = some k ∧ g.seq = m.seq ∧ g.captured = s.hosts.objs ∧ g.slot = none))
    ∧ (∀ (g : StoreJob) (c : CfgSlot), s.hosts.job = some g → g.sess = some k → g.slot = none → g.silent = false →
      cfgInUse s.boot = some c → (sess s k).via = some via → (sess s k).waiting = [] → s.lcs.waiting = [] →
      Completes (.storeDone true) s (fun s' => kept s' ∧ s'.hosts.job = none ∧ s'.hosts.storeState = 2
        ∧ s'.hosts.storesDone = s.hosts.storesDone + 1 ∧ s'.boot.cfgUseB = !s.boot.cfgUseB
        ∧ (if s.boot.cfgUseB then s'.boot.cfgA else s'.boot.cfgB) = cfgOctets (c.gen + 1) g.captured
        ∧ (if s.boot.cfgUseB then s'.boot.cfgB = s.boot.cfgB else s'.boot.cfgA = s.boot.cfgA)
        ∧ s'.hosts.m0Sent = (a, u, tagged (sess s k).key (msgOctets 0x12 g.op (BitVec.ofNat 8 k.val) g.seq 0 [])) :: s.hosts.m0Sent))
    ∧ (∀ v : Byte, InTurn s k a u 0x30 m → m.payload = [0x20, 0x02, 0, 0, 0, 1, 0, 0, v] → v ≠ 0 →
      (sess s k).role ∈ [2, 3, 5] → (∀ i : Fin 8, ∀ p, s.lcs.slots[i] = some p → ¬ (p.index = 0x2002 ∧ p.sub = 0)) →
      s.lcs.slots[j] = none → (∀ i : Fin 8, i < j → s.lcs.slots[i] ≠ none) →
      Completes (.aopPropose via m) s (fun s' => kept s' ∧ s'.lcs.pnum = s.lcs.pnum + 1
        ∧ (∀ i : Fin 8, i ≠ j → s'.lcs.slots[i] = s.lcs.slots[i])
        ∧ ∃ p, s'.lcs.slots[j] = some p ∧ p.applying = false ∧ p.proposer = .session k ∧ p.index = 0x2002 ∧ p.sub = 0
          ∧ p.party = 0 ∧ p.value = [v] ∧ p.since = s.sys.upTicks
          ∧ response s s' k a u 0x30 m 0 ([BitVec.ofNat 8 j.val, 0, 0, 0] ++ bytesBE 4 (proposalMs s) ++ bytesBE 8 p.tag.toNat)))
    ∧ (∀ p : Proposal, InTurn s k a u 0x31 m → slotIs p → p.party = 0 → p.sub = 0 → (∀ g, s.hosts.job = some g → g.slot = none) →
      (∀ q, p.proposer = .session q → p.cred.toNat ≠ (sess s k).cred) →
      (p.index = 0x7010 → (sess s k).role ∈ [2, 3] → Completes (.aopCountersign via m) s (fun s' => kept s'
        ∧ s'.lcs.slots[j] = none ∧ (∀ i : Fin 8, i ≠ j → s'.lcs.slots[i] = s.lcs.slots[i])
        ∧ s'.rd Adr.tapuPwfrz = s.rd Adr.tapuPwfrz ||| BitVec.ofNat 64 (natBE p.value % 64)
        ∧ response s s' k a u 0x31 m 0 []))
      ∧ (p.index = 0x2002 → p.plain ≠ [] → (sess s k).role = 3 → storeBusy s = false →
        Completes (.aopCountersign via m) s (fun s' => kept s' ∧ s'.lcs.slots[j] = some { p with applying := true }
          ∧ objStored s' 0x2002 0 = some p.plain ∧ s'.hosts.job.isSome = true ∧ s'.hosts.m0Sent = s.hosts.m0Sent))
      ∧ (p.index = 0x7001 → (sess s k).role = 3 → (∃ q, p.proposer = .session q ∧ (sess s q).role = 5) → lcMode s = true →
        Completes (.aopCountersign via m) s (fun s' => s'.triads = s.triads ∧ s'.lcs.slots[j] = none
          ∧ ((s'.lcs.fuses = s.lcs.fuses ||| BitVec.ofNat 3 (2 ^ (natBE p.value - 1)) ∧ s'.hosts.resetDue = some .lifeCycle
              ∧ s'.sram.wiping = true ∧ response s s' k a u 0x31 m 0 [])
            ∨ (s'.lcs.fuses = s.lcs.fuses ∧ s'.mem = s.mem ∧ response s s' k a u 0x31 m 0x0017 [])))))
    ∧ (∀ p : Proposal, InTurn s k a u 0x32 m → slotIs p → p.proposer = .session k →
      Completes (.aopWithdraw via m) s (fun s' => kept s' ∧ s'.lcs.slots[j] = none
        ∧ (∀ i : Fin 8, i ≠ j → s'.lcs.slots[i] = s.lcs.slots[i]) ∧ response s s' k a u 0x32 m 0 []))

/-- R368, R499 to R502, R536: an OPEN that is not discarded opens its session with the credential's role and a key made from
both nonces, answered under the credential's new key, and closes the session its sender had; the key is held while a wipe
runs; in RETIRED an OPEN is discarded; an idle session closes, its key gone and its pending proposals withdrawn. -/
def Clause.SessionsOpenAndClose : Prop :=
  ∀ (s : State) (k : Fin 8),
    (∀ (a : BitVec 128) (u : BitVec 16) (m : AopMsg), engineUp s = true → msgFits m = true → m0Accepts s m.dgram = true →
      s.lcs.waiting = [] → openDiscarded s (.m0 a u) m = false →
      let c := credOf s (beAt m.payload 0 2)
      m.payload.length = 20 → beAt m.payload 3 1 = 0 → beAt m.payload 2 1 = c.role → openTarget s (.m0 a u) = some k →
      Completes (.aopOpen (.m0 a u) m) s (fun s' => ∃ dn : List Byte, dn.length = 16
        ∧ (sess s' k).isOpen = true ∧ (sess s' k).role = c.role ∧ (sess s' k).cred = beAt m.payload 0 2
        ∧ (let key := hmac c.key (ascii "AOP1" ++ m.payload.drop 4 ++ dn ++ [BitVec.ofNat 8 k.val])
           if s.sram.wiping then SecureWrite.key k key ∈ s'.lcs.held else (sess s' k).key = key)
        ∧ (sess s' k).last = 0 ∧ (sess s' k).via = some (.m0 a u) ∧ s'.hosts.m0Sent.length = s.hosts.m0Sent.length + 1
        ∧ bitOf (s'.rd (Adr.evcPend 20)) k.val = true ∧ s'.mem = s.mem ∧ s'.triads = s.triads
        ∧ ∀ j, j ≠ k → if openFormer s (.m0 a u) = some j then (sess s' j).isOpen = false else sess s' j = sess s j))
    ∧ (∀ (via : HostVia) (m : AopMsg), openInRetired s 0x01 = true → Completes (.aopOpen via m) s (fun s' =>
        s' = { s with regs := s'.regs } ∧ bitOf (s'.rd Adr.hstStat) 0 = true))
    ∧ ((sess s k).isOpen = true → s.lcs.waiting = [] → Completes (.sessionIdleTimeout k) s (fun s' =>
        (sess s' k).isOpen = false ∧ (sess s' k).key = [] ∧ Pulsed s s' (640 + k.val)
        ∧ (∀ (j : Fin 8) (p : Proposal), s.lcs.slots[j] = some p →
            s'.lcs.slots[j] = if p.applying = false ∧ p.proposer = .session k then none else some p)
        ∧ (∀ j, j ≠ k → sess s' j = sess s j) ∧ s'.mem = s.mem ∧ s'.triads = s.triads))

/-- R26, R487, R489, R491 to R493, R512, R513: the link's state, its function and READY; a host's write at the place of
RQ_PROD or RS_CONS advances the index by what the ring holds and is discarded otherwise, one elsewhere in the header or outside
BAR0 does nothing, another word of BAR0 is stored; M0's answers; the soft server's answer or its time's end frees the entry
and answers the request. An index counts modulo its ring's size, and the two rows name one write (log 25). -/
def Clause.HostTraffic : Prop :=
  ∀ (s : State) (p : Fin 2),
    let base := 0x1400000 + 0x10000 * p.val
    let stored (s' : State) (a v : Nat) : Prop := Stored s s' a 4 v ∧ s'.regs = s.regs ∧ s'.triads = s.triads
    let refused (s' : State) : Prop := s'.mem = s.mem ∧ Pulsed s s' 650 ∧ bitOf (s'.rd (Adr.hstPstat p)) 17 = true
      ∧ SameRegs s s' (Adr.hstPstat p :: eventRegs 650) ∧ s'.triads = s.triads
    (∀ w : HostStore, ∀ i ∈ [Instr.rqProd p w, .rsCons p w],
      (pcieLink s p = false ∨ barOffset s p w.addr = none → exec i s = .next s)
      ∧ (pcieLink s p = true → s.clean base → modeOf s ≠ 5 → (s.hosts.pcie[p]).barSize = 0x10000 →
        (barOffset s p w.addr = some 0 →
          let at_ := rdMem s base 4 % 15
          Completes i s (fun s' =>
            if w.v.toNat < 15 ∧ (w.v.toNat + 15 - at_) % 15 ≤ (rdMem s (base + 4) 4 % 15 + 14 - at_) % 15
            then stored s' base w.v.toNat else refused s'))
        ∧ (barOffset s p w.addr = some 12 →
          let at_ := rdMem s (base + 12) 4 % 16
          Completes i s (fun s' =>
            if w.v.toNat < 16 ∧ (w.v.toNat + 16 - at_) % 16 ≤ (rdMem s (base + 8) 4 % 16 + 16 - at_) % 16
            then stored s' (base + 12) w.v.toNat else refused s'))
        ∧ ∀ o, barOffset s p w.addr = some o →
          (o ∉ [0, 12] → o < 64 → exec i s = .next s)
          ∧ (64 ≤ o → Completes i s (fun s' => stored s' (base + o) w.v.toNat))))
    ∧ (pcieLink s p = true → s.clean base → s.lcs.waiting = [] →
      Completes (.pcieLinkDown p) s (fun s' => pcieLink s' p = false ∧ s'.triads = s.triads
          ∧ rdMem s' base 4 = 0 ∧ rdMem s' (base + 4) 4 = 0 ∧ rdMem s' (base + 8) 4 = 0 ∧ rdMem s' (base + 12) 4 = 0
          ∧ (∀ x, (x < base ∨ base + 64 ≤ x) → rdByte s' x = rdByte s x)
          ∧ (s'.hosts.pcie[p]).msi = none ∧ (sess s' ⟨p.val, by omega⟩).isOpen = false))
    ∧ (∀ (gen : BitVec 3) (x : PcieSetup), (trainsAt s p gen x.width = false ∨ serdesUp s = false) →
        exec (.pcieLinkUp p gen x) s = .next s)
    ∧ (∀ (gen : BitVec 3) (x : PcieSetup), s.clean base → trainsAt s p gen x.width = true → serdesUp s = true →
        Completes (.pcieLinkUp p gen x) s (fun s' => pcieLink s' p = true
        ∧ field (s'.rd (Adr.hstPstat p)) 30 28 = gen.toNat ∧ field (s'.rd (Adr.hstPstat p)) 26 24 = x.width.toNat
        ∧ SameRegs s s' [Adr.hstPstat p] ∧ s'.triads = s.triads
        ∧ s'.hosts.pcie[p] = { s.hosts.pcie[p] with bar0 := x.bar0 &&& 0xFFFF0000, msi := x.msi }
        ∧ if engineUp s then Stored s s' (base + 16) 4 1 else s'.mem = s.mem))
    ∧ (∀ (v6 : Bool) (target src : BitVec 128) (o : List Byte), frameFits o = true → engineUp s = true → m0Owns s v6 target = true →
      exec (.arp v6 target src o) s = .next { s with hosts := { s.hosts with
        m0Sent := (src, 0, bytesBE 6 Config.fuseMac.toNat) :: s.hosts.m0Sent } }
      ∧ exec (.echoRequest v6 target src o) s = .next { s with hosts := { s.hosts with m0Sent := (src, 0, o) :: s.hosts.m0Sent } })
    ∧ (∀ (e : Fin 32) (x : SoftEntry) (k : Fin 8) (a : BitVec 128) (u : BitVec 16),
      s.hosts.soft.find? (fun y => y.entry == e) = some x → x.sess = some k → (sess s k).via = some (.m0 a u) →
      (sess s k).waiting = [] →
      let sent (s' : State) (status : Nat) (pl : List Byte) : Prop :=
        s'.hosts.soft = s.hosts.soft.filter (fun y => decide (y.entry ≠ e)) ∧ (sess s' k).executing = none
        ∧ s'.hosts.m0Sent = (a, u, tagged (sess s k).key (msgOctets 0x12 x.op (BitVec.ofNat 8 k.val) x.seq status pl)) :: s.hosts.m0Sent
        ∧ s'.mem = s.mem ∧ s'.regs = s.regs ∧ s'.triads = s.triads
      (∀ w : TriadId, s.clean 0x1430000 → field (s.rd Adr.hstSoftcfg) 18 16 = w.val → rdMem s (0x1430000 + 0x1000 * e.val + 0x600) 2 = 0 → x.op = 0x11 →
        Completes (.hstSoftdone w e) s (fun s' => sent s' 0 []))
      ∧ Completes (.softTimeout e) s (fun s' => sent s' 0x000A [] ∧ e ∈ s'.hosts.softLate))

/-- R514, R516, R517, R525, R529 to R532, R534, R541: a RECAP request in the shared area is taken and, behind one of a lower
triad that came with it, written with 512 octets and its event; a triad's acceptable proposal takes a slot and its
withdrawal frees it; KEYSW_N held after a release approves, and a key hash then takes its STORE; a timeout frees its slot;
tamper closes every session and withdraws every pending proposal, its end lets OPEN in again. -/
def Obligations.TriadsAndSwitches : Prop :=
  ∀ (s : State) (t : TriadId) (j : Fin 8) (v : Word),
    let kept (s' : State) : Prop := s'.mem = s.mem ∧ s'.triads = s.triads
    (inShared (field v 39 0) = true → bitOf (s.rd Adr.sysRecapstat) t.val = false →
      Completes (.sysRecap t v) s (fun s' => kept s' ∧ bitOf (s'.rd Adr.sysRecapstat) t.val = true
        ∧ s'.hosts.recapAddr[t].toNat = field v 39 0 ∧ SameRegs s s' [Adr.sysRecapstat]))
    ∧ (let a := s.hosts.recapAddr[t].toNat
       bitOf (s.rd Adr.sysRecapstat) t.val = true → inShared a = true → s.clean a →
       (∀ q : TriadId, q < t → bitOf (s.rd Adr.sysRecapstat) q.val = true → s.hosts.recapAt[q] ≠ s.hosts.recapAt[t]) →
       Completes (.recapCapture t) s (fun s' => rdBytes s' a 512 = recapOctets s false ∧ (recapOctets s false).length = 512
        ∧ (∀ x, (x < a ∨ a + 512 ≤ x) → rdByte s' x = rdByte s x) ∧ bitOf (s'.rd Adr.sysRecapstat) t.val = false
        ∧ bitOf (s'.rd Adr.sysRecapstat) (8 + t.val) = true ∧ Pulsed s s' (696 + t.val) ∧ s'.triads = s.triads))
    ∧ (let a := field v 39 9 * 512
       inShared a = true → s.clean a → ∀ o : Byte, o ≠ 0 → rdBytes s a 9 = [0x02, 0x20, 0, 0, 1, 0, 0, 0, o] →
       (∀ i : Fin 8, ∀ p, s.lcs.slots[i] = some p → ¬ (p.index = 0x2002 ∧ p.sub = 0)) →
       s.lcs.slots[j] = none → (∀ i : Fin 8, i < j → s.lcs.slots[i] ≠ none) →
       Completes (.triadPropose t v) s (fun s' => kept s' ∧ (∀ i : Fin 8, i ≠ j → s'.lcs.slots[i] = s.lcs.slots[i])
        ∧ ∃ p, s'.lcs.slots[j] = some p ∧ p.proposer = .triad t ∧ p.index = 0x2002 ∧ p.value = [o] ∧ p.since = s.sys.upTicks
          ∧ s'.rd (Adr.lcsPtag t) = p.tag ∧ field (s'.rd (Adr.lcsPres t)) 2 0 = j.val ∧ field (s'.rd (Adr.lcsPres t)) 47 32 = 0))
    ∧ (∀ p : Proposal, s.lcs.slots[j] = some p → p.applying = false →
      (p.proposer = .triad t → field v 2 0 = j.val → Completes (.triadWithdraw t v) s (fun s' => kept s'
        ∧ s'.lcs.slots[j] = none ∧ (∀ i : Fin 8, i ≠ j → s'.lcs.slots[i] = s.lcs.slots[i])
        ∧ field (s'.rd (Adr.lcsPres t)) 47 32 = 0 ∧ SameRegs s s' [Adr.lcsPres t]))
      ∧ (p.since + proposalMs s * 400000 ≤ s.sys.upTicks → Completes (.proposalTimeout j) s (fun s' => kept s'
        ∧ s'.lcs.slots[j] = none ∧ ∀ i : Fin 8, i ≠ j → s'.lcs.slots[i] = s.lcs.slots[i]))
      ∧ (p.party = 1 → p.keyOn = true → s.lcs.keySw = true → p.index = 0x7002 → p.sub = 0 → p.plain ≠ [] → lcState s = 0 → s.lcs.keyHash = none →
        storeBusy s = false → s.lcs.waiting = [] →
        (∃ q, p.proposer = .session q ∧ (sess s q).role = 5) →
        (∀ i : Fin 8, i ≠ j → ∀ o, s.lcs.slots[i] = some o → o.party ≠ 1) →
        Completes .keySwitchApproval s (fun s' => kept s' ∧ s'.lcs.keyHash = some p.plain
          ∧ s'.lcs.slots[j] = some { p with applying := true } ∧ ∃ g, s'.hosts.job = some g ∧ g.slot = some j ∧ g.sess = none)))
    ∧ (modeOf s ≠ 5 → s.lcs.waiting = [] → Completes (.tamper 2) s (fun s' => s'.lcs.tamperN = true ∧ s'.sram.wiping = true ∧ s'.triads = s.triads
        ∧ (∀ k, (sess s' k).isOpen = false)
        ∧ (∀ i : Fin 8, ∀ p, s'.lcs.slots[i] = some p → p.applying = true)
        ∧ (∀ x, 0x1600000 ≤ x → x < 0x1640000 → rdByte s' x = 0)
        ∧ ∀ x, (x < 0x1600000 ∨ 0x1640000 ≤ x) → rdByte s' x = rdByte s x))
    ∧ Completes .tamperConditionEnd s (fun s' => kept s' ∧ s'.lcs.tamperN = false ∧ bitOf (s'.rd Adr.lcsTamper) 31 = false
        ∧ SameRegs s s' [Adr.lcsTamper])
    ∧ (∀ on : Bool, Completes (.keyswNChange on) s (fun s' => s' = { s with lcs := s'.lcs } ∧ s'.lcs.keySw = on
        ∧ ∀ (i : Fin 8) (p : Proposal), s.lcs.slots[i] = some p → p.party = 1 →
          s'.lcs.slots[i] = some (if on then { p with keyOn := p.keyOff } else { p with keyOff := true, keyOn := false })))

/-! ### The measuring island (R574 to R603) -/

/-- The island runs or is in its fault state, CLK_TNS runs, and the slot that it takes next holds these octets (R581,
R585). -/
structure AtSlot (s : State) (cmd : Byte) (slot : List Byte) : Prop where
  up : s.yob.status ≠ 0
  clock : tnsStopped s = false
  waits : cqProdOf s ≠ cqConsOf s
  place : cqConsOf s < 60
  octets : slot = mboxRead s (0x100 + 0x40 * cqConsOf s) 64
  code : slot.getD 0 0 = cmd

/-- The slot is answered with this status and result, CQ_CONS has passed it and E0832 is pending, but in DORMANT, where the
event controller is powered down; no octet of SRAM or DDR and no triad has changed (R585, R677). -/
def Answered (s s' : State) (slot : List Byte) (status : Byte) (result : List Byte) : Prop :=
  mboxRead s' (0x100 + 0x40 * cqConsOf s) 64 =
    ([slot.getD 0 0, 0, slot.getD 2 0, slot.getD 3 0, status, 0, 0, 0] : List Byte) ++ padTo result 56
  ∧ cqConsOf s' = (cqConsOf s + 1) % 60 ∧ (modeOf s ≠ 5 → bitOf (s'.rd (Adr.evcPend 26)) 0 = true) ∧ s'.mem = s.mem
  ∧ s'.triads = s.triads

/-- Answered, and of the island's own fields none but the mailbox has changed. -/
def OnlyAnswered (s s' : State) (slot : List Byte) (status : Byte) (result : List Byte) : Prop :=
  Answered s s' slot status result ∧ Pulsed s s' 832 ∧ SameRegs s s' (eventRegs 832)
  ∧ s'.yob = { s.yob with mbox := s'.yob.mbox }

/-- R582 to R586, R590, R592: the pointers take a triad's value where it is a slot of the ring; PING, IDENT, PREAD and
AUDIT answer what the island holds, in its fault state only IDENT; MEASURE makes one record with the next SEQ. -/
def Obligations.IslandAnswers : Prop :=
  ∀ (s : State) (w : TriadId) (v : BitVec 32) (slot : List Byte),
    let whole (i : Instr) (status : Byte) (result : List Byte) : Prop :=
      Completes i s fun s' => OnlyAnswered s s' slot status result
    (v.toNat < 60 → v.toNat ≠ cqConsOf s → Completes (.cqProd w v) s (fun s' =>
      cqProdOf s' = v.toNat ∧ cqConsOf s' = cqConsOf s ∧ s' = { s with yob := { s.yob with mbox := s'.yob.mbox } }))
    ∧ (60 ≤ v.toNat ∨ v.toNat = cqConsOf s → exec (.cqProd w v) s = .next s)
    ∧ (v.toNat < 255 → Completes (.rrCons w v) s (fun s' =>
      rrConsOf s' = v.toNat ∧ rrProdOf s' = rrProdOf s ∧ s' = { s with yob := { s.yob with mbox := s'.yob.mbox } }))
    ∧ (255 ≤ v.toNat → exec (.rrCons w v) s = .next s)
    ∧ (AtSlot s 0x02 slot → whole .ident 0 (bytesLE 4 (imageChecksum (yobActive s.yob))
        ++ bytesLE 4 (imageVersion (yobActive s.yob)) ++ [BitVec.ofNat 8 s.yob.activeB.toNat, 0, 0, 0]
        ++ bytesLE 4 s.yob.events ++ bytesLE 4 (paramChecksum s.yob)))
    ∧ (s.yob.status = 1 →
      (AtSlot s 0x01 slot → whole .yoberPing 0 [])
      ∧ (AtSlot s 0x20 slot → ∀ p, s.yob.params.lookup (leAt slot 8 2) = some p →
        whole .pread 0 ([BitVec.ofNat 8 p.length, 0] ++ padTo p 32))
      ∧ (AtSlot s 0x20 slot → s.yob.params.lookup (leAt slot 8 2) = none → whole .pread 2 [])
      ∧ (AtSlot s 0x40 slot → ∀ h : leAt slot 8 2 < s.yob.audit.length, whole .audit 0 s.yob.audit[leAt slot 8 2])
      ∧ (AtSlot s 0x40 slot → s.yob.audit.length ≤ leAt slot 8 2 → whole .audit 2 [])
      ∧ (AtSlot s 0x10 slot → 12 ≤ (slot.getD 8 0).toNat → whole .measure 2 [])
      ∧ (AtSlot s 0x10 slot → (slot.getD 8 0).toNat < 12 → Config.yoberMeasureOk (slot.getD 8 0) (slot.getD 9 0) = true →
        s.yob.backlog.length < 4096 →
        Completes .measure s (fun s' => Answered s s' slot 0 (bytesLE 8 (s.yob.seq + 1).toNat) ∧ s'.yob.seq = s.yob.seq + 1
          ∧ s'.yob.lastRecord.take 16 = bytesLE 8 (s.yob.seq + 1).toNat ++ bytesLE 8 (now s).toNat
          ∧ s'.yob.lastRecord.getD 28 0 = slot.getD 8 0)))
    ∧ (s.yob.status = 2 → ∀ ic ∈ [(Instr.yoberPing, (1 : Byte)), (.measure, 0x10), (.pread, 0x20), (.audit, 0x40)],
      AtSlot s ic.2 slot → whole ic.1 0x0A [])

/-- R586: no seal intact, MKEY set, and AUTH is the first 16 octets of HMAC-SHA256 under MKEY over the slot and NONCE. -/
def Authentic (s : State) (slot : List Byte) : Prop :=
  s.yob.sealed = false ∧ ∃ k, s.yob.mkey = some k
    ∧ slot.drop 48 = (hmac k (slot.take 48 ++ bytesLE 4 s.yob.nonce.toNat)).take 16

/-- R586 to R588, R595, R597, R599: what an authentic command changes, one fuse and one audit entry per change; an intact
seal answers 0x03, no MKEY 0x08, a wrong AUTH 0x04, and nothing but NONCE changes then. Where the write to the Yober
region fails (a free value, log 21) the answer is 0x09 and the change does not take place. -/
def Obligations.IslandChanges : Prop :=
  ∀ (s : State) (slot : List Byte), s.yob.status = 1 →
    let arg8 := sliceOf slot 8 32
    let refused (i : Instr) (status : Byte) : Prop := Completes i s (fun s' => Answered s s' slot status []
      ∧ s'.yob = { s.yob with mbox := s'.yob.mbox, nonce := s'.yob.nonce } ∧ s'.yob.nonce ≠ s.yob.nonce)
    let same (y : Yober) : Prop := y.params = s.yob.params ∧ y.mkey = s.yob.mkey ∧ y.activeB = s.yob.activeB
      ∧ y.audit = s.yob.audit ∧ y.events = s.yob.events
    (∀ ic ∈ [(Instr.pwrite, (0x21 : Byte)), (.fwbegin, 0x30), (.fwact, 0x33)], AtSlot s ic.2 slot →
      (s.yob.sealed = true → refused ic.1 3)
      ∧ (s.yob.sealed = false → s.yob.mkey = none → refused ic.1 8)
      ∧ (∀ k, s.yob.sealed = false → s.yob.mkey = some k →
        slot.drop 48 ≠ (hmac k (slot.take 48 ++ bytesLE 4 s.yob.nonce.toNat)).take 16 → refused ic.1 4))
    ∧ (AtSlot s 0x21 slot → Authentic s slot →
      let pid := leAt slot 8 2
      let n := (slot.getD 10 0).toNat
      1 ≤ n → n ≤ 32 → Config.yoberParamOk pid (sliceOf slot 12 n) = true →
      (4096 ≤ s.yob.events → refused .pwrite 5)
      ∧ (s.yob.events < 4096 → Completes .pwrite s (fun s' =>
        ((Answered s s' slot 0 (bytesLE 4 (paramChecksum s'.yob)) ∧ s'.yob.params.lookup pid = some (sliceOf slot 12 n))
          ∨ (Answered s s' slot 9 [] ∧ s'.yob.params = s.yob.params))
        ∧ (∀ q, q ≠ pid → s'.yob.params.lookup q = s.yob.params.lookup q) ∧ s'.yob.events = s.yob.events + 1
        ∧ s'.yob.audit.tail = s.yob.audit.take 1023 ∧ s'.yob.mkey = s.yob.mkey ∧ s'.yob.nonce ≠ s.yob.nonce
        ∧ (s'.yob.audit.headD []).take 16 = bytesLE 4 (s.yob.events + 1) ++ bytesLE 8 (now s).toNat ++ [1, 0] ++ bytesLE 2 pid
        ∧ (modeOf s ≠ 5 → bitOf (s'.rd (Adr.evcPend 26)) 4 = true))))
    ∧ (AtSlot s 0x22 slot → s.yob.events < 4096 →
      (s.yob.sealed = false → s.yob.mkey = none → Completes .keyset s (fun s' =>
        ((Answered s s' slot 0 [] ∧ s'.yob.mkey = some arg8) ∨ (Answered s s' slot 9 [] ∧ s'.yob.mkey = none))
        ∧ s'.yob.nonce = s.yob.nonce ∧ s'.yob.events = s.yob.events + 1))
      ∧ (∀ k, s.yob.mkey = some k → Authentic s slot → Completes .keyset s (fun s' =>
        ((Answered s s' slot 0 []
            ∧ s'.yob.mkey = some (List.zipWith (fun a b => a ^^^ b) arg8 (hmac k (ascii "YKW1" ++ bytesLE 4 s.yob.events))))
          ∨ (Answered s s' slot 9 [] ∧ s'.yob.mkey = some k))
        ∧ s'.yob.nonce ≠ s.yob.nonce ∧ s'.yob.events = s.yob.events + 1)))
    ∧ (AtSlot s 0x30 slot → Authentic s slot → 0 < leAt slot 8 4 → leAt slot 8 4 ≤ 458752 →
      Completes .fwbegin s (fun s' => s'.yob.verified = false
        ∧ ((Answered s s' slot 0 [] ∧ s'.yob.staged = some (leAt slot 8 4)
            ∧ stagedImage s'.yob = List.replicate (leAt slot 8 4) 0)
          ∨ (Answered s s' slot 9 [] ∧ s'.yob.staged = none))
        ∧ yobActive s'.yob = yobActive s.yob ∧ same s'.yob))
    ∧ (AtSlot s 0x31 slot → s.yob.sealed = false → ∀ n, s.yob.staged = some n → leAt slot 8 4 % 32 = 0 → leAt slot 8 4 < n →
      (stagedImage s.yob).length = n →
      Completes .fwdata s (fun s' => (stagedImage s'.yob).length = n ∧ s'.yob.verified = false
        ∧ ((Answered s s' slot 0 [] ∧ ∀ i, i < n → (stagedImage s'.yob).getD i 0 =
            if leAt slot 8 4 ≤ i ∧ i < leAt slot 8 4 + 32 then slot.getD (12 + i - leAt slot 8 4) 0
            else (stagedImage s.yob).getD i 0)
          ∨ (Answered s s' slot 9 [] ∧ stagedImage s'.yob = stagedImage s.yob))
        ∧ yobActive s'.yob = yobActive s.yob ∧ same s'.yob))
    ∧ (AtSlot s 0x32 slot → s.yob.sealed = false →
      (s.yob.staged.isSome = true → imageOk (stagedImage s.yob) = true → Completes .fwend s (fun s' =>
        Answered s s' slot 0 (bytesLE 4 (imageChecksum (stagedImage s.yob))) ∧ s'.yob.verified = true ∧ same s'.yob))
      ∧ (imageOk (stagedImage s.yob) = false → Completes .fwend s (fun s' =>
        Answered s s' slot 6 [] ∧ s'.yob.verified = false ∧ same s'.yob)))
    ∧ (AtSlot s 0x33 slot → Authentic s slot → s.yob.verified = true → s.yob.events < 4096 → modeOf s ≠ 5 →
      Completes .fwact s (fun s' => s'.yob.events = s.yob.events + 1 ∧ s'.yob.params = s.yob.params ∧ s'.yob.mkey = s.yob.mkey
        ∧ ((s'.yob.activeB = !s.yob.activeB ∧ s'.yob.status = 0 ∧ s'.yob.mbox = [] ∧ bitOf (s'.rd (Adr.evcPend 26)) 6 = true)
          ∨ (Answered s s' slot 9 [] ∧ s'.yob.activeB = s.yob.activeB))))

/-- Both rings of the mailbox stand at index 0 (R580 step 4). -/
def RingsClear (s : State) : Prop := cqProdOf s = 0 ∧ cqConsOf s = 0 ∧ rrProdOf s = 0 ∧ rrConsOf s = 0

/-- R579, R580, R590, R593, R594, R600: records of the firmware and of the backlog, the seal, an island reset and its
end. -/
def Obligations.IslandRecords : Prop :=
  ∀ (s : State),
    let full := (rrProdOf s + 1) % 255 = rrConsOf s
    (∀ chan : Byte, s.yob.status = 1 → tnsStopped s = false → s.yob.backlog.length < 4096 →
      Completes (.firmwareRecord chan) s (fun s' => s'.mem = s.mem ∧ s'.triads = s.triads ∧ s'.yob.seq = s.yob.seq + 1
        ∧ s'.yob.lastRecord.take 16 = bytesLE 8 (s.yob.seq + 1).toNat ++ bytesLE 8 (now s).toNat
        ∧ s'.yob.lastRecord.getD 28 0 = chan ∧ s'.yob.restart = false ∧ s'.yob.cgap = false
        ∧ (s.yob.backlog = [] ∧ ¬ full → s'.yob.backlog = [] ∧ rrProdOf s' = (rrProdOf s + 1) % 255
            ∧ (modeOf s ≠ 5 → bitOf (s'.rd (Adr.evcPend 26)) 1 = true))
        ∧ (s.yob.backlog ≠ [] ∨ full → s'.yob.backlog = s.yob.backlog ++ [s'.yob.lastRecord] ∧ rrProdOf s' = rrProdOf s)))
    ∧ (∀ r l, s.yob.backlog = r :: l → ¬ full → tnsStopped s = false →
      Completes .recordWrite s (fun s' => s'.yob.backlog = l ∧ rrProdOf s' = (rrProdOf s + 1) % 255
        ∧ (∀ i, i < r.length → mboxByte s' (0x4040 + 0x40 * rrProdOf s + i) = r.getD i 0) ∧ Pulsed s s' 833
        ∧ SameRegs s s' (eventRegs 833)
        ∧ s' = { s with regs := s'.regs, yob := { s.yob with mbox := s'.yob.mbox, backlog := l } }))
    ∧ (∀ intact : Bool, s.yob.sealed ≠ intact → tnsStopped s = false →
      Completes (.sealChange intact) s (fun s' => s'.yob.sealed = intact ∧ Pulsed s s' 835 ∧ SameRegs s s' (eventRegs 835)
        ∧ (s'.yob.audit.headD []).take 14 =
            bytesLE 4 s.yob.events ++ bytesLE 8 (now s).toNat ++ [4, BitVec.ofNat 8 intact.toNat]
        ∧ s'.yob = { s.yob with sealed := intact, audit := s'.yob.audit } ∧ s'.mem = s.mem ∧ s'.triads = s.triads))
    ∧ (modeOf s ≠ 5 → ∀ c : IslandCause, Completes (.islandReset c) s (fun s' =>
        s'.yob = { s.yob with status := 0, mbox := [], backlog := [], staged := none, verified := false, restart := true
                              nonce := s'.yob.nonce, cores := s'.yob.cores, sram := s'.yob.sram }
        ∧ s'.yob.cores[0] = s'.yob.cores[1]
        ∧ s'.triads = s.triads ∧ (c ≠ .powerOn → bitOf (s'.rd (Adr.evcPend 26)) 6 = true)))
    ∧ (s.yob.status = 0 → tnsStopped s = false → modeOf s ≠ 5 →
      (imageOk (yobActive s.yob) = true → Completes (.islandReady true) s (fun s' => Pulsed s s' 837
        ∧ SameRegs s s' (eventRegs 837) ∧ RingsClear s'
        ∧ s' = { s with regs := s'.regs, yob := { s.yob with status := 1, mbox := s'.yob.mbox } }))
      ∧ (imageOk (yobActive s.yob) = false → imageOk (stagedImage s.yob) = true →
        Completes (.islandReady true) s (fun s' => s'.triads = s.triads ∧ RingsClear s'
          ∧ s'.yob = { s.yob with status := 1, activeB := !s.yob.activeB, mbox := s'.yob.mbox }))
      ∧ (∀ ok, ok = false ∨ imageOk (yobActive s.yob) = false ∧ imageOk (stagedImage s.yob) = false →
        Completes (.islandReady ok) s (fun s' => s'.yob = { s.yob with status := 2 } ∧ s'.triads = s.triads)))

/-! ### Fault collection units and the clock monitor (R32, R37 to R39, R604 to R631) -/

/-- R604, R614, R616 to R618, R621, R629, R631: a report to two units in service with an enabled domain whose limit it
does not reach marks the fault in both, counts its class, starts the pulse of classes D and S (of R by the table), moves
both to FAULT for S and X, and to QUIET from FAULT where it leaves no active fault of class S or X, and is logged once
with its time and INFO; a report that one unit alone receives is followed by F161; a reserved fault is no report. No triad changes. -/
def Obligations.ReportsReact : Prop :=
  ∀ (s : State) (f : Byte) (info : BitVec 32), live s.fcu.a = true → live s.fcu.b = true →
    (modeOf s = 5 → s.sram.errors = []) →
    let n := f.toNat
    let c := classOf s n
    let d := domainOf n
    let ptr := s.rd Adr.fcuLogptr
    let e := field ptr 5 0
    (∀ r, faultExists n = false → exec (.faultReport f info r) s = .next s)
    ∧ (∀ i : BitVec 4, exec (.fcuSwrep i info) s = exec (.faultReport (BitVec.ofNat 8 (208 + i.toNat)) info .both) s)
    ∧ (faultExists n = true → c < 5 → (∀ u, (fcuOf s u).dis.getLsbD d.val = false) →
      (c = 1 ∨ c = 2 → ∀ u, (fcuOf s u).domCount[d] < recoveryLimit s) →
      Completes (.faultReport f info .both) s (fun s' =>
        s'.triads = s.triads
        ∧ (∀ u,
          let x := fcuOf s u
          let y := fcuOf s' u
          (∀ i, y.active.getLsbD i = (x.active.getLsbD i || decide (i = n)))
          ∧ (∀ k : Fin 5, y.counters[k] = if k.val = c then satSucc x.counters[k] 0xFFFF else x.counters[k])
          ∧ (∀ k : Fin 7, y.domCount[k] = if k = d ∧ (c = 1 ∨ c = 2) then satSucc x.domCount[k] 256 else x.domCount[k])
          ∧ y.dis = x.dis
          ∧ (3 ≤ c ∧ x.state ≠ .init → y.state = .fault)
          ∧ (c < 3 ∧ x.state = .fault ∧ x.xPending = false ∧ (∀ i, i < 240 → x.actS.getLsbD i = true → i = n) → y.state = .quiet)
          ∧ (x.state = .init ∨ c < 3 ∧ (x.state ≠ .fault ∨ x.xPending = true ∨ ∃ i, i < 240 ∧ x.actS.getLsbD i = true ∧ i ≠ n) →
            y.state = x.state)
          ∧ (c = 2 ∨ c = 3 ∨ c = 1 ∧ pulseOf s n = true → y.pulse = true ∧ y.window = false)
          ∧ (c = 0 ∨ c = 1 ∧ pulseOf s n = false → y.pulse = x.pulse ∧ y.window = x.window)
          ∧ (c = 4 → y.hwHold = true ∧ y.xPending = true)
          ∧ (3 ≤ c → y.armed = false ∧ y.permit = false))
        ∧ s'.rd (Adr.fcuLogW0 e) = now s
        ∧ field (s'.rd (Adr.fcuLogW1 e)) 7 0 = n ∧ field (s'.rd (Adr.fcuLogW1 e)) 19 16 = c
        ∧ field (s'.rd (Adr.fcuLogW1 e)) 63 32 = info.toNat ∧ bitOf (s'.rd (Adr.fcuLogW1 e)) 20 = false
        ∧ field (s'.rd Adr.fcuLogptr) 5 0 = (e + 1) % 64
        ∧ (modeOf s ≠ 5 → bitOf (s'.rd (Adr.evcPend 24)) c = true)))
    ∧ (faultExists n = true → n ≠ 161 → n ≠ 170 →
      Completes (.faultReport f info .onlyA) s (fun s' => s'.triads = s.triads
        ∧ s'.fcu.a.active.getLsbD n = true ∧ s'.fcu.b.active.getLsbD n = s.fcu.b.active.getLsbD n
        ∧ s'.fcu.a.active.getLsbD 161 = true ∧ s'.fcu.b.active.getLsbD 161 = true)
      ∧ Completes (.faultReport f info .onlyB) s (fun s' => s'.triads = s.triads
        ∧ s'.fcu.b.active.getLsbD n = true ∧ s'.fcu.a.active.getLsbD n = s.fcu.a.active.getLsbD n
        ∧ s'.fcu.a.active.getLsbD 161 = true ∧ s'.fcu.b.active.getLsbD 161 = true))

/-- R608 to R612: two agreeing exchanges in a row move a unit out of INIT; a differing one counts, two in a row are F162;
a unit that fails its self-check is FAILED and holds FAULT_N low and PERMIT static; a unit whose digests stop, live or
not, is FAILED and reported by the other at the second missing digest. -/
def Obligations.UnitsCheckEachOther : Prop :=
  ∀ (s : State),
    let a := s.fcu.a
    let b := s.fcu.b
    (sendsDigest a = true → sendsDigest b = true → digest a = digest b →
      Completes .crossCheckExchange s (fun s' => s'.fcu.differ = 0 ∧ s'.fcu.missed = 0 ∧ s'.fcu.lastAgreed = true
        ∧ (∀ u, fcuOf s' u = if (fcuOf s u).state = .init then
              (if 2 ≤ (fcuOf s u).agreed + 1 then
                { fcuOf s u with agreed := 2, state := if anySX (fcuOf s u) || (fcuOf s u).xPending then .fault else .normal }
              else { fcuOf s u with agreed := (fcuOf s u).agreed + 1 })
            else fcuOf s u)
        ∧ SameRegs s s' (eventRegs 773) ∧ s' = { s with fcu := s'.fcu, regs := s'.regs }))
    ∧ (sendsDigest a = true → sendsDigest b = true → digest a ≠ digest b →
      Completes .crossCheckExchange s (fun s' => s'.triads = s.triads ∧ s'.fcu.differ = s.fcu.differ + 1 ∧ s'.fcu.missed = 0
        ∧ s'.fcu.lastAgreed = false
        ∧ field (s'.rd Adr.fcuXchk) 31 16 = satSucc (field (s.rd Adr.fcuXchk) 31 16) 0xFFFF
        ∧ (s.fcu.differ = 1 → s'.fcu.a.active.getLsbD 162 = true ∧ s'.fcu.b.active.getLsbD 162 = true)
        ∧ (s.fcu.differ ≠ 1 → ∀ u, (fcuOf s' u).active = (fcuOf s u).active ∧ (fcuOf s' u).state = (fcuOf s u).state)))
    ∧ (∀ u v : FcuId, u ≠ v → sendsDigest (fcuOf s u) = true → sendsDigest (fcuOf s v) = false →
      Completes .crossCheckExchange s (fun s' => s'.triads = s.triads ∧ s'.fcu.lastAgreed = false
        ∧ s'.fcu.missed = Nat.min 3 (s.fcu.missed + 1)
        ∧ (s.fcu.missed = 1 → live (fcuOf s' v) = false
            ∧ (fcuOf s' u).active.getLsbD (match v with | .a => 163 | .b => 164) = true)
        ∧ (s.fcu.missed ≠ 1 → s' = { s with fcu := { s.fcu with missed := s'.fcu.missed, lastAgreed := false } })))
    ∧ (∀ u, Completes (.fcuSelfCheckError (.silent u)) s (fun s' => fcuOf s' u = { fcuOf s u with silent := true }
        ∧ (∀ v, v ≠ u → fcuOf s' v = fcuOf s v) ∧ s' = { s with fcu := s'.fcu }))
    ∧ (∀ u, live (fcuOf s u) = true → Completes (.fcuSelfCheckError (.selfCheck u)) s (fun s' =>
        (fcuOf s' u).state = .failed ∧ (fcuOf s' u).armed = false ∧ (fcuOf s' u).permit = false ∧ faultN s' = false
        ∧ (∀ v, v ≠ u → fcuOf s' v = { fcuOf s v with armed := false, permit := false })
        ∧ (modeOf s ≠ 5 → bitOf (s'.rd (Adr.evcPend 24)) 5 = true ∧ bitOf (s'.rd (Adr.evcPend 24)) 10 = true)
        ∧ s' = { s with fcu := s'.fcu, regs := s'.regs }))

/-- R605, R606, R612, R621, R622, R629: the pulse gives way to its decision window, an unanswered window to HWHOLD; HOLD
holds the line, REL frees it where nothing blocks it; a clear of active faults ends FAULT when none of class S or X is
left and no reset of class X is due, the quiet period then ends in NORMAL. A FAILED unit takes no write. -/
def Clause.LineHoldsAndClears : Prop :=
  ∀ (s : State) (u : FcuId),
    let x := fcuOf s u
    let mine (s' : State) (y : FcuUnit) : Prop := fcuOf s' u = y ∧ (∀ v, v ≠ u → fcuOf s' v = fcuOf s v)
    (x.pulse = true → x.relDue = false → Completes (.pulseEnd u) s (fun s' =>
      mine s' { x with pulse := false, window := true } ∧ s' = { s with fcu := s'.fcu }))
    ∧ (x.pulse = true → x.relDue = true → Completes (.pulseEnd u) s (fun s' =>
      mine s' { x with pulse := false, relDue := false, window := false, swHold := false, hwHold := false }
      ∧ s' = { s with fcu := s'.fcu }))
    ∧ (x.window = true → x.holdReq = false → Completes (.decisionWindowEnd u) s (fun s' =>
      mine s' { x with window := false, hwHold := true } ∧ Pulsed s s' 775 ∧ SameRegs s s' (eventRegs 775)
      ∧ faultN s' = false ∧ s' = { s with fcu := s'.fcu, regs := s'.regs }))
    ∧ (x.window = true → x.holdReq = true → Completes (.decisionWindowEnd u) s (fun s' =>
      mine s' { x with window := false } ∧ s' = { s with fcu := s'.fcu }))
    ∧ Completes .hold s (fun s' => s' = { s with fcu := s'.fcu } ∧ faultN s' = false
        ∧ (∀ v, live (fcuOf s v) = false → fcuOf s' v = fcuOf s v)
        ∧ (∀ v, live (fcuOf s v) = true → fcuOf s' v = { fcuOf s v with
            swHold := true, relDue := false, holdReq := (fcuOf s v).holdReq || (fcuOf s v).pulse || (fcuOf s v).window }))
    ∧ (deviceNormal s = true → broken s = false → (∀ v, (fcuOf s v).xPending = false) →
      Completes .rel s (fun s' => s' = { s with fcu := s'.fcu }
        ∧ (∀ v, (fcuOf s v).pulse = true → fcuOf s' v = { fcuOf s v with relDue := true, holdReq := true })
        ∧ (∀ v, (fcuOf s v).pulse = false → (fcuOf s' v).swHold = false ∧ (fcuOf s' v).hwHold = false
            ∧ (fcuOf s' v).window = false)
        ∧ ((∀ v, (fcuOf s v).pulse = false) → modeOf s ≠ 5 → faultN s' = true)))
    ∧ (deviceNormal s = false → x.hwHold = true → x.pulse = false → x.window = false → live x = true →
      Completes .rel s (fun s' => (fcuOf s' u).hwHold = true ∧ (fcuOf s' u).swHold = false ∧ faultN s' = false
        ∧ s' = { s with fcu := s'.fcu }))
    ∧ (∀ (k : Fin 8) (v : BitVec 32), live x = true → Completes (.activeFaultClear k v) s (fun s' =>
        (∀ i, i < 240 → (fcuOf s' u).active.getLsbD i = (x.active.getLsbD i && !(decide (i / 32 = k.val) && v.getLsbD (i % 32))))
        ∧ (x.state = .fault → x.xPending = false → (∀ i, i < 240 → x.actS.getLsbD i = true → i / 32 = k.val ∧ v.getLsbD (i % 32) = true) →
            (fcuOf s' u).state = .quiet ∧ (modeOf s ≠ 5 → bitOf (s'.rd (Adr.evcPend 24)) 5 = true))
        ∧ ((x.state ≠ .fault ∨ x.xPending = true ∨ ∃ i, i < 240 ∧ x.actS.getLsbD i = true ∧ ¬(i / 32 = k.val ∧ v.getLsbD (i % 32) = true)) →
            (fcuOf s' u).state = x.state)
        ∧ SameRegs s s' (eventRegs 773) ∧ s' = { s with fcu := s'.fcu, regs := s'.regs }))
    ∧ (x.state = .quiet → Completes (.quietPeriodEnd u) s (fun s' => mine s' { x with state := .normal }
        ∧ Pulsed s s' 773 ∧ SameRegs s s' (eventRegs 773) ∧ s' = { s with fcu := s'.fcu, regs := s'.regs }))

/-- R624 to R627: ALIVE toggles while both units serve and their digests agreed; a PERMIT pin toggles while its unit is
armed and in NORMAL or QUIET, in OPERATE or DEGRADED with no broken lockstep, and is static low otherwise; an
acknowledgement of 20 ms to 2 s arms both units where the device is NORMAL without a fault of class S or X. -/
def Clause.PermitAndAlive : Prop :=
  ∀ (s : State) (u : FcuId),
    let x := fcuOf s u
    let mayMove := x.armed = true ∧ (x.state = .normal ∨ x.state = .quiet) ∧ (modeOf s = 2 ∨ modeOf s = 3) ∧ broken s = false
    let turns := fcuServing s.fcu.a = true ∧ fcuServing s.fcu.b = true ∧ s.fcu.lastAgreed = true ∧ modeOf s ≠ 0
      ∧ modeOf s ≠ 5
    (turns → exec .aliveToggle s = .next { s with fcu := { s.fcu with alive := !s.fcu.alive } })
    ∧ (¬ turns → exec .aliveToggle s = .next s)
    ∧ (mayMove → Completes (.permitToggle u) s (fun s' => fcuOf s' u = { x with permit := !x.permit }
        ∧ (∀ v, v ≠ u → fcuOf s' v = fcuOf s v) ∧ s' = { s with fcu := s'.fcu }))
    ∧ (¬ mayMove → Completes (.permitToggle u) s (fun s' => fcuOf s' u = { x with permit := false }
        ∧ (∀ v, v ≠ u → fcuOf s' v = fcuOf s v) ∧ s' = { s with fcu := s'.fcu }))
    ∧ (∀ ms : Nat, (ms < 20 ∨ 2000 < ms) → exec (.packNAcknowledgement ms) s = .next s)
    ∧ (∀ ms : Nat, 20 ≤ ms → ms ≤ 2000 → (modeOf s = 2 ∨ modeOf s = 3) → broken s = false → deviceNormal s = true →
      (∀ v : FcuId, (fcuOf s v).actS = 0) →
      Completes (.packNAcknowledgement ms) s (fun s' => Pulsed s s' 776
        ∧ SameRegs s s' (Adr.fcuPermit :: eventRegs 776) ∧ field (s'.rd Adr.fcuPermit) 5 4 = 1
        ∧ (∀ v, fcuOf s' v = { fcuOf s v with armed := true }) ∧ s' = { s with fcu := s'.fcu, regs := s'.regs }))

/-- R37 to R39, R581: a clock found off frequency, one that stops and a loss of lock each set their bit of SYS_CLKSTAT
and report F160 at the onset; a good window clears the onsets without a report; CLK_TNS stopped stops the
island and marks its next record; the lock regained shows in LOCK. -/
def Obligations.ClocksAreWatched : Prop :=
  ∀ (s : State), live s.fcu.a = true → live s.fcu.b = true →
    let reported (s' : State) (bit : Nat) : Prop := bitOf (s'.rd Adr.sysClkstat) bit = true
      ∧ s'.fcu.a.active.getLsbD 160 = true ∧ s'.fcu.b.active.getLsbD 160 = true ∧ s'.triads = s.triads
    exec (.clockMonitorWindow 0) s = .next { s with
        sys := { s.sys with freqSeen := 0, stopSeen := 0 }, yob := { s.yob with clkStopped := false } }
    ∧ (∀ (off : BitVec 6) (c : Fin 6), off.getLsbD c.val = true → s.sys.freqSeen.getLsbD c.val = false →
      Completes (.clockMonitorWindow off) s (fun s' => reported s' (8 + c.val) ∧ s'.sys.freqSeen.getLsbD c.val = true))
    ∧ (∀ c : Fin 6, s.sys.stopSeen.getLsbD c.val = false → Completes (.clockStop c) s (fun s' =>
        reported s' (16 + c.val) ∧ s'.sys.stopSeen.getLsbD c.val = true
        ∧ s'.yob = { s.yob with cgap := s.yob.cgap || decide (c = 4), clkStopped := s.yob.clkStopped || decide (c = 4) }))
    ∧ (∀ c : Fin 6, s.sys.stopSeen.getLsbD c.val = true → exec (.clockStop c) s = .next s)
    ∧ (s.sys.lolSeen = false → Completes .pllLossOfLock s (fun s' => reported s' 30
        ∧ bitOf (s'.rd Adr.sysClkstat) 31 = false ∧ s'.sys.lolSeen = true))
    ∧ Completes .pllLockRegained s (fun s' => bitOf (s'.rd Adr.sysClkstat) 31 = true ∧ SameRegs s s' [Adr.sysClkstat]
        ∧ (∀ i, i ≠ 31 → bitOf (s'.rd Adr.sysClkstat) i = bitOf (s.rd Adr.sysClkstat) i)
        ∧ s' = { s with regs := s'.regs, sys := { s.sys with lolSeen := false } })

/-! ### Trace, counters, debug (R282 to R284, R682 to R697) -/

/-- R683, R686 to R688, R694: the buffer takes the triads' trace entries in turn, at PTR, and stops or wraps at its end;
the port takes them in the order of their commits, sends SYNC after 1,024 of them and an idle entry where none waits, the
port is no destination or the buffer beside it is full; enabling the unit starts the buffer afresh; a triad writes its
own counters only. -/
def Obligations.TraceDrains : Prop :=
  ∀ (s : State),
    let ctl := s.rd Adr.trcCtl
    let w := s.rd Adr.trcWptr
    let p := field w 14 0
    let at_ := 0x1640000 + 32 * p
    let popped (s' : State) (t : TriadId) (r : List (Rec × TriadId × LaneId)) : Prop :=
      s'.triads = (s.setTriad t fun x => { x with trace := r }).triads
      ∧ s'.sys.traceOrder = s.sys.traceOrder.erase t
    let moved (s' : State) : Prop := SameRegs s s' [Adr.trcWptr]
      ∧ (p < 32767 → field (s'.rd Adr.trcWptr) 14 0 = p + 1 ∧ bitOf (s'.rd Adr.trcWptr) 31 = bitOf w 31)
      ∧ (p = 32767 → bitOf ctl 3 = true → field (s'.rd Adr.trcWptr) 14 0 = 0 ∧ bitOf (s'.rd Adr.trcWptr) 31 = true)
      ∧ (p = 32767 → bitOf ctl 3 = false → field (s'.rd Adr.trcWptr) 14 0 = p ∧ bitOf (s'.rd Adr.trcWptr) 30 = true)
    let kept (s' : State) (e : Rec × TriadId × LaneId) : Prop :=
      ∀ a, rdByte s' a = if at_ ≤ a ∧ a < at_ + 32 then (traceOctets e).getD (a - at_) 0 else rdByte s a
    let sent (s' : State) (o : List Byte) (n : Nat) : Prop := s'.sys.portLast = o ∧ s'.sys.portCount = n
    (modeOf s ≠ 5 → ∀ t e r, field ctl 2 1 = 1 → bitOf w 30 = false → s.clean at_ → nextTraced s = some t → (s.tri t).trace = e :: r →
      Completes .traceEntryWrite s (fun s' => kept s' e ∧ moved s' ∧ popped s' t r ∧ s'.sys.traceTurn = t))
    ∧ (modeOf s ≠ 5 → bitOf ctl 4 = true → bitOf ctl 2 = true → (bitOf ctl 1 = true → bitOf w 30 = false) →
      (1024 ≤ s.sys.portCount → Completes .tracePortSend s (fun s' =>
        sent s' (traceOctets (⟨0x53594E4353594E43, BitVec.ofNat 64 s.sys.portCount, 0, 0x22, 0, 0, 0⟩, 0, 0)) 0
        ∧ s' = { s with sys := s'.sys }))
      ∧ (s.sys.portCount < 1024 → firstTraced s = none → Completes .tracePortSend s (fun s' =>
        sent s' (List.replicate 32 0) s.sys.portCount ∧ s' = { s with sys := s'.sys }))
      ∧ (∀ t e r, s.sys.portCount < 1024 → firstTraced s = some t → (s.tri t).trace = e :: r →
        (bitOf ctl 1 = false → Completes .tracePortSend s (fun s' => sent s' (traceOctets e) (s.sys.portCount + 1)
          ∧ popped s' t r ∧ s'.mem = s.mem ∧ s'.regs = s.regs))
        ∧ (bitOf ctl 1 = true → s.clean at_ → Completes .tracePortSend s (fun s' =>
          sent s' (traceOctets e) (s.sys.portCount + 1) ∧ popped s' t r ∧ kept s' e ∧ moved s'))))
    ∧ (modeOf s ≠ 5 → bitOf ctl 4 = true → (bitOf ctl 2 = false ∨ bitOf ctl 1 = true ∧ bitOf w 30 = true) →
      Completes .tracePortSend s (fun s' =>
        sent s' (List.replicate 32 0) s.sys.portCount ∧ s' = { s with sys := s'.sys }))
    ∧ (∀ v : BitVec 32,
      (bitOf ctl 31 = false → Completes (.traceEnable v) s (fun s' =>
        SameRegs s s' [Adr.trcCtl, Adr.trcWptr] ∧ s' = { s with regs := s'.regs, sys := s'.sys }
        ∧ s'.sys = { s.sys with portLast := if v.getLsbD 4 then s.sys.portLast else [] }
        ∧ portPins s' = (if v.getLsbD 4 then s.sys.portLast else [])
        ∧ field (s'.rd Adr.trcCtl) 4 0 = v.toNat % 32 ∧ bitOf (s'.rd Adr.trcCtl) 31 = v.getLsbD 31
        ∧ s'.rd Adr.trcWptr = if v.getLsbD 0 then 0 else w))
      ∧ (bitOf ctl 31 = true → Completes (.traceEnable v) s (fun s' => SameRegs s s' []
        ∧ s' = { s with regs := s'.regs, sys := { s.sys with portLast := portPins s } })))
    ∧ (∀ (u t : TriadId) (n : Fin 32) (v : Word),
      (u ≠ t → exec (.counterWrite u t n v) s = .next s)
      ∧ Completes (.counterWrite t t n v) s (fun s' => s'.rd (Adr.trcCnt t.val n.val) = v
        ∧ SameRegs s s' [Adr.trcCnt t.val n.val] ∧ s' = { s with regs := s'.regs }))

/-- R282 to R284, R696, R697: a debugger, which exists in DEVELOPMENT only, halts a running triad, at once where it
stands at a committed boundary, which shows in SYS_LSTAT and as fault 12 of the triad; it lets a halted one go on, for
good or for one clause, and reads and writes its registers and, from plain SRAM, its memory. -/
def Obligations.DebuggerActs : Prop :=
  ∀ (s : State) (t : TriadId),
    let x := s.tri t
    let lead := s.leadCore t
    let each (f : LaneCore → LaneCore) (s' : State) : Prop :=
      (∀ l, x.act l = true → (s'.tri t).lane l = { x.lane l with core := f (x.lane l).core })
      ∧ (∀ l, x.act l = false → (s'.tri t).lane l = x.lane l)
      ∧ s' = s.setTriad t fun y => { y with fetched := none, lanes := (s'.tri t).lanes }
    (lcState s ≠ 1 → ∀ i ∈ [Instr.haltRequest t, .debugResume t, .singleStep t], exec i s = .next s)
    ∧ (lcState s = 1 → modeOf s ≠ 5 → x.runs = true → (x.slots ≠ 0 ∨ x.closed.isSome = true) →
      exec (.haltRequest t) s = .next (s.setTriad t fun y => { y with haltReq := true }))
    ∧ (lcState s = 1 → modeOf s ≠ 5 → x.runs = true → x.slots = 0 → x.closed = none → 2 ≤ x.actives.length →
      (∀ l, (x.lane l).suspectDue = false) → x.selPair = false → x.repair = none → live s.fcu.a = true → live s.fcu.b = true →
      Completes (.haltRequest t) s (fun s' => (s'.tri t).halted = true ∧ (s'.tri t).haltReq = false
        ∧ (∀ u, u ≠ t → s'.tri u = s.tri u) ∧ (s'.tri t).lanes = x.lanes
        ∧ bitOf (s'.rd Adr.sysLstat) 0 = true ∧ bitOf (s'.rd Adr.sysLstat) (8 + t.val) = true ∧ isSplit s' t = true
        ∧ s'.fcu.a.active.getLsbD (16 * t.val + 12) = true ∧ faultN s' = false ∧ (∀ u, permitOk s' u = false)))
    ∧ (lcState s = 1 → modeOf s ≠ 5 → x.halted = true → x.fenced = false →
      exec (.debugResume t) s = .next (s.setTriad t fun y => { y with halted := false, haltReq := false })
      ∧ exec (.singleStep t) s = .next (s.setTriad t fun y => { y with halted := false, haltReq := true })
      ∧ (∀ num : BitVec 12, srExists num.toNat = true →
        exec (.debugRegisterAccess t num none) s = .next { s with busData := mfsValue lead num.toNat })
      ∧ (∀ v : Word,
        (∀ (b : Fin 4) (i : Nat), 1 ≤ i → i < 32 →
          Completes (.debugRegisterAccess t (BitVec.ofNat 12 (0x100 + 64 * b.val + i)) (some v)) s
            (each fun c => c.setBank b fun k => k.wg (BitVec.ofNat 5 i) v))
        ∧ (∀ b : Fin 4, Completes (.debugRegisterAccess t (BitVec.ofNat 12 (0x120 + 64 * b.val)) (some v)) s
            (each fun c => c.setBank b fun k => { k with pc := v }))
        ∧ Completes (.debugRegisterAccess t 2 (some v)) s (each fun c => { c with vbr := v })
        ∧ Completes (.debugRegisterAccess t 3 (some v)) s (each fun c => { c with vbrM := v })
        ∧ Completes (.debugRegisterAccess t 4 (some v)) s (each fun c => { c with dfsp := v }))
      ∧ (∀ (va : Word) (size : BitVec 2), PlainSram s t va (2 ^ size.toNat) → NothingAhead s t va → x.closed = none → x.slots = 0 →
        isSplit s t = true → x.haltReq = false → x.act x.lead = true →
        (aliasOverlap (x.columnOf x.lead) va.toNat (2 ^ size.toNat) = false →
          Completes (.debugMemoryAccess t va size none) s (fun s' => s'.mem = s.mem ∧ (∀ u, u ≠ t → s'.tri u = s.tri u)
            ∧ s'.busData = forwardData (x.columnOf x.lead) va.toNat (2 ^ size.toNat)
                (BitVec.ofNat 64 (rdMem s va.toNat (2 ^ size.toNat)))
            ∧ (s'.tri t).clause = x.clause + 1))
        ∧ (∀ v : Word, Completes (.debugMemoryAccess t va size (some v)) s (fun s' => s'.mem = s.mem
            ∧ (∀ u, u ≠ t → s'.tri u = s.tri u) ∧ (s'.tri t).clause = x.clause + 1
            ∧ ∃ e ∈ (s'.tri t).toRelease, e.pa.toNat = va.toNat
              ∧ e.data = BitVec.ofNat 64 (v.toNat % 2 ^ (8 * 2 ^ size.toNat))
              ∧ e.be = BitVec.ofNat 8 (2 ^ 2 ^ size.toNat - 1)))))

/-! ### Operating modes, low power, resets, boot (R626, R634 to R680) -/

/-- R626, R662 to R666, R668, R675: a request for a mode is carried out where its conditions hold, PREV keeping the mode
left, and is refused with its code where one does not; leaving OPERATE and DEGRADED disarms PERMIT; SAFE HOLD takes the
outputs to their safe state; the time limit of DEGRADED is reported once, before a request for OPERATE is judged (R669).
While a requested DORMANT is awaited OPERATE is refused (R664; log 35). -/
def Obligations.ModesAreRequested : Prop :=
  ∀ (s : State) (w : TriadId),
    let m := modeOf s
    let lc := lcState s
    let into (i : Instr) (k : Nat) : Prop := Completes i s (fun s' => modeOf s' = k ∧ field (s'.rd Adr.sysMode) 10 8 = m
      ∧ s'.mem = s.mem ∧ s'.triads = s.triads ∧ (k = 1 ∨ k = 4 → ∀ u, (fcuOf s' u).armed = false)
      ∧ (k = 4 → s'.legacy.safeTmr = 0x3F ∧ s'.legacy.safeLeg = 0x3F ∧ bitOf (s'.rd (Adr.evcPend 9)) 26 = true))
    let refused (i : Instr) (code : Nat) : Prop := Completes i s (fun s' => modeOf s' = m ∧ SameRegs s s' [Adr.sysMode]
      ∧ bitOf (s'.rd Adr.sysMode) 15 = true ∧ field (s'.rd Adr.sysMode) 19 16 = code ∧ s' = { s with regs := s'.regs })
    let sx := ∃ u : FcuId, (fcuOf s u).actS ≠ 0
    let dsx := ∃ u : FcuId, (fcuOf s u).actD ≠ 0 ∨ (fcuOf s u).actS ≠ 0
    let froze := ∀ t, (s.tri t).fenced = true ∨ bitOf (s.rd Adr.tapuPwfrz) t.val = true
    let limitDue := m = 3 ∧ s.sys.degReported = false ∧ s.sys.degLimit ≤ s.sys.degTicks
    let pairs := ∃ t, (s.tri t).released = true ∧ (s.tri t).mode = 2
    (m = 1 → exec (.modeRequestCommission w) s = .next s) ∧ (m = 2 → exec (.modeRequestOperate w) s = .next s)
    ∧ (m = 4 → exec (.modeRequestSafeHold w) s = .next s)
    ∧ (m = 2 ∨ m = 3 ∨ m = 4 ∧ ¬ sx → into (.modeRequestCommission w) 1)
    ∧ (m = 4 → sx → refused (.modeRequestCommission w) 5)
    ∧ (m = 0 ∨ 5 ≤ m → refused (.modeRequestCommission w) 1)
    ∧ ((m = 1 ∨ m = 2 ∨ m = 3) → lc ≠ 0 → into (.modeRequestSafeHold w) 4)
    ∧ (m ≠ 4 → (m = 0 ∨ 5 ≤ m ∨ lc = 0) → refused (.modeRequestSafeHold w) 1)
    ∧ (m = 0 ∨ 5 ≤ m → refused (.modeRequestOperate w) 1)
    ∧ Completes .degradedLimit s (fun s' => exec (.modeRequestOperate w) s = exec (.modeRequestOperate w) s')
    ∧ (m ≠ 2 → ¬ limitDue → s.sys.dormantDue.isSome = true → refused (.modeRequestOperate w) 1)
    ∧ (m = 1 ∨ m = 3 ∨ m = 4 → ¬ limitDue → s.sys.dormantDue = none →
      (broken s = true → refused (.modeRequestOperate w) 2)
      ∧ (broken s = false → (lc = 0 ∨ lc = 3) → refused (.modeRequestOperate w) 3)
      ∧ (broken s = false → (lc = 1 ∨ lc = 2) →
        (¬ froze → refused (.modeRequestOperate w) 4)
        ∧ (froze → deviceNormal s = false ∨ dsx → refused (.modeRequestOperate w) 5)
        ∧ (froze → deviceNormal s = true → ¬ dsx → pairs → refused (.modeRequestOperate w) 6)
        ∧ (froze → deviceNormal s = true → ¬ dsx → ¬ pairs → into (.modeRequestOperate w) 2)))
    ∧ (∀ off : Bool,
      let i := if off then Instr.dormantOffRequest w else .dormantRetainRequest w
      let may := (m = 1 ∨ m = 4) ∧ lc ≠ 0 ∧ anyTableRuns s = false ∧ s.tense.armed = []
        ∧ (∀ c : Fin 32, s.chans[c].state = .idle ∨ s.chans[c].state = .error) ∧ storeBusy s = false ∧ s.sram.wiping = false
      let came := if s.sys.dormantDue.isSome then s.sys.wakeDue else none
      (may → exec i s = .next { s with sys := { s.sys with dormantDue := some off, wakeDue := came } })
      ∧ (¬ may → refused i 7))
    ∧ (limitDue → live s.fcu.a = true → live s.fcu.b = true →
      Completes .degradedLimit s (fun s' => s'.sys.degReported = true ∧ s'.triads = s.triads ∧ s'.mem = s.mem
        ∧ ∀ u, (fcuOf s' u).active.getLsbD 169 = true))
    ∧ (¬ limitDue → exec .degradedLimit s = .next s)

/-- R628, R676 to R680: once every triad stands still a requested DORMANT is entered, with empty caches, closed sessions, no
link, READY 0, low FAULT_N, a still ALIVE and the banks in Retain or Off, and no octet outside READY and the save area
changed in those that retain; WAKE_N and the wake time, where enabled, end it: from RETAIN in the mode left with READY 1,
from OFF by a device reset that is then due; a WAKE_N before the entry is remembered, unless another source has come first. -/
def Obligations.DormancyAndWake : Prop :=
  ∀ (s : State),
    let woken (code : Nat) (s' : State) : Prop := field (s'.rd Adr.sysRstcause) 7 4 = code ∧ s'.triads = s.triads
      ∧ (s.sys.dormantOff = false → s.sram.errors = [] → modeOf s' = s.sys.dormantFrom.toNat
          ∧ (∀ n : Fin 12, s'.sram.power[n] =
              if s.sram.power[n] = 1 ∧ (n.val = 11 ∨ s.sram.goal[n] = 0) then 0 else s.sram.power[n])
          ∧ (s'.sram.power[10] = 0 → rdMem s' 0x1400010 4 = 1 ∧ rdMem s' 0x1410010 4 = 1)
          ∧ ∀ a, (a < 0x1400010 ∨ 0x1410014 ≤ a) → rdByte s' a = rdByte s a)
      ∧ (s.sys.dormantOff = true → modeOf s' = modeOf s ∧ s'.hosts.resetDue = some .dormantOffWake ∧ s'.mem = s.mem)
    (∀ off : Bool, s.sys.dormantDue = some off → s.sys.wakeDue = none → modeOf s ≠ 5 → (∀ t, triadStill (s.tri t) = true) →
      (∀ p : Fin 8, s.net.ports[p].sending = none ∧ s.net.ports[p].cut = none) → s.clean 0x1600000 →
      Completes .dormantEntry s (fun s' => modeOf s' = 5 ∧ s'.sys.dormantDue = none ∧ s'.sys.dormantOff = off
        ∧ s'.sys.dormantFrom = BitVec.ofNat 3 (modeOf s)
        ∧ s'.tlb = [] ∧ (∀ t, (s'.tri t).l1i = [] ∧ (s'.tri t).l1d = [] ∧ (s'.tri t).lanes = (s.tri t).lanes)
        ∧ (∀ k : Fin 8, s'.hosts.sessions[k].isOpen = false) ∧ (∀ p : Fin 8, bitOf (s'.rd (Adr.netPStat p.val)) 31 = false)
        ∧ faultN s' = false ∧ s'.fcu.alive = false ∧ s'.sram.power[11] = 1
        ∧ (∀ n : Fin 12, n.val < 11 → s'.sram.power[n] =
            if off then 2 else if s.sram.power[n] = 0 then 1 else s.sram.power[n])
        ∧ (off = false → bankOn s 0x1400000 = true → rdMem s' 0x1400010 4 = 0 ∧ rdMem s' 0x1410010 4 = 0)
        ∧ (off = false → ∀ a, (a < 0x1400010 ∨ 0x1410014 ≤ a ∧ a < 0x1740000) → rdByte s' a = rdByte s a)
        ∧ (off = true → ∀ a, a < 0x1600000 → rdByte s' a = 0)))
    ∧ (s.sys.dormantDue = none ∨ (∃ t, triadStill (s.tri t) = false) → exec .dormantEntry s = .next s)
    ∧ (bitOf (s.rd Adr.sysWakecfg) 1 = true → modeOf s = 5 → Completes .wake s (woken 1))
    ∧ (bitOf (s.rd Adr.sysWakecfg) 1 = true → modeOf s ≠ 5 →
      exec .wake s = .next (if s.sys.dormantDue.isSome ∧ s.sys.wakeDue = none then { s with sys := { s.sys with wakeDue := some 1 } } else s))
    ∧ (bitOf (s.rd Adr.sysWakecfg) 1 = false → exec .wake s = .next s)
    ∧ (bitOf (s.rd Adr.sysWakecfg) 0 = true → modeOf s = 5 → atOrAfter (now s) (s.rd Adr.sysWaket) = true →
      Completes .wakeTime s (woken 2))
    ∧ (bitOf (s.rd Adr.sysWakecfg) 0 = false ∨ modeOf s ≠ 5 ∨ atOrAfter (now s) (s.rd Adr.sysWaket) = false →
      exec .wakeTime s = .next s)

/-- R608, R612, R619, R636, R640, R659, R670, R671, R681: a reset holds every triad, empties SRAM, closes every session and
puts each register whose survival letter names no stronger reset at its reset value; the cause shows in SYS_RSTCAUSE;
fuses, the island and the firmware slots stay; the units' counters last until POR and a FAILED unit until a pin reset. A
device reset happens where its cause has made it due. -/
def Clause.ResetsReach : Prop :=
  ∀ (s : State),
    let reached (k : Survival) (cause : Nat) (s' : State) : Prop :=
      (∀ a, a ≠ Adr.sysRstcause → s'.rd a = if (survivalOf a).keptBy k then s.rd a else resetValue a)
      ∧ field (s'.rd Adr.sysRstcause) 3 0 = cause ∧ s'.mem = [] ∧ s'.tlb = [] ∧ modeOf s' = 0
      ∧ (∀ t, s'.tri t = Triad.reset (rstvecReset t)) ∧ (∀ c : Fin 32, s'.chans[c].state = .idle)
      ∧ (∀ j : Fin 8, s'.hosts.sessions[j].isOpen = false) ∧ s'.fcu.alive = false
      ∧ s'.yob = s.yob ∧ s'.lcs.fuses = s.lcs.fuses ∧ s'.lcs.keyHash = s.lcs.keyHash
      ∧ s'.boot.fwA = s.boot.fwA ∧ s'.boot.fwB = s.boot.fwB ∧ s'.pending = s.pending
      ∧ s'.sram.wiping = (decide (k ≠ .p) && s.sram.wiping)
    let counted (s' : State) : Prop := ∀ u, (fcuOf s' u).counters = (fcuOf s u).counters ∧ (fcuOf s' u).dis = (fcuOf s u).dis
    let device (c : DevCause) (code : Nat) : Prop := Completes (.deviceReset c) s (fun s' => reached .d code s' ∧ counted s'
      ∧ ∀ u, (fcuOf s' u).state = if (fcuOf s u).state = .failed then .failed else .init)
    Completes .por s (fun s' => reached .p 1 s' ∧ s'.regs = (State.reset.wr Adr.sysRstcause 1).regs
      ∧ ∀ u, fcuOf s' u = FcuUnit.reset)
    ∧ Completes .pinReset s (fun s' => reached .h 2 s' ∧ counted s' ∧ ∀ u, (fcuOf s' u).state = .init)
    ∧ ((∃ u, (fcuOf s u).xPending = true) → device .classX 3)
    ∧ ((∀ u, (fcuOf s u).xPending = false) → exec (.deviceReset .classX) s = .next s)
    ∧ (∀ cc ∈ [(DevCause.command, 4), (.lifeCycle, 5), (.dormantOffWake, 6)],
      (s.hosts.resetDue = some cc.1 → device cc.1 cc.2) ∧ (s.hosts.resetDue ≠ some cc.1 → exec (.deviceReset cc.1) s = .next s))

/-- R634 to R652: the boot ends in COMMISSION with every triad that has a valid vector, its bank and its lanes released at
that vector and the image's segments in place, everything else below 0x1200000 zero; a test that fails, or an image that
fails its checks in both slots, halts it at its step with its code and releases nothing; without lock of the root PLL,
which LOCK shows (R39), it stays in step 1. -/
def Obligations.BootReleasesOrHalts : Prop :=
  ∀ (s : State) (f : BootFindings), modeOf s = 0 → bitOf (s.rd Adr.tstStat) 30 = false →
    let img := if prefB s.boot then s.boot.fwB else s.boot.fwA
    let up : State := ({ s with sram := { s.sram with power := Vector.replicate 12 0 } } : State).wr Adr.ddrTop 0
    let halted (step code : Nat) : Prop := Completes (.bootSequence f) s (fun s' => modeOf s' = 0
      ∧ bitOf (s'.rd Adr.tstStat) 30 = true ∧ field (s'.rd Adr.tstStat) 23 20 = step
      ∧ field (s'.rd Adr.tstStat) 19 16 = code ∧ ∀ t, (s'.tri t).released = (s.tri t).released)
    let bank11 := ∃ n : Fin 12, 6 ≤ n.val ∧ bankFound f n = 2
    let lanes2 := ∃ t, 2 ≤ lanesPass f.laneFail t
    let plain := (∀ n : Fin 12, bankFound f n = 0) ∧ f.uncore = 0 ∧ f.laneFail = 0 ∧ lcState s ≠ 3 ∧ serialOk f.sfdp = true
      ∧ ∀ c : Fin 4, f.ddr[c].slot0 = none ∧ f.ddr[c].slot1 = none
    (f.rootLock = false → Completes (.bootSequence f) s (fun s' => SameRegs s s' [Adr.tstStat, Adr.sysClkstat]
      ∧ field (s'.rd Adr.tstStat) 23 20 = 1 ∧ bitOf (s'.rd Adr.sysClkstat) 31 = false
      ∧ s' = { s with regs := s'.regs, sys := { s.sys with freqSeen := 0, stopSeen := 0, lolSeen := false } }))
    ∧ (f.rootLock = true → f.avsAck = false → halted 1 7)
    ∧ (f.rootLock = true → f.avsAck = true →
      (bank11 → halted 2 2)
      ∧ (¬ bank11 → f.uncore ≠ 0 → halted 3 1)
      ∧ (¬ bank11 → f.uncore = 0 → ¬ lanes2 → halted 4 3)
      ∧ (¬ bank11 → f.uncore = 0 → lanes2 → lcState s = 3 → halted 4 6)
      ∧ (¬ bank11 → f.uncore = 0 → lanes2 → lcState s ≠ 3 → serialOk f.sfdp = false → halted 5 4)
      ∧ (plain → imgReason up s.boot.fwA ≠ 0 → imgReason up s.boot.fwB ≠ 0 → halted 9 5)
      ∧ (plain → cfgSlotOf s.boot.cfgA = none → cfgSlotOf s.boot.cfgB = none → s.hosts.objs = [] →
      s.sys.holdDue = false → (∀ x ∈ imgSegs img, x.1 + x.2.2 ≤ 0x1200000) → imgReason up img = 0 →
      Completes (.bootSequence f) s (fun s' => modeOf s' = 1 ∧ field (s'.rd Adr.tstStat) 23 20 = 11
        ∧ bitOf (s'.rd Adr.tstStat) 30 = false ∧ s'.boot.anyBooted = true ∧ s'.boot.bootedB = prefB s.boot ∧ s'.boot.readMode = readModeOf f.sfdp (headerInUse s.boot).1
        ∧ (∀ x ∈ imgSegs img, ∀ i, i < x.2.2 → rdByte s' (x.1 + i) = img.getD (x.2.1 + i) 0)
        ∧ (∀ a, a < 0x1200000 → (∀ x ∈ imgSegs img, a < x.1 ∨ x.1 + x.2.2 ≤ a) → rdByte s' a = 0)
        ∧ ∀ t,
          let v := leAt img (0x20 + 8 * t.val) 8
          (s'.tri t).released = decide (v / 2 ^ 63 % 2 = 1 ∧ v / 2 ^ 40 % 2 ^ 23 = 0 ∧ v % 4 = 0)
          ∧ (∀ l, ((s'.tri t).lane l).core = LaneCore.reset (s'.rd (Adr.sysRstvec t.val) &&& 0xFFFFFFFFFC)
              ∧ ((s'.tri t).lane l).state = ((s.tri t).lane l).state)
          ∧ field (s'.rd (Adr.sysRstvec t.val)) 39 2 = v / 4 % 2 ^ 38)))
    ∧ (s.boot.imgWriting = true → s.lcs.waiting = [] → Completes .imageWriteDone s (fun s' => s' = { s with boot := s'.boot }
      ∧ s'.boot.imgWriting = false ∧ (s'.boot.imgState = 2 ↔ imgReason s (spareImage s.boot) = 0)
      ∧ s'.boot.imgReason = BitVec.ofNat 8 (imgReason s (spareImage s.boot)) ∧ s'.boot.fwA = s.boot.fwA
      ∧ s'.boot.fwB = s.boot.fwB))
    ∧ (s.boot.imgWriting = false → s.lcs.waiting = [] → exec .imageWriteDone s = .next s)

/-- R11 to R13, R15, R44, R129, R730: a register write takes the RW bits and, while its lock bit is clear, the RWL bits of
the registers of TST, CMP and of EVC_ROUTEn, clears the W1C bits written 1 and leaves every other bit; a write that starts
an action is that command; a misaligned one and one outside the register blocks change nothing. -/
def Obligations.RegisterWritesLand : Prop :=
  ∀ (s : State) (w : TriadId) (v : Word),
    let v32 : BitVec 32 := v.setWidth 32
    let acts (a : Nat) (i : Instr) : Prop := exec (.registerWrite w (BitVec.ofNat 40 a) false v) s = exec i s
    (∀ (a : BitVec 40) (dbl : Bool), a.toNat % (if dbl then 8 else 4) ≠ 0 ∨ regionOf s a.toNat ≠ .regs →
      exec (.registerWrite w a dbl v) s = .next s)
    ∧ (∀ (a : Nat) (d : RegDesc) (i j : Nat),
      (0x80040000 ≤ a ∧ a < 0x80041000 ∨ 0x80020000 ≤ a ∧ a < 0x80030000 ∨ 0x80100000 ≤ a ∧ a < 0x80160000) → a % 4 = 0 →
      regAt a = some (d, i, j) → d.wide = false →
      (∀ r ∈ d.rsv, ∃ k ∈ r.2.2, k.1 ≤ field v r.1 r.2.1 ∧ field v r.1 r.2.1 ≤ k.2) →
      Completes (.registerWrite w (BitVec.ofNat 40 a) false v) s (fun s' => SameRegs s s' [a] ∧ s' = { s with regs := s'.regs }
        ∧ ∀ b, bitOf (s'.rd a) b =
          if b < 32 ∧ bitOf v b = true ∧ d.w1s.testBit b = true then true
          else if b < 32 ∧ bitOf v b = true ∧ d.w1c.testBit b = true then false
          else if b < 32 ∧ (d.rw.testBit b = true ∨ d.rwl.testBit b = true ∧ lockedAt s d i = false) then bitOf v b
          else bitOf (s.rd a) b))
    ∧ acts Adr.evcSwset (.evcSwset (v.setWidth 6)) ∧ acts Adr.evcDbset (.evcDbset (BitVec.ofNat 6 (2 ^ w.val)) (v.setWidth 6))
    ∧ (v.toNat % 8 = 1 → acts Adr.sysModereq (.modeRequestCommission w))
    ∧ (v.toNat % 8 = 2 → acts Adr.sysModereq (.modeRequestOperate w))
    ∧ (v.toNat % 8 = 4 → acts Adr.sysModereq (.modeRequestSafeHold w))
    ∧ (bitOf v 0 = true → acts Adr.sysTrst (.triadReset w))
    ∧ (v.toNat % 4 = 1 → acts Adr.fcuPinctl .hold) ∧ (v.toNat % 4 = 2 → acts Adr.fcuPinctl .rel)
    ∧ (∀ k : Fin 8, acts (Adr.fcuAct k.val) (.activeFaultClear k v32))
    ∧ acts Adr.trcCtl (.traceEnable v32)
    ∧ (∀ n : Fin 32, exec (.registerWrite w (BitVec.ofNat 40 (Adr.trcCnt w.val n.val)) true v) s = exec (.counterWrite w w n v) s)
    ∧ exec (.registerWrite w (BitVec.ofNat 40 Adr.fcuSwrep) true v) s
        = exec (.fcuSwrep (v.extractLsb' 48 4) (v.setWidth 32)) s

/-! ### The whole machine -/

/-- The model's own queue (log 1): a step with a command in front is that command on the state with the queue's rest, and
an empty queue is a tick (log 2). -/
def Obligations.StepRunsFront : Prop :=
  (∀ (s : State) (c : Instr) (q : List Instr), step { s with pending := c :: q } = exec c { s with pending := q })
  ∧ ∀ s : State, s.pending = [] → step s = .next (tick s)

/-- Every command is carried out in every state: none stops the machine (log 5). -/
def Obligations.EveryCommandCompletes : Prop := ∀ (s : State) (i : Instr), ∃ s', exec i s = .next s'

/-- R51, R52, R146, R191, R203, R608, R626, R628, R634, R640, R662, R670: what a power-on leaves: SELFTEST, every triad held
with its lanes' registers zero, bank 0 in use at M level with the PC at 0x200000 * t and all other banks free, SRAM zero,
every channel idle, no session open, FAULT_N low, PERMIT disarmed. -/
def Clause.ResetLeaves : Prop :=
  let s := State.reset
  modeOf s = 0 ∧ field (s.rd Adr.sysRstcause) 3 0 = 1 ∧ s.mem = [] ∧ s.pending = []
  ∧ (∀ t : TriadId, (s.tri t).runs = false ∧ (s.tri t).clause = 0 ∧ s.rd (Adr.sysRstvec t.val) &&& 0xFFFFFFFFFC = BitVec.ofNat 64 (t.val * 0x200000)
    ∧ ∀ l : LaneId, let c := ((s.tri t).lane l).core
      c.pc = BitVec.ofNat 64 (t.val * 0x200000) ∧ c.priv = 3 ∧ pswIE c.psw = false ∧ c.cur = 0
      ∧ (∀ b : Fin 4, c.banks[b].busy = decide (b = 0)) ∧ (∀ r : Reg, c.rg r = 0 ∧ c.rf r = 0) ∧ c.flight = []
      ∧ c.vbr = 0 ∧ c.vbrM = 0 ∧ c.dfsp = 0 ∧ ((s.tri t).lane l).sig = 0xFFFFFFFFFFFFFFFF ∧ ((s.tri t).lane l).gate = [])
  ∧ (∀ c : Fin 32, s.chans[c].state = .idle) ∧ (∀ k : Fin 8, s.hosts.sessions[k].isOpen = false)
  ∧ faultN s = false ∧ (∀ u, (fcuOf s u).state = .init ∧ (fcuOf s u).armed = false)
  ∧ (∀ t : TriadId, s.rd (Adr.cmpClauseLen t.val) = 0x80 ∧ s.rd (Adr.cmpClauseTmax t.val) = 0xC80
      ∧ s.rd (Adr.cmpParseInterval t.val) = 0x400)

/-- The canonical form of memory and registers, by which equal contents are equal data, holds right after power-on. -/
def Obligations.ResetIsSound : Prop := State.reset.Sound

/-- Every step keeps memory and registers in canonical form, and takes exactly the front command off the queue. -/
def Obligations.StepsKeepSound : Prop :=
  ∀ s s' : State, s.Sound → step s = .next s' → s'.Sound ∧ s'.pending = s.pending.tail

/-- R110, R116 to R137: every operation with operands that the encoding admits is read back from its word with its E bit,
and every word that decodes is the word of what it decodes to: no bit is dropped and no two words share an operation. -/
def Obligations.EncodingRoundTrips : Prop :=
  (∀ (e : Bool) (op : Op), opEncodable op = true → opPlain op = true →
    decodeOp (encodeOp e op) = some op ∧ wordEnds (encodeOp e op) = e)
  ∧ ∀ (w : BitVec 32) (op : Op), decodeOp w = some op →
    encodeOp (wordEnds w) op = w ∧ opEncodable op = true ∧ opPlain op = true

/-! ### Statements of several parts, each part a definition above -/

/-- R74, R118, R125: each integer instruction gives the result of its row, one slot on, and starts nothing else; a
checked sum that overflows raises the trap and writes nothing. -/
def Obligations.IntegerArithmetic : Prop := Clause.IntegerResults ∧ Clause.CheckedSums ∧ Clause.OverflowTraps

/-- R71 to R73, R119, R120: products, accumulations, moves and quotients of the accumulator pairs and the quotient
registers, with the corners that R73 fixes. -/
def Obligations.ProductsAndQuotients : Prop := Clause.PairResults ∧ Clause.Divisions

/-- R75 to R78, R121: sums, products, fused products, conversions, quotients and roots are rounded by the mode in PSW
and land at their distances. What `fAdd` and its fellows compute is the model's reading of IEEE 754 (log 22). -/
def Obligations.FloatArithmetic : Prop := Clause.FloatRounded ∧ Clause.FloatDivides

/-- R65, R66, R126, R127, R215, R216, R222: a load from plain SRAM starts with the octets of memory under the lane's
own waiting stores; a store puts one entry into each lane's column and leaves memory alone; post-increment updates the
base register. -/
def Obligations.LoadsAndStores : Prop := Clause.LoadsFromSram ∧ Clause.StoresEnterTheGate

/-- R61, R83, R85, R89, R90, R115, R130, R131, R141: a branch leaves its direction and target to the delay slot, a call
writes g31; after the delay slot the lanes go to the target or past it; an annulled slot starts nothing; an instruction
that stands alone raises vector 1 as the first of a pair. -/
def Obligations.BranchesAndDelaySlots : Prop :=
  Clause.ConditionalBranches ∧ Clause.Transfers ∧ Clause.DelaySlots ∧ Clause.UnpairableFirsts

/-- R100 to R104, R134: REPI and REPN latch their count for the next bundle, and each iteration runs it once. -/
def Obligations.Repeats : Prop := Clause.RepeatPrefixes ∧ Clause.RepeatIterations

/-- R54 to R56, R135, R136, R148 to R154: MFS gives the register's value, MTS reaches its register at the end of its
slot and no other. -/
def Obligations.SystemRegisters : Prop := Clause.SystemRegisterReads ∧ Clause.SystemRegisterWrites ∧ Clause.MtsLeaves

/-- R59, R106, R195, R290, R293, R298, R729: a fetch holds the bundle in front, oldest load data arrive first, and a
walk's leaf entry enters the translation cache. -/
def Obligations.FetchWalkArrival : Prop := Clause.FetchAndArrival ∧ Clause.WalkAtLevelOne

/-- R161, R172, R173, R177, R181: an exception, an event and a budget overrun enter their handler's bank: saved state,
PSW, PC and budget as the vector entry says. -/
def Obligations.HandlerEntries : Prop := Clause.EntriesReachTheHandler ∧ Clause.PswAtEntry

/-- R213, R214, R219, R255, R260 to R265: equal signatures commit the clause to release, a mismatch of a pair rolls
back, and the rollback brings back the checkpoint. -/
def Obligations.ComparesDecide : Prop := Clause.EqualCompareCommits ∧ Clause.MismatchRollsBack ∧ Clause.RollbackRestores

/-- R28, R204, R218 to R220, R224, R347 to R350: committed entries leave in order, device writes alone, and a write that
completes stores its octets and no others. -/
def Obligations.GateDrains : Prop := Clause.GateReleases ∧ Clause.WritesComplete

/-- R257, R269, R271, R277, R279, R619: windows end, and a lane's logic test begins in its turn and decides its state.
-/
def Obligations.LanesAreTested : Prop := Clause.WindowsExpire ∧ Clause.LaneTests

/-- R285, R286, R298 to R300, R303: a triad's writes of TAPU_CTX and TAPU_INVAL, and the end of an invalidation
barrier. -/
def Obligations.TranslationsChange : Prop := Clause.ContextWrites ∧ Clause.Invalidations

/-- R316, R317, R324, R332 to R334: doorbell, resume, abort and the comparison fault of an engine. -/
def Obligations.DmaCommands : Prop := Clause.ChannelCommands ∧ Clause.EnginesStop

/-- R345, R355, R356, R359, R360, R368, R377, R381 to R383, R386, R387: the power states of the SRAM banks, the upkeep
of SRAM and DDR, and the wipe. -/
def Obligations.MemoryBanks : Prop := Clause.BankPower ∧ Clause.MemoryUpkeep

/-- R393, R397, R402, R404, R405: the timebase advances, steps, and falls back. That a tick is what step does on an
empty queue is the model's choice (log 2). -/
def Obligations.TimeKeeps : Prop := Clause.TimeAdvances ∧ Clause.TimeIsServed

/-- R324, R408 to R415, R417: entries are armed, disarmed, dispatched and found late, and an action that is due takes
effect. -/
def Obligations.CalendarActs : Prop := Clause.CalendarCommands ∧ Clause.ActionsFire

/-- R420, R422, R424, R427 to R430: cycle tables run, their instances arm, and the process images flip. -/
def Obligations.TablesAndImages : Prop := Clause.CycleTables ∧ Clause.ImagesFlip

/-- R453 to R455, R458, R480: frames are built, queued, started and sent. -/
def Obligations.FramesGo : Prop := Clause.FramesLeave ∧ Clause.FramesSent

/-- R546 to R549, R551 to R554, R557, R562, R732: the timer channels count and start, and the FIFOs and halves of wide
registers are served. -/
def Obligations.TimerUnits : Prop := Clause.TimersCount ∧ Clause.ChannelsStart ∧ Clause.PopsAndHalves

/-- R242, R543, R550, R565 to R572, R577 to R579, R581: sampled pins, and the outputs of the legacy edge. -/
def Obligations.PinsInAndOut : Prop := Clause.PinsAgree ∧ Clause.IslandPins ∧ Clause.OutputsAndEdges

/-- R26, R368, R487, R489, R491 to R493, R499 to R502, R512, R513: host sessions open and close, and the rings, M0 and the
soft queue are served. -/
def Obligations.SessionsAndTraffic : Prop := Clause.SessionsOpenAndClose ∧ Clause.HostTraffic

/-- R605, R606, R612, R621, R622, R624 to R627, R629: FAULT_N, the units' states, ALIVE and PERMIT. -/
def Obligations.FaultLineAndPermit : Prop := Clause.LineHoldsAndClears ∧ Clause.PermitAndAlive

/-- R51, R52, R146, R191, R203, R608, R612, R619, R626, R628, R634, R636, R640, R659, R662, R670, R671, R681: what
each reset reaches, and what a power-on leaves. -/
def Obligations.Resets : Prop := Clause.ResetsReach ∧ Clause.ResetLeaves
end

