-- ==== Sys2Proof/Laws/State.lean ====
section
/-! SUPPORT. One small lemma per field and named update of State, the laws of the sparse lists behind registers and
memory, and what a read finds after a write. -/

namespace Sys2Proof.Machine

/-! ### wr -/

@[simp] theorem State.wr_pending (s : State) (a : Nat) (v : Word) : (s.wr a v).pending = s.pending := rfl
@[simp] theorem State.wr_mem (s : State) (a : Nat) (v : Word) : (s.wr a v).mem = s.mem := rfl
@[simp] theorem State.wr_triads (s : State) (a : Nat) (v : Word) : (s.wr a v).triads = s.triads := rfl
@[simp] theorem State.wr_tlb (s : State) (a : Nat) (v : Word) : (s.wr a v).tlb = s.tlb := rfl
@[simp] theorem State.wr_barriers (s : State) (a : Nat) (v : Word) : (s.wr a v).barriers = s.barriers := rfl
@[simp] theorem State.wr_chans (s : State) (a : Nat) (v : Word) : (s.wr a v).chans = s.chans := rfl
@[simp] theorem State.wr_engCur (s : State) (a : Nat) (v : Word) : (s.wr a v).engCur = s.engCur := rfl
@[simp] theorem State.wr_sram (s : State) (a : Nat) (v : Word) : (s.wr a v).sram = s.sram := rfl
@[simp] theorem State.wr_ddr (s : State) (a : Nat) (v : Word) : (s.wr a v).ddr = s.ddr := rfl
@[simp] theorem State.wr_tense (s : State) (a : Nat) (v : Word) : (s.wr a v).tense = s.tense := rfl
@[simp] theorem State.wr_net (s : State) (a : Nat) (v : Word) : (s.wr a v).net = s.net := rfl
@[simp] theorem State.wr_hosts (s : State) (a : Nat) (v : Word) : (s.wr a v).hosts = s.hosts := rfl
@[simp] theorem State.wr_lcs (s : State) (a : Nat) (v : Word) : (s.wr a v).lcs = s.lcs := rfl
@[simp] theorem State.wr_legacy (s : State) (a : Nat) (v : Word) : (s.wr a v).legacy = s.legacy := rfl
@[simp] theorem State.wr_yob (s : State) (a : Nat) (v : Word) : (s.wr a v).yob = s.yob := rfl
@[simp] theorem State.wr_fcu (s : State) (a : Nat) (v : Word) : (s.wr a v).fcu = s.fcu := rfl
@[simp] theorem State.wr_boot (s : State) (a : Nat) (v : Word) : (s.wr a v).boot = s.boot := rfl
@[simp] theorem State.wr_sys (s : State) (a : Nat) (v : Word) : (s.wr a v).sys = s.sys := rfl
@[simp] theorem State.wr_busData (s : State) (a : Nat) (v : Word) : (s.wr a v).busData = s.busData := rfl
@[simp] theorem State.wr_free (s : State) (a : Nat) (v : Word) : (s.wr a v).free = s.free := rfl

/-! ### up -/

@[simp] theorem State.up_pending (s : State) (a : Nat) (f : Word → Word) : (s.up a f).pending = s.pending := rfl
@[simp] theorem State.up_mem (s : State) (a : Nat) (f : Word → Word) : (s.up a f).mem = s.mem := rfl
@[simp] theorem State.up_triads (s : State) (a : Nat) (f : Word → Word) : (s.up a f).triads = s.triads := rfl
@[simp] theorem State.up_tlb (s : State) (a : Nat) (f : Word → Word) : (s.up a f).tlb = s.tlb := rfl
@[simp] theorem State.up_barriers (s : State) (a : Nat) (f : Word → Word) : (s.up a f).barriers = s.barriers := rfl
@[simp] theorem State.up_chans (s : State) (a : Nat) (f : Word → Word) : (s.up a f).chans = s.chans := rfl
@[simp] theorem State.up_engCur (s : State) (a : Nat) (f : Word → Word) : (s.up a f).engCur = s.engCur := rfl
@[simp] theorem State.up_sram (s : State) (a : Nat) (f : Word → Word) : (s.up a f).sram = s.sram := rfl
@[simp] theorem State.up_ddr (s : State) (a : Nat) (f : Word → Word) : (s.up a f).ddr = s.ddr := rfl
@[simp] theorem State.up_tense (s : State) (a : Nat) (f : Word → Word) : (s.up a f).tense = s.tense := rfl
@[simp] theorem State.up_net (s : State) (a : Nat) (f : Word → Word) : (s.up a f).net = s.net := rfl
@[simp] theorem State.up_hosts (s : State) (a : Nat) (f : Word → Word) : (s.up a f).hosts = s.hosts := rfl
@[simp] theorem State.up_lcs (s : State) (a : Nat) (f : Word → Word) : (s.up a f).lcs = s.lcs := rfl
@[simp] theorem State.up_legacy (s : State) (a : Nat) (f : Word → Word) : (s.up a f).legacy = s.legacy := rfl
@[simp] theorem State.up_yob (s : State) (a : Nat) (f : Word → Word) : (s.up a f).yob = s.yob := rfl
@[simp] theorem State.up_fcu (s : State) (a : Nat) (f : Word → Word) : (s.up a f).fcu = s.fcu := rfl
@[simp] theorem State.up_boot (s : State) (a : Nat) (f : Word → Word) : (s.up a f).boot = s.boot := rfl
@[simp] theorem State.up_sys (s : State) (a : Nat) (f : Word → Word) : (s.up a f).sys = s.sys := rfl
@[simp] theorem State.up_busData (s : State) (a : Nat) (f : Word → Word) : (s.up a f).busData = s.busData := rfl
@[simp] theorem State.up_free (s : State) (a : Nat) (f : Word → Word) : (s.up a f).free = s.free := rfl

/-! ### setBitR -/

@[simp] theorem State.setBitR_pending (s : State) (a i : Nat) : (s.setBitR a i).pending = s.pending := rfl
@[simp] theorem State.setBitR_mem (s : State) (a i : Nat) : (s.setBitR a i).mem = s.mem := rfl
@[simp] theorem State.setBitR_triads (s : State) (a i : Nat) : (s.setBitR a i).triads = s.triads := rfl
@[simp] theorem State.setBitR_tlb (s : State) (a i : Nat) : (s.setBitR a i).tlb = s.tlb := rfl
@[simp] theorem State.setBitR_barriers (s : State) (a i : Nat) : (s.setBitR a i).barriers = s.barriers := rfl
@[simp] theorem State.setBitR_chans (s : State) (a i : Nat) : (s.setBitR a i).chans = s.chans := rfl
@[simp] theorem State.setBitR_engCur (s : State) (a i : Nat) : (s.setBitR a i).engCur = s.engCur := rfl
@[simp] theorem State.setBitR_sram (s : State) (a i : Nat) : (s.setBitR a i).sram = s.sram := rfl
@[simp] theorem State.setBitR_ddr (s : State) (a i : Nat) : (s.setBitR a i).ddr = s.ddr := rfl
@[simp] theorem State.setBitR_tense (s : State) (a i : Nat) : (s.setBitR a i).tense = s.tense := rfl
@[simp] theorem State.setBitR_net (s : State) (a i : Nat) : (s.setBitR a i).net = s.net := rfl
@[simp] theorem State.setBitR_hosts (s : State) (a i : Nat) : (s.setBitR a i).hosts = s.hosts := rfl
@[simp] theorem State.setBitR_lcs (s : State) (a i : Nat) : (s.setBitR a i).lcs = s.lcs := rfl
@[simp] theorem State.setBitR_legacy (s : State) (a i : Nat) : (s.setBitR a i).legacy = s.legacy := rfl
@[simp] theorem State.setBitR_yob (s : State) (a i : Nat) : (s.setBitR a i).yob = s.yob := rfl
@[simp] theorem State.setBitR_fcu (s : State) (a i : Nat) : (s.setBitR a i).fcu = s.fcu := rfl
@[simp] theorem State.setBitR_boot (s : State) (a i : Nat) : (s.setBitR a i).boot = s.boot := rfl
@[simp] theorem State.setBitR_sys (s : State) (a i : Nat) : (s.setBitR a i).sys = s.sys := rfl
@[simp] theorem State.setBitR_busData (s : State) (a i : Nat) : (s.setBitR a i).busData = s.busData := rfl
@[simp] theorem State.setBitR_free (s : State) (a i : Nat) : (s.setBitR a i).free = s.free := rfl

/-! ### setTriad -/

@[simp] theorem State.setTriad_pending (s : State) (t : TriadId) (f : Triad → Triad) : (s.setTriad t f).pending = s.pending := rfl
@[simp] theorem State.setTriad_regs (s : State) (t : TriadId) (f : Triad → Triad) : (s.setTriad t f).regs = s.regs := rfl
@[simp] theorem State.setTriad_mem (s : State) (t : TriadId) (f : Triad → Triad) : (s.setTriad t f).mem = s.mem := rfl
@[simp] theorem State.setTriad_tlb (s : State) (t : TriadId) (f : Triad → Triad) : (s.setTriad t f).tlb = s.tlb := rfl
@[simp] theorem State.setTriad_barriers (s : State) (t : TriadId) (f : Triad → Triad) : (s.setTriad t f).barriers = s.barriers := rfl
@[simp] theorem State.setTriad_chans (s : State) (t : TriadId) (f : Triad → Triad) : (s.setTriad t f).chans = s.chans := rfl
@[simp] theorem State.setTriad_engCur (s : State) (t : TriadId) (f : Triad → Triad) : (s.setTriad t f).engCur = s.engCur := rfl
@[simp] theorem State.setTriad_sram (s : State) (t : TriadId) (f : Triad → Triad) : (s.setTriad t f).sram = s.sram := rfl
@[simp] theorem State.setTriad_ddr (s : State) (t : TriadId) (f : Triad → Triad) : (s.setTriad t f).ddr = s.ddr := rfl
@[simp] theorem State.setTriad_tense (s : State) (t : TriadId) (f : Triad → Triad) : (s.setTriad t f).tense = s.tense := rfl
@[simp] theorem State.setTriad_net (s : State) (t : TriadId) (f : Triad → Triad) : (s.setTriad t f).net = s.net := rfl
@[simp] theorem State.setTriad_hosts (s : State) (t : TriadId) (f : Triad → Triad) : (s.setTriad t f).hosts = s.hosts := rfl
@[simp] theorem State.setTriad_lcs (s : State) (t : TriadId) (f : Triad → Triad) : (s.setTriad t f).lcs = s.lcs := rfl
@[simp] theorem State.setTriad_legacy (s : State) (t : TriadId) (f : Triad → Triad) : (s.setTriad t f).legacy = s.legacy := rfl
@[simp] theorem State.setTriad_yob (s : State) (t : TriadId) (f : Triad → Triad) : (s.setTriad t f).yob = s.yob := rfl
@[simp] theorem State.setTriad_fcu (s : State) (t : TriadId) (f : Triad → Triad) : (s.setTriad t f).fcu = s.fcu := rfl
@[simp] theorem State.setTriad_boot (s : State) (t : TriadId) (f : Triad → Triad) : (s.setTriad t f).boot = s.boot := rfl
@[simp] theorem State.setTriad_sys (s : State) (t : TriadId) (f : Triad → Triad) : (s.setTriad t f).sys = s.sys := rfl
@[simp] theorem State.setTriad_busData (s : State) (t : TriadId) (f : Triad → Triad) : (s.setTriad t f).busData = s.busData := rfl
@[simp] theorem State.setTriad_free (s : State) (t : TriadId) (f : Triad → Triad) : (s.setTriad t f).free = s.free := rfl

/-! ### wrByte -/

@[simp] theorem wrByte_pending (s : State) (a : Nat) (b : Byte) : (wrByte s a b).pending = s.pending := rfl
@[simp] theorem wrByte_regs (s : State) (a : Nat) (b : Byte) : (wrByte s a b).regs = s.regs := rfl
@[simp] theorem wrByte_triads (s : State) (a : Nat) (b : Byte) : (wrByte s a b).triads = s.triads := rfl
@[simp] theorem wrByte_tlb (s : State) (a : Nat) (b : Byte) : (wrByte s a b).tlb = s.tlb := rfl
@[simp] theorem wrByte_barriers (s : State) (a : Nat) (b : Byte) : (wrByte s a b).barriers = s.barriers := rfl
@[simp] theorem wrByte_chans (s : State) (a : Nat) (b : Byte) : (wrByte s a b).chans = s.chans := rfl
@[simp] theorem wrByte_engCur (s : State) (a : Nat) (b : Byte) : (wrByte s a b).engCur = s.engCur := rfl
@[simp] theorem wrByte_sram (s : State) (a : Nat) (b : Byte) : (wrByte s a b).sram = s.sram := rfl
@[simp] theorem wrByte_ddr (s : State) (a : Nat) (b : Byte) : (wrByte s a b).ddr = s.ddr := rfl
@[simp] theorem wrByte_tense (s : State) (a : Nat) (b : Byte) : (wrByte s a b).tense = s.tense := rfl
@[simp] theorem wrByte_net (s : State) (a : Nat) (b : Byte) : (wrByte s a b).net = s.net := rfl
@[simp] theorem wrByte_hosts (s : State) (a : Nat) (b : Byte) : (wrByte s a b).hosts = s.hosts := rfl
@[simp] theorem wrByte_lcs (s : State) (a : Nat) (b : Byte) : (wrByte s a b).lcs = s.lcs := rfl
@[simp] theorem wrByte_legacy (s : State) (a : Nat) (b : Byte) : (wrByte s a b).legacy = s.legacy := rfl
@[simp] theorem wrByte_yob (s : State) (a : Nat) (b : Byte) : (wrByte s a b).yob = s.yob := rfl
@[simp] theorem wrByte_fcu (s : State) (a : Nat) (b : Byte) : (wrByte s a b).fcu = s.fcu := rfl
@[simp] theorem wrByte_boot (s : State) (a : Nat) (b : Byte) : (wrByte s a b).boot = s.boot := rfl
@[simp] theorem wrByte_sys (s : State) (a : Nat) (b : Byte) : (wrByte s a b).sys = s.sys := rfl
@[simp] theorem wrByte_busData (s : State) (a : Nat) (b : Byte) : (wrByte s a b).busData = s.busData := rfl
@[simp] theorem wrByte_free (s : State) (a : Nat) (b : Byte) : (wrByte s a b).free = s.free := rfl

/-! ### clearRange -/

@[simp] theorem clearRange_pending (s : State) (lo hi : Nat) : (clearRange s lo hi).pending = s.pending := rfl
@[simp] theorem clearRange_regs (s : State) (lo hi : Nat) : (clearRange s lo hi).regs = s.regs := rfl
@[simp] theorem clearRange_triads (s : State) (lo hi : Nat) : (clearRange s lo hi).triads = s.triads := rfl
@[simp] theorem clearRange_tlb (s : State) (lo hi : Nat) : (clearRange s lo hi).tlb = s.tlb := rfl
@[simp] theorem clearRange_barriers (s : State) (lo hi : Nat) : (clearRange s lo hi).barriers = s.barriers := rfl
@[simp] theorem clearRange_chans (s : State) (lo hi : Nat) : (clearRange s lo hi).chans = s.chans := rfl
@[simp] theorem clearRange_engCur (s : State) (lo hi : Nat) : (clearRange s lo hi).engCur = s.engCur := rfl
@[simp] theorem clearRange_sram (s : State) (lo hi : Nat) : (clearRange s lo hi).sram = s.sram := rfl
@[simp] theorem clearRange_ddr (s : State) (lo hi : Nat) : (clearRange s lo hi).ddr = s.ddr := rfl
@[simp] theorem clearRange_tense (s : State) (lo hi : Nat) : (clearRange s lo hi).tense = s.tense := rfl
@[simp] theorem clearRange_net (s : State) (lo hi : Nat) : (clearRange s lo hi).net = s.net := rfl
@[simp] theorem clearRange_hosts (s : State) (lo hi : Nat) : (clearRange s lo hi).hosts = s.hosts := rfl
@[simp] theorem clearRange_lcs (s : State) (lo hi : Nat) : (clearRange s lo hi).lcs = s.lcs := rfl
@[simp] theorem clearRange_legacy (s : State) (lo hi : Nat) : (clearRange s lo hi).legacy = s.legacy := rfl
@[simp] theorem clearRange_yob (s : State) (lo hi : Nat) : (clearRange s lo hi).yob = s.yob := rfl
@[simp] theorem clearRange_fcu (s : State) (lo hi : Nat) : (clearRange s lo hi).fcu = s.fcu := rfl
@[simp] theorem clearRange_boot (s : State) (lo hi : Nat) : (clearRange s lo hi).boot = s.boot := rfl
@[simp] theorem clearRange_sys (s : State) (lo hi : Nat) : (clearRange s lo hi).sys = s.sys := rfl
@[simp] theorem clearRange_busData (s : State) (lo hi : Nat) : (clearRange s lo hi).busData = s.busData := rfl
@[simp] theorem clearRange_free (s : State) (lo hi : Nat) : (clearRange s lo hi).free = s.free := rfl

/-! ### draw -/

@[simp] theorem State.draw_pending (s : State) : (s.draw.2).pending = s.pending := rfl
@[simp] theorem State.draw_regs (s : State) : (s.draw.2).regs = s.regs := rfl
@[simp] theorem State.draw_mem (s : State) : (s.draw.2).mem = s.mem := rfl
@[simp] theorem State.draw_triads (s : State) : (s.draw.2).triads = s.triads := rfl
@[simp] theorem State.draw_tlb (s : State) : (s.draw.2).tlb = s.tlb := rfl
@[simp] theorem State.draw_barriers (s : State) : (s.draw.2).barriers = s.barriers := rfl
@[simp] theorem State.draw_chans (s : State) : (s.draw.2).chans = s.chans := rfl
@[simp] theorem State.draw_engCur (s : State) : (s.draw.2).engCur = s.engCur := rfl
@[simp] theorem State.draw_sram (s : State) : (s.draw.2).sram = s.sram := rfl
@[simp] theorem State.draw_ddr (s : State) : (s.draw.2).ddr = s.ddr := rfl
@[simp] theorem State.draw_tense (s : State) : (s.draw.2).tense = s.tense := rfl
@[simp] theorem State.draw_net (s : State) : (s.draw.2).net = s.net := rfl
@[simp] theorem State.draw_hosts (s : State) : (s.draw.2).hosts = s.hosts := rfl
@[simp] theorem State.draw_lcs (s : State) : (s.draw.2).lcs = s.lcs := rfl
@[simp] theorem State.draw_legacy (s : State) : (s.draw.2).legacy = s.legacy := rfl
@[simp] theorem State.draw_yob (s : State) : (s.draw.2).yob = s.yob := rfl
@[simp] theorem State.draw_fcu (s : State) : (s.draw.2).fcu = s.fcu := rfl
@[simp] theorem State.draw_boot (s : State) : (s.draw.2).boot = s.boot := rfl
@[simp] theorem State.draw_sys (s : State) : (s.draw.2).sys = s.sys := rfl
@[simp] theorem State.draw_busData (s : State) : (s.draw.2).busData = s.busData := rfl

/-! ### Sparse lists -/

theorem sparseErase_sub {α : Type} (l : List (Nat × α)) (k : Nat) : (sparseErase l k).Sublist l := List.filter_sublist

theorem sparseInsert_mem {α : Type} (l : List (Nat × α)) (k : Nat) (v : α) (x : Nat × α) (h : x ∈ sparseInsert l k v) :
    x = (k, v) ∨ x ∈ l := by
  induction l with
  | nil => simpa [sparseInsert] using h
  | cons p t ih =>
    unfold sparseInsert at h
    split at h
    · simpa using h
    · rcases List.mem_cons.1 h with h | h
      · exact .inr (by simp [h])
      · rcases ih h with h | h
        · exact .inl h
        · exact .inr (by simp [h])

theorem sparseInsert_rising {α : Type} (l : List (Nat × α)) (k : Nat) (v : α) (h : Rising l) (hk : ∀ x ∈ l, x.1 ≠ k) :
    Rising (sparseInsert l k v) := by
  induction l with
  | nil => simp [sparseInsert, Rising]
  | cons p t ih =>
    unfold sparseInsert
    have h1 := List.pairwise_cons.1 h
    split
    · rename_i hlt
      refine List.pairwise_cons.2 ⟨?_, h⟩
      intro x hx
      rcases List.mem_cons.1 hx with rfl | hx
      · exact hlt
      · exact Nat.lt_trans hlt (h1.1 x hx)
    · rename_i hlt
      refine List.pairwise_cons.2 ⟨?_, ih h1.2 fun x hx => hk x (by simp [hx])⟩
      intro x hx
      rcases sparseInsert_mem _ _ _ _ hx with rfl | hx
      · have := hk p (by simp)
        simp only
        omega
      · exact h1.1 x hx

theorem sparsePut_rising {α : Type} [DecidableEq α] (l : List (Nat × α)) (k : Nat) (v d : α) (h : Rising l) :
    Rising (sparsePut l k v d) := by
  have he : Rising (sparseErase l k) := List.Pairwise.sublist (sparseErase_sub l k) h
  unfold sparsePut
  split
  · exact he
  · exact sparseInsert_rising _ _ _ he (by simp [sparseErase])

theorem sparsePut_mem {α : Type} [DecidableEq α] (l : List (Nat × α)) (k : Nat) (v d : α) (x : Nat × α)
    (h : x ∈ sparsePut l k v d) : (x = (k, v) ∧ v ≠ d) ∨ x ∈ l := by
  unfold sparsePut at h
  split at h
  · exact .inr ((sparseErase_sub l k).subset h)
  · rcases sparseInsert_mem _ _ _ _ h with h | h
    · exact .inl ⟨h, ‹_›⟩
    · exact .inr ((sparseErase_sub l k).subset h)

theorem sparseGet_erase_self {α : Type} (l : List (Nat × α)) (k : Nat) (d : α) : sparseGet (sparseErase l k) k d = d := by
  induction l with
  | nil => rfl
  | cons p t ih =>
    by_cases h : p.1 = k
    · simpa [sparseErase, h] using ih
    · simpa [sparseErase, h, sparseGet] using ih

theorem sparseGet_erase_ne {α : Type} (l : List (Nat × α)) (k j : Nat) (d : α) (h : j ≠ k) :
    sparseGet (sparseErase l k) j d = sparseGet l j d := by
  induction l with
  | nil => rfl
  | cons p t ih =>
    by_cases hp : p.1 = k
    · have : ¬ p.1 = j := by omega
      simpa [sparseErase, hp, sparseGet, this, show ¬ k = j by omega] using ih
    · by_cases hj : p.1 = j
      · simp [sparseErase, sparseGet, hj, h]
      · simpa [sparseErase, hp, sparseGet, hj] using ih

theorem sparseGet_insert_self {α : Type} (l : List (Nat × α)) (k : Nat) (v d : α) (hk : ∀ x ∈ l, x.1 ≠ k) :
    sparseGet (sparseInsert l k v) k d = v := by
  induction l with
  | nil => simp [sparseInsert, sparseGet]
  | cons p t ih =>
    unfold sparseInsert
    split
    · simp [sparseGet]
    · simp [sparseGet, hk p (by simp), ih fun x hx => hk x (by simp [hx])]

theorem sparseGet_insert_ne {α : Type} (l : List (Nat × α)) (k j : Nat) (v d : α) (h : j ≠ k) :
    sparseGet (sparseInsert l k v) j d = sparseGet l j d := by
  induction l with
  | nil => simp [sparseInsert, sparseGet, Ne.symm h]
  | cons p t ih =>
    unfold sparseInsert
    split
    · simp [sparseGet, Ne.symm h]
    · simp [sparseGet, ih]

/-- What a read of key j finds after a write of v at k. -/
theorem sparseGet_put {α : Type} [DecidableEq α] (l : List (Nat × α)) (k j : Nat) (v d : α) :
    sparseGet (sparsePut l k v d) j d = if j = k then v else sparseGet l j d := by
  unfold sparsePut
  by_cases h : j = k
  · subst h
    split
    · simp [sparseGet_erase_self, *]
    · rw [if_pos rfl]
      exact sparseGet_insert_self _ _ _ _ (by simp [sparseErase])
  · split
    · simpa [h] using sparseGet_erase_ne l k j d h
    · simpa [h] using (sparseGet_insert_ne _ k j v d h).trans (sparseGet_erase_ne l k j d h)

/-! ### Registers -/

theorem State.rd_wr (s : State) (a b : Nat) (v : Word) : (s.wr a v).rd b = if b = a then v else s.rd b := by
  unfold State.rd State.wr
  by_cases h : b = a
  · subst h; simp [sparseGet_put]
  · have := sparseGet_put s.regs a b v (resetValue a)
    unfold sparsePut at this ⊢
    split <;> simp [sparseGet_erase_ne _ _ _ _ h, sparseGet_insert_ne _ _ _ _ _ h]

@[simp] theorem State.rd_wr_self (s : State) (a : Nat) (v : Word) : (s.wr a v).rd a = v := by simp [State.rd_wr]

theorem State.rd_wr_ne (s : State) (a b : Nat) (v : Word) (h : b ≠ a) : (s.wr a v).rd b = s.rd b := by
  simp [State.rd_wr, h]

@[simp] theorem State.rd_up_self (s : State) (a : Nat) (f : Word → Word) : (s.up a f).rd a = f (s.rd a) := by
  simp [State.up]

theorem State.rd_up_ne (s : State) (a b : Nat) (f : Word → Word) (h : b ≠ a) : (s.up a f).rd b = s.rd b := by
  simp [State.up, State.rd_wr, h]

@[simp] theorem State.rd_setTriad (s : State) (t : TriadId) (f : Triad → Triad) (a : Nat) :
    (s.setTriad t f).rd a = s.rd a := rfl

/-- A write of a register keeps registers and memory in canonical form. -/
theorem State.Sound.wr {s : State} (h : s.Sound) (a : Nat) (v : Word) : (s.wr a v).Sound := by
  refine ⟨h.1, sparsePut_rising _ _ _ _ h.2.1, fun c hc => ?_⟩
  rcases sparsePut_mem _ _ _ _ _ hc with ⟨rfl, hv⟩ | hc
  · exact hv
  · exact h.2.2 c hc

theorem State.Sound.up {s : State} (h : s.Sound) (a : Nat) (f : Word → Word) : (s.up a f).Sound := h.wr a _

/-! ### Memory -/

/-- What a read of one octet finds after a store of one octet. -/
theorem rdByte_wrByte (s : State) (a c : Nat) (b : Byte) : rdByte (wrByte s a b) c = if c = a then b else rdByte s c :=
  sparseGet_put s.mem a c b 0

/-- A store of one octet keeps registers and memory in canonical form. -/
theorem State.Sound.wrByte {s : State} (h : s.Sound) (a : Nat) (b : Byte) : (wrByte s a b).Sound := by
  refine ⟨⟨sparsePut_rising _ _ _ _ h.1.1, fun c hc => ?_⟩, h.2⟩
  rcases sparsePut_mem _ _ _ _ _ hc with ⟨rfl, hv⟩ | hc
  · exact hv
  · exact h.1.2 c hc

theorem State.Sound.wrBytes {s : State} (h : s.Sound) (a : Nat) (bs : List Byte) : (wrBytes s a bs).Sound := by
  induction bs generalizing s a with
  | nil => exact h
  | cons b t ih => exact ih (h.wrByte a b) (a + 1)

theorem State.Sound.wrMem {s : State} (h : s.Sound) (a n v : Nat) : (wrMem s a n v).Sound := h.wrBytes a _

theorem State.Sound.clearRange {s : State} (h : s.Sound) (lo hi : Nat) : (clearRange s lo hi).Sound :=
  ⟨⟨h.1.1.filter _, fun c hc => h.1.2 c (List.mem_of_mem_filter hc)⟩, h.2⟩

/-- What a read of one octet finds after octets are stored from an address. -/
theorem rdByte_wrBytes (s : State) (a c : Nat) (bs : List Byte) :
    rdByte (wrBytes s a bs) c = if a ≤ c ∧ c < a + bs.length then bs.getD (c - a) 0 else rdByte s c := by
  induction bs generalizing s a with
  | nil => simp [wrBytes, show ¬ (a ≤ c ∧ c < a) by omega]
  | cons b t ih =>
    simp only [wrBytes, ih, rdByte_wrByte, List.length_cons]
    by_cases h : c = a
    · subst h
      simp
    · by_cases h2 : a + 1 ≤ c ∧ c < a + 1 + t.length
      · have : c - a = (c - (a + 1)) + 1 := by omega
        simp [h2, this, show a ≤ c ∧ c < a + (t.length + 1) by omega]
      · rw [if_neg h2, if_neg h, if_neg (by omega)]

/-! ### Triads and lanes -/

@[simp] theorem vmod_get_self {α : Type} {n : Nat} (v : Vector α n) (i : Fin n) (f : α → α) : (vmod v i f)[i] = f v[i] := by
  simp [vmod]

theorem vmod_get_ne {α : Type} {n : Nat} (v : Vector α n) (i j : Fin n) (f : α → α) (h : j ≠ i) :
    (vmod v i f)[j] = v[j] := by
  have : (i : Nat) ≠ j := fun e => h (Fin.ext e.symm)
  simp [vmod, this]

@[simp] theorem State.tri_setTriad (s : State) (t : TriadId) (f : Triad → Triad) : (s.setTriad t f).tri t = f (s.tri t) :=
  vmod_get_self s.triads t f

theorem State.tri_setTriad_ne (s : State) (t u : TriadId) (f : Triad → Triad) (h : u ≠ t) :
    (s.setTriad t f).tri u = s.tri u := vmod_get_ne s.triads t u f h

@[simp] theorem State.tri_wr (s : State) (t : TriadId) (a : Nat) (v : Word) : (s.wr a v).tri t = s.tri t := rfl
@[simp] theorem State.tri_up (s : State) (t : TriadId) (a : Nat) (f : Word → Word) : (s.up a f).tri t = s.tri t := rfl

theorem vmod_id {α : Type} {n : Nat} (v : Vector α n) (i : Fin n) (f : α → α) (h : f v[i] = v[i]) : vmod v i f = v := by
  ext j hj
  by_cases e : j = i.val
  · subst e
    simpa [vmod] using h
  · simp [vmod, Ne.symm e]

theorem State.setTriad_id (s : State) (t : TriadId) (f : Triad → Triad) (h : f (s.tri t) = s.tri t) : s.setTriad t f = s := by
  unfold State.setTriad
  rw [vmod_id _ _ _ h]

/-- A part that the dormancy mode powers down acts as ever in every other mode (R677). -/
theorem State.powered_of_awake (s : State) (f : State → State) (h : modeOf s ≠ 5) : s.powered f = f s := by
  simp [State.powered, h]

/-- In the dormancy mode nothing of such a part changes (R677). -/
theorem State.powered_of_dormant (s : State) (f : State → State) (h : modeOf s = 5) : s.powered f = s := by
  simp [State.powered, h]

/-! ### Registers of a lane -/

/-- g0 reads zero (R52). -/
@[simp] theorem Bank.rg_zero (b : Bank) : b.rg 0#5 = 0 := rfl

/-- g0 discards what is written (R52). -/
@[simp] theorem Bank.wg_zero (b : Bank) (v : Word) : b.wg 0#5 v = b := rfl

/-- A g register read after a write of one (R52). -/
theorem Bank.rg_wg (b : Bank) (r q : Reg) (v : Word) :
    (b.wg r v).rg q = if q = r ∧ r ≠ 0#5 then v else b.rg q := by
  by_cases hr : r = 0#5
  · subst hr
    simp
  · by_cases hq : q = 0#5
    · subst hq
      simp [Ne.symm hr]
    · unfold Bank.rg Bank.wg
      rw [show (0 : Reg) = 0#5 from rfl, if_neg hq, if_neg hr, if_neg hq]
      by_cases h : q = r
      · subst h
        simp [hq]
      · have : r.toNat ≠ q.toNat := fun e => h (BitVec.eq_of_toNat_eq e.symm)
        simp only [h, false_and, if_false]
        exact Vector.getElem_set_ne _ _ this

@[simp] theorem LaneCore.bank_setCur (c : LaneCore) (f : Bank → Bank) : (c.setCur f).bank = f c.bank :=
  vmod_get_self c.banks c.cur f

end Sys2Proof.Machine
end

