-- ==== Sys2Proof/Laws/Issue.lean ====
section
/-! SUPPORT. What the issue of one instruction by a triad that is Ready can do: counters change registers only, and a
bundle that passes its checks changes the lanes in use and nothing else of the machine. -/

namespace Sys2Proof.Machine

/-! ### Operations that change registers only -/

/-- Two states that differ in their register blocks at most. -/
def RegsOnly (s s' : State) : Prop := ∃ r, s' = { s with regs := r }

theorem RegsOnly.refl (s : State) : RegsOnly s s := ⟨s.regs, rfl⟩

theorem RegsOnly.trans {a b c : State} (h : RegsOnly a b) (g : RegsOnly b c) : RegsOnly a c := by
  obtain ⟨r, rfl⟩ := h
  obtain ⟨q, rfl⟩ := g
  exact ⟨q, rfl⟩

theorem RegsOnly.wr (s : State) (a : Nat) (v : Word) : RegsOnly s (s.wr a v) := ⟨_, rfl⟩
theorem RegsOnly.up (s : State) (a : Nat) (f : Word → Word) : RegsOnly s (s.up a f) := ⟨_, rfl⟩
theorem RegsOnly.setBitR (s : State) (a i : Nat) : RegsOnly s (s.setBitR a i) := ⟨_, rfl⟩

theorem RegsOnly.foldl {α : Type} {f : State → α → State} (h : ∀ s x, RegsOnly s (f s x)) (l : List α) (s : State) :
    RegsOnly s (l.foldl f s) := by
  induction l generalizing s with
  | nil => exact .refl s
  | cons x l ih => exact (h s x).trans (ih (f s x))

theorem RegsOnly.pend (s : State) (n : Nat) : RegsOnly s (pend s n) := by
  unfold Machine.pend
  dsimp only
  split
  · exact (RegsOnly.setBitR _ _ _).trans (.setBitR _ _ _)
  · exact .setBitR _ _ _

theorem RegsOnly.pulse (s : State) (n : Nat) : RegsOnly s (pulse s n) := by
  unfold Machine.pulse State.powered
  split
  · exact .refl s
  · exact .pend s n

theorem RegsOnly.bumpCounter (s : State) (t : TriadId) (n k : Nat) : RegsOnly s (bumpCounter s t n k) := by
  unfold Machine.bumpCounter
  dsimp only
  split
  · exact (RegsOnly.wr _ _ _).trans (.setBitR _ _ _)
  · exact .wr _ _ _

theorem RegsOnly.countAt (s : State) (t : TriadId) (code priv k : Nat) : RegsOnly s (countAt s t code priv k) := by
  unfold Machine.countAt
  split
  · exact .refl s
  · refine .foldl (fun s n => ?_) _ s
    split
    · exact .bumpCounter _ _ _ _
    · exact .refl _

theorem RegsOnly.countL (s : State) (t : TriadId) (code k : Nat) : RegsOnly s (countL s t code k) :=
  .countAt _ _ _ _ _

theorem RegsOnly.branchCounts (s : State) (t : TriadId) (l : Lane) (ipc : Word) (op : Op) :
    RegsOnly s (branchCounts s t l ipc op) := by
  have h (b : Prop) [Decidable b] (s : State) (c : Nat) : RegsOnly s (if b then Machine.countL s t c 1 else s) := by
    split
    · exact .countL _ _ _ _
    · exact .refl _
  unfold Machine.branchCounts
  dsimp only
  split
  all_goals first | exact h _ _ _ | exact (h _ _ _).trans (h _ _ _)

theorem RegsOnly.tri {s s' : State} (h : RegsOnly s s') (t : TriadId) : s'.tri t = s.tri t := by
  obtain ⟨r, rfl⟩ := h; rfl

theorem RegsOnly.mem {s s' : State} (h : RegsOnly s s') : s'.mem = s.mem := by
  obtain ⟨r, rfl⟩ := h; rfl

/-! ### Counts of a triad keep its lanes -/

@[simp] theorem Triad.countC_lanes (x : Triad) (c k : Nat) : (x.countC c k).lanes = x.lanes := rfl

/-- Counting changes the counts only. -/
theorem Triad.countAll_eq (x : Triad) (l : List (Nat × Nat)) : x.countAll l = { x with counts := (x.countAll l).counts } := by
  unfold Triad.countAll
  induction l generalizing x with
  | nil => rfl
  | cons p l ih =>
    simp only [List.foldl_cons]
    rw [ih]
    split <;> rfl

@[simp] theorem Triad.countAll_lanes (x : Triad) (l : List (Nat × Nat)) : (x.countAll l).lanes = x.lanes := by
  rw [Triad.countAll_eq]

@[simp] theorem Triad.countAll_slots (x : Triad) (l : List (Nat × Nat)) : (x.countAll l).slots = x.slots := by
  rw [Triad.countAll_eq]

@[simp] theorem Triad.countAll_slotOpen (x : Triad) (l : List (Nat × Nat)) : (x.countAll l).slotOpen = x.slotOpen := by
  rw [Triad.countAll_eq]

@[simp] theorem Triad.countAll_entry (x : Triad) (l : List (Nat × Nat)) : (x.countAll l).entry = x.entry := by
  rw [Triad.countAll_eq]

@[simp] theorem Triad.countAll_closeDue (x : Triad) (l : List (Nat × Nat)) : (x.countAll l).closeDue = x.closeDue := by
  rw [Triad.countAll_eq]

theorem countSlot_spec (s : State) (t : TriadId) : ∃ s1 n, RegsOnly s s1 ∧ countSlot s t = s1.setTriad t fun x =>
    { x.countC 0x01 1 with slots := x.slots + 1, slotOpen := true, first := none, evClear := none
                           evGone := x.evGone || x.evClear.isSome, evSeen := n } := by
  unfold countSlot
  dsimp only
  refine ⟨_, _, ?_, rfl⟩
  have h1 : RegsOnly s (if (s.tri t).rollbacks ≠ 0 ∧ (s.tri t).closed.isNone then countL s t 0x2F 1 else s) := by
    split
    · exact .countL _ _ _ _
    · exact .refl _
  split
  · exact h1.trans (.up _ _ _)
  · exact h1

/-! ### The issue of one instruction -/

theorem Ready.endSlot {s : State} {t : TriadId} (h : Ready s t) : endSlot s t = s :=
  State.setTriad_id _ _ _ (by simp [Triad.endSlot, h.slot])

theorem Ready.canIssue {s : State} {t : TriadId} (h : Ready s t) : canIssue s t = true := by
  simp [Machine.canIssue, h.runs, h.awake, h.recovery, h.delay, h.entry, h.inTime, h.forced, h.closeDue, h.bound, h.repair, h.halt,
    h.dormant, h.boundary, h.noEvent]

theorem Ready.frozen {s : State} {t : TriadId} (h : Ready s t) : (s.tri t).frozen = false := by
  simp [Triad.frozen, h.slot]

/-- An instruction with E = 0 is held as the first of its bundle (R59, R110). -/
theorem opCommand_first {s : State} {t : TriadId} (h : Ready s t) (op : Op) :
    opCommand s t false op = s.setTriad t fun x => { x with first := some op } := by
  simp [opCommand, h.endSlot, h.canIssue, h.frozen, h.first]

/-- An instruction alone in its bundle goes to its checks. -/
theorem opCommand_alone {s : State} {t : TriadId} (h : Ready s t) (op : Op) :
    opCommand s t true op = (issueBundle s t none op true).getD s := by
  simp [opCommand, h.endSlot, h.canIssue, h.frozen, h.first]

/-- A bundle of one instruction that passes its checks and holds no access to memory issues. -/
theorem issueBundle_alone {s : State} {t : TriadId} (h : Ready s t) (op : Op)
    (hx : bundleExc s t (s.leadCore t) false none op true = none) (hi : iinvWaits (s.tri t) op = false)
    (hd : delayDue s t [(op, (s.leadCore t).pc, 1)] 4 op = 0) :
    issueBundle s t none op true = issueMem s t false [(op, (s.leadCore t).pc, 1)] 4 op := by
  have hr := h.noRepeat
  unfold State.leadCore at *
  simp [issueBundle, h.delay, hr, hx, hi, bundleOps, hd]

theorem issueMem_none {s : State} {t : TriadId} (rep : Bool) (ops : List (Op × Word × Nat)) (size : Nat) (last : Op)
    (h : memOf (ops.map fun p => p.1) = none) :
    issueMem s t rep ops size last = some (issueNow s t rep ops size last (fun _ => 0) true none) := by
  simp [issueMem, memStep, h]

/-! ### The exception an operation meets at issue, by its form -/

section
variable (s : State) (t : TriadId) (c : LaneCore) (pc : Word)

/-- An operation that is legal and admitted meets no exception but an arithmetic one, unless it accesses memory. -/
theorem opExc_of (op : Op) (h1 : opIllegal s t c pc false op = false) (h2 : opAllowed c op = true) (h3 : memOf [op] = none) :
    opExc s t c pc false op = if opArith c op then some (6, 8, none) else none := by
  unfold opExc
  rw [if_neg (by rw [h1]; decide), if_neg (by rw [h2]; decide)]
  cases op <;> first | rfl | exact absurd h3 (by intro h; cases h)

theorem opExc_alu (fn : AluFn) (rd a b : Reg) :
    opExc s t c pc false (.alu fn rd a b) = if opArith c (.alu fn rd a b) then some (6, 8, none) else none :=
  opExc_of s t c pc _ rfl rfl rfl

/-- Only ADDV and SUBV of the register functions can overflow (R74). -/
theorem opArith_alu (fn : AluFn) (rd a b : Reg) (h1 : fn ≠ .addv) (h2 : fn ≠ .subv) : opArith c (.alu fn rd a b) = false := by
  cases fn <;> first | rfl | contradiction

theorem opExc_imm (fn : ImmFn) (rd a : Reg) (i : BitVec 16) (h : opEncodable (.imm fn rd a i) = true) :
    opExc s t c pc false (.imm fn rd a i) = none := by
  rw [opExc_of s t c pc _ _ rfl rfl]
  · rfl
  · unfold opIllegal
    rw [h]
    rfl

theorem opExc_mul (fn : MulFn) (pd : BitVec 2) (a b : Reg) : opExc s t c pc false (.mul fn pd a b) = none :=
  opExc_of s t c pc _ rfl rfl rfl

theorem opExc_div (sg : Bool) (a b : Reg) :
    opExc s t c pc false (.div sg a b) = if c.rg b = 0 then some (6, 8, none) else none := by
  rw [opExc_of s t c pc _ rfl rfl rfl, show opArith c (.div sg a b) = (c.rg b == 0) from rfl]
  simp

theorem opExc_mfp (hi : Bool) (rd : Reg) (ps : BitVec 2) : opExc s t c pc false (.mfp hi rd ps) = none :=
  opExc_of s t c pc _ rfl rfl rfl

theorem opExc_mtp (pd : BitVec 2) (a b : Reg) : opExc s t c pc false (.mtp pd a b) = none := opExc_of s t c pc _ rfl rfl rfl

theorem opExc_mfq (rd : Reg) (second : Bool) : opExc s t c pc false (.mfq rd second) = none :=
  opExc_of s t c pc _ rfl rfl rfl

theorem opExc_fp (fn : FpFn) (single : Bool) (rd a b e : Reg) : opExc s t c pc false (.fp fn single rd a b e) = none :=
  opExc_of s t c pc _ rfl rfl rfl

theorem opExc_bcc (cd : Cond) (an : Bool) (a b : Reg) (off : BitVec 12) : opExc s t c pc false (.bcc cd an a b off) = none :=
  opExc_of s t c pc _ rfl rfl rfl

theorem opExc_br (off : BitVec 25) : opExc s t c pc false (.br off) = none := opExc_of s t c pc _ rfl rfl rfl
theorem opExc_call (off : BitVec 25) : opExc s t c pc false (.call off) = none := opExc_of s t c pc _ rfl rfl rfl
theorem opExc_jr (a : Reg) : opExc s t c pc false (.jr a) = none := opExc_of s t c pc _ rfl rfl rfl
theorem opExc_callr (a : Reg) : opExc s t c pc false (.callr a) = none := opExc_of s t c pc _ rfl rfl rfl
theorem opExc_ret : opExc s t c pc false .ret = none := opExc_of s t c pc _ rfl rfl rfl
theorem opExc_close : opExc s t c pc false .close = none := opExc_of s t c pc _ rfl rfl rfl
theorem opExc_sys (k : BitVec 16) : opExc s t c pc false (.sys k) = none := opExc_of s t c pc _ rfl rfl rfl
theorem opExc_mcall (k : BitVec 16) : opExc s t c pc false (.mcall k) = none := opExc_of s t c pc _ rfl rfl rfl
theorem opExc_iinv (a : Reg) : opExc s t c pc false (.iinv a) = none := opExc_of s t c pc _ rfl rfl rfl
theorem opExc_dinv (a : Reg) : opExc s t c pc false (.dinv a) = none := opExc_of s t c pc _ rfl rfl rfl

theorem opExc_iinva (h : c.priv ≠ 0) : opExc s t c pc false .iinva = none :=
  opExc_of s t c pc _ rfl (show (c.priv != 0) = true by simpa using h) rfl

theorem opExc_dinva (h : c.priv ≠ 0) : opExc s t c pc false .dinva = none :=
  opExc_of s t c pc _ rfl (show (c.priv != 0) = true by simpa using h) rfl

/-- A prefix that R100 and R104 admit. -/
theorem opExc_repi (src : RepSrc) (h1 : opEncodable (.repi src) = true) (h2 : prefixIllegal s t c pc (.repi src) = false) :
    opExc s t c pc false (.repi src) = none := by
  rw [opExc_of s t c pc _ _ rfl rfl]
  · rfl
  · unfold opIllegal
    rw [h1, h2]
    rfl

theorem opExc_repn (src : RepSrc) (h1 : opEncodable (.repn src) = true) (h2 : prefixIllegal s t c pc (.repn src) = false) :
    opExc s t c pc false (.repn src) = none := by
  rw [opExc_of s t c pc _ _ rfl rfl]
  · rfl
  · unfold opIllegal
    rw [h1, h2]
    rfl

/-- An MFS of a register that exists and that the level admits (R136, R152, R153). -/
theorem opExc_mfs (rd : Reg) (sr : BitVec 12) (h1 : srExists sr.toNat = true) (h2 : mfsAllowed c sr.toNat = true) :
    opExc s t c pc false (.mfs rd sr) = none := by
  rw [opExc_of s t c pc (.mfs rd sr) _ h2 rfl]
  · rfl
  · unfold opIllegal
    rw [show opEncodable (.mfs rd sr) = true from h1]
    rfl

/-- An MTS that exists, that the level admits and that does not name the PC of the current bank (R136, R151 to R153). -/
theorem opExc_mts (sr : BitVec 12) (r : Reg) (h1 : srExists sr.toNat = true) (h2 : mtsAllowed c sr.toNat (c.rg r) = true)
    (h3 : mtsOwnPc c (.mts sr r) = false) : opExc s t c pc false (.mts sr r) = none := by
  rw [opExc_of s t c pc (.mts sr r) _ h2 rfl]
  · rfl
  · unfold opIllegal
    rw [show opEncodable (.mts sr r) = true from h1, h3]
    rfl

/-- An access to memory that its checks admit (R45, R129, R296). -/
theorem opExc_mem (fn : MemFn) (rt rb : Reg) (post : Bool) (off : BitVec 12) (a : Access)
    (h1 : opEncodable (.mem fn rt rb post off) = true) (h2 : accessCheck s t c fn (memAddr c rb post off) = .ok a) :
    opExc s t c pc false (.mem fn rt rb post off) = none := by
  unfold opExc
  rw [if_neg, if_neg (show ¬ (!opAllowed c (.mem fn rt rb post off)) = true from Bool.false_ne_true)]
  · simp only [h2]
  · unfold opIllegal
    rw [h1]
    exact Bool.false_ne_true

end

/-! ### The delay slot a branch opens, by its form (R83, R85, R130) -/

theorem delayOf_bcc (c : LaneCore) (ipc : Word) (k : Cond) (an : Bool) (a b : Reg) (off : BitVec 12) :
    delayOf c ipc (.bcc k an a b off) = some
      { branchPc := c.pc, target := if condHolds k (c.rg a) (c.rg b) then some (ipc + wordOff12 off) else none,
        annul := an && !condHolds k (c.rg a) (c.rg b) } := rfl

theorem delayOf_br (c : LaneCore) (ipc : Word) (off : BitVec 25) :
    delayOf c ipc (.br off) = some { branchPc := c.pc, target := some (ipc + wordOff25 off), annul := false } := rfl

theorem delayOf_call (c : LaneCore) (ipc : Word) (off : BitVec 25) :
    delayOf c ipc (.call off) = some { branchPc := c.pc, target := some (ipc + wordOff25 off), annul := false } := rfl

theorem delayOf_jr (c : LaneCore) (ipc : Word) (r : Reg) :
    delayOf c ipc (.jr r) = some { branchPc := c.pc, target := some (regTarget (c.rg r)), annul := false } := rfl

theorem delayOf_callr (c : LaneCore) (ipc : Word) (r : Reg) :
    delayOf c ipc (.callr r) = some { branchPc := c.pc, target := some (regTarget (c.rg r)), annul := false } := rfl

theorem delayOf_ret (c : LaneCore) (ipc : Word) :
    delayOf c ipc .ret = some { branchPc := c.pc, target := some (regTarget (c.rg 31)), annul := false } := rfl

/-- An offset in words is four octets each (R130). -/
theorem wordOff12_eq (off : BitVec 12) : wordOff12 off = off.signExtend 64 * 4 := by
  unfold wordOff12
  generalize off.signExtend 64 = x
  apply BitVec.eq_of_toNat_eq
  simp [Nat.shiftLeft_eq]

theorem wordOff25_eq (off : BitVec 25) : wordOff25 off = off.signExtend 64 * 4 := by
  unfold wordOff25
  generalize off.signExtend 64 = x
  apply BitVec.eq_of_toNat_eq
  simp [Nat.shiftLeft_eq]

/-! ### What one instruction leaves -/

/-- What the issue of one instruction alone in its bundle leaves: the lanes in use take it, the triad counts its slot,
and no other triad, no octet of memory changes. -/
theorem issueNow_alone {s : State} {t : TriadId} (op : Op) (hc : ∀ (s : State) (c : LaneCore), cacheOp s t c op = s)
    (data : LaneId → Word) (arrived : Bool) (st : Option (Access × MemFn × Reg)) :
    let x := s.tri t
    let pc := (s.leadCore t).pc
    let s' := issueNow s t false [(op, pc, 1)] 4 op data arrived st
    (∀ l, x.act l = true → (s'.tri t).lane l = laneIssue x false [(op, pc, 1)] 4 op (fallOf s t (s.leadCore t) 4 op) data arrived st l (x.lane l))
    ∧ (∀ l, x.act l = false → (s'.tri t).lane l = x.lane l)
    ∧ (∀ u, u ≠ t → s'.tri u = s.tri u) ∧ s'.mem = s.mem ∧ (s'.tri t).slots = x.slots + 1
    ∧ (s'.tri t).slotOpen = true ∧ (s'.tri t).delay = delayOf (s.leadCore t) pc op
    ∧ (s'.tri t).entry = (x.service (pc + 4) op).or x.entry
    ∧ (s'.tri t).closeDue = x.closeDue ||| bit10 1 (op == .close) := by
  intro x pc s'
  have hs : s' = issueNow s t false [(op, pc, 1)] 4 op data arrived st := rfl
  simp only [issueNow, hc] at hs
  generalize hb : branchCounts s t _ _ op = s1 at hs
  have h1 : RegsOnly s s1 := hb ▸ .branchCounts _ _ _ _ _
  obtain ⟨s2, n, h2, h3⟩ := countSlot_spec s1 t
  rw [h3] at hs
  have h12 := h1.trans h2
  have ht := h12.tri
  simp only [startRep, Bool.false_eq_true, if_false] at hs
  have h5 := congrArg (fun z => State.tri z t) hs
  simp only [State.tri_setTriad, ht] at h5
  clear_value s'
  refine ⟨fun l hl => ?_, fun l hl => ?_, fun u hu => ?_, ?_, ?_, ?_, ?_, ?_, ?_⟩
  · simp only [x] at hl
    simp [h5, Triad.lane, fallOf, hl, x, pc, State.leadCore]
  · simp only [x] at hl
    simp [h5, Triad.lane, hl, x]
  · rw [hs, State.tri_setTriad_ne _ _ _ _ hu, State.tri_setTriad_ne _ _ _ _ hu, ht]
  · rw [hs]; exact h12.mem
  · simp [h5, x]
  · simp [h5]
  · simp [h5, State.leadCore, pc]
  · simp [h5, State.leadCore, x, pc, Triad.lane, Triad.countC]
    generalize Triad.service _ _ _ = o
    cases o <;> rfl
  · simp [h5, x, Triad.countC]

/-- The context in which an instruction alone in its bundle starts its results. -/
def aloneCtx (s : State) (t : TriadId) (op : Op) : OpCtx := ⟨(s.leadCore t).pc, (s.leadCore t).pc, 1, fallOf s t (s.leadCore t) 4 op, 0, true⟩

theorem bundleExc_alone (s : State) (t : TriadId) (c : LaneCore) (op : Op) (h : opExc s t c c.pc false op = none) :
    bundleExc s t c false none op true = none := by
  simp [bundleExc, bundleOps, h]

/-- An instruction without access to memory, branch or effect on a cache, alone in its bundle: every lane in use starts
its results and moves past it. -/
theorem opCommand_issued {s : State} {t : TriadId} (h : Ready s t) (op : Op)
    (hx : opExc s t (s.leadCore t) (s.leadCore t).pc false op = none) (hi : iinvWaits (s.tri t) op = false)
    (hm : memOf [op] = none) (hb : opClass op ≠ .branch) (hc : ∀ (s : State) (c : LaneCore), cacheOp s t c op = s)
    (hn : ∀ c : LaneCore, nextCore c op 4 false none = c.setCur fun b => { b with pc := c.pc + 4 })
    (hu : ∀ fl, cancelUnit op fl = fl) (hr : ∀ (c : LaneCore) (x y : OpCtx), x.ipc = y.ipc → x.slot = y.slot → opResults c x op = opResults c y op) :
    Issued s (opCommand s t true op) t (fun c => c.onward (c.pc + 4) (opResults c (aloneCtx s t op) op)) (fun _ => []) := by
  have hd : delayDue s t [(op, (s.leadCore t).pc, 1)] 4 op = 0 := by
    simp [delayDue, delayOf, hb]
  rw [opCommand_alone h, issueBundle_alone h op (bundleExc_alone _ _ _ _ hx) hi hd, issueMem_none _ _ _ _ (by simpa using hm)]
  obtain ⟨h1, h2, h3, h4, h5, -⟩ := issueNow_alone op hc (fun _ => 0) true none (t := t) (s := s)
  refine ⟨fun l hl => ?_, fun l hl => ?_, h2, h3, h4, h5⟩
  · rw [Option.getD_some, h1 l hl]
    simp only [laneIssue, startRep, List.foldl_cons, List.foldl_nil, Lane.act, hu, h.delay, hn, Bool.false_eq_true, if_false]
    rw [hr _ _ (aloneCtx s t op) rfl rfl]
    rfl
  · rw [Option.getD_some, h1 l hl]
    simp [laneIssue, startRep, Lane.act]

/-- An instruction of that kind does its work in the sense of Starts. -/
theorem Starts.of {s : State} {t : TriadId} (h : Ready s t) (i : Bool → Instr) (op : Op) (rs : Word → LaneCore → List Result)
    (he : ∀ e, exec (i e) s = .next (opCommand s t e op))
    (hx : opExc s t (s.leadCore t) (s.leadCore t).pc false op = none) (hi : iinvWaits (s.tri t) op = false)
    (hm : memOf [op] = none) (hb : opClass op ≠ .branch) (hc : ∀ (s : State) (c : LaneCore), cacheOp s t c op = s)
    (hn : ∀ c : LaneCore, nextCore c op 4 false none = c.setCur fun b => { b with pc := c.pc + 4 })
    (hu : ∀ fl, cancelUnit op fl = fl)
    (hr : ∀ (c : LaneCore) (x y : OpCtx), x.ipc = y.ipc → x.slot = y.slot → opResults c x op = opResults c y op)
    (hs : ∀ c, opResults c (aloneCtx s t op) op = rs (s.leadCore t).pc c) : Starts s t i op rs := by
  refine ⟨⟨_, he true, ?_⟩, (he false).trans (congrArg _ (opCommand_first h op))⟩
  have := opCommand_issued h op hx hi hm hb hc hn hu hr
  simpa only [hs] using this

end Sys2Proof.Machine
end

