-- ==== Sys2Proof/Tests/Slice0.lean ====
section
/-! SUPPORT. Tests: ill-formed commands are refused, instruction words decode as the spec encodes them, small steps come
out as the spec says, and every statement's hypotheses are met by some state (the wit_ theorems). -/

open Sys2Proof Sys2Proof.Machine

namespace Sys2Proof.Tests

set_option Elab.async false

/-! ### States -/

/-- A device after reset with its triads released and both collection units in service. -/
def base : State :=
  { State.reset with
    triads := State.reset.triads.map fun x => { x with released := true }
    fcu := { Fcu.reset with a := { FcuUnit.reset with state := .normal, hwHold := false }
                            b := { FcuUnit.reset with state := .normal, hwHold := false }, lastAgreed := true } }

/-- That device with triad 0 changed. -/
def tri0 (f : Triad → Triad) : State := base.setTriad 0 f

/-- That device with the registers of every lane of triad 0 changed. -/
def core0 (f : LaneCore → LaneCore) : State :=
  tri0 fun x => { x with lanes := x.lanes.map fun (l : Lane) => { l with core := f l.core } }

/-- g registers of the current bank. -/
def setG (l : List (Nat × Word)) (c : LaneCore) : LaneCore :=
  l.foldl (fun c p => c.setCur fun b => b.wg (BitVec.ofNat 5 p.1) p.2) c

/-- That device with octets in memory. -/
def memS (s : State) (a n v : Nat) : State := wrMem s a n v

theorem wit_ready : Ready base 0 := by constructor <;> decide +kernel

theorem wit_FloatArithmetic : Ready base 0 := wit_ready
theorem wit_FloatExact : Ready base 0 := wit_ready
theorem wit_CloseAndServiceCalls : Ready base 0 := wit_ready
theorem wit_StepRunsFront : State.reset.pending = [] := rfl

/-! ### Hypotheses of the statements are met -/

def large : State := core0 (setG [(1, 0x7FFFFFFFFFFFFFFF), (2, 1), (3, 0x8000000000000000)])

theorem wit_IntegerArithmetic :
    Ready large 0 ∧ ((large.leadCore 0).rg 2).toInt + ((large.leadCore 0).rg 2).toInt = 2
    ∧ 2 ^ 63 ≤ ((large.leadCore 0).rg 1).toInt + ((large.leadCore 0).rg 2).toInt
    ∧ ((large.leadCore 0).rg 3).toInt - ((large.leadCore 0).rg 2).toInt < -2 ^ 63 := by
  and_intros <;> first | decide +kernel | (constructor <;> decide +kernel)

theorem wit_ProductsAndQuotients : Ready large 0 ∧ (large.leadCore 0).rg 2 ≠ 0 ∧ (large.leadCore 0).rg 4 = 0 := by
  and_intros <;> first | decide +kernel | (constructor <;> decide +kernel)

def based : State := core0 (setG [(3, 0x1238)])

theorem wit_LoadsAndStores : Ready based 0 ∧ PlainSram based 0 ((based.leadCore 0).rg 3 + BitVec.signExtend 64 (8#12)) 8
    ∧ PlainSram based 0 ((based.leadCore 0).rg 3) 8 ∧ (based.tri 0).flying = []
    ∧ aliasOverlap ((based.tri 0).columnOf (based.tri 0).lead) ((based.leadCore 0).rg 3).toNat 8 = false
    ∧ ∀ l, (based.tri 0).column l < 64 := by
  and_intros <;> first | decide +kernel | (constructor <;> decide +kernel)

theorem wit_Misalignment : Ready based 0 ∧ ((based.leadCore 0).rg 3 + BitVec.signExtend 64 (1#12)).toNat % 2 ≠ 0 :=
  ⟨by constructor <;> decide +kernel, by decide +kernel⟩

def slotDelay : State := tri0 fun x => { x with delay := some ⟨0, some 0x40, false⟩ }

theorem wit_BranchesAndDelaySlots : Ready base 0 ∧ (base.tri 0).slots = 0
    ∧ (slotDelay.tri 0).delay = some ⟨0, some 0x40, false⟩
    ∧ Ready (slotDelay.setTriad 0 fun x => { x with delay := none }) 0
    ∧ pairLegal .close (.alu .add 1 2 3) = false ∧ pairLegal (.bcc .beq false 1 2 3) (.alu .add 1 2 3) = false := by
  and_intros <;> first | decide +kernel | (constructor <;> decide +kernel)

/-- ADD g3, g1, g2 with E = 1 at addresses 0 and 4. -/
def coded : State := memS (memS base 0 4 0x84611000) 4 4 0x84611000

def repeating : State :=
  memS (core0 fun c => c.setCur fun b => { b with rpc := 2, psw := putBit b.psw 10 true }) 0 4 0x84611000

theorem wit_Repeats :
    Ready coded 0 ∧ peekWord coded 0 (coded.leadCore 0) ((coded.leadCore 0).pc + 4) = some 0x84611000
    ∧ decodeOp 0x84611000 = some (.alu .add 3 1 2) ∧ repeatForbidden (.alu .add 3 1 2) = false
    ∧ mtsOwnRpc (coded.leadCore 0) (.alu .add 3 1 2) = false
    ∧ pswRP (repeating.leadCore 0).psw = true ∧ (repeating.leadCore 0).bank.rpc ≠ 0
    ∧ peekOps repeating 0 (repeating.leadCore 0) (repeating.leadCore 0).pc = [.alu .add 3 1 2]
    ∧ (repeating.tri 0).runs = true ∧ modeOf repeating ≠ 5 ∧ boundaryWait repeating 0 = false
    ∧ heldByEvent repeating 0 = false ∧ (repeating.tri 0).eventBound = false ∧ (repeating.tri 0).repair = none := by
  and_intros <;> first | decide +kernel | (constructor <;> decide +kernel)

def inBank (b : Fin 4) (psw : Word) : State :=
  core0 fun c => { c with cur := b, banks := c.banks.set b.val { c.banks[b] with psw := psw, busy := true } b.isLt }

/-- At a level in bank 1, g1 holding PSW as it is. -/
def inLevel (psw : Word) : State :=
  { inBank 1 psw with triads := (inBank 1 psw).triads.map fun x =>
      { x with lanes := x.lanes.map fun (l : Lane) => { l with core := setG [(1, psw)] l.core } } }

theorem wit_SystemRegisters :
    (Ready base 0 ∧ ∀ n ∈ [0, 1, 2, 3, 4, 5, 0x103, 0x1E0], Clause.MayRead (base.leadCore 0) n)
    ∧ (Ready (inLevel 0x11) 0 ∧ ∀ n ∈ [0, 1, 2, 5, 0x143], Clause.MayRead ((inLevel 0x11).leadCore 0) n)
    ∧ (Ready (inLevel 0x10) 0 ∧ ((inLevel 0x10).leadCore 0).priv = 0
      ∧ Clause.MayWrite ((inLevel 0x10).leadCore 0) 0 (((inLevel 0x10).leadCore 0).rg 1))
    ∧ (∀ n ∈ [0, 1, 2, 5, 0x143], Clause.MayWrite ((inLevel 0x11).leadCore 0) n 5)
    ∧ (∀ n ∈ [0, 1, 2, 3, 4, 5, 0x103, 0x1E0], Clause.MayWrite (base.leadCore 0) n 5)
    ∧ ∀ l, ((base.tri 0).lane l).core.flight = [] := by
  unfold Clause.MayWrite Clause.MayRead
  refine ⟨⟨wit_ready, by decide +kernel⟩, ⟨by constructor <;> decide +kernel, by decide +kernel⟩,
    ⟨by constructor <;> decide +kernel, by decide +kernel, by decide +kernel⟩, by decide +kernel, by decide +kernel,
    by decide +kernel⟩

def ending (fl : List Result) (m : Option (BitVec 12 × Word)) : State :=
  tri0 fun x => { x with
    slotOpen := true
    lanes := x.lanes.map fun (l : Lane) => { l with mts := m, core := { l.core with flight := fl } } }

theorem wit_SlotEnds :
    (∀ s ∈ [ending [result 0 (.g 1) 7 1] none, ending [{ result 0 (.f 1) 7 1 with flags := 16 }] none,
        ending [result 0 (.g 1) 7 3] none, ending [] (some (2, 9))],
      (s.tri 0).slotOpen = true ∧ (s.tri 0).frozen = false ∧ (s.tri 0).entry = none ∧ (s.tri 0).act (s.tri 0).lead = true)
    ∧ (base.tri 0).slotOpen = false := by
  decide +kernel

def withDdr (s : State) : State := s.wr Adr.ddrTop 1

theorem wit_CacheMaintenance :
    let s := withDdr (core0 (setG [(1, 0x8000000040)]))
    Ready s 0 ∧ (s.tri 0).toRelease = [] ∧ ((s.tri 0).lane (s.tri 0).lead).gate = [] ∧ (s.leadCore 0).priv ≠ 0
    ∧ bitOf (s.rd (Adr.tapuCtx 0)) 63 = false ∧ regionOf s ((s.leadCore 0).rg 1).toNat = .ddr := by
  and_intros <;> first | decide +kernel | (constructor <;> decide +kernel)

theorem wit_PrivilegeTraps : Ready (inBank 1 0x10) 0 ∧ ((inBank 1 0x10).leadCore 0).priv = 0
    ∧ ((inBank 1 0x10).leadCore 0).cur ≠ 0 := by
  and_intros <;> first | decide +kernel | (constructor <;> decide +kernel)

theorem wit_FetchWalkArrival :
    let d := withDdr (core0 fun c => { c with cur := 3 })
    let w := (memS base 0x1000 8 0x0F).wr (Adr.tapuCtx 0) 0x8000000000001000
    (Ready coded 0 ∧ PlainSram coded 0 (coded.leadCore 0).pc 4 ∧ NothingAhead coded 0 (coded.leadCore 0).pc ∧ (coded.tri 0).l1i = []
      ∧ rdMem coded (coded.leadCore 0).pc.toNat 4 = 0x84611000 ∧ wordEnds 0x84611000 = true)
    ∧ ((d.tri 0).runs = true ∧ (d.leadCore 0).cur = 3 ∧ windowsActive d 0 = false ∧ regionOf d 0x8000000040 = .ddr
      ∧ d.ddr.errors = [] ∧ (d.tri 0).l1i.lookup (0x8000000040 / 64) = none)
    ∧ ((coreReq w 0 3 .load).ten = true ∧ windowsActive w 0 = false ∧ (coreReq w 0 3 .load).root = 0x1000
      ∧ sramHole w 0x1000 = false ∧ w.sram.errors = [] ∧ rdMem w 0x1000 8 = (0x0F : Word).toNat
      ∧ bitOf (0x0F : Word) 0 = true ∧ pteReserved 0x0F 1 = false ∧ attrR 0x0F = true
      ∧ tlbHit w 0 (coreReq w 0 3 .load).asid 0 = none ∧ w.barriers[(0 : Fin 6)] = none) := by
  and_intros <;> first | decide +kernel | (constructor <;> decide +kernel)

/-- Vector v of the M table leads to 0x2000 at M level in bank 1. -/
def vectors (s : State) (v : Nat) : State := memS (memS s (16 * v) 8 0x2000) (16 * v + 8) 8 0x131

def excEntry : PendEntry :=
  { vec := 2, mTable := true, code := 0, pc := 0x40, event := none, prio := 0, nmx := false, frec := none }

def trapping : State := vectors (tri0 fun x => { x with entry := some excEntry }) 2

def eventEntry : PendEntry :=
  { vec := 116, mTable := true, code := 0, pc := 0, event := some 100, prio := 15, nmx := true, frec := none }

def notified : State := vectors (pulse (base.wr (Adr.evcRoute 100) 0xC0001F00) 100) 116

def timedOut : State :=
  vectors (tri0 fun x => { x with entry := some { excEntry with vec := 7 } }) 7

theorem wit_HandlerEntries :
    (CleanEntry trapping 0 excEntry 0x2000 0x131 ∧ dueException trapping 0 = some excEntry)
    ∧ (CleanEntry notified 0 eventEntry 0x2000 0x131 ∧ dueEvent notified 0 = some eventEntry)
    ∧ (CleanEntry timedOut 0 { excEntry with vec := 7 } 0x2000 0x131
      ∧ dueOverrun timedOut 0 = some { excEntry with vec := 7 }) := by
  refine ⟨⟨?_, by decide +kernel⟩, ⟨?_, by decide +kernel⟩, ⟨?_, by decide +kernel⟩⟩
  all_goals
    constructor <;> first
      | decide +kernel
      | (intro k hk; constructor <;> (interval_cases k <;> decide +kernel))

/-- In bank 1 at M level, with EPRIV naming bank 0 at M level. -/
def handling : State :=
  core0 fun c => { c with cur := 1, banks := c.banks.set 1 { c.banks[1] with psw := 0x13, epriv := 3, busy := true } (by decide) }

theorem wit_ReturnsFromHandler :
    Ready handling 0 ∧ (∀ l, ((handling.tri 0).lane l).core.flight = []) ∧ (handling.leadCore 0).priv ≠ 0
    ∧ (handling.leadCore 0).cur ≠ 0 ∧ bitOf (handling.leadCore 0).bank.epriv 8 = false
    ∧ reteOk (handling.leadCore 0) [] = true ∧ field (handling.leadCore 0).bank.epriv 5 4 % 4 = 0
    ∧ ∀ l, pswNI ((handling.tri 0).lane l).core.psw = false := by
  and_intros <;> first | decide +kernel | (constructor <;> decide +kernel)

theorem wit_ClausesClose :
    let s := (tri0 fun x => { x with slots := 3, closeDue := 2, timer := 0xC80 }).wr (Adr.cmpParseInterval 0) 0
    let x := s.tri 0
    x.runs = true ∧ x.rollbackDue = false ∧ x.slotOpen = false ∧ x.delay = none ∧ x.closed = none ∧ x.first = none
    ∧ x.forced = false ∧ x.slots ≠ 0 ∧ x.closeDue ≠ 0 ∧ isSplit s 0 = false
    ∧ field (s.rd (Adr.cmpParseInterval 0)) 15 0 = 0 ∧ x.tmaxUse ≤ x.timer := by
  decide +kernel

/-- A closed clause with these signatures of lanes 0 and 1. -/
def closedAs (a b : Word) : Closed :=
  { num := 0, ckpt := Ckpt.reset 0, sigs := (Vector.replicate 3 a).set 1 b, bad := Vector.replicate 3 false,
    recs := Vector.replicate 3 [], excluded := none, forced := false, counts := [], evClear := none,
    evGone := false, full := false, done := false }

/-- Triad 0 with lanes 0 and 1 in use and a clause that awaits its compare. -/
def comparing (a b : Word) : State :=
  tri0 fun x => { x with
    closed := some (closedAs a b), slots := 1, clause := 1
    lanes := x.lanes.set 2 { x.lanes[2] with state := .spareTest } (by decide) }

theorem wit_ComparesDecide :
    let s := comparing 5 5
    let d := comparing 5 6
    let r := d.setTriad 0 fun x => { x with rollbackDue := true }
    ((s.tri 0).closed = some (closedAs 5 5) ∧ (s.tri 0).actives = [0, 1] ∧ (s.tri 0).arb = none ∧ (s.tri 0).slots ≠ 0
      ∧ (closedAs 5 5).done = false ∧ (∀ a b : LaneId, (s.tri 0).act a = true → (s.tri 0).act b = true →
        (closedAs 5 5).sigs[a] = (closedAs 5 5).sigs[b]) ∧ traceOn s = false ∧ (s.tri 0).fenced = false
      ∧ (s.tri 0).rollbackDue = false)
    ∧ ((d.tri 0).closed = some (closedAs 5 6) ∧ (closedAs 5 6).sigs[(0 : Fin 3)] ≠ (closedAs 5 6).sigs[(1 : Fin 3)]
      ∧ (d.tri 0).rollbacks < 2 ∧ recoveryEnabled d 0 = true ∧ (d.tri 0).actives = [0, 1])
    ∧ ((r.tri 0).rollbackDue = true ∧ (r.tri 0).toRelease = [] ∧ (r.tri 0).flying = [] ∧ (r.leadCore 0).waiting = false
      ∧ (r.tri 0).arb = none ∧ (r.tri 0).repair = none) := by
  decide +kernel

def stored8 : GateEntry := { id := 0, pa := 0x100, data := 0x55, be := 0xFF, dev := false, aliasK := 0, clause := 0 }
def deviceStore : GateEntry := { stored8 with dev := true, pa := 0x80041104, be := 0x0F }

theorem wit_GateDrains :
    let a := tri0 fun x => { x with toRelease := [stored8] }
    let b := tri0 fun x => { x with toRelease := [deviceStore] }
    let f := tri0 fun x => { x with flying := [stored8] }
    let k : Kept := ⟨.gate 0 0, 0x100, octetsOf 0x55 0xFF⟩
    let g := { f with sram := { f.sram with collided := f.sram.collided.set 0 (some k) } }
    (a.tri 0).toRelease = stored8 :: [] ∧ (a.tri 0).flying.all (fun g => !g.dev) = true
    ∧ (b.tri 0).toRelease = deviceStore :: [] ∧ (b.tri 0).flying = []
    ∧ PlainWrite f stored8 8 ∧ (f.tri 0).flying[0]? = some stored8 ∧ (∀ b : Fin 12, f.sram.collided[b] = none)
    ∧ barrierHolds f 0 stored8 = false
    ∧ PlainWrite g stored8 8 ∧ g.sram.collided[(0 : Fin 12)] = some k
    ∧ k = ⟨.gate 0 stored8.id, stored8.pa.toNat, (octetsOf stored8.data stored8.be).take 8⟩ := by
  and_intros <;> first | decide +kernel | (constructor <;> decide +kernel)

/-- A write of triad 1 in flight to bank 0, which the bank's owner port may refuse. -/
theorem wit_collision : (stored8.pa.toNat / 0x200000 = (0 : Fin 12).val) ∧ (0 : Fin 12).val ≠ (1 : TriadId).val := by decide

/-! ### Recovery, translation, DMA, memory, time -/

/-- Triad 0 with the first lanes of the list in use and the others in the state `st`. -/
def lanesAs (st : List LaneState) (f : Triad → Triad) : State :=
  tri0 fun x => f { x with lanes := Vector.ofFn fun i => { x.lanes[i] with state := st.getD i.val .active } }

theorem wit_EventPulses : neverPulses 33 = false ∧ neverPulses 445 = true ∧ (2 : BitVec 6).getLsbD (1 : TriadId).val = true
    ∧ (∀ v : TriadId, v < 1 → (2 : BitVec 6).getLsbD v.val = false) := by
  decide

theorem wit_LanesAreTested :
    let a := lanesAs [.active, .active, .suspect] fun x => { x with
      lanes := x.lanes.set 2 { x.lanes[2] with bistWait := some 5 } (by decide) }
    let b := lanesAs [.active, .active, .spareTest] fun x => { x with
      lanes := x.lanes.set 2 { x.lanes[2] with bistRun := true } (by decide) }
    (((a.tri 0).lane 2).bistWait.isSome = true ∧ (a.tri 0).fenced = false ∧ bistCount a < 2
      ∧ (∀ u k, ((a.tri u).lane k).bistWait.isSome = true → u = 0 ∧ k = 2))
    ∧ (((b.tri 0).lane 2).bistRun = true ∧ ((b.tri 0).lane 2).state = .spareTest ∧ modeOf b ≠ 5) := by
  decide +kernel

theorem wit_LanesJoin :
    let r := lanesAs [] fun x => { x with repair := some 2, repairReady := true }
    let w := lanesAs [.active, .active, .spareReady] fun x => { x with swapAt := some 2 }
    let o := lanesAs [.active, .spareReady, .active] fun x => { x with rctlUse := 0x3101, rotAt := some 1 }
    (atFresh r 0 = true ∧ (r.tri 0).sourceFor 2 = some 0 ∧ modeOf r ≠ 5 ∧ 2 ≤ (r.tri 0).actives.length
      ∧ (r.tri 0).selPair = false ∧ (∀ k, ((r.tri 0).lane k).suspectDue = false) ∧ (r.tri 0).repairReady = true
      ∧ (r.tri 0).repair = some 2)
    ∧ (atFresh w 0 = true ∧ (w.tri 0).sourceFor 2 = some 0 ∧ (w.tri 0).swapDue = some 2)
    ∧ (atFresh o 0 = true ∧ (o.tri 0).sourceFor 1 = some 0 ∧ rotationDue o 0 = some 1) := by
  decide +kernel

theorem wit_TriadResets : (base.tri 0).released = true ∧ (base.tri 0).fenced = false ∧ (base.tri 0).arb = none
    ∧ 2 ≤ (base.tri 0).actives.length ∧ ∀ l, ((base.tri 0).lane l).suspectDue = false := by
  decide +kernel

theorem wit_PinsAgree : modeOf base ≠ 5 ∧ (base.tri 0).fenced = false ∧ (base.tri 0).actives.length = 3
    ∧ ((comparing 0 0).tri 0).actives = [0, 1] := by
  decide +kernel

theorem wit_TranslationsChange :
    let b := { base with barriers := base.barriers.set 0 (some ⟨2, 0, 0, [], []⟩) (by decide) }
    base.barriers[(0 : Fin 6)] = none ∧ b.barriers[(0 : Fin 6)] = some ⟨2, 0, 0, [], []⟩
    ∧ allFin32.any (segHolds b ⟨2, 0, 0, [], []⟩) = false
    ∧ field (base.rd (Adr.tapuCtx 0)) 51 40 ≠ field (0x0000010000000000 : Word) 51 40 := by
  decide +kernel

/-- That device with channel 0 of engine 0 changed; its stamp is untranslated. -/
def chan0 (s : State) (f : Chan → Chan) : State := s.upChan 0 f

def seg0 (bytes : Nat) (a b : Nat) : Seg :=
  { id := 0, num := 0, bytes := bytes, src := [(a, bytes)], dst := [(b, bytes)], triad := 0, asid := 0, pages := [],
    live := true, moved := false, kept := 0 }

def desc0 : Desc := { src := 0x1000, dst := 0x2000, len := 64, ctl := 0x0C, next := 0 }

theorem wit_DmaCommands :
    let w : TriadId := 0
    (w.val = chanOwner base 0 ∧ base.chans[(0 : Fin 32)].state = .idle)
    ∧ (∀ st ∈ [ChanState.suspended, .armed, .ready], w.val = chanOwner (chan0 base fun k => { k with state := st }) 0
        ∧ (chan0 base fun k => { k with state := st }).chans[(0 : Fin 32)].state = st)
    ∧ (let s := chan0 base fun k => { k with state := .running, flying := [seg0 64 0x1000 0x2000] };
        w.val = chanOwner s 0 ∧ s.chans[(0 : Fin 32)].state = .running ∧ s.chans[(0 : Fin 32)].flying ≠ [])
    ∧ engStopped base 0 = false ∧ modeOf base ≠ 5 := by
  decide +kernel

/-- The descriptor desc0 stands at 0x300, and RES0 of channel 0 names it. -/
def described (f : Chan → Chan) : State :=
  chan0 ((memS (memS (memS (memS base 0x300 8 0x1000) 0x308 8 0x2000) 0x310 4 64) 0x314 4 0x0C).wr (res0Of 0) 0x300) f

theorem wit_DescriptorsRun :
    let f := described fun k => { k with state := .ready, fetchDue := true }
    let r := described fun k => { k with state := .ready, desc := some desc0 }
    let c := described fun k => { k with state := .running, desc := some { desc0 with len := 320 }, nextSeg := 1
                                         flying := [seg0 256 0x1000 0x2000] }
    (PlainDma f 0 ∧ f.chans[(0 : Fin 32)].fetchDue = true ∧ plainRange f 0x300 32 ∧ (f.rd (res0Of 0)).toNat = 0x300
      ∧ desc0 = descOf (rdBytes f 0x300 32) ∧ desc0.invalid = false ∧ desc0.len ≠ 0 ∧ f.chans[(0 : Fin 32)].flying = [])
    ∧ (PlainDma r 0 ∧ canStart r 0 = true ∧ engStopped r (engOf 0) = false ∧ r.chans[(0 : Fin 32)].state = .ready
      ∧ r.chans[(0 : Fin 32)].desc = some desc0 ∧ r.chans[(0 : Fin 32)].flying = []
      ∧ (∀ e ∈ engChans (engOf 0), e ≠ 0 → runnable r e = false ∧ r.chans[e].state ≠ .running)
      ∧ r.chans[(0 : Fin 32)].abortDue = false ∧ r.chans[(0 : Fin 32)].failed = none
      ∧ desc0.ctl.getLsbD 2 = true ∧ desc0.ctl.getLsbD 3 = true ∧ plainRange r 0x1000 64 ∧ plainRange r 0x2000 64)
    ∧ (PlainDma c 0 ∧ c.chans[(0 : Fin 32)].flying = [seg0 256 0x1000 0x2000] ∧ plainRange c 0x1000 256
      ∧ plainRange c 0x2000 256 ∧ c.chans[(0 : Fin 32)].abortDue = false ∧ c.chans[(0 : Fin 32)].failed = none
      ∧ c.chans[(0 : Fin 32)].desc = some { desc0 with len := 320 } ∧ chanDone c 0 + 256 < (320 : BitVec 32).toNat) :=
  ⟨⟨by constructor <;> decide +kernel, by unfold plainRange; decide +kernel⟩, ⟨by constructor <;> decide +kernel, by unfold plainRange; decide +kernel⟩,
    ⟨by constructor <;> decide +kernel, by unfold plainRange; decide +kernel⟩⟩

theorem wit_MemoryBanks :
    let g := { base with sram := { base.sram with power := base.sram.power.set 0 3 (by decide) } }
    let e := { base with sram := { base.sram with writeBack := [8] } }
    let b := (base.wr Adr.srbBgtctl 0x10000).wr Adr.sysMode 1
    let c := (withDdr base).wr Adr.ddrScrub 0x10000
    let d := { c with ddr := { c.ddr with errors := [(0x8000000040, [3])] } }
    let l := base.wr Adr.ddrStat 0xF0000
    let f := { l with ddr := { l.ddr with repeats := l.ddr.repeats.set 0 [⟨some 0x8000000040, true, 3⟩] (by decide) } }
    (bitOf (base.rd Adr.srbPwr) 31 = false ∧ (∀ b : Fin 12, base.sram.collided[b] = none) ∧ ∀ n, n < 11 → field ((1 : BitVec 32).setWidth 64) (2 * n + 1) (2 * n) ≠ 3)
    ∧ (g.sram.power[(0 : Fin 12)] = 3 ∧ g.sram.goal[(0 : Fin 12)] = 0)
    ∧ e.sram.writeBack.contains ((8 : BitVec 40).toNat / 8 * 8) = true
    ∧ (modeOf b ≠ 5 ∧ modeOf b ≠ 0 ∧ bitOf (b.rd Adr.srbBgtctl) 16 = true ∧ bankOn b (field (b.rd Adr.srbBgtstat) 16 0 * 256) = true
      ∧ live b.fcu.a = true ∧ live b.fcu.b = true
      ∧ (8 : BitVec 40).toNat / 8 * 8 < sramSize ∧ b.sram.errors.lookup ((8 : BitVec 40).toNat / 8 * 8) = none
      ∧ b.sram.writeBack.contains ((8 : BitVec 40).toNat / 8 * 8) = false)
    ∧ (modeOf c ≠ 5 ∧ bitOf (c.rd Adr.ddrScrub) 16 = true ∧ (0x8000000040 : BitVec 40).toNat / 64 * 64 = 0x8000000040
      ∧ ddrBase ≤ 0x8000000040 ∧ 0x8000000040 < ddrBase + ddrLines c * 64 ∧ c.ddr.swept.contains 0x8000000040 = false ∧ ddrWaits c 0x8000000040 64 = false
      ∧ c.ddr.swept.length + 1 < ddrLines c ∧ ddrError c 0x8000000040 = none)
    ∧ (modeOf d ≠ 5 ∧ bitOf (d.rd Adr.ddrScrub) 16 = true ∧ 0x8000000040 < ddrBase + ddrLines d * 64
      ∧ d.ddr.swept.length + 1 < ddrLines d ∧ ddrError d 0x8000000040 = some false ∧ ddrLost d 0x8000000040 = false)
    ∧ (modeOf l ≠ 5 ∧ ∀ k : Fin 4, channelUp l k = true ∧ l.ddr.repeats[k] = [])
    ∧ (modeOf f ≠ 5 ∧ channelUp f 0 = true ∧ f.ddr.repeats[(0 : Fin 4)] = [⟨some 0x8000000040, true, 3⟩])
    ∧ (modeOf l ≠ 5 ∧ ∀ k : Fin 4, bitOf (l.rd Adr.ddrStat) (16 + k.val) = true ∧ bitOf (l.rd Adr.ddrStat) (28 + k.val) = false)
    ∧ (let w := { base with sram := { base.sram with wiping := true } }; w.sram.wiping = true ∧ modeOf w ≠ 5) := by
  refine ⟨⟨rfl, by decide +kernel, fun n h => ?_⟩, ?_⟩
  · interval_cases n <;> decide +kernel
  · and_intros <;> decide +kernel

/-- The servo in a state. -/
def servoAs (n : Nat) (ctl : Word) : State :=
  (base.wr Adr.tnsSstat (setField 0 63 62 n)).wr Adr.tnsServo ctl

theorem wit_TimeKeeps :
    let a := servoAs 1 (putBit 0 30 true)
    let b := { servoAs 2 0 with tense := { base.tense with adjHist := [4, 6] } }
    let c := { (servoAs 2 (putBit 1 29 true)).wr Adr.tnsNow 16000000 with
      tense := { base.tense with seenAt := Vector.replicate 2 (some 0) } }
    let h := (servoAs 3 0).wr Adr.tnsSlim 0
    base.pending = []
    ∧ ((∀ b : Fin 12, base.sram.collided[b] = none) ∧ anyTableRuns base = false ∧ servoState base = 0)
    ∧ (servoState a = 1 ∧ syncTo a ≤ (now a - a.tense.sampleAt).toNat
      ∧ bitOf (a.rd Adr.tnsServo) 29 = false ∧ bitOf (a.rd Adr.tnsServo) 30 = true)
    ∧ (servoState b = 2 ∧ syncTo b ≤ (now b - b.tense.sampleAt).toNat ∧ bitOf (b.rd Adr.tnsServo) 29 = false ∧ bitOf (b.rd Adr.tnsServo) 30 = false
      ∧ b.tense.adjHist ≠ [] ∧ b.tense.adjHist.sum % b.tense.adjHist.length = 0)
    ∧ (servoState c = 2 ∧ bitOf (c.rd Adr.tnsServo) 29 = true ∧ syncTo c ≤ (now c - c.tense.sampleAt).toNat
      ∧ (if bitOf (c.rd Adr.tnsSstat) 61 then c.tense.seenAt[0] else c.tense.seenAt[1]) = some 0
      ∧ (now c - 0).toNat ≤ field (c.rd Adr.tnsServo) 7 0 * 16000000)
    ∧ (servoState h = 3 ∧ h.tense.holdReported = false
      ∧ field (h.rd Adr.tnsSlim) 31 16 * 16000000 ≤ (now h - h.tense.holdAt).toNat ∧ modeOf h ≠ 5
      ∧ live h.fcu.a = true ∧ live h.fcu.b = true) := by
  decide +kernel

/-- Entry 5 of the calendar as octets: the time, kind and target, argument. -/
def entry5 (time word arg : Nat) : State :=
  memS (memS (memS base (entryAddr 5) 8 time) (entryAddr 5 + 8) 4 word) (entryAddr 5 + 16) 8 arg

/-- An armed copy of entry 5. -/
def armed5 (kind : Byte) (tgt : BitVec 16) (time : Word) (late : BitVec 2) (disp : Bool) : Armed :=
  { idx := 5, time := time, kind := kind, tgt := tgt, owner := 0, late := late, arg0 := 0, arg1 := 0, cyc := none,
    dispatched := disp, isLate := false }

def withArmed (a : Armed) : State := base.setArmed [a]

theorem wit_CalendarCommands :
    let s := entry5 0x1000000 0x306 0
    let d := withArmed (armed5 6 3 0x1000000 0 false)
    let n := (withArmed (armed5 6 3 0x1000000 0 false)).wr Adr.tnsNow 0x1000000
    let o := (withArmed (armed5 6 3 0x1000000 1 false)).wr Adr.tnsNow 0x1000000
    let m := (withArmed (armed5 6 3 0x1000000 0 false)).wr Adr.tnsNow 0xFFE000
    (s.clean (entryAddr 5) ∧ (∃ a, parseEntry (rdBytes s (entryAddr 5) 32) 5 = some a ∧ a.kind ≠ 5 ∧ a.owner = (0 : TriadId).val
        ∧ (field (s.rd Adr.tnsCtl) 15 8 * 16000 : Int) ≤ (a.time - now s).toInt) ∧ entryOwned s 5 = false)
    ∧ (d.clean (entryAddr 5) ∧ entryOwned d 5 = false
      ∧ d.tense.armed.find? (fun b => b.idx == 5 && !b.dispatched) = some (armed5 6 3 0x1000000 0 false))
    ∧ (firstDue m.tense.armed = some (armed5 6 3 0x1000000 0 false) ∧ atOrAfter (now m) (0x1000000 - 16000) = true
      ∧ atOrAfter (0x1000000 - 1600) (now m) = true)
    ∧ (n.clean (entryAddr 5) ∧ firstDue n.tense.armed = some (armed5 6 3 0x1000000 0 false)
      ∧ atOrAfter (now n) (0x1000000 - 16000) = true ∧ atOrAfter (now n) (0x1000000 - 1600) = true
      ∧ atOrAfter (0x1000000 - 1600) (now n) = false)
    ∧ (o.clean (entryAddr 5) ∧ o.tense.armed.find? (fun b => b.idx == 5 && !b.dispatched) = some (armed5 6 3 0x1000000 1 false)
      ∧ atOrAfter (now o) (0x1000000 - 1600) = true) :=
  ⟨⟨by constructor <;> decide +kernel, ⟨armed5 6 3 0x1000000 0 false, by decide +kernel⟩, by decide +kernel⟩,
    ⟨by constructor <;> decide +kernel, by decide +kernel⟩, by decide +kernel,
    ⟨by constructor <;> decide +kernel, by decide +kernel⟩, ⟨by constructor <;> decide +kernel, by decide +kernel⟩⟩

theorem wit_ActionsFire :
    let e := withArmed (armed5 6 3 0 0 true)
    let d := chan0 (withArmed (armed5 3 0 0 0 true)) fun k => { k with state := .armed }
    let g := withArmed (armed5 2 0xC04 0 0 true)
    let m := withArmed (armed5 1 7 0 0 true)
    e.clean (entryAddr 5) ∧ dueAction e 5 6 = some (armed5 6 3 0 0 true)
    ∧ (d.clean (entryAddr 5) ∧ dueAction d 5 3 = some (armed5 3 0 0 0 true) ∧ chanOwner d 0 = 0
      ∧ d.chans[(0 : Fin 32)].state = .armed)
    ∧ (g.clean (entryAddr 5) ∧ dueAction g 5 2 = some (armed5 2 0xC04 0 0 true)
      ∧ (0xC04 : BitVec 16).toNat * 4 = 0x3010 + 0x40 * (0 : Fin 8).val ∧ ownerAt g (Adr.gpioCfg 0) = 0)
    ∧ (m.clean (entryAddr 5) ∧ dueAction m 5 1 = some (armed5 1 7 0 0 true)
      ∧ (7 : BitVec 16).toNat * 4 = 0x80 * (0 : Fin 64).val + 0x1C ∧ ownerAt m (Adr.tmrCfg 0) = 0
      ∧ bitOf (m.rd (Adr.tmrCfg 0)) 6 = false) := by
  and_intros <;> first | decide +kernel | (constructor <;> decide +kernel)

/-- Table 0 with period 1 ms, one element (entry 5 at offset 0x100000) and the control word `ctl`. -/
def table0 (ctl : Word) : State :=
  (((memS (entry5 0 0x306 0) 0x1100000 8 (5 * 2 ^ 34 + 0x100000)).wr (Adr.tnsCycPeriod 0) 16000000).wr (Adr.tnsCycCtl 0) ctl).wr
    (Adr.tnsCycStart 0) 1000

theorem wit_CycleTables :
    let i := table0 0
    let r := table0 0x20010001
    (i.clean 0x1100000 ∧ bitOf (i.rd (Adr.tnsCycCtl 0)) 31 = false ∧ bitOf (i.rd (Adr.tnsCycCtl 0)) 29 = false
      ∧ (0x10001 : BitVec 32).toNat % 2048 ≤ 1024 ∧ 500000 ≤ cycPeriod i 0 ∧ cycPeriod i 0 ≤ 16000000000
      ∧ ∀ e ∈ readList i 0 1, elemOk i 0 e = true)
    ∧ (bitOf (r.rd (Adr.tnsCycCtl 0)) 31 = false ∧ bitOf (r.rd (Adr.tnsCycCtl 0)) 29 = true
      ∧ bitOf (r.rd (Adr.tnsCycCtl 0)) 16 = true ∧ cycCount r 0 = 1 ∧ readList r 0 1 = [5 * 2 ^ 34 + 0x100000]
      ∧ elemEntry (5 * 2 ^ 34 + 0x100000) = 5 ∧ r.clean (entryAddr 5)
      ∧ atOrAfter (now r) (cycleStart r 0 0 - 32000) = true ∧ r.tense.nextN[(0 : Fin 64)] = 0
      ∧ allTables.any (fun i => instDue r i && instFirst r i 0) = false ∧ instanceDue r 0 = false
      ∧ (∃ a, parseEntry (rdBytes r (entryAddr 5) 32) 5 = some a ∧ a.owner = cycOwner r 0)
      ∧ elemOk r 0 (5 * 2 ^ 34 + 0x100000) = true
      ∧ (16000 : Int) ≤ (cycleStart r 0 0 + BitVec.ofNat 64 (elemOffset (5 * 2 ^ 34 + 0x100000)) - instStart r 0).toInt)
    ∧ (bitOf (base.rd (Adr.tnsOrCfg 0)) 63 = false ∧ field (0x10000 : Word) 50 48 ≤ 5 ∧ field (0x10000 : Word) 29 16 ≤ 8192
      ∧ regOwner base 0 = (0 : TriadId).val ∧ regOwner base 0 ≠ (1 : TriadId).val) := by
  and_intros <;> first
    | decide +kernel
    | exact ⟨armed5 6 3 0 0 false, by decide +kernel⟩
    | (constructor <;> decide +kernel)

/-- A flip of table 0 in cycle 3. -/
def flip (tgt : BitVec 16) : Armed := { armed5 5 tgt 0 0 true with cyc := some (0, 3) }

theorem wit_TablesAndImages :
    let i := ((withArmed (flip 0)).wr (Adr.tnsCycCtl 0) 0x20010000).wr Adr.tnsIcfg 0x10000
    let o := (((withArmed (flip 1)).wr (Adr.tnsCycCtl 0) 0x20010000).wr (Adr.tnsOrCfg 0) 0x4000000000010000).wr (Adr.tnsOrRdy 0) 3
    (dueAction i 5 5 = some (flip 0) ∧ (∀ b : Fin 12, i.sram.collided[b] = none) ∧ bitOf (i.rd (Adr.tnsCycCtl 0)) 16 = true ∧ bitOf (i.rd Adr.tnsIcfg) 16 = true
      ∧ field (i.rd Adr.tnsIcfg) 5 0 = (0 : Fin 64).val)
    ∧ (dueAction o 5 5 = some (flip 1) ∧ bitOf (o.rd (Adr.tnsCycCtl 0)) 16 = true ∧ o.clean (entryAddr 5)
      ∧ bitOf (o.rd (Adr.tnsOrCfg 0)) 62 = true
      ∧ ∀ r : Fin 8, (bitOf (o.rd (Adr.tnsOrCfg r)) 62 = true ∧ field (o.rd (Adr.tnsOrCfg r)) 45 40 = 0) →
        field (o.rd (Adr.tnsOrRdy r)) 31 0 = 3 % 2 ^ 32) := by
  and_intros <;> first | decide +kernel | (constructor <;> decide +kernel)

/-! ### The field network and the legacy edge -/

/-- Port 0 in service with link; the port changed. -/
def port0 (s : State) (f : Port → Port) : State :=
  let s := (s.wr (Adr.netPCfg 0) 0x40001000).wr (Adr.netPStat 0) 0x80000000
  { s with net := { s.net with ports := s.net.ports.set 0 (f s.net.ports[0]) (by decide) } }

def plainFrame (k : FrameKind) : Frame := ⟨k, List.replicate 60 0⟩

def longFrame : Frame := ⟨.bridged, List.replicate 200 0⟩

/-- Port 0 has sent 92 of the 200 octets of a frame of preemptable queue 0. -/
def cutting (s : State) (f : Port → Port) : State :=
  port0 ((s.wr (Adr.netPGcfg 0) (s.rd (Adr.netPGcfg 0) ||| 0x100)).wr Adr.tnsNow 1280) fun x =>
    f { x with sending := some longFrame }

def built5 (done : Bool) : Built :=
  { slot := 7, cyc := 2, port := 0, queue := 3, time := 0, octets := List.replicate 60 0, rtag := false, done := done,
    launched := false }

def staging (s : State) (b : Built) : State := { s with net := { s.net with staging := [b] } }

/-- An armed launch of slot 7. -/
def launch7 : Armed := { armed5 4 0 0 0 true with arg0 := 7 }

theorem wit_FramesGo :
    let l := staging (port0 (withArmed launch7) id) (built5 true)
    let b := staging base (built5 false)
    let q := port0 base fun x => { x with queues := x.queues.set 2 [plainFrame .bridged] (by decide) }
    let g := port0 base fun x => { x with gptp := [plainFrame (.gptp .plain)] }
    let h := port0 base fun x => { x with gptp := [plainFrame (.gptp (.follow []))] }
    let r := port0 base fun x => { x with cut := some (2, 60, longFrame) }
    let e := cutting base fun x => { x with gptp := [plainFrame (.gptp .plain)] }
    let c := port0 base fun x => { x with sending := some (plainFrame (.cyclic 7 2 0)) }
    let a := port0 base fun x => { x with sending := some (plainFrame .acyclic) }
    (dueAction l 5 4 = some launch7 ∧ l.clean (entryAddr 5) ∧ l.clean (slotAddr 7) ∧ linkUp l 0 = true
      ∧ l.net.staging.find? (fun c => decide (c.slot = field launch7.arg0 15 0 ∧ c.time = launch7.time ∧ c.launched = false))
          = some (built5 true)
      ∧ ∀ o : Fin 8, slotWaits l 7 o = false)
    ∧ (b.net.staging.find? (fun c => decide (c.slot = (7 : BitVec 12).toNat ∧ c.done = false)) = some (built5 false))
    ∧ (q.net.ports[(0 : Fin 8)].sending = none ∧ linkUp q 0 = true ∧ q.net.ports[(0 : Fin 8)].gptp = []
      ∧ gateEnabled q 0 = false ∧ q.net.ports[(0 : Fin 8)].cut = none ∧ q.net.ports[(0 : Fin 8)].queues[(2 : Fin 8)] = [plainFrame .bridged]
      ∧ ∀ r : Fin 8, 2 < r → q.net.ports[(0 : Fin 8)].queues[r] = [])
    ∧ (g.net.ports[(0 : Fin 8)].sending = none ∧ linkUp g 0 = true ∧ g.net.ports[(0 : Fin 8)].gptp = [plainFrame (.gptp .plain)])
    ∧ (h.net.ports[(0 : Fin 8)].sending = none ∧ linkUp h 0 = true
      ∧ h.net.ports[(0 : Fin 8)].gptp = [plainFrame (.gptp (.follow []))])
    ∧ (r.net.ports[(0 : Fin 8)].sending = none ∧ linkUp r 0 = true ∧ r.net.ports[(0 : Fin 8)].gptp = []
      ∧ gateEnabled r 0 = false ∧ r.net.ports[(0 : Fin 8)].cut = some (2, 60, longFrame)
      ∧ ∀ k : Fin 8, r.net.ports[(0 : Fin 8)].queues[k] = [])
    ∧ (e.net.ports[(0 : Fin 8)].sending = some longFrame ∧ linkUp e 0 = true ∧ atCut e 0 = true
      ∧ e.net.ports[(0 : Fin 8)].gptp = [plainFrame (.gptp .plain)])
    ∧ (linkUp c 0 = true ∧ atCut c 0 = false)
    ∧ (c.net.ports[(0 : Fin 8)].sending = some (plainFrame (.cyclic 7 2 0)) ∧ c.clean (slotAddr 7))
    ∧ a.net.ports[(0 : Fin 8)].sending = some (plainFrame .acyclic)
    ∧ (field (0x3C00C00000 : Word) 23 0 = 0xC00000 ∧ field (0x3C00C00000 : Word) 42 32 = 60 ∧ acyclicWaiting base 0 < 16
      ∧ base.clean 0xC00000 ∧ base.clean (0xC00000 + 60 - 1)) := by
  and_intros <;> first | decide +kernel | (constructor <;> decide +kernel)

/-- A frame of 60 octets from 02-00-00-00-00-01, untagged, EtherType 0x1234. -/
def arriving (dst : Nat) : List Byte :=
  (bytesBE 6 dst) ++ (bytesBE 6 0x020000000001) ++ [0x12, 0x34] ++ List.replicate 46 0

theorem wit_FramesArrive :
    let s := ((port0 base id).wr (Adr.netPArx 0) 0x40C00004).wr (Adr.netPArxp 0) 2
    linkUp s 0 = true ∧ frameFits (arriving 0x020000000009) = true ∧ 60 ≤ (arriving 0x020000000009).length
    ∧ beAt (arriving 0x020000000009) 12 2 ∉ [0x8100, 0x88F7, 0xF1C1, field (s.rd Adr.netCtl) 15 0]
    ∧ beAt (arriving 0x020000000009) 6 6 / 2 ^ 40 % 2 = 0 ∧ s.net.fdb.length < 4096
    ∧ beAt (arriving (netMac s)) 0 6 = netMac s ∧ (arriving (netMac s)).length ≤ 2032
    ∧ bitOf (s.rd (Adr.netPArx 0)) 30 = true ∧ 2 ≤ field (s.rd (Adr.netPArx 0)) 7 0
    ∧ (field (s.rd (Adr.netPArxp 0)) 23 16 + 1) % field (s.rd (Adr.netPArx 0)) 7 0
        = 1 ∧ field (s.rd (Adr.netPArxp 0)) 7 0 = 2
    ∧ 0xC00000 ≤ field (s.rd (Adr.netPArx 0)) 23 11 * 2048 ∧ s.clean 0xC00000
    ∧ beAt (arriving 0x020000000009) 0 6 ≠ netMac s ∧ beAt (arriving 0x020000000009) 0 6 / 2 ^ 40 % 2 = 0
    ∧ (∀ e ∈ s.net.fdb, e.mac.toNat ≠ beAt (arriving 0x020000000009) 0 6)
    ∧ beAt (arriving 0x020000000009) 0 6 ≠ beAt (arriving 0x020000000009) 6 6 := by
  and_intros <;> first | decide +kernel | (constructor <;> decide +kernel)

/-- A running gate schedule of port 0 under table 0 with two entries. -/
def gated : State :=
  port0 (((((base.wr (Adr.tnsCycCtl 0) 0x20000000).wr (Adr.netPGcfg 0) 0x10000002).wr (Adr.netPGcl 0 0) 0x0100000000001000).wr
    (Adr.netPGcl 0 1) 0x0200000000002000))
    fun x => { x with gateOk := true, gcl := [0x0100000000001000, 0x0200000000002000] }

theorem wit_PortsServe :
    let m := (port0 base id).wr (Adr.netGptp 0) 0x6001000000000000
    let d := (base.wr (Adr.netPCfg 0) 0x40001000).wr Adr.sysMode 1
    let c := cutting gated id
    (modeOf gated ≠ 5 ∧ atCut gated 0 = false ∧ gateRuns gated 0 = true ∧ gclOf gated 0 = [0x0100000000001000, 0x0200000000002000]
      ∧ gated.net.ports[(0 : Fin 8)].gcl[gated.net.ports[(0 : Fin 8)].gclPos + 1]? = some 0x0200000000002000)
    ∧ (modeOf c ≠ 5 ∧ gateRuns c 0 = true ∧ atCut c 0 = true ∧ c.net.ports[(0 : Fin 8)].sending = some longFrame
      ∧ c.net.ports[(0 : Fin 8)].gcl[c.net.ports[(0 : Fin 8)].gclPos + 1]? = some 0x0200000000002000)
    ∧ bitOf (base.rd (Adr.netPGcfg 0)) 31 = false
    ∧ (isGrandmaster m 0 = true ∧ (masterPorts m 0).contains 0 = true ∧ isGrandmaster base 0 = false
      ∧ linkUp m 0 = true ∧ gptpOn m 0 0 = true)
    ∧ (bitOf (d.rd (Adr.netPCfg 0)) 30 = true ∧ serdesUp d = true ∧ bitOf (d.rd (Adr.netPStat 0)) 31 = false
      ∧ serdesUp base = false)
    ∧ (linkUp (port0 base id) 0 = true ∧ ringOn (port0 base id) 0 = false
      ∧ (port0 base id).net.ports[(0 : Fin 8)].cut = none ∧ (port0 base id).net.ports[(0 : Fin 8)].sending = none) := by
  decide +kernel

def conn0 (consumer : Bool) : SafeConn :=
  { num := 0, ncid := 1, cuid := 1, produce := !consumer, enabled := true, len := 8, dev := 0, sofs := 0, maxAge := 1,
    wdog := 1, lastSeq := 0, accepted := true, failsafe := false, wdogFail := true, never := false, crcErr := false,
    staleErr := false, ncidErr := false, freshOk := false, lastC := [], lastT := 0 }

theorem wit_SafeConnections :
    let s := wrBytes ({ base with net := { base.net with conns := [conn0 true] } }.wr Adr.tnsNow 16000) (devAddr (conn0 true).dev + 4) (bytesLE 4 (256 * 2 ^ 19))
    (bitOf (base.rd Adr.netSclk) 0 = false ∧ base.clean (connAddr 0) ∧ base.clean 0x1000000 ∧ modeOf base ≠ 5
      ∧ ∀ n ∈ connsOn base, ∀ y, parseConn n (rdBytes base (connAddr n) 32) = some y → y.never = false)
    ∧ (s.net.conns.find? (fun y => decide (y.num = (0 : Fin 1024).val)) = some (conn0 true) ∧ (conn0 true).produce = false
      ∧ (conn0 true).never = false ∧ (conn0 true).accepted = true ∧ modeOf s ≠ 5
      ∧ (∀ b : Fin 12, s.sram.collided[b] = none)
      ∧ (conn0 true).fits (devEntry s (conn0 true).dev).inLen = true
      ∧ atOrAfter (now s) ((conn0 true).lastT + BitVec.ofNat 64 ((conn0 true).wdog.toNat * 16000)) = true ∧ (conn0 true).wdogFail = true
      ∧ ∀ y ∈ s.net.conns, y.num = 0 → y = conn0 true)
    ∧ (bitOf (base.rd Adr.netSclk) 31 = false ∧ modeOf base ≠ 5) := by
  refine ⟨⟨by decide +kernel, by constructor <;> decide +kernel, by constructor <;> decide +kernel, by decide +kernel,
    fun n h => ?_⟩, by decide +kernel, by decide +kernel⟩
  have : connsOn base = [] := by decide +kernel
  simp [this] at h

/-- Timer channel 0 with the given configuration, control word and contents. -/
def timer0 (cfg ctl : Word) (f : Timer → Timer) : State :=
  let s := (base.wr (Adr.tmrCfg 0) cfg).wr (Adr.tmrCtl 0) ctl
  { s with legacy := { s.legacy with timers := s.legacy.timers.set 0 (f s.legacy.timers[0]) (by decide) } }

theorem wit_TimersCount :
    let up := timer0 0x100000 1 fun x => { x with cnt := 4, cmp0 := 9, cmp1 := 9, presc := 1 }
    let hit := timer0 0x100000 1 fun x => { x with cnt := 8, cmp0 := 9, cmp1 := 3, presc := 1 }
    let wrap := timer0 0x100000 1 fun x => { x with cnt := 5, top := 5, cmp0 := 9, cmp1 := 9, presc := 1 }
    let quad (last lev : BitVec 2) : State :=
      let s := timer0 0x200080 1 fun x => { x with cnt := 4, cmp0 := 9, cmp1 := 9, last := last }
      { s with legacy := { s.legacy with gpioIn := 0xF, tmrAIn := if lev.getLsbD 0 then 1 else 0
                                         tmrBIn := if lev.getLsbD 1 then 1 else 0 } }
    (bitOf (up.rd (Adr.tmrCtl 0)) 0 = true ∧ tmrMode up 0 = 1 ∧ tmrPeriod up 0 ≤ up.legacy.timers[(0 : Fin 64)].presc ∧ tmrMode (quad 0 1) 0 = 2)
    ∧ tmrDrives hit 0 (bitOf (hit.rd (Adr.tmrPincfg 0)) 4) = false ∧ tmrMode hit 0 = 1
    ∧ (tmrMode wrap 0 = 1 ∧ bitOf (wrap.rd (Adr.tmrCfg 0)) 6 = false)
    ∧ (∃ lev, ((0 : BitVec 2), tmrCounted (quad 0 lev) 0) ∈ [((0 : BitVec 2), (1 : BitVec 2)), (1, 3), (3, 2), (2, 0)])
    ∧ (∃ lev, (tmrCounted (quad 1 lev) 0, (1 : BitVec 2)) ∈ [((0 : BitVec 2), (1 : BitVec 2)), (1, 3), (3, 2), (2, 0)])
    ∧ (bitOf ((quad 0 1).rd (Adr.tmrCfg 0)) 7 = true ∧ (quad 0 1).legacy.gpioIn.getLsbD (indexPin (quad 0 1) 0) = true) := by
  decide +kernel

theorem wit_ChannelsStart :
    let q : Requester := .triad 0
    let run (drive : Bool) := timer0 0x100000 0 id |>.wr (Adr.tmrPincfg 0) (if drive then 0x81 else 0x80)
    let g := ((base.wr (Adr.tmrGrpCfg 0) 0x100).wr (Adr.tmrCtl 0) 2)
    let d := timer0 0x100000 0 fun x => { x with startDue := some 0 }
    (ownedBy (run true) q (Adr.tmrCfg 0) = true ∧ bitOf ((run true).rd (Adr.tmrCtl 0)) 1 = false
      ∧ bitOf ((run true).rd (Adr.tmrCtl 0)) 0 = false)
    ∧ ((4 : BitVec 32).getLsbD 2 = true ∧ (4 : BitVec 32).getLsbD 3 = false
      ∧ (4 : BitVec 32).getLsbD 0 = bitOf ((run true).rd (Adr.tmrCtl 0)) 0 ∧ bitOf ((run true).rd (Adr.tmrPincfg 0)) 4 = false
      ∧ tmrDrives (run true) 0 false = true ∧ safeTmrAt (run true) (Adr.tmrCfg 0) = false)
    ∧ (bitOf ((run true).rd (Adr.tmrCfg 0)) 31 = false ∧ field ((0x200000 : BitVec 32).setWidth 64) 22 20 ≤ 4
      ∧ tmrMode (run true) 0 ≠ field ((0x200000 : BitVec 32).setWidth 64) 22 20)
    ∧ (ownedBy g q (Adr.tmrCfg 0) = true ∧ inMask g 0 0 = true
      ∧ (∀ m : Fin 64, m.val / 8 = 0 → inMask g 0 m = true → m = 0) ∧ bitOf (g.rd (Adr.tmrCtl 0)) 1 = true)
    ∧ (ownedBy d q (Adr.tmrCfg 0) = true ∧ d.legacy.timers[(0 : Fin 64)].startDue = some 0) := by
  decide +kernel

theorem wit_PopsAndHalves :
    let q : Requester := .triad 0
    ownedBy base q (Adr.tmrCfg 0) = true ∧ ∀ g : Fin 8, ownedBy base q (Adr.gpioCfg g) = true := by
  decide +kernel

/-- SSI line 0 and UART 0 with the given configurations and contents. -/
def serial0 (scfg ucfg : Word) (f : Ssi → Ssi) (g : Uart → Uart) : State :=
  let s := (base.wr (Adr.ssiCfg 0) scfg).wr (Adr.uartCfg 0) ucfg
  { s with legacy := { s.legacy with ssi := s.legacy.ssi.set 0 (f s.legacy.ssi[0]) (by decide), ssiIn := 1
                                     uart := s.legacy.uart.set 0 (g s.legacy.uart[0]) (by decide) } }

theorem wit_SerialUnits :
    let q : Requester := .triad 0
    let idle := serial0 4 0 id id
    let two := idle.wr (Adr.uartThr 0) 2
    let xfer := serial0 4 0 (fun x => { x with transfer := true, busy := true, samples := [true, false, true, true] }) id
    let rest := serial0 4 0 (fun x => { x with busy := true, age := 9999 }) id
    let go := serial0 4 0x08000000 id fun y => { y with tx := [1] }
    let busy (tx : List (BitVec 9)) (p : SendPhase) := serial0 4 10 id fun y =>
      { y with tx := tx, busy := true, de := true, phase := p, cyc := 200, found := [(5, false, false)] }
    let late := (serial0 4 10 id fun y => { y with rx := [1], quiet := 999 }).wr (Adr.uartThr 0) 0x101
    (ownedBy idle q (Adr.ssiCfg 0) = true ∧ idle.legacy.ssi[(0 : Fin 16)].busy = false ∧ safeLegAt idle (Adr.ssiCfg 0) = false
      ∧ idle.legacy.ssiIn.getLsbD 0 = true ∧ idle.legacy.ssi[(0 : Fin 16)].transfer = false)
    ∧ (rest.legacy.ssi[(0 : Fin 16)].transfer = false ∧ ssiRested rest 0 = true)
    ∧ (xfer.legacy.ssi[(0 : Fin 16)].transfer = true ∧ xfer.legacy.ssi[(0 : Fin 16)].samples = [true, false, true, true] ∧ [true, false, true, true].length = field (xfer.rd (Adr.ssiCfg 0)) 5 0
      ∧ bitOf (xfer.rd (Adr.ssiCfg 0)) 10 = false ∧ bitOf (xfer.rd (Adr.ssiCfg 0)) 9 = false
      ∧ bitOf (xfer.rd (Adr.ssiCfg 0)) 8 = false)
    ∧ (ownedBy go q (Adr.uartCfg 0) = true ∧ safeLegAt go (Adr.uartCfg 0) = false ∧ go.legacy.uart[(0 : Fin 8)].tx.length < 64
      ∧ bitOf (go.rd (Adr.uartCfg 0)) 27 = true ∧ go.legacy.uart[(0 : Fin 8)].busy = false ∧ go.legacy.uart[(0 : Fin 8)].tx ≠ [])
    ∧ (let b := busy [1] .char
      b.legacy.uart[(0 : Fin 8)].busy = true ∧ b.legacy.uart[(0 : Fin 8)].tx ≠ []
      ∧ bitOf (b.rd (Adr.uartCfg 0)) 27 = false ∧ b.legacy.uart[(0 : Fin 8)].phase = .char
      ∧ uartChar b 0 ≤ b.legacy.uart[(0 : Fin 8)].cyc ∧ b.legacy.uart[(0 : Fin 8)].found = (5, false, false) :: [])
    ∧ (let b := busy [] .hold
      b.legacy.uart[(0 : Fin 8)].busy = true ∧ b.legacy.uart[(0 : Fin 8)].tx = [] ∧ b.legacy.uart[(0 : Fin 8)].phase = .hold
      ∧ field (b.rd (Adr.uartCfg 0)) 20 16 * field (b.rd (Adr.uartCfg 0)) 15 0 ≤ b.legacy.uart[(0 : Fin 8)].cyc)
    ∧ (two.legacy.uart[(0 : Fin 8)].rx.length < 64
      ∧ two.legacy.uart[(0 : Fin 8)].rx.length + 1 ≠ field (two.rd (Adr.uartThr 0)) 5 0)
    ∧ (field (late.rd (Adr.uartThr 0)) 15 8 ≠ 0 ∧ late.legacy.uart[(0 : Fin 8)].rx ≠ []
      ∧ late.legacy.uart[(0 : Fin 8)].idleDone = false ∧ late.legacy.uart[(0 : Fin 8)].rxCyc = none
      ∧ field (late.rd (Adr.uartThr 0)) 15 8 * uartChar late 0 + field (late.rd (Adr.uartCfg 0)) 15 0
        ≤ late.legacy.uart[(0 : Fin 8)].quiet) := by
  decide +kernel

/-- R561: a frame of 7 data bits with even parity and one stop bit, by hand from the rule: start 0, data of 0x13 least
significant first, parity 1, stop 1. -/
theorem test_uart_frame : uartFrame (base.wr (Adr.uartCfg 0) 0x0100000A) 0 0x13
    = [false, true, true, false, false, true, false, false, true, true] := by decide +kernel

/-- R559: SSI_CLK is high at rest, low from each fall for half a period. -/
theorem test_ssi_clock :
    let at_ (n : Nat) := serial0 4 0 (fun x => { x with transfer := true, busy := true, age := n }) id
    ssiClk base 0 = true ∧ ssiClk (at_ 0) 0 = false ∧ ssiClk (at_ 20) 0 = true ∧ ssiClk (at_ 160) 0 = false
    ∧ ssiClk (at_ 200) 0 = true := by decide +kernel

theorem wit_PinsInAndOut :
    let q : Requester := .triad 0
    let h := base.wr (Adr.sdmCfg 0) 0x8000
    let v := base.wr (Adr.sdmCfg 0) 1
    let w := { v with legacy := { v.legacy with sdm := v.legacy.sdm.set 0 { v.legacy.sdm[0] with age := 2000 } } }
    let e := base.wr (Adr.gpioEdge 0) 0x10000
    base.yob.clkStopped = false ∧ (base.upYob fun y => { y with clkStopped := true }).yob.clkStopped = true
    ∧ (ownedBy h q (Adr.sdmCfg 0) = true ∧ bitOf (h.rd (Adr.sdmCfg 0)) 15 = true
      ∧ (1 : BitVec 8).getLsbD (field (h.rd (Adr.sdmCfg 0)) 18 16) = true)
    ∧ (ownedBy base q (Adr.sdmCfg 0) = true ∧ bitOf (base.rd (Adr.sdmCfg 0)) 24 = false
      ∧ bitOf (base.rd (Adr.sdmCfg 0)) 31 = false ∧ (0x1000000 : BitVec 32).getLsbD 24 = true)
    ∧ (field (w.rd (Adr.sdmCfg 0)) 7 0 ≠ 0 ∧ field (w.rd (Adr.sdmCfg 0)) 7 0 * 2000 ≤ w.legacy.sdm[(0 : Fin 32)].age ∧ w.legacy.sdm[(0 : Fin 32)].wdx = false ∧ modeOf w ≠ 5
      ∧ live w.fcu.a = true ∧ live w.fcu.b = true)
    ∧ ownedBy base q (Adr.gpioCfg 0) = true
    ∧ (e.legacy.gpioIn.getLsbD 0 = false ∧ bitOf (e.rd (Adr.gpioEdge 0)) 16 = true ∧ e.legacy.gpio[(0 : Fin 8)].fifo.length < 16)
    ∧ ((1 : BitVec 6).getLsbD (0 : TriadId).val = true ∧ modeOf base ≠ 4 ∧ (base.tri 0).fenced = false) := by
  decide +kernel

/-! ### Hosts, the life cycle, the island -/

/-- A message with its tag under a key (R496). -/
def signed (key : List Byte) (op : Byte) (m : AopMsg) : AopMsg := { m with tag := (hmac key (reqOctets op m)).take 16 }

def openKey : List Byte := List.replicate 32 7

def message (op sess : Byte) (seq : BitVec 32) (p : List Byte) : AopMsg :=
  signed openKey op { verKind := 0x11, sess := sess, zero3 := 0, seq := seq, len := BitVec.ofNat 16 p.length, status := 0,
                      zero12 := 0, payload := p, tag := []
                      dgram := { kind := .udp, v6 := false, dst := 9, port := 40412 } }

/-- COMMISSION with session 2 open on M0 in a role. -/
def session2 (role : Nat) : State :=
  let x : Session := { Session.reset with isOpen := true, role := role, cred := 4, key := openKey, via := some (.m0 1 2) }
  (base.wr Adr.sysMode 1).upHosts fun h => { h with sessions := h.sessions.set 2 x (by decide), ip4 := 9 }

/-- Session 2 receives its first request. -/
def asked (role : Nat) (op : Byte) (p : List Byte) (f : State → State) : Prop :=
  InTurn (f (session2 role)) 2 1 2 op (message op 2 1 p)

theorem wit_RequestsAreAnswered :
    asked 2 0x03 [] id ∧ asked 2 0x02 [] id ∧ asked 2 0x10 [0x20, 0x02, 0, 0, 0, 0, 0, 0, 0x01, 0x00, 0, 0] id
    ∧ objStored (session2 2) 0x2002 0 = none
    ∧ asked 2 0x11 [0x12, 0x00, 4, 1, 0, 0, 0, 0, 0, 60] id ∧ (sess (session2 2) 2).role = 2
    ∧ asked 2 0x12 [0x20, 0x02, 0, 0] id := by
  refine ⟨?_, ?_, ?_, by decide +kernel, ?_, by decide +kernel, ?_⟩ <;> constructor <;> decide +kernel

/-- A proposal of session 3's credential for an object. -/
def proposal (index : BitVec 16) (party : Byte) : Proposal :=
  { applying := false, proposer := .session 3, cred := 9, index := index, sub := 0, party := party, value := [1], tag := 0x55,
    since := 0, keyOff := true, keyOn := true, plain := [1] }

def slot0 (p : Proposal) (s : State) : State :=
  { s with lcs := { s.lcs with slots := s.lcs.slots.set 0 (some p) (by decide) } }

/-- The payload that names the proposal in slot 0. -/
def naming : List Byte := [0, 0, 0, 0] ++ bytesBE 8 0x55

def storing (s : State) : State :=
  { s with boot := { s.boot with cfgA := cfgOctets 1 [], cfgUseB := false }
           hosts := { s.hosts with job := some { sess := some 2, seq := 1, op := 0x20, captured := [], slot := none,
                                                 former := [], silent := false } } }

/-- Session 3 is open with the role that proposes a life-cycle transition. -/
def integrating (s : State) : State :=
  s.upHosts fun h => { h with sessions := h.sessions.set 3 { h.sessions[2] with role := 5, cred := 9 } (by decide) }

theorem wit_ChangesNeedTwo :
    let s := session2 3
    (asked 3 0x20 [] id ∧ storeBusy s = false ∧ (sess s 2).role ∈ [2, 3, 5])
    ∧ ((∃ g, (storing s).hosts.job = some g ∧ g.sess = some 2 ∧ g.slot = none ∧ g.silent = false)
      ∧ cfgInUse (storing s).boot = some ⟨1, []⟩ ∧ (sess (storing s) 2).via = some (.m0 1 2)
      ∧ (sess (storing s) 2).waiting = [] ∧ (storing s).lcs.waiting = [])
    ∧ (asked 3 0x30 [0x20, 0x02, 0, 0, 0, 1, 0, 0, 1] id ∧ s.lcs.slots[(0 : Fin 8)] = none
      ∧ ∀ i : Fin 8, s.lcs.slots[i] = none)
    ∧ (asked 3 0x31 naming (slot0 (proposal 0x7010 0)) ∧ asked 3 0x31 naming (slot0 (proposal 0x2002 0))
      ∧ (slot0 (proposal 0x7010 0) s).lcs.slots[(0 : Fin 8)] = some (proposal 0x7010 0)
      ∧ (∀ q, (proposal 0x7010 0).proposer = .session q → (proposal 0x7010 0).cred.toNat ≠ (sess s 2).cred))
    ∧ (asked 3 0x31 naming (fun s => slot0 (proposal 0x7001 0) (integrating s))
      ∧ (sess (integrating s) 3).role = 5 ∧ lcMode (integrating s) = true)
    ∧ asked 3 0x32 naming (slot0 { proposal 0x2002 0 with proposer := .session 2 }) := by
  refine ⟨⟨?_, by decide +kernel, by decide +kernel⟩, ⟨⟨_, rfl, by decide +kernel⟩, by decide +kernel⟩,
    ⟨?_, by decide +kernel, by decide +kernel⟩, ⟨?_, ?_, by decide +kernel, by decide +kernel⟩,
    ⟨?_, by decide +kernel, by decide +kernel⟩, ?_⟩ <;>
  constructor <;> decide +kernel

/-- Credential 1 enabled as an INTEGRATOR. -/
def enrolled : State :=
  { base.wr Adr.sysMode 1 with
    hosts := { base.hosts with ip4 := 9 }
    lcs := { base.lcs with creds := base.lcs.creds.set 1 { role := 2, enabled := true, key := openKey } (by decide) } }

theorem wit_SessionsAndTraffic :
    let m := message 0x01 0xFF 0 ([0, 1, 2, 0] ++ List.replicate 16 5)
    let l := base.wr (Adr.hstPstat 0) 0x80000000
    let o := base.wr Adr.sysMode 1
    let z := { base.wr Adr.tstStat 0x40000000 with lcs := { base.lcs with fuses := 7, sensed := 7 } }
    let e : SoftEntry := { entry := 3, sess := some 2, seq := 1, op := 0x11 }
    let q := { session2 2 with hosts := { (session2 2).hosts with soft := [e] } }
    (engineUp enrolled = true ∧ msgFits m = true ∧ m0Accepts enrolled m.dgram = true ∧ enrolled.lcs.waiting = []
      ∧ openDiscarded enrolled (.m0 1 2) m = false ∧ m.payload.length = 20
      ∧ beAt m.payload 3 1 = 0 ∧ beAt m.payload 2 1 = (credOf enrolled (beAt m.payload 0 2)).role
      ∧ openTarget enrolled (.m0 1 2) = some 2)
    ∧ (sess (session2 2) 2).isOpen = true ∧ pcieLink l 0 = true ∧ (l.hosts.pcie[(0 : Fin 2)]).barSize = 0x10000
    ∧ (∀ o ∈ [0, 12, 4, 64], barOffset l 0 (BitVec.ofNat 64 ((pcieFn l 0).bar0.toNat + o)) = some o)
    ∧ barOffset l 0 (BitVec.ofNat 64 ((pcieFn l 0).bar0.toNat + 0x10000)) = none ∧ l.clean 0x1400000 ∧ q.clean 0x1430000
    ∧ (frameFits [1] = true ∧ engineUp enrolled = true ∧ m0Owns enrolled false 9 = true)
    ∧ (q.hosts.soft.find? (fun y => y.entry == 3) = some e ∧ (sess q 2).via = some (.m0 1 2) ∧ (sess q 2).waiting = []
      ∧ field (q.rd Adr.hstSoftcfg) 18 16 = (0 : TriadId).val ∧ rdMem q (0x1430000 + 0x1000 * (3 : Fin 32).val + 0x600) 2 = 0)
    ∧ (openInRetired z 0x01 = true) ∧ (trainsAt o 0 1 1 = true ∧ serdesUp o = true ∧ o.clean 0x1400000)
    ∧ trainsAt o 0 0 0 = false := by
  and_intros <;> first | decide +kernel | (constructor <;> decide +kernel)

/-- A proposal in the shared area for object 0x2002. -/
def proposing : State := memS (memS base 0x1450000 4 0x00002002) 0x1450004 5 0x0100000001

theorem wit_TriadsAndSwitches :
    let r := (base.wr Adr.sysRecapstat 3).upHosts fun h =>
      { h with recapAddr := h.recapAddr.set 1 0x1450000 (by decide), recapAt := h.recapAt.set 1 7 (by decide) }
    let p := slot0 { proposal 0x2002 0 with proposer := .triad 0 } { base with sys := { base.sys with upTicks := 0xFFFFFFFFFF } }
    let k0 := slot0 (proposal 0x7002 1) (session2 5)
    let k := { k0 with
      lcs := { k0.lcs with keySw := true }
      hosts := { k0.hosts with sessions := k0.hosts.sessions.set 3 { k0.hosts.sessions[2] with role := 5 } (by decide) } }
    (inShared (field (0x1450000 : Word) 39 0) = true ∧ bitOf (base.rd Adr.sysRecapstat) (0 : TriadId).val = false)
    ∧ (bitOf (r.rd Adr.sysRecapstat) 1 = true ∧ inShared r.hosts.recapAddr[(1 : TriadId)].toNat = true ∧ r.clean 0x1450000
      ∧ ∀ q : TriadId, q < 1 → bitOf (r.rd Adr.sysRecapstat) q.val = true → r.hosts.recapAt[q] ≠ r.hosts.recapAt[(1 : TriadId)])
    ∧ (proposing.clean 0x1450000 ∧ rdBytes proposing 0x1450000 9 = [0x02, 0x20, 0, 0, 1, 0, 0, 0, 1]
      ∧ proposing.lcs.slots[(0 : Fin 8)] = none)
    ∧ (p.lcs.slots[(0 : Fin 8)] = some { proposal 0x2002 0 with proposer := .triad 0 }
      ∧ (proposal 0x2002 0).since + proposalMs p * 400000 ≤ p.sys.upTicks)
    ∧ (k.lcs.slots[(0 : Fin 8)] = some (proposal 0x7002 1) ∧ k.lcs.keySw = true ∧ lcState k = 0 ∧ k.lcs.keyHash = none ∧ storeBusy k = false
      ∧ k.lcs.waiting = [] ∧ (proposal 0x7002 1).keyOn = true ∧ (proposal 0x7002 1).plain ≠ []
      ∧ (sess k 3).role = 5 ∧ ∀ i : Fin 8, i ≠ 0 → k.lcs.slots[i] = none)
    ∧ modeOf base ≠ 5 ∧ base.lcs.waiting = [] := by
  and_intros <;> first | decide +kernel | (constructor <;> decide +kernel)

/-- The island runs; its next slot holds these octets. -/
def atSlot (f : Yober → Yober) (slot : List Byte) : State :=
  mboxPut ((mboxPut base 0 [1, 0, 0, 0]).upYob fun y => f { y with status := 1, mkey := some openKey }) 0x100 slot

def plainSlot (cmd : Byte) (rest : List Byte) : List Byte := padTo (cmd :: rest) 64

/-- A slot with its AUTH (R586). -/
def authSlot (cmd : Byte) (rest : List Byte) : List Byte :=
  let b := padTo (cmd :: rest) 48
  b ++ (hmac openKey (b ++ bytesLE 4 0)).take 16

theorem wit_IslandAnswers :
    (∀ c ∈ [(0x02 : Byte), 0x01, 0x10, 0x20, 0x40], AtSlot (atSlot id (plainSlot c [])) c (plainSlot c []))
    ∧ (∀ c ∈ [(0x01 : Byte), 0x10, 0x20, 0x40], AtSlot (atSlot (fun y => { y with status := 2 }) (plainSlot c [])) c (plainSlot c []))
    ∧ (let p := atSlot (fun y => { y with params := [(0, [9])], audit := [[7]] }) (plainSlot 0x20 [])
       p.yob.status = 1 ∧ p.yob.params.lookup (leAt (plainSlot 0x20 []) 8 2) = some [9]
       ∧ leAt (plainSlot 0x40 []) 8 2 < p.yob.audit.length)
    ∧ (let q := atSlot id (plainSlot 0x20 [])
       q.yob.params.lookup (leAt (plainSlot 0x20 []) 8 2) = none ∧ q.yob.audit.length ≤ leAt (plainSlot 0x40 []) 8 2
       ∧ 12 ≤ ((plainSlot 0x10 [0, 0, 0, 0, 0, 0, 0, 12]).getD 8 0).toNat ∧ ((plainSlot 0x10 []).getD 8 0).toNat < 12
       ∧ q.yob.backlog.length < 4096) := by
  refine ⟨fun c h => ?_, fun c h => ?_, by decide +kernel, by decide +kernel⟩ <;>
  fin_cases h <;> constructor <;> decide +kernel

/-- PWRITE of parameter 5, 4 octets; FWBEGIN of 64 octets; FWDATA at 0; the island with 64 octets staged. -/
def pwriteSlot : List Byte := authSlot 0x21 [0, 0, 0, 0, 0, 0, 0, 5, 0, 4]
def fwbeginSlot : List Byte := authSlot 0x30 [0, 0, 0, 0, 0, 0, 0, 64]
def keysetSlot : List Byte := authSlot 0x22 []
def fwactSlot : List Byte := authSlot 0x33 []
def stagedSlot : State := atSlot (fun y => { y with staged := some 64, fwB := List.replicate 64 0 }) (plainSlot 0x31 [])

theorem authentic_auth (f : Yober → Yober) (c : Byte) (l : List Byte) (h1 : (atSlot f (authSlot c l)).yob.sealed = false)
    (h2 : (atSlot f (authSlot c l)).yob.mkey = some openKey) (h3 : (atSlot f (authSlot c l)).yob.nonce = 0)
    (h4 : (padTo (c :: l) 48).length = 48) : Authentic (atSlot f (authSlot c l)) (authSlot c l) := by
  refine ⟨h1, openKey, h2, ?_⟩
  rw [h3]
  simp [authSlot, h4]

theorem wit_islandWrites :
    (AtSlot (atSlot id pwriteSlot) 0x21 pwriteSlot ∧ (atSlot id pwriteSlot).yob.status = 1
      ∧ Authentic (atSlot id pwriteSlot) pwriteSlot ∧ (atSlot id pwriteSlot).yob.events < 4096 ∧ (pwriteSlot.getD 10 0).toNat = 4)
    ∧ AtSlot (atSlot (fun y => { y with sealed := true }) pwriteSlot) 0x21 pwriteSlot :=
  ⟨⟨by constructor <;> decide +kernel, by decide +kernel,
    authentic_auth _ _ _ (by decide +kernel) (by decide +kernel) (by decide +kernel) (by decide +kernel), by decide +kernel,
    by decide +kernel⟩, by constructor <;> decide +kernel⟩

theorem wit_islandKeys :
    AtSlot (atSlot (fun y => { y with mkey := none }) (plainSlot 0x22 [])) 0x22 (plainSlot 0x22 [])
    ∧ (AtSlot (atSlot id (plainSlot 0x33 [])) 0x33 (plainSlot 0x33 []) ∧ (plainSlot 0x33 []).drop 48 ≠
        (hmac openKey ((plainSlot 0x33 []).take 48 ++ bytesLE 4 (atSlot id (plainSlot 0x33 [])).yob.nonce.toNat)).take 16)
    ∧ (AtSlot (atSlot id keysetSlot) 0x22 keysetSlot ∧ Authentic (atSlot id keysetSlot) keysetSlot) :=
  ⟨by constructor <;> decide +kernel, ⟨by constructor <;> decide +kernel, by decide +kernel⟩, by constructor <;> decide +kernel,
    authentic_auth _ _ _ (by decide +kernel) (by decide +kernel) (by decide +kernel) (by decide +kernel)⟩

theorem wit_islandImages :
    (AtSlot (atSlot id fwbeginSlot) 0x30 fwbeginSlot ∧ Authentic (atSlot id fwbeginSlot) fwbeginSlot ∧ leAt fwbeginSlot 8 4 = 64)
    ∧ (AtSlot stagedSlot 0x31 (plainSlot 0x31 []) ∧ stagedSlot.yob.sealed = false ∧ stagedSlot.yob.staged = some 64
      ∧ leAt (plainSlot 0x31 []) 8 4 = 0 ∧ (stagedImage stagedSlot.yob).length = 64)
    ∧ (imageOk (stagedImage stagedSlot.yob) = false ∧ stagedSlot.yob.staged.isSome = true)
    ∧ (AtSlot (atSlot (fun y => { y with verified := true }) fwactSlot) 0x33 fwactSlot
      ∧ Authentic (atSlot (fun y => { y with verified := true }) fwactSlot) fwactSlot) :=
  ⟨⟨by constructor <;> decide +kernel,
      authentic_auth _ _ _ (by decide +kernel) (by decide +kernel) (by decide +kernel) (by decide +kernel), by decide +kernel⟩,
    by and_intros <;> first | decide +kernel | (constructor <;> decide +kernel),
    ⟨by rw [imageOk]; decide +kernel, by decide +kernel⟩,
    by constructor <;> decide +kernel,
    authentic_auth _ _ _ (by decide +kernel) (by decide +kernel) (by decide +kernel) (by decide +kernel)⟩

theorem wit_IslandChanges : (atSlot id pwriteSlot).yob.status = 1 ∧ modeOf (atSlot id fwactSlot) ≠ 5 ∧ Authentic (atSlot id pwriteSlot) pwriteSlot
    ∧ AtSlot stagedSlot 0x31 (plainSlot 0x31 []) :=
  ⟨wit_islandWrites.1.2.1, by decide +kernel, wit_islandWrites.1.2.2.1, wit_islandImages.2.1.1⟩

theorem wit_IslandRecords :
    let s := atSlot id []
    let b := atSlot (fun y => { y with backlog := [[1]] }) []
    (s.yob.status = 1 ∧ tnsStopped s = false ∧ s.yob.backlog = [] ∧ (rrProdOf s + 1) % 255 ≠ rrConsOf s ∧ s.yob.sealed ≠ true)
    ∧ (b.yob.backlog = [[1]] ∧ tnsStopped b = false ∧ (rrProdOf b + 1) % 255 ≠ rrConsOf b)
    ∧ base.yob.status = 0 ∧ tnsStopped base = false ∧ modeOf base ≠ 5 := by
  decide +kernel

/-! ### Fault collection, clocks, trace, debug, modes -/

theorem wit_ReportsReact : live base.fcu.a = true ∧ live base.fcu.b = true ∧ faultExists 0 = true ∧ classOf base 0 < 5
    ∧ (∀ u, (fcuOf base u).dis.getLsbD (domainOf 0).val = false) ∧ (∀ u, (fcuOf base u).domCount[domainOf 0] < recoveryLimit base)
    ∧ faultExists 13 = false := by
  and_intros <;> first | decide +kernel | (intro u; cases u <;> decide +kernel)

def units (f g : FcuUnit → FcuUnit) (s : State) : State := { s with fcu := { s.fcu with a := f s.fcu.a, b := g s.fcu.b } }

theorem wit_UnitsCheckEachOther :
    let d := units id (fun y => { y with armed := true }) base
    let x := units id (fun y => { y with state := .failed }) base
    let z := units (fun y => { y with silent := true }) id { base with fcu := { base.fcu with missed := 1 } }
    (sendsDigest base.fcu.a = true ∧ sendsDigest base.fcu.b = true ∧ digest base.fcu.a = digest base.fcu.b)
    ∧ (sendsDigest d.fcu.a = true ∧ sendsDigest d.fcu.b = true ∧ digest d.fcu.a ≠ digest d.fcu.b)
    ∧ (sendsDigest (fcuOf x .a) = true ∧ sendsDigest (fcuOf x .b) = false ∧ x.fcu.missed ≠ 1)
    ∧ (sendsDigest (fcuOf z .b) = true ∧ sendsDigest (fcuOf z .a) = false ∧ z.fcu.missed = 1)
    ∧ live (fcuOf base .a) = true ∧ live (fcuOf base .b) = true := by
  decide +kernel

theorem wit_FaultLineAndPermit :
    let o := base.wr Adr.sysMode 2
    let q := units (fun y => { y with state := .quiet, hwHold := true }) id o
    let a := units (fun y => { y with armed := true }) id o
    (deviceNormal o = true ∧ broken o = false ∧ (∀ v, (fcuOf o v).xPending = false) ∧ modeOf o = 2
      ∧ fcuServing o.fcu.a = true ∧ fcuServing o.fcu.b = true ∧ o.fcu.lastAgreed = true
      ∧ ∀ (v : FcuId) (i : Nat), i < 240 → (fcuOf o v).active.getLsbD i = false)
    ∧ (deviceNormal q = false ∧ (fcuOf q .a).hwHold = true ∧ (fcuOf q .a).pulse = false ∧ (fcuOf q .a).window = false
      ∧ live (fcuOf q .a) = true ∧ (fcuOf q .a).state = .quiet)
    ∧ ((fcuOf a .a).armed = true ∧ (fcuOf a .a).state = .normal) := by
  refine ⟨⟨by decide +kernel, by decide +kernel, fun v => by cases v <;> decide +kernel, by decide +kernel, by decide +kernel,
    by decide +kernel, by decide +kernel, fun v i _ => ?_⟩, by decide +kernel, by decide +kernel⟩
  cases v <;> simp [fcuOf, base, Fcu.reset, FcuUnit.reset, State.wr]

theorem wit_ClocksAreWatched : live base.fcu.a = true ∧ live base.fcu.b = true ∧ (1 : BitVec 6).getLsbD (0 : Fin 6).val = true
    ∧ base.sys.freqSeen.getLsbD 0 = false ∧ base.sys.stopSeen.getLsbD 0 = false ∧ base.sys.lolSeen = false := by
  decide +kernel

/-- A trace entry of triad 0 waits, with the given TRC_CTL. -/
def traced (ctl : Word) : State :=
  let s := (tri0 fun x => { x with trace := [(⟨1, 2, 3, 4, 5, 6, 7⟩, 0, 0)] }).wr Adr.trcCtl ctl
  { s with sys := { s.sys with traceOrder := [0] } }

theorem wit_TraceDrains :
    let s := traced 2
    let p := traced 0x14
    let b := traced 0x16
    let i := traced 0x12
    let f := b.wr Adr.trcWptr 0x40000000
    (field (s.rd Adr.trcCtl) 2 1 = 1 ∧ bitOf (s.rd Adr.trcWptr) 30 = false ∧ s.clean 0x1640000 ∧ nextTraced s = some 0
      ∧ (s.tri 0).trace = [(⟨1, 2, 3, 4, 5, 6, 7⟩, 0, 0)])
    ∧ (bitOf (p.rd Adr.trcCtl) 4 = true ∧ bitOf (p.rd Adr.trcCtl) 2 = true ∧ bitOf (p.rd Adr.trcCtl) 1 = false
      ∧ p.sys.portCount < 1024 ∧ firstTraced p = some 0 ∧ bitOf (p.rd Adr.trcCtl) 31 = false)
    ∧ (bitOf (b.rd Adr.trcCtl) 1 = true ∧ bitOf (b.rd Adr.trcWptr) 30 = false ∧ firstTraced b = some 0) ∧ firstTraced base = none
    ∧ (modeOf i ≠ 5 ∧ bitOf (i.rd Adr.trcCtl) 4 = true ∧ bitOf (i.rd Adr.trcCtl) 2 = false)
    ∧ (bitOf (f.rd Adr.trcCtl) 4 = true ∧ bitOf (f.rd Adr.trcCtl) 1 = true ∧ bitOf (f.rd Adr.trcWptr) 30 = true) := by
  and_intros <;> first | decide +kernel | (constructor <;> decide +kernel)

/-- DEVELOPMENT; triad 0 changed. -/
def development (f : Triad → Triad) : State :=
  { (tri0 f).wr (Adr.cmpRctl 0) 0x40000000 with lcs := { Lcs.reset with fuses := 1, sensed := 1 } }

theorem wit_DebuggerActs :
    let r := { base with lcs := { base.lcs with fuses := 1, sensed := 1 } }
    let h := development fun x => { x with halted := true }
    (lcState base ≠ 1)
    ∧ (lcState r = 1 ∧ (r.tri 0).runs = true ∧ (r.tri 0).slots = 0 ∧ (r.tri 0).closed = none ∧ 2 ≤ (r.tri 0).actives.length
      ∧ (∀ l, ((r.tri 0).lane l).suspectDue = false) ∧ (r.tri 0).selPair = false ∧ (r.tri 0).repair = none ∧ live r.fcu.a = true ∧ live r.fcu.b = true)
    ∧ (lcState h = 1 ∧ (h.tri 0).halted = true ∧ (h.tri 0).fenced = false ∧ srExists (2 : BitVec 12).toNat = true
      ∧ PlainSram h 0 0x100 8 ∧ (h.tri 0).flying = [] ∧ (h.tri 0).closed = none ∧ (h.tri 0).slots = 0 ∧ isSplit h 0 = true ∧ (h.tri 0).haltReq = false
      ∧ (h.tri 0).act (h.tri 0).lead = true
      ∧ aliasOverlap ((h.tri 0).columnOf (h.tri 0).lead) (0x100 : Word).toNat (2 ^ (3 : BitVec 2).toNat) = false) := by
  and_intros <;> first | decide +kernel | (constructor <;> decide +kernel)

/-- FIELD, mode m, every triad's windows frozen. -/
def operating (m : Word) : State :=
  { (base.wr Adr.sysMode m).wr Adr.tapuPwfrz 0x3F with lcs := { Lcs.reset with fuses := 2, sensed := 2 } }

theorem wit_ModesAreRequested :
    (modeOf (operating 1) = 1 ∧ broken (operating 1) = false ∧ lcState (operating 1) = 2
      ∧ (∀ t : TriadId, bitOf ((operating 1).rd Adr.tapuPwfrz) t.val = true) ∧ deviceNormal (operating 1) = true
      ∧ (∀ u, (fcuOf (operating 1) u).actS = 0 ∧ (fcuOf (operating 1) u).actD = 0)
      ∧ ∀ t, ¬ (((operating 1).tri t).released = true ∧ ((operating 1).tri t).mode = 2))
    ∧ (lcState base = 0 ∧ modeOf base = 0)
    ∧ (anyTableRuns (operating 1) = false ∧ (operating 1).tense.armed = []
      ∧ (∀ c : Fin 32, (operating 1).chans[c].state = .idle) ∧ storeBusy (operating 1) = false
      ∧ (operating 1).sram.wiping = false)
    ∧ (modeOf (operating 3) = 3 ∧ (operating 3).sys.degReported = false
      ∧ (operating 3).sys.degLimit ≤ (operating 3).sys.degTicks ∧ live (operating 3).fcu.a = true ∧ live (operating 3).fcu.b = true)
    ∧ (modeOf (operating 4) = 4 ∧ lcState (operating 4) ≠ 0)
    ∧ (operating 1).sys.dormantDue = none
    ∧ ({ operating 4 with sys := { (operating 4).sys with dormantDue := some true } } : State).sys.dormantDue.isSome = true := by
  and_intros <;> first | decide +kernel | (intro u; cases u <;> decide +kernel)

theorem wit_DormancyAndWake :
    let d := { operating 1 with sys := { (operating 1).sys with dormantDue := some true } }
    let w := (operating 5).wr Adr.sysWakecfg 3
    (d.sys.dormantDue = some true ∧ d.sys.wakeDue = none ∧ modeOf d ≠ 5 ∧ (∀ t, triadStill (d.tri t) = true)
      ∧ (∀ p : Fin 8, d.net.ports[p].sending = none ∧ d.net.ports[p].cut = none) ∧ d.clean 0x1600000)
    ∧ (bitOf (w.rd Adr.sysWakecfg) 1 = true ∧ bitOf (w.rd Adr.sysWakecfg) 0 = true ∧ modeOf w = 5
      ∧ atOrAfter (now w) (w.rd Adr.sysWaket) = true ∧ w.sram.errors = []) := by
  and_intros <;> first | decide +kernel | (constructor <;> decide +kernel)

theorem wit_Resets :
    (fcuOf (units (fun y => { y with xPending := true }) id base) .a).xPending = true
    ∧ (∀ u, (fcuOf base u).xPending = false)
    ∧ (base.upHosts fun h => { h with resetDue := some .command }).hosts.resetDue = some .command := by
  refine ⟨by decide +kernel, fun u => by cases u <;> decide +kernel, rfl⟩

/-- What follows the CRC in an image with one segment of 8 octets for 0x1000 and a vector for triad 0 (R649); what is
not written reads 0. -/
def imageTail : List Byte :=
  bytesLE 2 1 ++ List.replicate 14 0 ++ bytesLE 8 0x8000000000001000 ++ List.replicate 0xD8 0
    ++ bytesLE 8 0x1000 ++ bytesLE 4 0x200 ++ bytesLE 4 8 ++ List.replicate 0xF0 0 ++ bytesLE 8 0x1122334455667788

/-- That image with the CRC of the n octets behind it. -/
def imageOf (n : Nat) : List Byte :=
  (bytesLE 4 0x314B5457 ++ bytesLE 4 0 ++ bytesLE 4 4096 ++ bytesLE 4 (crc32c (sliceOf imageTail 0 n)).toNat) ++ imageTail

theorem image_crc (n : Nat) : leAt (imageOf n) 0x0C 4 = (crc32c (sliceOf (imageOf n) 0x10 n)).toNat := by
  have h : sliceOf (imageOf n) 0x10 n = sliceOf imageTail 0 n := by
    simp only [sliceOf]
    refine List.map_congr_left fun i _ => ?_
    rw [imageOf, List.getD_append_right _ _ _ _ (by simp [bytesLE])]
    simp [bytesLE]
  rw [h, imageOf]
  generalize crc32c (sliceOf imageTail 0 n) = w
  have := w.isLt
  simp [leAt, sliceOf, List.range_succ, bytesLE, natLE]
  omega

def image : List Byte := imageOf 4016

def allPass : BootFindings :=
  { rootLock := true, avsAck := true, cells := [], uncore := 0, laneFail := 0, sfdp := some { fourByte := true, mb := 64, modes := 15 },
    ddr := Vector.replicate 4 { slot0 := none, slot1 := none, trains := false, verifies := false }, bistUs := 0 }

def fresh : State := { State.reset with boot := { Boot.reset with fwA := image } }

theorem wit_BootReleasesOrHalts :
    modeOf fresh = 0 ∧ bitOf (fresh.rd Adr.tstStat) 30 = false ∧ lcState fresh ≠ 3 ∧ (∀ t, 2 ≤ lanesPass 0 t)
    ∧ serialOk allPass.sfdp = true ∧ cfgSlotOf fresh.boot.cfgA = none ∧ cfgSlotOf fresh.boot.cfgB = none ∧ fresh.hosts.objs = [] ∧ fresh.sys.holdDue = false
    ∧ (∀ x ∈ imgSegs image, x.1 + x.2.2 ≤ 0x1200000) ∧ imgBefore fresh image = 0
    ∧ (∃ t : TriadId, 2 ≤ lanesPass allPass.laneFail t)
    ∧ (∀ c : Fin 4, allPass.ddr[c].slot0 = none ∧ allPass.ddr[c].slot1 = none)
    ∧ (∀ n : Fin 12, bankFound allPass n = 0) := by
  and_intros <;> first | exact fun n => rfl | decide +kernel

theorem wit_bootSigned (h : Config.ecdsaValid (sliceOf image 0x50 64) (sha256 (sliceOf image 0 4032)) (sliceOf image 4032 64) = true) :
    imgReason fresh image = 0 := by
  have a : imgBefore fresh image = 0 := by decide +kernel
  have b : imgLen image = 4096 := by decide +kernel
  have c := image_crc 4016
  simp [imgReason, imgAfter, a, b, h]
  exact c

theorem wit_RegisterWritesLand :
    (4 : BitVec 40).toNat % 8 ≠ 0 ∧ (∃ d i j, regAt (Adr.evcRoute 9) = some (d, i, j) ∧ d.wide = false
      ∧ ∀ r ∈ d.rsv, ∃ k ∈ r.2.2, k.1 ≤ field (0xC0000403 : Word) r.1 r.2.1 ∧ field (0xC0000403 : Word) r.1 r.2.1 ≤ k.2)
    ∧ 0x80040000 ≤ Adr.evcRoute 9 ∧ Adr.evcRoute 9 < 0x80041000 ∧ Adr.evcRoute 9 % 4 = 0 :=
  ⟨by decide, ⟨_, _, _, rfl, by decide +kernel⟩, by decide, by decide, by decide⟩

/-- A sound state with a command in front. -/
theorem wit_StepsKeepSound : ({ State.reset with pending := [.por] } : State).Sound
    ∧ ∃ t, step { State.reset with pending := [.por] } = .next t :=
  ⟨by unfold State.Sound; decide, _, rfl⟩

theorem wit_EncodingRoundTrips : opEncodable (.alu .add 3 1 2) = true ∧ opPlain (.alu .add 3 1 2) = true
    ∧ decodeOp 0x84611000 = some (.alu .add 3 1 2) := by
  decide +kernel

/-! ### Ill-formed commands: the check refuses them, and a frame or datagram that fits none has no effect (log 5) -/

theorem test_longFrame : Instr.wf (.frameReception 0 0 (List.replicate 1519 0) true) = false := by decide +kernel

theorem test_longFrameNoEffect : exec (.frameReception 0 0 (List.replicate 1519 0) true) base = .next base := by
  have h : frameFits (List.replicate 1519 0) = false := by decide +kernel
  show Host.Outcome.next (if frameFits _ = true then _ else base) = .next base
  rw [h, if_neg (by decide)]

theorem test_longestFrame : Instr.wf (.frameReception 0 0 (List.replicate 1518 0) true) = true := by decide +kernel

theorem test_longArp : Instr.wf (.arp false 0 0 (List.replicate 1519 0)) = false := by decide +kernel

theorem test_longEcho : Instr.wf (.echoRequest false 0 0 (List.replicate 1519 0)) = false := by decide +kernel

/-- Every AOP command with this message. -/
def aopCommands (m : AopMsg) : List Instr :=
  [.aopOpen (.ring 0) m, .aopClose (.ring 0) m, .aopPing (.ring 0) m, .aopRead (.ring 0) m, .aopWrite (.ring 0) m,
   .aopDescribe (.ring 0) m, .aopStore (.ring 0) m, .aopPropose (.ring 0) m, .aopCountersign (.ring 0) m, .aopWithdraw (.ring 0) m]

theorem test_longTag : ((aopCommands { message 0 0 1 [] with tag := List.replicate 17 0 }).all fun i => !i.wf) = true := by
  decide +kernel

theorem test_longPayload (l : List Byte) (h : 65535 < l.length) : msgFits { message 0 0 1 [] with payload := l } = false := by
  simp [msgFits]; omega

/-! ### Instruction words (R110 to R137) -/

/-- The worked example of the encoding chapter. -/
theorem test_workedWords :
    decodeOp 0x05050000 = some (.alu .add 8 5 0) ∧ wordEnds 0x05050000 = false
    ∧ decodeOp 0x90A00009 = some (.imm .addi 5 0 9) ∧ wordEnds 0x90A00009 = true
    ∧ decodeOp 0xE0810000 = some (.repi (.reg 4)) ∧ decodeOp 0xB0C7D008 = some (.mem .ld 6 7 true 8)
    ∧ decodeOp 0xC2301FFD = some (.bcc .bne true 3 0 0xFFD) := by
  decide +kernel

/-- Words written out field by field from the encoding; the word zero is none (R116). -/
theorem test_words :
    decodeOp 0b10000100011000010001000000000000#32 = some (.alu .add 3 1 2)
    ∧ decodeOp 0b00001000001001000010100000000010#32 = some (.mul .mac 1 4 5)
    ∧ decodeOp 0b10001100001000100001100100100101#32 = some (.fp .fma true 1 2 3 4)
    ∧ decodeOp 0b10010000001000101111111111111111#32 = some (.imm .addi 1 2 0xFFFF)
    ∧ decodeOp 0b10110000111010000111111111111110#32 = some (.mem .ldh 7 8 true 0xFFE)
    ∧ decodeOp 0b11000010001000100001000000000100#32 = some (.bcc .bne true 2 4 4)
    ∧ decodeOp 0b11001100100100000001000000000000#32 = some (.callr 9)
    ∧ decodeOp 0b11100000000000000000000000000101#32 = some (.repi (.imm 5))
    ∧ decodeOp 0b11100000110010010000000000000010#32 = some (.mts 2 6)
    ∧ decodeOp 0b11100100100000100000000000000000#32 = some (.dinv 4) ∧ decodeOp 0 = none := by
  decide +kernel

/-! ### Checksums and keys: published check values -/

theorem test_crc32c : crc32c (ascii "123456789") = 0xE3069283 := by decide +kernel

theorem test_sha256 : (sha256 (ascii "abc")).take 8 = [0xBA, 0x78, 0x16, 0xBF, 0x8F, 0x01, 0xCF, 0xEA] := by decide +kernel

/-- RFC 4231, case 2. -/
theorem test_hmac : (hmac (ascii "Jefe") (ascii "what do ya want for nothing?")).take 4 = [0x5B, 0xDC, 0xC1, 0x46] := by
  decide +kernel

/-- FIPS 197, C.3: AES-256. -/
theorem test_aes :
    aesBlock (aesKeys ((List.range 32).map (BitVec.ofNat 8))) ((List.range 16).map fun i => BitVec.ofNat 8 (17 * i)) =
      [0x8E, 0xA2, 0xB7, 0xCA, 0x51, 0x67, 0x45, 0xBF, 0xEA, 0xFC, 0x49, 0x90, 0x4B, 0x49, 0x60, 0x89] := by decide +kernel

/-! ### One step -/

/-- The state after a command, the same state where it stops. -/
def after (i : Instr) (s : State) : State := match exec i s with | .next t => t | _ => s

/-- What lane l has started: destination, value, distance. -/
def started (i : Instr) (s : State) : List (Dest × BitVec 128 × Nat) :=
  ((after i s).leadCore 0).flight.map fun r => (r.dest, r.val, r.left)

def regs2 (a b : Word) : State := core0 (setG [(1, a), (2, b)])

/-- R118: SUB wraps. -/
theorem test_subWraps : started (.sub 0 true 3 1 2) (regs2 0 1) = [(.g 3, 0xFFFFFFFFFFFFFFFF, 1)] := by decide +kernel

/-- R118: SRA takes the low six bits of its count and keeps the sign. -/
theorem test_sra : started (.sra 0 true 3 1 2) (regs2 0x8000000000000000 0x44) = [(.g 3, 0xF800000000000000, 1)] := by
  decide +kernel

/-- R118: SLT is signed, SLTU is not. -/
theorem test_slt : started (.slt 0 true 3 1 2) (regs2 0xFFFFFFFFFFFFFFFF 1) = [(.g 3, 1, 1)]
    ∧ started (.sltu 0 true 3 1 2) (regs2 0xFFFFFFFFFFFFFFFF 1) = [(.g 3, 0, 1)] := by
  decide +kernel

/-- R125: LUI shifts its sign-extended immediate by 16. -/
theorem test_lui : started (.lui 0 true 3 0x8000) base = [(.g 3, 0xFFFFFFFF80000000, 1)] := by decide +kernel

/-- R71: MUL is signed, MULU is not; both give 128 bits. -/
theorem test_mul : started (.mul 0 true 1 1 2) (regs2 0xFFFFFFFFFFFFFFFF 2) = [(.p 1, 0xFFFFFFFFFFFFFFFFFFFFFFFFFFFFFFFE, 4)]
    ∧ started (.mulu 0 true 1 1 2) (regs2 0xFFFFFFFFFFFFFFFF 2) = [(.p 1, 0x1FFFFFFFFFFFFFFFE, 4)] := by
  decide +kernel

/-- R74: ADDV that overflows starts nothing; its exception is due. -/
theorem test_addvTraps : started (.addv 0 true 3 1 2) large = [] ∧ (((after (.addv 0 true 3 1 2) large).tri 0).entry).isSome = true := by
  decide +kernel

/-- R119, R121: 1.0 + 1.0 = 2.0 in double precision. -/
theorem test_fadd :
    (started (.fadd 0 true false 3 1 1) (core0 fun c => { c with f := c.f.set 1 0x3FF0000000000000 (by decide) })).map
      (fun x => x.2.1) = [0x4000000000000000] := by
  decide +kernel

/-- R192, R216: ST puts one entry of 8 octets into the lane's column and leaves memory. -/
theorem test_store :
    let s := after (.st 0 true 1 2 false 8) (regs2 0x55 0x100)
    ((s.tri 0).lane 0).gate.map (fun e => (e.pa.toNat, e.data, e.be)) = [(0x108, 0x55, 0xFF)] ∧ s.mem = [] := by
  decide +kernel

/-- R90, R115: a taken branch leaves its target to the delay slot: PC + 4 * OFF12. -/
theorem test_branch : ((after (.beq ⟨0, true⟩ false 1 1 3) base).tri 0).delay.map (fun d => d.target) = some (some 12) := by
  decide +kernel

/-- R163: EVC_SWSET of source 5 sets the pending bit of E0965. -/
theorem test_softwareEvent : (after (.evcSwset 5) base).rd (Adr.evcPend 30) = 0x20 := by decide +kernel

/-- R164: the second pulse of an event sets its overrun bit. -/
theorem test_overrunBit : (after (.eventPulse 33) (pulse base 33)).rd (Adr.evcOvr 1) = 2 := by decide +kernel

/-- R397: a step of TIME64. -/
theorem test_step : now (after (.step 1000) base) = 1000 := by decide +kernel

/-- R393: a tick adds 40 units at rate 0. -/
theorem test_tick : ∃ t, step base = .next t ∧ now t = 40 := ⟨_, rfl, by decide +kernel⟩

/-- The worked example of the SRAM chapter: the alias sets bits of the word. -/
theorem test_alias : rdByte (memWrite (memS base 0x601000 8 0xF0) (.triad 1) 0x40601000 [(1, true)]) 0x601000 = 0xF1 := by
  decide +kernel

/-- The worked example of the fault chapter: F058 makes both units FAULT and arms the pulse. -/
theorem test_fault58 :
    let s := after (.faultReport 58 0 .both) base
    s.fcu.a.active.getLsbD 58 = true ∧ classOf base 58 = 3 ∧ s.fcu.a.state = .fault ∧ s.fcu.b.state = .fault ∧ faultN s = false := by
  decide +kernel

/-- R665: OPERATE is refused with code 3 in BLANK. -/
theorem test_operateInBlank : field ((after (.modeRequestOperate 0) (base.wr Adr.sysMode 1)).rd Adr.sysMode) 19 16 = 3 := by
  decide +kernel

/-- R324: the doorbell makes the channel READY with its descriptor address in RES0. -/
theorem test_doorbell :
    let s := after (.doorbell 0 0 0x1040) base
    s.chans[(0 : Fin 32)].state = .ready ∧ s.rd (res0Of 0) = 0x1040 := by
  decide +kernel

/-- R549: TIMER counts one step up. -/
theorem test_countStep :
    (after (.countStep 0) (timer0 0x100000 1 fun x => { x with cnt := 4, cmp0 := 9, cmp1 := 9, presc := 1 })).legacy.timers[(0 : Fin 64)].cnt = 5 := by
  decide +kernel

/-- R585: PING answers its slot with status 0 and the island's pointer moves on. -/
theorem test_ping : cqConsOf (after .yoberPing (atSlot id (plainSlot 1 []))) = 1 := by decide +kernel

/-- R497: a PING in its turn is answered once. -/
theorem test_aopPing : (after (.aopPing (.m0 1 2) (message 0x03 2 1 [])) (session2 2)).hosts.m0Sent.length = 1 := by
  decide +kernel

/-- R671: a power-on leaves SRAM empty and its cause in SYS_RSTCAUSE. -/
theorem test_por : (after .por (memS base 0 8 5)).mem = [] ∧ (after .por base).rd Adr.sysRstcause = 1 := by decide +kernel

end Sys2Proof.Tests
end

section
/-! Bit fields and the access codes of registers (R11, R12, R15): which bits a software write leaves as they were. -/

namespace Sys2Proof.Machine

/-! ### Bits -/

theorem bitOf_of_ge (u : Word) {b : Nat} (h : 64 ≤ b) : bitOf u b = false := BitVec.getLsbD_of_ge u b h

@[simp] theorem bitOf_and (u w : Word) (b : Nat) : bitOf (u &&& w) b = (bitOf u b && bitOf w b) := BitVec.getLsbD_and
@[simp] theorem bitOf_or (u w : Word) (b : Nat) : bitOf (u ||| w) b = (bitOf u b || bitOf w b) := BitVec.getLsbD_or
@[simp] theorem bitOf_not (u : Word) (b : Nat) : bitOf (~~~ u) b = (decide (b < 64) && !bitOf u b) := BitVec.getLsbD_not
@[simp] theorem bitOf_ofNat (n b : Nat) : bitOf (BitVec.ofNat 64 n) b = (decide (b < 64) && n.testBit b) :=
  BitVec.getLsbD_ofNat 64 n b

/-- A choice between two words bit by bit. -/
theorem bitOf_select (old new m : Word) (b : Nat) :
    bitOf ((old &&& ~~~ m) ||| (new &&& m)) b = if bitOf m b then bitOf new b else bitOf old b := by
  by_cases hb : b < 64
  · cases h : bitOf m b <;> simp [h, hb]
  · simp [bitOf_of_ge _ (Nat.le_of_not_lt hb)]

theorem bitOf_maskLo (b : Nat) : bitOf maskLo b = decide (b < 32) := by
  rw [show maskLo = BitVec.ofNat 64 (2 ^ 32 - 1) from rfl, bitOf_ofNat, Nat.testBit_two_pow_sub_one, ← Bool.decide_and]
  exact decide_eq_decide.mpr (by omega)

/-- The low word of v, as a 32-bit write carries it. -/
theorem bitOf_lowWord (v : Word) (b : Nat) : bitOf ((v.setWidth 32).setWidth 64) b = (decide (b < 32) && bitOf v b) := by
  simp only [bitOf, BitVec.getLsbD_setWidth, ← Bool.and_assoc, ← Bool.decide_and]
  exact congrArg (· && _) (decide_eq_decide.mpr (by omega))

/-! ### Fields -/

/-- Two words that agree on the bits of a field hold the same field. -/
theorem field_congr {u w : Word} {hi lo : Nat} (h : ∀ i, lo ≤ i → i ≤ hi → bitOf u i = bitOf w i) :
    field u hi lo = field w hi lo := by
  apply Nat.eq_of_testBit_eq
  intro i
  simp only [field, Nat.testBit_mod_two_pow, Nat.testBit_div_two_pow, BitVec.testBit_toNat]
  by_cases hi' : i < hi + 1 - lo
  · rw [show u.getLsbD (i + lo) = w.getLsbD (i + lo) from h _ (by omega) (by omega)]
  · simp [hi']

/-- Putting a field's own value back changes nothing. -/
theorem setField_field (w : Word) (hi lo : Nat) : setField w hi lo (field w hi lo) = w := by
  have hle : w.toNat / 2 ^ lo % 2 ^ (hi + 1 - lo) * 2 ^ lo ≤ w.toNat :=
    (Nat.mul_le_mul_right _ (Nat.mod_le _ _)).trans (Nat.div_mul_le_self _ _)
  simp only [setField, field, Nat.mod_mod, Nat.sub_add_cancel hle, BitVec.ofNat_toNat, BitVec.setWidth_eq]

/-- Reserved encodings matter only in a field that changes (R12). -/
theorem keepReserved_eq (old w : Word) (rsv : List (Nat × Nat × List (Nat × Nat)))
    (h : ∀ r ∈ rsv, (∃ k ∈ r.2.2, k.1 ≤ field w r.1 r.2.1 ∧ field w r.1 r.2.1 ≤ k.2)
      ∨ field w r.1 r.2.1 = field old r.1 r.2.1) :
    keepReserved old rsv w = w := by
  induction rsv with
  | nil => rfl
  | cons r t ih =>
    obtain ⟨hi, lo, ok⟩ := r
    have hkeep : (if ok.any fun r => decide (r.1 ≤ field w hi lo ∧ field w hi lo ≤ r.2) then w
        else setField w hi lo (field old hi lo)) = w := by
      rcases h _ List.mem_cons_self with hok | hold
      · exact if_pos (by simpa using hok)
      · rw [← show field w hi lo = field old hi lo from hold, setField_field, ite_self]
    simp only [keepReserved, hkeep]
    exact ih fun r hr => h r (List.mem_cons_of_mem _ hr)

/-! ### The value of a software write -/

/-- The bits of a register that a write may set freely: RW, and RWL while the lock bit is clear (R11, R15). -/
def RegDesc.writable (d : RegDesc) (locked : Bool) (b : Nat) : Bool := d.rw.testBit b || (d.rwl.testBit b && !locked)

/-- Every field with reserved encodings lies in the low word and consists of RWL bits, so that it is written or kept whole. -/
def RegDesc.fieldsWhole (d : RegDesc) : Bool :=
  d.rsv.all fun r => decide (r.1 < 32) &&
    (List.range' r.2.1 (r.1 + 1 - r.2.1)).all fun i => d.rwl.testBit i && !d.rw.testBit i

theorem RegDesc.writable_of_field {d : RegDesc} (h : d.fieldsWhole = true) {r : Nat × Nat × List (Nat × Nat)}
    (hr : r ∈ d.rsv) {i : Nat} (hlo : r.2.1 ≤ i) (hhi : i ≤ r.1) (locked : Bool) : i < 32 ∧ d.writable locked i = !locked := by
  obtain ⟨h32, hbits⟩ := Bool.and_eq_true_iff.mp (List.all_eq_true.mp h r hr)
  obtain ⟨hl, hw⟩ := Bool.and_eq_true_iff.mp (List.all_eq_true.mp hbits i (List.mem_range'_1.mpr (by omega)))
  exact ⟨by have := of_decide_eq_true h32; omega, by simp_all [RegDesc.writable]⟩

/-- The bits a write of the low word replaces. -/
def RegDesc.writeMask (d : RegDesc) (locked : Bool) : Word :=
  (BitVec.ofNat 64 d.rw ||| (if locked then 0 else BitVec.ofNat 64 d.rwl)) &&& maskLo

theorem RegDesc.bitOf_writeMask (d : RegDesc) (locked : Bool) (b : Nat) :
    bitOf (d.writeMask locked) b = (decide (b < 32) && d.writable locked b) := by
  unfold RegDesc.writeMask
  by_cases hb : b < 32
  · have h64 : b < 64 := by omega
    cases locked <;> simp [bitOf_maskLo, RegDesc.writable, hb, h64]
  · simp [bitOf_maskLo, hb]

/-- A 32-bit write whose fields hold no reserved encoding, bit by bit (R11, R12, R15). -/
theorem bitOf_writeValue_lo (d : RegDesc) (locked : Bool) (old v : Word) (hd : d.fieldsWhole = true)
    (hv : ∀ r ∈ d.rsv, ∃ k ∈ r.2.2, k.1 ≤ field v r.1 r.2.1 ∧ field v r.1 r.2.1 ≤ k.2) (b : Nat) :
    bitOf (writeValue d locked maskLo old ((v.setWidth 32).setWidth 64)) b =
      if b < 32 ∧ bitOf v b = true ∧ d.w1s.testBit b = true then true
      else if b < 32 ∧ bitOf v b = true ∧ d.w1c.testBit b = true then false
      else if b < 32 ∧ d.writable locked b = true then bitOf v b
      else bitOf old b := by
  have hbit := bitOf_select old ((v.setWidth 32).setWidth 64) (d.writeMask locked)
  simp only [RegDesc.bitOf_writeMask, bitOf_lowWord] at hbit
  simp only [RegDesc.writeMask] at hbit
  simp only [writeValue]
  generalize (old &&& ~~~ _) ||| _ = w at hbit ⊢
  have hkeep : keepReserved old d.rsv w = w := by
    refine keepReserved_eq _ _ _ fun r hr => ?_
    cases locked with
    | false =>
      have hnew : field w r.1 r.2.1 = field v r.1 r.2.1 := field_congr fun i hlo hhi => by
        obtain ⟨h32, hw⟩ := RegDesc.writable_of_field hd hr hlo hhi false
        simp [hbit, h32, hw]
      exact .inl (hnew ▸ hv r hr)
    | true =>
      exact .inr (field_congr fun i hlo hhi => by
        simp [hbit, (RegDesc.writable_of_field hd hr hlo hhi true).2])
  rw [hkeep]
  by_cases hb : b < 32
  · have h64 : b < 64 := by omega
    simp only [bitOf_or, bitOf_and, bitOf_not, bitOf_ofNat, bitOf_lowWord, bitOf_maskLo, hbit, hb, h64, decide_true, true_and,
      Bool.true_and, Bool.and_true]
    cases bitOf v b <;> cases d.w1s.testBit b <;> cases d.w1c.testBit b <;> simp
  · have hold : bitOf old b = true → b < 64 := fun h =>
      Nat.lt_of_not_le fun hge => absurd h (by simp [bitOf_of_ge old hge])
    simpa [hbit, bitOf_maskLo, hb] using hold

end Sys2Proof.Machine
end

section
/-! The way of a REGISTER_WRITE to its register (R13, R44, R129, R730). -/

namespace Sys2Proof.Machine

/-! ### Headings -/

theorem mem_of_findReg {l : List RegDesc} {a : Nat} {x : RegDesc × Nat × Nat} (h : findReg l a = some x) : x.1 ∈ l := by
  induction l with
  | nil => exact absurd h (by simp [findReg])
  | cons d t ih =>
    unfold findReg at h
    split at h
    · cases h
      exact List.mem_cons_self
    · exact List.mem_cons_of_mem _ (ih h)

/-- The addresses of EVC_ROUTEn, TST and CMP, whose 32-bit registers start no action (R730). -/
def InPlainBlock (a : Nat) : Prop :=
  0x80040000 ≤ a ∧ a < 0x80041000 ∨ 0x80020000 ≤ a ∧ a < 0x80030000 ∨ 0x80100000 ≤ a ∧ a < 0x80160000

/-- The six CMP blocks (R42). -/
theorem cmpBlock_cases {a : Nat} (h : 0x80100000 ≤ a ∧ a < 0x80160000) :
    a / 0x10000 = 0x8010 ∨ a / 0x10000 = 0x8011 ∨ a / 0x10000 = 0x8012 ∨ a / 0x10000 = 0x8013 ∨ a / 0x10000 = 0x8014
      ∨ a / 0x10000 = 0x8015 := by omega

theorem mem_blockRegs_plain {a : Nat} (h : InPlainBlock a) : ∀ d ∈ blockRegs a, d ∈ regsEvc ++ regsTst ++ regsCmp := by
  intro d hd
  simp only [List.mem_append]
  rcases h with h | h | h
  · rw [blockRegs, show a / 0x10000 = 0x8004 by omega] at hd
    exact .inl (.inl hd)
  · rw [blockRegs, show a / 0x10000 = 0x8002 by omega] at hd
    exact .inl (.inr hd)
  · refine .inr ?_
    obtain hk | hk | hk | hk | hk | hk := cmpBlock_cases h
    all_goals
      rw [blockRegs, hk] at hd
      exact hd

theorem fieldsWhole_plain : ∀ d ∈ regsEvc ++ regsTst ++ regsCmp, d.fieldsWhole = true := by decide

theorem fieldsWhole_of_regAt {a i j : Nat} {d : RegDesc} (h : InPlainBlock a) (hd : regAt a = some (d, i, j)) :
    d.fieldsWhole = true := fieldsWhole_plain d (mem_blockRegs_plain h d (mem_of_findReg hd))

/-! ### Routing -/

/-- A register of 64 bits, or of 32, stands at a, in a block other than TMR and LEG, whose registers are reached by
`perWrite32` and `perWrite64`. -/
def standsAt (wide : Bool) (a : Nat) : Bool :=
  decide (0x80000000 ≤ a ∧ a < 0x80160000 ∧ a % (if wide then 8 else 4) = 0) && (perAddr a).isNone
    && (regAt a).any fun x => x.1.wide == wide

theorem standsAt_iff (wide : Bool) (a : Nat) : standsAt wide a = true ↔
    (0x80000000 ≤ a ∧ a < 0x80160000 ∧ a % (if wide then 8 else 4) = 0) ∧ perAddr a = none
      ∧ ∃ d i j, regAt a = some (d, i, j) ∧ d.wide = wide := by
  simp [standsAt, Option.any_eq_true, and_assoc]

theorem regionOf_block (s : State) {a : Nat} (h1 : 0x80000000 ≤ a) (h2 : a < 0x80160000) : regionOf s a = .regs := by
  unfold regionOf
  rw [if_neg (by simp only [sramSize]; omega), if_neg (by simp only [sramSize, setBase]; omega),
    if_neg (by simp only [sramSize, clearBase]; omega), if_pos ⟨h1, h2⟩]

theorem landsAt_block (s : State) {a : Nat} (h1 : 0x80000000 ≤ a) (h2 : a < 0x80160000) : landsAt s a = .regs := by
  simp [landsAt, regionOf_block s h1 h2]

/-- A misaligned write and one outside the register blocks change nothing (R44, R129). -/
theorem registerWrite_ignored (s : State) (w : TriadId) (a : Nat) (dbl : Bool) (v : Word)
    (h : a % (if dbl then 8 else 4) ≠ 0 ∨ regionOf s a ≠ .regs) : registerWrite s w a dbl v = s := by
  by_cases ha : a % (if dbl then 8 else 4) = 0
  · rw [registerWrite, if_neg (not_not.mpr ha)]
    split
    · next hr => exact absurd hr (h.resolve_left (not_not.mpr ha))
    · rfl
  · exact if_pos ha

/-- An aligned write of a register's width reaches that register (R730). -/
theorem exec_registerWrite_standsAt (s : State) (w : TriadId) {a : Nat} {wide : Bool} (v : Word) (h : standsAt wide a = true) :
    exec (.registerWrite w (BitVec.ofNat 40 a) wide v) s =
      .next (if wide then writeWide s w a maskAll v else writeNarrow s w a (v.setWidth 32)) := by
  obtain ⟨⟨h1, h2, h3⟩, hp, d, i, j, hd, hw⟩ := (standsAt_iff wide a).mp h
  have ha : (BitVec.ofNat 40 a).toNat = a := by simp; omega
  show Host.Outcome.next (registerWrite s w (BitVec.ofNat 40 a).toNat wide v) = _
  rw [ha]
  simp only [registerWrite, h3, regionOf_block s h1 h2, busWrite, landsAt_block s h1 h2, hp]
  cases wide <;> simp [enCount, regWrite32, regWrite64, hd, hw]

theorem exec_registerWrite_narrow (s : State) (w : TriadId) {a : Nat} (v : Word) (h : standsAt false a = true) :
    exec (.registerWrite w (BitVec.ofNat 40 a) false v) s = .next (writeNarrow s w a (v.setWidth 32)) :=
  exec_registerWrite_standsAt s w v h

theorem exec_registerWrite_wide (s : State) (w : TriadId) {a : Nat} (v : Word) (h : standsAt true a = true) :
    exec (.registerWrite w (BitVec.ofNat 40 a) true v) s = .next (writeWide s w a maskAll v) :=
  exec_registerWrite_standsAt s w v h

/-- A 32-bit write of a register of EVC_ROUTEn, TST or CMP goes by the access codes alone (R730). -/
theorem writeNarrow_plain (s : State) (w : TriadId) {a : Nat} (v : BitVec 32)
    (h : InPlainBlock a) : writeNarrow s w a v = putReg s a maskLo (v.setWidth 64) := by
  rcases h with h | h | h
  · have hk : a / 0x10000 = 0x8004 := by omega
    simp only [writeNarrow, hk]
    rw [if_neg (by simp only [Adr.evcSwset]; omega), if_neg (by simp only [Adr.evcDbset]; omega)]
  · have hk : a / 0x10000 = 0x8002 := by omega
    simp only [writeNarrow, hk]
  · obtain hk | hk | hk | hk | hk | hk := cmpBlock_cases h
    all_goals simp only [writeNarrow, hk]

/-- A 32-bit write of a register of EVC_ROUTEn, TST or CMP (R11, R12, R15). -/
theorem registerWrite_plain (s : State) (w : TriadId) (v : Word) {a : Nat} {d : RegDesc} {i j : Nat}
    (h : InPlainBlock a) (h4 : a % 4 = 0) (hd : regAt a = some (d, i, j)) (hw : d.wide = false) :
    exec (.registerWrite w (BitVec.ofNat 40 a) false v) s =
      .next (s.wr a (writeValue d (lockedAt s d i) maskLo (s.rd a) ((v.setWidth 32).setWidth 64))) := by
  unfold InPlainBlock at h
  have hp : perAddr a = none := by
    unfold perAddr
    rw [if_neg (by omega), if_neg (by omega)]
  have hs : standsAt false a = true := (standsAt_iff _ _).mpr ⟨⟨by omega, by omega, h4⟩, hp, d, i, j, hd, hw⟩
  rw [exec_registerWrite_narrow s w v hs, writeNarrow_plain s w _ h, putReg, hd]

end Sys2Proof.Machine
end

section
/-! The register writes that start an action, and the statement (R15, R730). -/

namespace Sys2Proof.Machine

/-! ### What the register of an action does with the word -/

section
variable (s : State) (w : TriadId) (v : BitVec 32)

theorem writeNarrow_evcSwset : writeNarrow s w Adr.evcSwset v = swEvent s v.toNat := rfl
theorem writeNarrow_evcDbset : writeNarrow s w Adr.evcDbset v = ringTriad s w v.toNat := rfl
theorem writeNarrow_sysModereq : writeNarrow s w Adr.sysModereq v = writeModereq s v := rfl
theorem writeNarrow_sysTrst : writeNarrow s w Adr.sysTrst v = if v.getLsbD 0 then triadReset s w else s := rfl
theorem writeNarrow_fcuPinctl : writeNarrow s w Adr.fcuPinctl v = writePinctl s v := rfl
theorem writeNarrow_trcCtl : writeNarrow s w Adr.trcCtl v = writeTrcCtl s v := rfl

theorem writeNarrow_fcuAct (k : Fin 8) : writeNarrow s w (Adr.fcuAct k.val) v = clearActive s k v := by
  fin_cases k <;> rfl

end

/-- An event source has six bits (R163, R171). -/
theorem swEvent_mod (s : State) (n : Nat) : swEvent s (n % 64) = swEvent s n := by
  simp only [swEvent, Nat.mod_mod]

theorem ringTriad_mod (s : State) (w : TriadId) (n : Nat) : ringTriad s w (n % 64) = ringTriad s w n := by
  simp only [ringTriad, Nat.mod_mod]

theorem toNat_low6 (v : Word) : (v.setWidth 6).toNat = (v.setWidth 32).toNat % 64 := by
  simp only [BitVec.toNat_setWidth]
  omega

/-- Of the triads that one bit names, the lowest is that one (R171). -/
theorem find_oneTriad : ∀ w : TriadId,
    (allTriads.find? fun u => (BitVec.ofNat 6 (2 ^ w.val)).getLsbD u.val) = some w := by decide

theorem getLsbD_zero_eq (v : BitVec 32) : v.getLsbD 0 = decide (v.toNat % 2 = 1) := Nat.testBit_zero v.toNat

theorem getLsbD_one_eq (v : BitVec 32) : v.getLsbD 1 = decide (v.toNat / 2 % 2 = 1) :=
  (Nat.testBit_succ v.toNat 0).trans (Nat.testBit_zero _)

/-- HOLD alone, and REL alone (R621, R622). -/
theorem writePinctl_hold (s : State) (v : BitVec 32) (h : v.toNat % 4 = 1) : writePinctl s v = fcuHold s := by
  have h0 : v.getLsbD 0 = true := by rw [getLsbD_zero_eq]; exact decide_eq_true (by omega)
  have h1 : v.getLsbD 1 = false := by rw [getLsbD_one_eq]; exact decide_eq_false (by omega)
  simp only [writePinctl, h0, h1, if_true, Bool.false_eq_true, if_false]

theorem writePinctl_rel (s : State) (v : BitVec 32) (h : v.toNat % 4 = 2) : writePinctl s v = fcuRel s := by
  have h0 : v.getLsbD 0 = false := by rw [getLsbD_zero_eq]; exact decide_eq_false (by omega)
  have h1 : v.getLsbD 1 = true := by rw [getLsbD_one_eq]; exact decide_eq_true (by omega)
  simp only [writePinctl, h0, h1, if_true, Bool.false_eq_true, if_false]

/-- A counter takes a write of its own triad only (R694). -/
theorem writeWide_trcCnt (s : State) (w : TriadId) (n : Fin 32) (v : Word) :
    writeWide s w (Adr.trcCnt w.val n.val) maskAll v = counterWrite s w w n v := by
  have hk : Adr.trcCnt w.val n.val / 0x10000 = 0x800F := by simp only [Adr.trcCnt]; omega
  have ho : Adr.trcCnt w.val n.val % 0x10000 = 0x1100 + 0x200 * w.val + 8 * n.val := by simp only [Adr.trcCnt]; omega
  have hact : actsOn64 (Adr.trcCnt w.val n.val) = false := by
    simp only [actsOn64, hk]
    simp [Adr.tnsStep, Adr.sysRecap, Adr.fcuSwrep]
    omega
  simp only [writeWide, hact, hk, ho, Bool.false_eq_true, if_false]
  rw [if_neg (by omega), counterWrite, if_pos rfl]
  rfl

theorem writeWide_fcuSwrep (s : State) (w : TriadId) (v : Word) :
    writeWide s w Adr.fcuSwrep maskAll v = report s (208 + field v 51 48) (field v 31 0) := rfl

/-! ### The write is the command -/

section
variable (s : State) (w : TriadId) (v : Word)

theorem registerWrite_evcSwset :
    exec (.registerWrite w (BitVec.ofNat 40 Adr.evcSwset) false v) s = exec (.evcSwset (v.setWidth 6)) s := by
  rw [exec_registerWrite_narrow s w v (by decide), writeNarrow_evcSwset, ← swEvent_mod, ← toNat_low6]
  rfl

theorem registerWrite_evcDbset : exec (.registerWrite w (BitVec.ofNat 40 Adr.evcDbset) false v) s
    = exec (.evcDbset (BitVec.ofNat 6 (2 ^ w.val)) (v.setWidth 6)) s := by
  have hcmd : exec (.evcDbset (BitVec.ofNat 6 (2 ^ w.val)) (v.setWidth 6)) s = .next (ringTriad s w (v.setWidth 6).toNat) := by
    show execEvcDbset _ _ s = _
    rw [execEvcDbset, find_oneTriad]
  rw [exec_registerWrite_narrow s w v (by decide), writeNarrow_evcDbset, ← ringTriad_mod, ← toNat_low6, hcmd]

/-- A mode request is the low three bits (R663). -/
theorem registerWrite_sysModereq {n : Nat} (hn : n = 1 ∨ n = 2 ∨ n = 4) (h : v.toNat % 8 = n) :
    exec (.registerWrite w (BitVec.ofNat 40 Adr.sysModereq) false v) s = .next (requestMode s n) := by
  have hlow : (v.setWidth 32).toNat % 8 = n := by
    simp only [BitVec.toNat_setWidth]
    omega
  rw [exec_registerWrite_narrow s w v (by decide), writeNarrow_sysModereq, writeModereq, hlow]
  obtain rfl | rfl | rfl := hn
  all_goals rfl

theorem registerWrite_sysTrst (h : bitOf v 0 = true) :
    exec (.registerWrite w (BitVec.ofNat 40 Adr.sysTrst) false v) s = exec (.triadReset w) s := by
  have h0 : (v.setWidth 32).getLsbD 0 = true := by
    rw [BitVec.getLsbD_setWidth]
    exact h
  rw [exec_registerWrite_narrow s w v (by decide), writeNarrow_sysTrst, if_pos h0]
  rfl

theorem toNat_setWidth32_mod4 : (v.setWidth 32).toNat % 4 = v.toNat % 4 := by
  simp only [BitVec.toNat_setWidth]
  omega

theorem registerWrite_hold (h : v.toNat % 4 = 1) :
    exec (.registerWrite w (BitVec.ofNat 40 Adr.fcuPinctl) false v) s = exec .hold s := by
  rw [exec_registerWrite_narrow s w v (by decide), writeNarrow_fcuPinctl,
    writePinctl_hold s _ ((toNat_setWidth32_mod4 v).trans h)]
  rfl

theorem registerWrite_rel (h : v.toNat % 4 = 2) :
    exec (.registerWrite w (BitVec.ofNat 40 Adr.fcuPinctl) false v) s = exec .rel s := by
  rw [exec_registerWrite_narrow s w v (by decide), writeNarrow_fcuPinctl,
    writePinctl_rel s _ ((toNat_setWidth32_mod4 v).trans h)]
  rfl

theorem standsAt_fcuAct : ∀ k : Fin 8, standsAt false (Adr.fcuAct k.val) = true := by decide

theorem registerWrite_fcuAct (k : Fin 8) : exec (.registerWrite w (BitVec.ofNat 40 (Adr.fcuAct k.val)) false v) s
    = exec (.activeFaultClear k (v.setWidth 32)) s := by
  rw [exec_registerWrite_narrow s w v (standsAt_fcuAct k), writeNarrow_fcuAct]
  rfl

theorem registerWrite_trcCtl :
    exec (.registerWrite w (BitVec.ofNat 40 Adr.trcCtl) false v) s = exec (.traceEnable (v.setWidth 32)) s := by
  rw [exec_registerWrite_narrow s w v (by decide), writeNarrow_trcCtl]
  rfl

theorem standsAt_trcCnt : ∀ (t : TriadId) (n : Fin 32), standsAt true (Adr.trcCnt t.val n.val) = true := by decide +kernel

theorem registerWrite_trcCnt (n : Fin 32) : exec (.registerWrite w (BitVec.ofNat 40 (Adr.trcCnt w.val n.val)) true v) s
    = exec (.counterWrite w w n v) s := by
  rw [exec_registerWrite_wide s w v (standsAt_trcCnt w n), writeWide_trcCnt]
  rfl

theorem registerWrite_fcuSwrep : exec (.registerWrite w (BitVec.ofNat 40 Adr.fcuSwrep) true v) s
    = exec (.fcuSwrep (v.extractLsb' 48 4) (v.setWidth 32)) s := by
  have hidx : (v.extractLsb' 48 4).toNat = field v 51 48 := by
    simp [field, BitVec.extractLsb'_toNat, Nat.shiftRight_eq_div_pow]
  have hinfo : (v.setWidth 32).toNat = field v 31 0 := by
    simp [field]
  have hcmd : exec (.fcuSwrep (v.extractLsb' 48 4) (v.setWidth 32)) s
      = .next (report s (208 + (v.extractLsb' 48 4).toNat) (v.setWidth 32).toNat) := rfl
  rw [exec_registerWrite_wide s w v (by decide), writeWide_fcuSwrep, hcmd, hidx, hinfo]

end

/-- Settles O55: a write is ignored, goes by the access codes, or is the command its register starts. -/
theorem registerWritesLand : Obligations.RegisterWritesLand := by
  intro s w v
  refine ⟨fun a dbl h => congrArg _ (registerWrite_ignored s w a.toNat dbl v h), ?_, registerWrite_evcSwset s w v,
    registerWrite_evcDbset s w v, registerWrite_sysModereq s w v (.inl rfl), registerWrite_sysModereq s w v (.inr (.inl rfl)),
    registerWrite_sysModereq s w v (.inr (.inr rfl)), registerWrite_sysTrst s w v, registerWrite_hold s w v,
    registerWrite_rel s w v, registerWrite_fcuAct s w v, registerWrite_trcCtl s w v, registerWrite_trcCnt s w v,
    registerWrite_fcuSwrep s w v⟩
  intro a d i j hrange h4 hd hw hv
  refine ⟨_, registerWrite_plain s w v hrange h4 hd hw, fun b hb => ?_, rfl, fun b => ?_⟩
  · exact State.rd_wr_ne s a b _ (by simpa using hb)
  · rw [State.rd_wr_self,
      bitOf_writeValue_lo d (lockedAt s d i) (s.rd a) v (fieldsWhole_of_regAt hrange hd) hv b]
    simp [RegDesc.writable]

end Sys2Proof.Machine
end

section
/-! What a report to the FCUs leaves as it was, whatever its class and reaction (R604 to R629, R667, R678). -/

namespace Sys2Proof.Machine

/-! ### Fields of a word, bit by bit -/

/-- A field written, bit by bit (R8). -/
theorem bitOf_setField (w : Word) (hi lo v i : Nat) : bitOf (setField w hi lo v) i =
    if lo ≤ i ∧ i ≤ hi then decide (i < 64) && v.testBit (i - lo) else bitOf w i := by
  by_cases h64 : i < 64
  swap
  · simp [bitOf_of_ge _ (Nat.le_of_not_lt h64), h64]
  have hlow : w.toNat % 2 ^ lo < 2 ^ lo := Nat.mod_lt _ (by positivity)
  have hnew : w.toNat - w.toNat / 2 ^ lo % 2 ^ (hi + 1 - lo) * 2 ^ lo + v % 2 ^ (hi + 1 - lo) * 2 ^ lo
      = 2 ^ lo * (2 ^ (hi + 1 - lo) * (w.toNat / 2 ^ lo / 2 ^ (hi + 1 - lo)) + v % 2 ^ (hi + 1 - lo)) + w.toNat % 2 ^ lo := by
    have h1 := Nat.div_add_mod w.toNat (2 ^ lo)
    have h2 := Nat.div_add_mod (w.toNat / 2 ^ lo) (2 ^ (hi + 1 - lo))
    generalize w.toNat % 2 ^ lo = l at *
    generalize w.toNat / 2 ^ lo / 2 ^ (hi + 1 - lo) = q at *
    generalize w.toNat / 2 ^ lo % 2 ^ (hi + 1 - lo) = m at *
    rw [← h1, ← h2]
    generalize v % 2 ^ (hi + 1 - lo) = x
    rw [Nat.mul_comm m, Nat.mul_comm x, Nat.mul_add, Nat.mul_add]
    omega
  have hbit : bitOf w i = w.toNat.testBit i := rfl
  rw [setField, bitOf_ofNat, hnew, hbit, Nat.testBit_two_pow_mul_add _ hlow,
    Nat.testBit_two_pow_mul_add _ (Nat.mod_lt _ (by positivity))]
  simp only [h64, decide_true, Bool.true_and, Nat.testBit_mod_two_pow, Nat.testBit_div_two_pow]
  by_cases hlo : i < lo
  · simp [hlo, Nat.not_le_of_gt hlo]
  by_cases hhi : i ≤ hi
  · simp [hlo, Nat.le_of_not_lt hlo, hhi, show i - lo < hi + 1 - lo by omega]
  · simp [hlo, hhi, show ¬ i - lo < hi + 1 - lo by omega, show i - lo - (hi + 1 - lo) + (hi + 1 - lo) + lo = i by omega]

theorem bitOf_putBit (w : Word) (k : Nat) (b : Bool) (i : Nat) :
    bitOf (putBit w k b) i = if i = k then decide (i < 64) && b else bitOf w i := by
  rw [putBit, bitOf_setField]
  by_cases h : i = k
  · subst h
    cases b <;> simp
  · rw [if_neg (by omega), if_neg h]

/-- A count moves the bits of its own field only. -/
theorem bitOf_satField_of_gt (w : Word) {hi lo i : Nat} (h : hi < i) : bitOf (satField w hi lo) i = bitOf w i := by
  rw [satField, bitOf_setField, if_neg (by omega)]

/-! ### What a report keeps -/

/-- The registers of SYS that a reaction may move: SYS_MODE and SYS_RSTCAUSE; and all blocks above SYS (R41, R42). -/
def ReactionReg (a : Nat) : Prop := a = Adr.sysMode ∨ a = Adr.sysRstcause ∨ 0x80010000 ≤ a

theorem reactionReg_of_ge {a : Nat} (h : 0x80010000 ≤ a) : ReactionReg a := .inr (.inr h)

theorem reactionReg_evcPend (k : Nat) : ReactionReg (Adr.evcPend k) := reactionReg_of_ge (by simp only [Adr.evcPend]; omega)
theorem reactionReg_evcOvr (k : Nat) : ReactionReg (Adr.evcOvr k) := reactionReg_of_ge (by simp only [Adr.evcOvr]; omega)
theorem reactionReg_fcuLogW0 (n : Nat) : ReactionReg (Adr.fcuLogW0 n) :=
  reactionReg_of_ge (by simp only [Adr.fcuLogW0]; omega)
theorem reactionReg_fcuLogW1 (n : Nat) : ReactionReg (Adr.fcuLogW1 n) :=
  reactionReg_of_ge (by simp only [Adr.fcuLogW1]; omega)
theorem not_reactionReg_sysClkstat : ¬ ReactionReg Adr.sysClkstat := by
  unfold ReactionReg
  decide

/-- A unit goes on: it does not become FAILED, and the faults that were active still are (R607, R612). -/
structure UnitKeeps (u u' : FcuUnit) : Prop where
  live : live u = true → live u' = true
  active : ∀ i, u.active.getLsbD i = true → u'.active.getLsbD i = true

theorem UnitKeeps.refl (u : FcuUnit) : UnitKeeps u u := ⟨id, fun _ => id⟩

theorem UnitKeeps.trans {a b c : FcuUnit} (h : UnitKeeps a b) (g : UnitKeeps b c) : UnitKeeps a c :=
  ⟨g.live ∘ h.live, fun i => g.active i ∘ h.active i⟩

theorem UnitKeeps.of_eq {u u' : FcuUnit} (hs : u'.state = u.state) (ha : u'.active = u.active) : UnitKeeps u u' :=
  ⟨fun h => by rw [Machine.live, hs]; exact h, fun i h => by rwa [ha]⟩

/-- From s to s' both units go on, and the triads, the island, what the clock monitor has seen and the registers that no
reaction moves are as they were. -/
structure ReportKeeps (s s' : State) : Prop where
  regs : ∀ a, ¬ ReactionReg a → s'.rd a = s.rd a
  triads : s'.triads = s.triads
  yob : s'.yob = s.yob
  freqSeen : s'.sys.freqSeen = s.sys.freqSeen
  stopSeen : s'.sys.stopSeen = s.sys.stopSeen
  lolSeen : s'.sys.lolSeen = s.sys.lolSeen
  unitA : UnitKeeps s.fcu.a s'.fcu.a
  unitB : UnitKeeps s.fcu.b s'.fcu.b

namespace ReportKeeps

theorem refl (s : State) : ReportKeeps s s := ⟨fun _ _ => rfl, rfl, rfl, rfl, rfl, rfl, .refl _, .refl _⟩

theorem trans {a b c : State} (h : ReportKeeps a b) (g : ReportKeeps b c) : ReportKeeps a c where
  regs r hr := (g.regs r hr).trans (h.regs r hr)
  triads := g.triads.trans h.triads
  yob := g.yob.trans h.yob
  freqSeen := g.freqSeen.trans h.freqSeen
  stopSeen := g.stopSeen.trans h.stopSeen
  lolSeen := g.lolSeen.trans h.lolSeen
  unitA := h.unitA.trans g.unitA
  unitB := h.unitB.trans g.unitB

theorem ite {s a b : State} {c : Prop} [Decidable c] (ha : ReportKeeps s a) (hb : ReportKeeps s b) :
    ReportKeeps s (if c then a else b) := by
  split
  · exact ha
  · exact hb

theorem foldl {α : Type} {f : State → α → State} (h : ∀ s x, ReportKeeps s (f s x)) (l : List α) (s : State) :
    ReportKeeps s (l.foldl f s) := by
  induction l generalizing s with
  | nil => exact .refl s
  | cons x l ih => exact (h s x).trans (ih (f s x))

/-! ### Registers and fields -/

theorem wr (s : State) {a : Nat} (v : Word) (h : ReactionReg a) : ReportKeeps s (s.wr a v) :=
  { refl s with regs := fun b hb => State.rd_wr_ne s a b v fun e => hb (e ▸ h) }

theorem up (s : State) {a : Nat} (f : Word → Word) (h : ReactionReg a) : ReportKeeps s (s.up a f) := wr s _ h

theorem mem (s : State) (m : List Host.Cell) : ReportKeeps s { s with mem := m } := { refl s with }
theorem sram (s : State) (x : Sram) : ReportKeeps s { s with sram := x } := { refl s with }
theorem hosts (s : State) (x : Hosts) : ReportKeeps s { s with hosts := x } := { refl s with }
theorem legacy (s : State) (x : Legacy) : ReportKeeps s { s with legacy := x } := { refl s with }

theorem sys (s : State) (x : Sys) (hf : x.freqSeen = s.sys.freqSeen) (hs : x.stopSeen = s.sys.stopSeen)
    (hl : x.lolSeen = s.sys.lolSeen) : ReportKeeps s { s with sys := x } :=
  { refl s with freqSeen := hf, stopSeen := hs, lolSeen := hl }

theorem fcu (s : State) (x : Fcu) (ha : UnitKeeps s.fcu.a x.a) (hb : UnitKeeps s.fcu.b x.b) :
    ReportKeeps s { s with fcu := x } :=
  { refl s with unitA := ha, unitB := hb }

/-! ### Events and modes -/

theorem pulse (s : State) (n : Nat) : ReportKeeps s (pulse s n) :=
  .ite (.refl s) <| by
    unfold pend
    exact trans (.ite (up s _ (reactionReg_evcOvr _)) (.refl s)) (up _ _ (reactionReg_evcPend _))

theorem genUp (s : State) (g : Fin 12) : ReportKeeps s (genUp s g) := hosts s _

theorem enterSafe (s : State) (mask : BitVec 6) : ReportKeeps s (enterSafe s mask) := (legacy s _).trans (pulse _ _)

theorem putMode (s : State) (m : Nat) : ReportKeeps s (putMode s m) := by
  unfold Machine.putMode
  extract_lets old s1 s2 sys2 s3 sys3 s4
  have h2 : ReportKeeps s s2 := (up s _ (.inl rfl)).trans (genUp s1 2)
  have h3 : ReportKeeps s2 s3 := .ite (sys s2 _ rfl rfl rfl) (.refl s2)
  have h4 : ReportKeeps s3 s4 := .ite (sys s3 _ rfl rfl rfl) (.refl s3)
  exact .ite (.refl s) (((h2.trans h3).trans h4).trans (.ite (enterSafe s4 _) (.refl s4)))

theorem countDisarm (s : State) (was : Bool) : ReportKeeps s (countDisarm s was) :=
  .ite ((up s _ (reactionReg_of_ge (by decide))).trans (pulse _ _)) (.refl s)

theorem disarm (s : State) : ReportKeeps s (disarm s) := by
  unfold Machine.disarm
  refine trans (fcu s _ ?_ ?_) (countDisarm _ _)
  all_goals exact .of_eq rfl rfl

theorem setMode (s : State) (m : Nat) : ReportKeeps s (setMode s m) :=
  .ite (.refl s) (.ite (putMode s m) ((putMode s m).trans (disarm _)))

theorem wakeRetain (s : State) (toMode wakeCode : Nat) : ReportKeeps s (wakeRetain s toMode wakeCode) := by
  unfold Machine.wakeRetain
  have hmode := (up s (fun w => setField w 7 4 wakeCode) (.inr (.inl rfl))).trans (putMode _ toMode)
  exact (hmode.trans (sram _ _)).trans (foldl (fun t n => .ite (pulse t _) (.refl t)) _ _)

theorem wakeWith (s : State) (toMode wakeCode : Nat) : ReportKeeps s (wakeWith s toMode wakeCode) :=
  .ite ((up s _ (.inr (.inl rfl))).trans (hosts _ _)) (wakeRetain s toMode wakeCode)

theorem classAction (s : State) (c : Nat) : ReportKeeps s (classAction s c) := by
  unfold Machine.classAction
  extract_lets m blank sys0 s1
  have hwake : ReportKeeps s s1 := .ite (sys s _ rfl rfl rfl) (.refl s)
  refine hwake.trans (.ite (.ite (wakeWith s1 4 3) <| .ite (.refl s1) <| .ite ?degraded <| .ite ?selftest ?hold) (.refl s1))
  case degraded => exact .ite (setMode s1 3) (.refl s1)
  case selftest => exact sys s1 _ rfl rfl rfl
  case hold => exact .ite (setMode s1 4) (.refl s1)

/-! ### The log -/

theorem logEntry (s : State) (f info c : Nat) (esc one : Bool) : ReportKeeps s (logEntry s f info c esc one) :=
  ((wr s _ (reactionReg_fcuLogW0 _)).trans (wr _ _ (reactionReg_fcuLogW1 _))).trans (wr _ _ (reactionReg_of_ge (by decide)))

theorem inIdOrder (old s : State) : ReportKeeps s (inIdOrder old s) := by
  unfold Machine.inIdOrder
  refine .ite (.refl s) (trans (foldl (fun t e => ?_) _ s) (fcu _ _ (.refl _) (.refl _)))
  exact (wr t _ (reactionReg_fcuLogW0 _)).trans (wr _ _ (reactionReg_fcuLogW1 _))

theorem countReport (s : State) (f : Nat) : ReportKeeps s (countReport s f) := fcu s _ (.refl _) (.refl _)

end ReportKeeps

/-! ### What one unit does with a report -/

theorem live_of_state {u : FcuUnit} (h : u.state ≠ .failed) : live u = true := by simpa [live] using h

/-- A reaction that takes a unit to FAULT, or leaves it in INIT, does not make it FAILED (R618). -/
theorem UnitKeeps.faults {u u' : FcuUnit} (hs : u'.state = if u.state = .init then .init else .fault)
    (ha : u'.active = u.active) : UnitKeeps u u' :=
  ⟨fun _ => live_of_state (by rw [hs]; split <;> simp), fun i h => by rwa [ha]⟩

theorem UnitKeeps.settles (u : FcuUnit) : UnitKeeps u (unitSettles u) := by
  unfold unitSettles
  split
  · exact ⟨fun _ => rfl, fun _ => id⟩
  · exact .refl u

theorem UnitKeeps.ite {u a b : FcuUnit} {c : Prop} [Decidable c] (ha : UnitKeeps u a) (hb : UnitKeeps u b) :
    UnitKeeps u (if c then a else b) := by
  split
  · exact ha
  · exact hb

/-- The reaction of a class to the unit, before it settles (R618, R623). -/
theorem UnitKeeps.reaction (u : FcuUnit) (c : Nat) (p : Bool) : UnitKeeps u (match c with
    | 1 => if p then startPulse u else u
    | 2 => startPulse u
    | 3 => { startPulse u with armed := false, permit := false, state := if u.state = .init then .init else .fault }
    | 4 => { u with hwHold := true, pulse := false, window := false, relDue := false, armed := false, permit := false,
                    xPending := true, state := if u.state = .init then .init else .fault }
    | _ => u) := by
  have hpulse : UnitKeeps u (startPulse u) := .of_eq rfl rfl
  split
  · exact .ite hpulse (.refl u)
  · exact hpulse
  · exact .faults rfl rfl
  · exact .faults rfl rfl
  · exact .refl u

theorem getLsbD_setActive (w : BitVec 240) (f i : Nat) :
    (w ||| BitVec.ofNat 240 (2 ^ f)).getLsbD i = (w.getLsbD i || decide (i < 240 ∧ i = f)) := by
  rw [BitVec.getLsbD_or, BitVec.getLsbD_ofNat, Nat.testBit_two_pow, Bool.decide_and]
  simp only [eq_comm]

/-- A report makes its fault active in the unit and takes none away (R607, R617). -/
theorem unitReport_keeps (u : FcuUnit) (f c0 limit : Nat) (p : Bool) :
    UnitKeeps { u with active := u.active ||| BitVec.ofNat 240 (2 ^ f) } (unitReport u f c0 limit p).unit := by
  unfold unitReport
  extract_lets d esc c u1 u2 counts u3 disabled u4 old u5 u6 u7
  have h1 : UnitKeeps { u with active := u.active ||| BitVec.ofNat 240 (2 ^ f) } u1 := .of_eq rfl rfl
  have h2 : UnitKeeps u1 u2 := by
    by_cases h : c < 5
    · rw [show u2 = _ from dif_pos h]
      exact .of_eq rfl rfl
    · rw [show u2 = _ from dif_neg h]
      exact .refl u1
  have h3 : UnitKeeps u2 u3 := .ite (.of_eq rfl rfl) (.refl u2)
  have h4 : UnitKeeps u3 u4 := .ite (.of_eq rfl rfl) (.refl u3)
  have h6 : UnitKeeps u4 u6 := .reaction u4 c p
  exact ((((h1.trans h2).trans h3).trans h4).trans h6).trans (.settles u6)

theorem UnitKeeps.unitReport (u : FcuUnit) (f c0 limit : Nat) (p : Bool) : UnitKeeps u (unitReport u f c0 limit p).unit :=
  have hset : UnitKeeps u { u with active := u.active ||| BitVec.ofNat 240 (2 ^ f) } :=
    ⟨id, fun i h => by rw [getLsbD_setActive, h, Bool.true_or]⟩
  hset.trans (unitReport_keeps u f c0 limit p)

theorem unitReport_active (u : FcuUnit) {f : Nat} (c0 limit : Nat) (p : Bool) (hf : f < 240) :
    (Machine.unitReport u f c0 limit p).unit.active.getLsbD f = true :=
  (unitReport_keeps u f c0 limit p).active f ((getLsbD_setActive _ f f).trans (by rw [decide_eq_true ⟨hf, rfl⟩, Bool.or_true]))

/-! ### A report -/

theorem RegsOnly.logEntry (s : State) (f info c : Nat) (esc one : Bool) : RegsOnly s (logEntry s f info c esc one) :=
  ((RegsOnly.wr s _ _).trans (.wr _ _ _)).trans (.wr _ _ _)

@[simp] theorem logEntry_fcu (s : State) (f info c : Nat) (esc one : Bool) : (logEntry s f info c esc one).fcu = s.fcu := by
  obtain ⟨r, h⟩ := RegsOnly.logEntry s f info c esc one
  rw [h]

@[simp] theorem countReport_fcu_a (s : State) (f : Nat) : (countReport s f).fcu.a = s.fcu.a := rfl
@[simp] theorem countReport_fcu_b (s : State) (f : Nat) : (countReport s f).fcu.b = s.fcu.b := rfl

/-- Both units become x and y. -/
def State.setUnits (s : State) (x y : FcuUnit) : State := { s with fcu := { s.fcu with a := x, b := y } }

theorem ReportKeeps.setUnits (s : State) {x y : FcuUnit} (hx : UnitKeeps s.fcu.a x) (hy : UnitKeeps s.fcu.b y) :
    ReportKeeps s (s.setUnits x y) := fcu s _ hx hy

/-- Unit u as it is after a report of f, which it takes where `use` says so. -/
def unitAfter (s : State) (u : FcuUnit) (f : Nat) (use : Bool) : FcuUnit :=
  if use && live u then (unitReport u f (classOf s f) (recoveryLimit s) (pulseOf s f)).unit else u

theorem UnitKeeps.unitAfter (s : State) (u : FcuUnit) (f : Nat) (use : Bool) : UnitKeeps u (unitAfter s u f use) :=
  .ite (.unitReport ..) (.refl u)

/-- The events and the device action that follow the units' reactions keep all that a report keeps (R617, R618). -/
theorem reportOnce_cases (s : State) (f info : Nat) (toA toB : Bool) :
    (toA && live s.fcu.a) = false ∧ (toB && live s.fcu.b) = false ∧ (reportOnce s f info toA toB).1 = s
      ∨ ∃ c esc, ReportKeeps ((countReport (logEntry s f info c esc (toA != toB)) f).setUnits
        (unitAfter s s.fcu.a f toA) (unitAfter s s.fcu.b f toB)) (reportOnce s f info toA toB).1 := by
  unfold reportOnce
  extract_lets useA useB c0 ra rb was cls shown esc s1 s2 fcu2 s3 s4 s5 s6 s7 s8 s9 s10
  have hA : useA = (toA && live s.fcu.a) := rfl
  have hB : useB = (toB && live s.fcu.b) := rfl
  split
  · next h =>
    obtain ⟨ha, hb⟩ := Bool.and_eq_true_iff.mp h
    exact .inl ⟨hA ▸ (Bool.not_eq_true' _).mp ha, hB ▸ (Bool.not_eq_true' _).mp hb, rfl⟩
  · refine .inr ⟨shown, esc, ?_⟩
    have h3 : s2.setUnits (unitAfter s s.fcu.a f toA) (unitAfter s s.fcu.b f toB) = s3 := by
      have ha : s2.fcu.a = s.fcu.a := by rw [countReport_fcu_a, logEntry_fcu]
      have hb : s2.fcu.b = s.fcu.b := by rw [countReport_fcu_b, logEntry_fcu]
      simp only [s3, ha, hb]
      rfl
    have h5 : ReportKeeps s3 s5 := (ReportKeeps.genUp s3 1).trans (.pulse s4 _)
    have h6 : ReportKeeps s5 s6 := .ite (.pulse s5 _) (.refl s5)
    have h7 : ReportKeeps s6 s7 := .ite (.pulse s6 _) (.refl s6)
    have h8 : ReportKeeps s7 s8 := .ite (.pulse s7 _) (.refl s7)
    have h10 : ReportKeeps s8 s10 := (ReportKeeps.countDisarm s8 was).trans (.classAction s9 cls)
    rw [h3]
    exact (((h5.trans h6).trans h7).trans h8).trans h10

theorem ReportKeeps.taken (s : State) (f info c : Nat) (esc one : Bool) (toA toB : Bool) : ReportKeeps s
    ((Machine.countReport (Machine.logEntry s f info c esc one) f).setUnits
      (unitAfter s s.fcu.a f toA) (unitAfter s s.fcu.b f toB)) := by
  refine ((logEntry s f info c esc one).trans (countReport _ f)).trans (.setUnits _ ?_ ?_)
  · rw [countReport_fcu_a, logEntry_fcu]
    exact .unitAfter ..
  · rw [countReport_fcu_b, logEntry_fcu]
    exact .unitAfter ..

theorem ReportKeeps.reportOnce (s : State) (f info : Nat) (toA toB : Bool) :
    ReportKeeps s (reportOnce s f info toA toB).1 := by
  obtain ⟨-, -, h⟩ | ⟨c, esc, h⟩ := reportOnce_cases s f info toA toB
  · rw [h]
    exact .refl s
  · exact (taken s f info c esc (toA != toB) toA toB).trans h

/-- A fault reported to both units is active in both, where both serve (R607, R617). -/
theorem reportOnce_active (s : State) {f : Nat} (info : Nat) (hf : f < 240) (ha : live s.fcu.a = true)
    (hb : live s.fcu.b = true) : (reportOnce s f info true true).1.fcu.a.active.getLsbD f = true
      ∧ (reportOnce s f info true true).1.fcu.b.active.getLsbD f = true := by
  obtain ⟨hno, -, -⟩ | ⟨c, esc, h⟩ := reportOnce_cases s f info true true
  · simp [ha] at hno
  · have hu (u : FcuUnit) (hl : live u = true) : (unitAfter s u f true).active.getLsbD f = true := by
      rw [unitAfter, hl]
      exact unitReport_active u _ _ _ hf
    exact ⟨h.unitA.active f (hu _ ha), h.unitB.active f (hu _ hb)⟩

/-- F170, which follows where a domain is disabled, keeps what the report itself has left (R619). -/
theorem ReportKeeps.reportVia_of_once (s : State) {f : Nat} (info : Nat) (toA toB : Bool) (he : faultExists f = true) :
    ReportKeeps (Machine.reportOnce s f info toA toB).1 (reportVia s f info toA toB) := by
  have hdis := ((reportOnce (Machine.reportOnce s f info toA toB).1 170 0 true true).trans (pulse _ 774)).trans
    (inIdOrder s _)
  simp only [Machine.reportVia, he, Bool.not_true, Bool.false_eq_true, if_false]
  exact .ite hdis (.refl _)

theorem ReportKeeps.reportVia (s : State) (f info : Nat) (toA toB : Bool) : ReportKeeps s (reportVia s f info toA toB) := by
  cases he : faultExists f with
  | false =>
    rw [Machine.reportVia, he]
    exact .refl s
  | true => exact (reportOnce s f info toA toB).trans (reportVia_of_once s info toA toB he)

/-! ### READY, which a wake writes (R347, R679) -/

namespace ReportKeeps

theorem sramUe (s : State) (w : Nat) : ReportKeeps s (sramUe s w) := by
  unfold Machine.sramUe
  extract_lets s1 s2
  have h1 : ReportKeeps s s1 := up s _ (reactionReg_of_ge (by decide))
  have h2 : ReportKeeps s1 s2 := wr s1 _ (reactionReg_of_ge (by decide))
  exact ((h1.trans h2).trans (pulse s2 880)).trans (reportVia _ 96 _ true true)

theorem sramCe (s : State) (w : Nat) : ReportKeeps s (sramCe s w) := by
  unfold Machine.sramCe
  extract_lets held s1 s2 sram2 s3
  have h1 : ReportKeeps s s1 := up s _ (reactionReg_of_ge (by decide))
  have h2 : ReportKeeps s1 s2 := .ite (.refl s1) (wr s1 _ (reactionReg_of_ge (by decide)))
  exact ((h1.trans h2).trans (sram s2 _)).trans (pulse s3 881)

theorem sramTouch (s : State) (w : Nat) : ReportKeeps s (sramTouch s w) := by
  unfold Machine.sramTouch
  split
  · exact sramUe s w
  · exact sramCe s w
  · exact .refl s

theorem storeOctets (s : State) (a : Nat) (kind : BitVec 2) (bs : List (Byte × Bool)) :
    ReportKeeps s (storeOctets s a kind bs) := by
  induction bs generalizing s a with
  | nil => exact .refl s
  | cons p t ih => exact trans (.ite (mem s _) (.refl s)) (ih _ _)

theorem sramWriteWord (s : State) (w : Nat) (kind : BitVec 2) (bs : List (Byte × Bool)) :
    ReportKeeps s (sramWriteWord s w kind bs) := by
  have hheal : ReportKeeps s (Machine.storeOctets (sramHeal s w) w kind bs) := (sram s _).trans (storeOctets _ w kind bs)
  unfold Machine.sramWriteWord
  extract_lets full
  split
  · exact .ite hheal (sramUe s w)
  · exact .ite hheal ((sramTouch s w).trans (storeOctets _ w kind bs))
  · exact storeOctets s w kind bs

theorem writeReady (s : State) (v : Nat) : ReportKeeps s (writeReady s v) :=
  .ite (.refl s) ((sramWriteWord s _ _ _).trans (sramWriteWord _ _ _ _))

theorem reportWakes (s : State) (f info : Nat) (toA toB : Bool) : ReportKeeps s (reportWakes s f info toA toB) :=
  .ite ((reportVia s f info toA toB).trans (writeReady _ 1)) (reportVia s f info toA toB)

end ReportKeeps

/-- What a report of a fault to both FCUs keeps, whatever they make of it. -/
theorem ReportKeeps.report (s : State) (f info : Nat) : ReportKeeps s (report s f info) := .reportWakes s f info true true

/-- A fault reported to both FCUs is active in both, where both serve (R32, R607, R617). -/
theorem report_active (s : State) {f : Nat} (info : Nat) (hf : f < 240) (he : faultExists f = true)
    (ha : live s.fcu.a = true) (hb : live s.fcu.b = true) :
    (report s f info).fcu.a.active.getLsbD f = true ∧ (report s f info).fcu.b.active.getLsbD f = true := by
  have hwakes : ReportKeeps (reportVia s f info true true) (report s f info) := .ite (.writeReady _ 1) (.refl _)
  have hkeeps := (ReportKeeps.reportVia_of_once s info true true he).trans hwakes
  obtain ⟨hA, hB⟩ := reportOnce_active s info hf ha hb
  exact ⟨hkeeps.unitA.active f hA, hkeeps.unitB.active f hB⟩

end Sys2Proof.Machine
end

section
/-! The clock monitor, and the statement (R37 to R39, R581). -/

namespace Sys2Proof.Machine

/-! ### A clock fault -/

/-- A clock fault of the given bit of SYS_CLKSTAT is recorded and F160 is active in both units; the triads go on (R38, R39). -/
def ClockReported (s s' : State) (bit : Nat) : Prop :=
  bitOf (s'.rd Adr.sysClkstat) bit = true ∧ s'.fcu.a.active.getLsbD 160 = true ∧ s'.fcu.b.active.getLsbD 160 = true
    ∧ s'.triads = s.triads

/-- A clock fault moves SYS_CLKSTAT, and is a report otherwise. -/
theorem clockFault_keeps (s : State) (bit : Nat) :
    ReportKeeps (s.up Adr.sysClkstat fun w => satField (putBit w bit true) 7 0) (clockFault s bit) := .report _ 160 0

/-- Above its count SYS_CLKSTAT changes in the fault's bit only. -/
theorem clockFault_clkstat (s : State) (bit : Nat) {i : Nat} (hi : 8 ≤ i) : bitOf ((clockFault s bit).rd Adr.sysClkstat) i =
    if i = bit then decide (i < 64) else bitOf (s.rd Adr.sysClkstat) i := by
  rw [(clockFault_keeps s bit).regs _ not_reactionReg_sysClkstat, State.rd_up_self, bitOf_satField_of_gt _ hi, bitOf_putBit,
    Bool.and_true]

theorem clockFault_reported {a s : State} {bit : Nat} (ht : s.triads = a.triads) (h8 : 8 ≤ bit) (h64 : bit < 64)
    (ha : live s.fcu.a = true) (hb : live s.fcu.b = true) : ClockReported a (clockFault s bit) bit := by
  obtain ⟨hA, hB⟩ := report_active (s.up Adr.sysClkstat fun w => satField (putBit w bit true) 7 0) 0
    (show 160 < 240 by decide) rfl ha hb
  have hbit : bitOf ((clockFault s bit).rd Adr.sysClkstat) bit = true := by
    rw [clockFault_clkstat s bit h8, if_pos rfl, decide_eq_true h64]
  exact ⟨hbit, hA, hB, (clockFault_keeps s bit).triads.trans ht⟩

/-! ### The onsets seen -/

theorem State.rd_setSys (s : State) (x : Sys) (a : Nat) : State.rd { s with sys := x } a = s.rd a := rfl

theorem getLsbD_setBit6 (v : BitVec 6) (c d : Fin 6) (b : Bool) :
    (setBit6 v c.val b).getLsbD d.val = if d = c then b else v.getLsbD d.val := by
  have hbit : (BitVec.ofNat 6 (2 ^ c.val)).getLsbD d.val = decide (d = c) := by
    rw [BitVec.getLsbD_ofNat, Nat.testBit_two_pow, decide_eq_true d.isLt, Bool.true_and]
    exact decide_eq_decide.mpr ⟨fun h => Fin.ext h.symm, fun h => congrArg _ h.symm⟩
  cases b
  · simp only [setBit6, Bool.false_eq_true, if_false, BitVec.getLsbD_and, BitVec.getLsbD_not, hbit, d.isLt]
    by_cases h : d = c <;> simp [h]
  · simp only [setBit6, if_true, BitVec.getLsbD_or, hbit]
    by_cases h : d = c <;> simp [h]

theorem mem_allClocks : ∀ c : Fin 6, c ∈ allClocks := by decide

/-- Cleared clock by clock, no onset is left. -/
theorem foldl_setBit6_false : ∀ v : BitVec 6, allClocks.foldl (fun v c => setBit6 v c.val false) v = 0 := by decide


/-! ### A window of the monitor -/

/-- A window of good clocks: the onsets are cleared, nothing is reported (R39). -/
theorem foldl_clockWindow_good (l : List (Fin 6)) (s : State) : l.foldl (fun s c => clockWindow s c false) s =
    { s with
      sys := { s.sys with freqSeen := l.foldl (fun v c => setBit6 v c.val false) s.sys.freqSeen
                          stopSeen := l.foldl (fun v c => setBit6 v c.val false) s.sys.stopSeen }
      yob := { s.yob with clkStopped := s.yob.clkStopped && l.all fun c => c != 4 } } := by
  induction l generalizing s with
  | nil => simp
  | cons c l ih =>
    rw [List.foldl_cons, ih]
    simp [clockWindow, Bool.and_assoc]

theorem execClockMonitorWindow_zero (s : State) : exec (.clockMonitorWindow 0) s = .next { s with
    sys := { s.sys with freqSeen := 0, stopSeen := 0 }, yob := { s.yob with clkStopped := false } } := by
  have hoff : exec (.clockMonitorWindow 0) s = .next (allClocks.foldl (fun s c => clockWindow s c false) s) := by
    show execClockMonitorWindow (0#6) s = _
    simp only [execClockMonitorWindow, BitVec.getLsbD_zero]
  rw [hoff, foldl_clockWindow_good, foldl_setBit6_false, foldl_setBit6_false, show (allClocks.all fun c => c != 4) = false from rfl,
    Bool.and_false]

/-- The onset of a clock found off frequency (R38). -/
theorem clockWindow_onset (s : State) (c : Fin 6) (h : s.sys.freqSeen.getLsbD c.val = false) : clockWindow s c true =
    clockFault { s with sys := { s.sys with freqSeen := setBit6 s.sys.freqSeen c.val true } } (8 + c.val) := by
  rw [clockWindow, if_pos rfl, h, if_neg Bool.false_ne_true]

/-- A clock that stays off frequency is reported at its onset only (R39). -/
theorem clockWindow_seen (s : State) (c : Fin 6) (h : s.sys.freqSeen.getLsbD c.val = true) : clockWindow s c true = s := by
  rw [clockWindow, if_pos rfl, if_pos h]

/-- From s to s' the units and the triads go on, and no bit of SYS_CLKSTAT above its count is cleared. -/
structure ClockKeeps (s s' : State) : Prop where
  triads : s'.triads = s.triads
  unitA : UnitKeeps s.fcu.a s'.fcu.a
  unitB : UnitKeeps s.fcu.b s'.fcu.b
  clkstat : ∀ i, 8 ≤ i → bitOf (s.rd Adr.sysClkstat) i = true → bitOf (s'.rd Adr.sysClkstat) i = true

namespace ClockKeeps

theorem refl (s : State) : ClockKeeps s s := ⟨rfl, .refl _, .refl _, fun _ _ => id⟩

theorem trans {a b c : State} (h : ClockKeeps a b) (g : ClockKeeps b c) : ClockKeeps a c :=
  ⟨g.triads.trans h.triads, h.unitA.trans g.unitA, h.unitB.trans g.unitB, fun i hi => g.clkstat i hi ∘ h.clkstat i hi⟩

theorem clockFault (s : State) (bit : Nat) : ClockKeeps s (clockFault s bit) where
  triads := (clockFault_keeps s bit).triads
  unitA := (clockFault_keeps s bit).unitA
  unitB := (clockFault_keeps s bit).unitB
  clkstat i hi h := by
    have h64 : i < 64 := Nat.lt_of_not_le fun hge => by simp [bitOf_of_ge _ hge] at h
    rw [clockFault_clkstat s bit hi, decide_eq_true h64, h, ite_self]

theorem clockWindow (s : State) (c : Fin 6) (off : Bool) : ClockKeeps s (clockWindow s c off) := by
  cases off with
  | false => exact ⟨rfl, .refl _, .refl _, fun _ _ => id⟩
  | true =>
    cases hseen : s.sys.freqSeen.getLsbD c.val with
    | true =>
      rw [clockWindow_seen s c hseen]
      exact refl s
    | false =>
      rw [clockWindow_onset s c hseen]
      refine trans (b := { s with sys := { s.sys with freqSeen := setBit6 s.sys.freqSeen c.val true } }) ?_ (clockFault _ _)
      exact ⟨rfl, .refl _, .refl _, fun _ _ => id⟩

theorem reported {a s s' : State} {bit : Nat} (h : ClockKeeps s s') (h8 : 8 ≤ bit) (hr : ClockReported a s bit) :
    ClockReported a s' bit := by
  obtain ⟨hbit, hA, hB, ht⟩ := hr
  exact ⟨h.clkstat bit h8 hbit, h.unitA.active 160 hA, h.unitB.active 160 hB, h.triads.trans ht⟩

end ClockKeeps

/-- A clock's part of the window leaves the onsets of the other clocks. -/
theorem clockWindow_freqSeen_ne (s : State) {c d : Fin 6} (off : Bool) (h : c ≠ d) :
    (clockWindow s d off).sys.freqSeen.getLsbD c.val = s.sys.freqSeen.getLsbD c.val := by
  cases off with
  | false => exact (getLsbD_setBit6 _ d c false).trans (if_neg h)
  | true =>
    cases hseen : s.sys.freqSeen.getLsbD d.val with
    | true => rw [clockWindow_seen s d hseen]
    | false =>
      rw [clockWindow_onset s d hseen, (clockFault_keeps _ _).freqSeen]
      exact (getLsbD_setBit6 _ d c true).trans (if_neg h)

section
variable (off : BitVec 6) {c : Fin 6}

/-- The clocks before c in the window leave its onset. -/
theorem foldl_clockWindow_notMem (l : List (Fin 6)) (hc : c ∉ l) (s : State) :
    let s' := l.foldl (fun s d => clockWindow s d (off.getLsbD d.val)) s
    ClockKeeps s s' ∧ s'.sys.freqSeen.getLsbD c.val = s.sys.freqSeen.getLsbD c.val := by
  induction l generalizing s with
  | nil => exact ⟨.refl s, rfl⟩
  | cons d l ih =>
    obtain ⟨hd, hl⟩ := not_or.mp (mt List.mem_cons.mpr hc)
    obtain ⟨hk, hf⟩ := ih hl (clockWindow s d (off.getLsbD d.val))
    exact ⟨(ClockKeeps.clockWindow s d _).trans hk, hf.trans (clockWindow_freqSeen_ne s _ hd)⟩

/-- Once its onset is seen, an off clock c stays so through the rest of the window. -/
theorem foldl_clockWindow_seen (hoff : off.getLsbD c.val = true) (l : List (Fin 6)) (s : State)
    (hs : s.sys.freqSeen.getLsbD c.val = true) :
    let s' := l.foldl (fun s d => clockWindow s d (off.getLsbD d.val)) s
    ClockKeeps s s' ∧ s'.sys.freqSeen.getLsbD c.val = true := by
  induction l generalizing s with
  | nil => exact ⟨.refl s, hs⟩
  | cons d l ih =>
    have hd : (clockWindow s d (off.getLsbD d.val)).sys.freqSeen.getLsbD c.val = true := by
      by_cases h : c = d
      · rw [← h, hoff, clockWindow_seen s c hs, hs]
      · rw [clockWindow_freqSeen_ne s _ h, hs]
    obtain ⟨hk, hf⟩ := ih _ hd
    exact ⟨(ClockKeeps.clockWindow s d _).trans hk, hf⟩

/-- A clock found off frequency is reported at the onset, whatever the window finds of the others (R38, R39). -/
theorem clockMonitorWindow_onset (s : State) (ha : live s.fcu.a = true) (hb : live s.fcu.b = true)
    (hoff : off.getLsbD c.val = true) (hnew : s.sys.freqSeen.getLsbD c.val = false) :
    Completes (.clockMonitorWindow off) s fun s' => ClockReported s s' (8 + c.val) ∧ s'.sys.freqSeen.getLsbD c.val = true := by
  refine ⟨_, rfl, ?_⟩
  obtain ⟨before, after, hsplit, hmem⟩ := List.eq_append_cons_of_mem (mem_allClocks c)
  rw [hsplit, List.foldl_append, List.foldl_cons, hoff]
  obtain ⟨hk, hf⟩ := foldl_clockWindow_notMem off before hmem s
  generalize before.foldl _ s = s1 at hk hf ⊢
  have hs1 := hf.trans hnew
  have hon := clockWindow_onset s1 c hs1
  have hrep : ClockReported s (clockWindow s1 c true) (8 + c.val) := by
    rw [hon]
    exact clockFault_reported hk.triads (by omega) (by omega) (hk.unitA.live ha) (hk.unitB.live hb)
  have hseen : (clockWindow s1 c true).sys.freqSeen.getLsbD c.val = true := by
    rw [hon, (clockFault_keeps _ _).freqSeen]
    exact (getLsbD_setBit6 _ c c true).trans (if_pos rfl)
  obtain ⟨hk', hf'⟩ := foldl_clockWindow_seen off hoff after _ hseen
  exact ⟨hk'.reported (by omega) hrep, hf'⟩

end

/-! ### Stops and loss of lock -/

section
variable (s : State) (c : Fin 6)

/-- The onset of a stop: it is seen, and CLK_TNS stopped marks the island's next record (R38, R581). -/
theorem clockStop_onset (h : s.sys.stopSeen.getLsbD c.val = false) : clockStop s c =
    clockFault { s with
      sys := { s.sys with stopSeen := setBit6 s.sys.stopSeen c.val true }
      yob := { s.yob with cgap := s.yob.cgap || decide (c = 4), clkStopped := s.yob.clkStopped || decide (c = 4) } }
      (16 + c.val) := by
  rw [clockStop, h, if_neg Bool.false_ne_true]
  by_cases hc : c = 4 <;> simp [hc]

theorem clockStop_completes (ha : live s.fcu.a = true) (hb : live s.fcu.b = true)
    (h : s.sys.stopSeen.getLsbD c.val = false) : Completes (.clockStop c) s fun s' => ClockReported s s' (16 + c.val)
      ∧ s'.sys.stopSeen.getLsbD c.val = true
      ∧ s'.yob = { s.yob with cgap := s.yob.cgap || decide (c = 4), clkStopped := s.yob.clkStopped || decide (c = 4) } := by
  refine ⟨clockStop s c, rfl, ?_⟩
  rw [clockStop_onset s c h]
  refine ⟨clockFault_reported rfl (by omega) (by omega) ha hb, ?_, (clockFault_keeps _ _).yob⟩
  rw [(clockFault_keeps _ _).stopSeen]
  exact (getLsbD_setBit6 _ c c true).trans (if_pos rfl)

theorem exec_clockStop_seen (h : s.sys.stopSeen.getLsbD c.val = true) : exec (.clockStop c) s = .next s :=
  congrArg Host.Outcome.next (if_pos h)

theorem pllLossOfLock_completes (ha : live s.fcu.a = true) (hb : live s.fcu.b = true) (h : s.sys.lolSeen = false) :
    Completes .pllLossOfLock s fun s' => ClockReported s s' 30 ∧ bitOf (s'.rd Adr.sysClkstat) 31 = false
      ∧ s'.sys.lolSeen = true := by
  have hbit : bitOf ((s.up Adr.sysClkstat fun w => putBit w 31 false).rd Adr.sysClkstat) 31 = false := by
    rw [State.rd_up_self, bitOf_putBit, if_pos rfl, Bool.and_false]
  have hnew : ¬ (s.up Adr.sysClkstat fun w => putBit w 31 false).sys.lolSeen = true := by
    rw [State.up_sys, h]
    exact Bool.false_ne_true
  refine ⟨_, congrArg Host.Outcome.next (if_neg hnew), ?_⟩
  obtain ⟨r, hr⟩ := RegsOnly.up s Adr.sysClkstat fun w => putBit w 31 false
  rw [hr] at hbit ⊢
  refine ⟨clockFault_reported rfl (by decide) (by decide) ha hb, ?_, (clockFault_keeps _ 30).lolSeen⟩
  rwa [clockFault_clkstat _ 30 (by decide), if_neg (by decide), State.rd_setSys]

theorem pllLockRegained_completes : Completes .pllLockRegained s fun s' => bitOf (s'.rd Adr.sysClkstat) 31 = true
    ∧ SameRegs s s' [Adr.sysClkstat] ∧ (∀ i, i ≠ 31 → bitOf (s'.rd Adr.sysClkstat) i = bitOf (s.rd Adr.sysClkstat) i)
    ∧ s' = { s with regs := s'.regs, sys := { s.sys with lolSeen := false } } := by
  have hbit (i : Nat) : bitOf ((s.up Adr.sysClkstat fun w => putBit w 31 true).rd Adr.sysClkstat) i =
      if i = 31 then decide (i < 64) && true else bitOf (s.rd Adr.sysClkstat) i := by
    rw [State.rd_up_self, bitOf_putBit]
  have hsame (a : Nat) (ha : a ≠ Adr.sysClkstat) := State.rd_up_ne s Adr.sysClkstat a (fun w => putBit w 31 true) ha
  have hexec : exec .pllLockRegained s = .next { s.up Adr.sysClkstat (fun w => putBit w 31 true) with
      sys := { s.sys with lolSeen := false } } := rfl
  obtain ⟨r, hr⟩ := RegsOnly.up s Adr.sysClkstat fun w => putBit w 31 true
  rw [hr] at hbit hsame hexec
  exact ⟨_, hexec, hbit 31, fun a ha => hsame a (by simpa using ha), fun i hi => (hbit i).trans (if_neg hi), rfl⟩

end

/-- Settles O48: each onset is a clock fault, and a report to the units leaves the clock monitor's own state alone. -/
theorem clocksAreWatched : Obligations.ClocksAreWatched := fun s ha hb =>
  ⟨execClockMonitorWindow_zero s, fun off _ => clockMonitorWindow_onset off s ha hb, fun c => clockStop_completes s c ha hb,
    exec_clockStop_seen s, pllLossOfLock_completes s ha hb, pllLockRegained_completes s⟩

end Sys2Proof.Machine
end

section
/-! The issue of one instruction by a triad that is Ready, in general: what every lane in use takes, and the exceptions
that are met in front of it (R64, R67, R80, R142, R161). -/

namespace Sys2Proof.Machine

/-! ### Updates of a triad -/

theorem State.setTriad_congr (s : State) (t : TriadId) {f g : Triad → Triad} (h : f (s.tri t) = g (s.tri t)) :
    s.setTriad t f = s.setTriad t g := by
  unfold State.setTriad vmod
  exact congrArg (fun x => { s with triads := s.triads.set t.val x t.isLt }) h

theorem State.setTriad_setTriad (s : State) (t : TriadId) (f g : Triad → Triad) :
    (s.setTriad t f).setTriad t g = s.setTriad t fun x => g (f x) := by
  simp [State.setTriad, vmod]

theorem endSlot_of_closed {s : State} {t : TriadId} (h : (s.tri t).slotOpen = false) : endSlot s t = s :=
  State.setTriad_id _ _ _ (by simp [Triad.endSlot, h])

/-- A triad that has an entry put in front of its next bundle (R80, R161). -/
def trapped (s : State) (t : TriadId) (vec : Nat) (f : Option Frec) : State :=
  s.setTriad t fun x => { x with entry := some (x.exc vec (s.leadCore t).pc f), delay := none, first := none }

/-- The exception of the one operation of a bundle is the bundle's (R142). -/
theorem bundleExc_of_opExc {s : State} {t : TriadId} {c : LaneCore} {op : Op} {rank vec : Nat} {f : Option Frec}
    (hx : opExc s t c c.pc false op = some (rank, vec, f)) : bundleExc s t c false none op true = some (vec, f) := by
  simp [bundleExc, bundleOps, hx]

section
variable {s : State} {t : TriadId} (h : Ready s t)
include h

theorem Ready.raise (vec : Nat) (f : Option Frec) : raise s t vec f = trapped s t vec f :=
  State.setTriad_congr s t (by
    simp [Triad.raise, Triad.raiseAt, h.entry, Triad.faultPc, h.delay, State.leadCore, Triad.lane])

/-- The exception that an instruction alone in its bundle meets, but illegal instruction and a translation fault, is taken
with the PC of the bundle (R142, R161). -/
theorem opCommand_traps {op : Op} {rank vec : Nat} {f : Option Frec}
    (hx : opExc s t (s.leadCore t) (s.leadCore t).pc false op = some (rank, vec, f)) (h1 : vec ≠ 1) (h4 : vec ≠ 4) :
    opCommand s t true op = trapped s t vec f := by
  have hb := bundleExc_of_opExc hx
  have hr := h.noRepeat
  rw [opCommand_alone h, issueBundle]
  unfold State.leadCore at hb hr
  simp only [h.delay, hr, Option.isSome_none, Bool.false_and, Bool.false_eq_true, if_false, hb, if_neg h4]
  exact h.raise vec f

/-- An instruction without access to memory or effect on a cache, alone in its bundle: every lane in use takes it, and the
delay slot, the entry and the close that it asks for are due. -/
theorem opCommand_issues (op : Op) (hx : opExc s t (s.leadCore t) (s.leadCore t).pc false op = none)
    (hi : iinvWaits (s.tri t) op = false) (hm : memOf [op] = none) (hc : ∀ (s : State) (c : LaneCore), cacheOp s t c op = s)
    (hd : delayDue s t [(op, (s.leadCore t).pc, 1)] 4 op = 0) :
    Issued s (opCommand s t true op) t (fun c => nextCore
        { c with flight := cancelUnit op c.flight ++ opResults c (aloneCtx s t op) op } op 4 false none) (fun _ => [])
      ∧ ((opCommand s t true op).tri t).delay = delayOf (s.leadCore t) (s.leadCore t).pc op := by
  rw [opCommand_alone h, issueBundle_alone h op (bundleExc_alone _ _ _ _ hx) hi hd, issueMem_none _ _ _ _ (by simpa using hm),
    Option.getD_some]
  obtain ⟨hlanes, hidle, hothers, hmem, hslots, -, hdelay, -⟩ := issueNow_alone op hc (fun _ => 0) true none (t := t) (s := s)
  have hpc (c : LaneCore) (x : OpCtx) (pc : Word) : opResults c { x with pc := pc } op = opResults c x op := by
    cases op <;> rfl
  refine ⟨⟨fun l hl => ?_, fun l hl => ?_, hidle, hothers, hmem, hslots⟩, hdelay⟩
  · rw [hlanes l hl]
    simp only [laneIssue, startRep, List.foldl_cons, List.foldl_nil, Lane.act, h.delay, Bool.false_eq_true, if_false]
    rw [← hpc _ (aloneCtx s t op)]
    rfl
  · rw [hlanes l hl]
    simp [laneIssue, startRep, Lane.act]

end

end Sys2Proof.Machine
end

section
/-! The integer instructions (R71 to R74, R118 to R120, R125). -/

namespace Sys2Proof.Machine

/-! ### What the register functions compute -/

section
variable (a b : Word) (i : BitVec 16) (sh : BitVec 6)

theorem aluResult_slt : aluResult .slt a b = if a.toInt < b.toInt then 1 else 0 := by simp [aluResult, BitVec.slt]
theorem aluResult_sltu : aluResult .sltu a b = if a.toNat < b.toNat then 1 else 0 := by simp [aluResult, BitVec.ult]
theorem aluResult_min : aluResult .min a b = if a.toInt < b.toInt then a else b := by simp [aluResult, BitVec.slt]
theorem aluResult_max : aluResult .max a b = if a.toInt < b.toInt then b else a := by simp [aluResult, BitVec.slt]
theorem aluResult_minu : aluResult .minu a b = if a.toNat < b.toNat then a else b := by simp [aluResult, BitVec.ult]
theorem aluResult_maxu : aluResult .maxu a b = if a.toNat < b.toNat then b else a := by simp [aluResult, BitVec.ult]

theorem aluResult_zxw : aluResult .zxw a b = BitVec.ofNat 64 (a.toNat % 2 ^ 32) := by
  apply BitVec.eq_of_toNat_eq
  simp [aluResult]

theorem immResult_slti : immResult .slti a i = if a.toInt < i.toInt then 1 else 0 := by
  simp [immResult, BitVec.slt, BitVec.toInt_signExtend_of_le]

theorem immResult_sltiu : immResult .sltiu a i = if a.toNat < (i.signExtend 64).toNat then 1 else 0 := by
  simp [immResult, BitVec.ult]

/-- A shift count of six bits stands in the immediate as it is (R125). -/
theorem toNat_shiftImm : (sh.setWidth 16).toNat = sh.toNat := by
  simp only [BitVec.toNat_setWidth]
  omega

theorem shiftImm_mod : (sh.setWidth 16).toNat % 64 = sh.toNat := by
  rw [toNat_shiftImm, Nat.mod_eq_of_lt sh.isLt]

theorem immResult_slli : immResult .slli a (sh.setWidth 16) = a <<< sh.toNat := by rw [immResult, shiftImm_mod]
theorem immResult_srli : immResult .srli a (sh.setWidth 16) = a >>> sh.toNat := by rw [immResult, shiftImm_mod]
theorem immResult_srai : immResult .srai a (sh.setWidth 16) = a.sshiftRight sh.toNat := by rw [immResult, shiftImm_mod]

end

/-! ### Their results start -/

section
variable {s : State} {t : TriadId} (h : Ready s t)
include h

/-- A register instruction that meets no exception starts its one result (R118). -/
theorem starts_alu {i : Bool → Instr} {fn : AluFn} {rd a b : Reg} {f : LaneCore → Word}
    (hx : opArith (s.leadCore t) (.alu fn rd a b) = false) (hf : ∀ c, aluResult fn (c.rg a) (c.rg b) = f c)
    (he : ∀ e, exec (i e) s = .next (opCommand s t e (.alu fn rd a b)) := by exact fun _ => rfl) :
    Starts s t i (.alu fn rd a b) (gives rd f) := by
  refine Starts.of h i _ _ he (by rw [opExc_alu, hx]; rfl) rfl rfl nofun (fun _ _ => rfl) (fun _ => rfl) (fun _ => rfl)
    (fun c x y hi hs => by simp only [opResults, hi, hs]) fun c => ?_
  simp only [gives, ← hf c]
  rfl

theorem starts_imm {i : Bool → Instr} {fn : ImmFn} {rd a : Reg} {v : BitVec 16} {f : LaneCore → Word}
    (hx : opEncodable (.imm fn rd a v) = true) (hf : ∀ c, immResult fn (c.rg a) v = f c)
    (he : ∀ e, exec (i e) s = .next (opCommand s t e (.imm fn rd a v)) := by exact fun _ => rfl) :
    Starts s t i (.imm fn rd a v) (gives rd f) := by
  refine Starts.of h i _ _ he (opExc_imm s t _ _ fn rd a v hx) rfl rfl nofun (fun _ _ => rfl) (fun _ => rfl) (fun _ => rfl)
    (fun c x y hi hs => by simp only [opResults, hi, hs]) fun c => ?_
  simp only [gives, ← hf c]
  rfl

end

theorem opEncodable_shift (fn : ImmFn) (hfn : fn ≠ .lui) (rd a : Reg) (sh : BitVec 6) :
    opEncodable (.imm fn rd a (sh.setWidth 16)) = true := by
  have hlt : (sh.setWidth 16).toNat < 64 := by rw [toNat_shiftImm]; exact sh.isLt
  cases fn
  case lui => contradiction
  case slli | srli | srai => exact decide_eq_true hlt
  all_goals rfl

theorem integerResults : Clause.IntegerResults := by
  intro s t h rd a b i sh
  refine ⟨starts_alu h rfl fun _ => rfl, starts_alu h rfl fun _ => rfl, starts_alu h rfl fun _ => rfl,
    starts_alu h rfl fun _ => rfl, starts_alu h rfl fun _ => rfl, starts_alu h rfl fun _ => rfl,
    starts_alu h rfl fun _ => rfl, starts_alu h rfl fun _ => rfl, starts_alu h rfl fun _ => rfl,
    starts_alu h rfl fun _ => aluResult_slt _ _, starts_alu h rfl fun _ => aluResult_sltu _ _,
    starts_alu h rfl fun _ => aluResult_min _ _, starts_alu h rfl fun _ => aluResult_max _ _,
    starts_alu h rfl fun _ => aluResult_minu _ _, starts_alu h rfl fun _ => aluResult_maxu _ _,
    starts_alu h rfl fun _ => rfl, starts_alu h rfl fun _ => aluResult_zxw _ _,
    starts_imm h rfl fun _ => rfl, starts_imm h rfl fun _ => rfl, starts_imm h rfl fun _ => rfl,
    starts_imm h rfl fun _ => rfl, starts_imm h rfl fun _ => immResult_slti _ _,
    starts_imm h rfl fun _ => immResult_sltiu _ _,
    starts_imm h (opEncodable_shift .slli nofun rd a sh) fun _ => immResult_slli _ _,
    starts_imm h (opEncodable_shift .srli nofun rd a sh) fun _ => immResult_srli _ _,
    starts_imm h (opEncodable_shift .srai nofun rd a sh) fun _ => immResult_srai _ _,
    starts_imm h rfl fun _ => rfl⟩

theorem addOverflows_eq_false {a b : Word} (h : -2 ^ 63 ≤ a.toInt + b.toInt ∧ a.toInt + b.toInt < 2 ^ 63) :
    addOverflows a b = false := decide_eq_false (by omega)

theorem subOverflows_eq_false {a b : Word} (h : -2 ^ 63 ≤ a.toInt - b.toInt ∧ a.toInt - b.toInt < 2 ^ 63) :
    subOverflows a b = false := decide_eq_false (by omega)

theorem checkedSums : Clause.CheckedSums := fun _ _ h _ _ _ =>
  ⟨fun hfit => starts_alu h (addOverflows_eq_false hfit) fun _ => rfl,
    fun hfit => starts_alu h (subOverflows_eq_false hfit) fun _ => rfl⟩

/-- An arithmetic condition at issue traps (R73, R74, R142). -/
theorem opCommand_arith {s : State} {t : TriadId} (h : Ready s t) {op : Op}
    (hx : opExc s t (s.leadCore t) (s.leadCore t).pc false op = some (6, 8, none)) :
    opCommand s t true op = trapped s t 8 none := opCommand_traps h hx (by decide) (by decide)

theorem overflowTraps : Clause.OverflowTraps := by
  intro s t h rd a b x y w
  have htrap (fn : AluFn) (hov : opArith (s.leadCore t) (.alu fn rd a b) = true) :
      Host.Outcome.next (φ := Fault) (ρ := Refusal) (opCommand s t true (.alu fn rd a b)) = .next w :=
    congrArg _ (opCommand_arith h (by rw [opExc_alu, hov]; rfl))
  exact ⟨fun hov => htrap .addv (decide_eq_true hov), fun hov => htrap .subv (decide_eq_true hov)⟩

/-- Settles O1: each result is that of its function, and an overflow is the one condition that traps. -/
theorem integerArithmetic : Obligations.IntegerArithmetic := ⟨integerResults, checkedSums, overflowTraps⟩

end Sys2Proof.Machine
end

section
/-! Products, quotients and the moves of accumulator pairs (R71 to R73, R119, R120). -/

namespace Sys2Proof.Machine

/-! ### What the functions compute -/

theorem signExtend_mul (a b : Word) : a.signExtend 128 * b.signExtend 128 = BitVec.ofInt 128 (a.toInt * b.toInt) := by
  have hx (x : Word) : BitVec.ofInt 128 x.toInt = x.signExtend 128 := by
    rw [← BitVec.toInt_signExtend_of_le (show 64 ≤ 128 by decide), BitVec.ofInt_toInt]
  rw [BitVec.ofInt_mul, hx, hx]

theorem setWidth_mul (a b : Word) : a.setWidth 128 * b.setWidth 128 = BitVec.ofNat 128 (a.toNat * b.toNat) := by
  rw [BitVec.ofNat_mul, BitVec.ofNat_toNat, BitVec.ofNat_toNat]

/-- Quotient and remainder of DIV, truncated toward zero (R73). -/
theorem divResult_signed (a b : Word) :
    divResult true a b = (BitVec.ofInt 64 (a.toInt.tdiv b.toInt), BitVec.ofInt 64 (a.toInt.tmod b.toInt)) := by
  have hq : a.sdiv b = BitVec.ofInt 64 (a.toInt.tdiv b.toInt) := by
    apply BitVec.eq_of_toInt_eq
    rw [BitVec.toInt_sdiv, BitVec.toInt_ofInt]
  have hr : a.srem b = BitVec.ofInt 64 (a.toInt.tmod b.toInt) := by
    rw [← BitVec.toInt_srem, BitVec.ofInt_toInt]
  simp only [divResult, if_true, hq, hr]

theorem divResult_unsigned (a b : Word) :
    divResult false a b = (BitVec.ofNat 64 (a.toNat / b.toNat), BitVec.ofNat 64 (a.toNat % b.toNat)) := by
  have hq : a / b = BitVec.ofNat 64 (a.toNat / b.toNat) := by
    rw [← BitVec.toNat_udiv, BitVec.ofNat_toNat, BitVec.setWidth_eq]
  have hr : a % b = BitVec.ofNat 64 (a.toNat % b.toNat) := by
    rw [← BitVec.toNat_umod, BitVec.ofNat_toNat, BitVec.setWidth_eq]
  simp only [divResult, Bool.false_eq_true, if_false, hq, hr]

theorem highHalf (v : BitVec 128) : (v >>> 64).setWidth 64 = BitVec.ofNat 64 (v.toNat / 2 ^ 64) := by
  rw [← Nat.shiftRight_eq_div_pow, ← BitVec.toNat_ushiftRight, BitVec.ofNat_toNat]

/-! ### Their results start -/

section
variable {s : State} {t : TriadId} (h : Ready s t)
include h

/-- An operation of the multiply unit, or a move of accumulators, starts its results and nothing else (R71, R119). -/
theorem starts_mul {i : Bool → Instr} {fn : MulFn} {pd : BitVec 2} {a b : Reg} {f : LaneCore → BitVec 128}
    (hf : ∀ c, mulResult fn (c.rg a) (c.rg b) (c.rp pd) = f c)
    (he : ∀ e, exec (i e) s = .next (opCommand s t e (.mul fn pd a b)) := by exact fun _ => rfl) :
    Starts s t i (.mul fn pd a b) (givesPair pd f 4) := by
  refine Starts.of h i _ _ he (opExc_mul s t _ _ fn pd a b) rfl rfl nofun (fun _ _ => rfl) (fun _ => rfl) (fun _ => rfl)
    (fun c x y hi hs => by simp only [opResults, hi, hs]) fun c => ?_
  simp only [givesPair, ← hf c]
  rfl

theorem starts_mtp (pd : BitVec 2) (a b : Reg) :
    Starts s t (fun e => .mtp t e pd a b) (.mtp pd a b) (givesPair pd (fun c => c.rg b ++ c.rg a) 1) :=
  Starts.of h _ _ _ (fun _ => rfl) (opExc_mtp s t _ _ pd a b) rfl rfl nofun (fun _ _ => rfl) (fun _ => rfl) (fun _ => rfl)
    (fun c x y hi hs => by simp only [opResults, hi, hs]) fun _ => rfl

theorem starts_mfp {i : Bool → Instr} {hi : Bool} {rd : Reg} {ps : BitVec 2} {f : LaneCore → Word}
    (hf : ∀ c : LaneCore, (if hi then ((c.rp ps) >>> 64).setWidth 64 else (c.rp ps).setWidth 64) = f c)
    (he : ∀ e, exec (i e) s = .next (opCommand s t e (.mfp hi rd ps)) := by exact fun _ => rfl) :
    Starts s t i (.mfp hi rd ps) (gives rd f) := by
  refine Starts.of h i _ _ he (opExc_mfp s t _ _ hi rd ps) rfl rfl nofun (fun _ _ => rfl) (fun _ => rfl) (fun _ => rfl)
    (fun c x y hi hs => by simp only [opResults, hi, hs]) fun c => ?_
  simp only [gives, ← hf c]
  rfl

theorem starts_mfq (rd : Reg) (second : Bool) : Starts s t (fun e => .mfq t e rd second) (.mfq rd second)
    (gives rd fun c => if second then c.q1 else c.q0) :=
  Starts.of h _ _ _ (fun _ => rfl) (opExc_mfq s t _ _ rd second) rfl rfl nofun (fun _ _ => rfl) (fun _ => rfl)
    (fun _ => rfl) (fun c x y hi hs => by simp only [opResults, hi, hs]) fun _ => rfl

/-- A division with a divisor other than zero on the leading lane takes its unit over from the one in flight (R72). -/
theorem opCommand_div (sg : Bool) (a b : Reg) (hb : (s.leadCore t).rg b ≠ 0) :
    Issued s (opCommand s t true (.div sg a b)) t (fun c =>
      { c.onward (c.pc + 4) [] with flight := c.flight.filter (fun x => x.unit != .divide) ++
          [{ result (s.leadCore t).pc .q ((divResult sg (c.rg a) (c.rg b)).2 ++ (divResult sg (c.rg a) (c.rg b)).1) 24 with
              unit := .divide }] }) fun _ => [] :=
  (opCommand_issues h (.div sg a b) (by rw [opExc_div, if_neg hb]) rfl rfl (fun _ _ => rfl) rfl).1

end

theorem pairResults : Clause.PairResults := fun _ _ h rd _ _ _ =>
  ⟨starts_mul h fun _ => signExtend_mul _ _, starts_mul h fun _ => setWidth_mul _ _,
    starts_mul h fun _ => congrArg (_ + ·) (signExtend_mul _ _), starts_mul h fun _ => congrArg (_ + ·) (setWidth_mul _ _),
    starts_mtp h _ _ _, starts_mfp h fun _ => (BitVec.ofNat_toNat _ _).symm, starts_mfp h fun _ => highHalf _,
    starts_mfq h rd false, starts_mfq h rd true⟩

theorem divisions : Clause.Divisions := by
  intro s t h a b onLead put
  refine ⟨fun hb => ⟨⟨_, rfl, ?_⟩, ⟨_, rfl, ?_⟩⟩, fun hb i hi => ?_⟩
  · have hdiv := opCommand_div h true a b hb
    simp only [divResult_signed] at hdiv
    exact hdiv
  · have hdiv := opCommand_div h false a b hb
    simp only [divResult_unsigned] at hdiv
    exact hdiv
  · have htrap (sg : Bool) : Host.Outcome.next (φ := Fault) (ρ := Refusal) (opCommand s t true (.div sg a b)) =
        .next (trapped s t 8 none) := congrArg _ (opCommand_arith h (by rw [opExc_div, if_pos hb]))
    rcases List.mem_pair.mp hi with rfl | rfl
    · exact htrap true
    · exact htrap false

/-- Settles O2: products and quotients are those of the integers, and a zero divisor traps. -/
theorem productsAndQuotients : Obligations.ProductsAndQuotients := ⟨pairResults, divisions⟩

end Sys2Proof.Machine
end

section
/-! The floating-point instructions (R75 to R78, R121 to R124). -/

namespace Sys2Proof.Machine

/-! ### What an operation of the FP unit starts, by its unit -/

/-- The result of an FP function on the registers of a lane (R76, R121). -/
def LaneCore.fpValue (c : LaneCore) (fn : FpFn) (single : Bool) (a b e : Reg) : FRes :=
  fpResult fn single (pswRM c.psw) (if fpFromG fn then c.rg a else c.rf a) (c.rf b) (c.rf e)

section
variable {fn : FpFn} (h1 : fn ≠ .fdiv) (h2 : fn ≠ .fsqrt) (single : Bool) (rd a b e : Reg)
include h1 h2

/-- All FP functions but FDIV and FSQRT start one result at distance 4, with its flags (R66, R78). -/
theorem opResults_fp (c : LaneCore) (x : OpCtx) : opResults c x (.fp fn single rd a b e) =
    [{ result x.ipc (if fpToG fn then .g rd else .f rd) (BitVec.ofNat 128 (c.fpValue fn single a b e).bits) 4 with
        flags := BitVec.ofNat 5 (c.fpValue fn single a b e).flags, slot := x.slot }] := by
  cases fn
  case fdiv | fsqrt => contradiction
  all_goals rfl

theorem cancelUnit_fp (fl : List Result) : cancelUnit (.fp fn single rd a b e) fl = fl := by
  cases fn
  case fdiv | fsqrt => contradiction
  all_goals rfl

end

section
variable {s : State} {t : TriadId} (h : Ready s t)
include h

theorem starts_fp {i : Bool → Instr} {fn : FpFn} {single : Bool} {rd a b e : Reg} {d : Dest} {f : LaneCore → FRes}
    (h1 : fn ≠ .fdiv) (h2 : fn ≠ .fsqrt) (hd : (if fpToG fn then Dest.g rd else .f rd) = d)
    (hf : ∀ c, c.fpValue fn single a b e = f c)
    (he : ∀ x, exec (i x) s = .next (opCommand s t x (.fp fn single rd a b e)) := by exact fun _ => rfl) :
    Starts s t i (.fp fn single rd a b e) fun pc c =>
      [{ result pc d (BitVec.ofNat 128 (f c).bits) 4 with flags := BitVec.ofNat 5 (f c).flags }] := by
  refine Starts.of h i _ _ he (opExc_fp s t _ _ fn single rd a b e) rfl rfl (by cases fn <;> nofun) (fun _ _ => rfl)
    (fun _ => rfl) (cancelUnit_fp h1 h2 single rd a b e)
    (fun c x y hi hs => by rw [opResults_fp h1 h2, opResults_fp h1 h2, hi, hs]) fun c => ?_
  rw [opResults_fp h1 h2, hf c, hd]
  rfl

end

theorem floatRounded : Clause.FloatRounded := by
  intro s t h single rd a b e v put rm
  exact ⟨starts_fp h nofun nofun rfl fun _ => rfl, starts_fp h nofun nofun rfl fun _ => rfl,
    starts_fp h nofun nofun rfl fun _ => rfl, starts_fp h nofun nofun rfl fun _ => rfl,
    starts_fp h nofun nofun rfl fun _ => rfl, starts_fp h nofun nofun rfl fun _ => rfl,
    starts_fp h nofun nofun rfl fun _ => rfl, starts_fp h nofun nofun rfl fun _ => rfl⟩

/-- FDIV and FSQRT take their unit over from the operation in flight (R75). -/
theorem floatDivides : Clause.FloatDivides := by
  intro s t h single rd a b v put
  have hissues (fn : FpFn) (x y : Reg) (hi : iinvWaits (s.tri t) (.fp fn single rd x y 0) = false)
      (hd : delayDue s t [(.fp fn single rd x y 0, (s.leadCore t).pc, 1)] 4 (.fp fn single rd x y 0) = 0) :=
    (opCommand_issues h (.fp fn single rd x y 0) (opExc_fp s t _ _ fn single rd x y 0) hi rfl (fun _ _ => rfl) hd).1
  exact ⟨⟨_, rfl, hissues .fdiv a b rfl rfl⟩, ⟨_, rfl, hissues .fsqrt a 0 rfl rfl⟩⟩

/-- Settles O3: the value that each function rounds once, and the distance of its unit. -/
theorem floatArithmetic : Obligations.FloatArithmetic := ⟨floatRounded, floatDivides⟩

/-- Settles O4: the exact functions deliver the bits of their operands. -/
theorem floatExact : Obligations.FloatExact := by
  intro s t h single rd a b low sign v nan put
  have hsign : 2 ^ ((fmtOf single).eb + (fmtOf single).mb) = sign := by cases single <;> rfl
  refine ⟨starts_fp h nofun nofun rfl fun c => ?_, starts_fp h nofun nofun rfl fun c => ?_,
    starts_fp h nofun nofun rfl fun _ => rfl, starts_fp h nofun nofun rfl fun _ => rfl,
    starts_fp h nofun nofun rfl fun _ => rfl, starts_fp h nofun nofun rfl fun _ => rfl,
    starts_fp h nofun nofun rfl fun _ => rfl, starts_fp h nofun nofun rfl fun _ => rfl,
    starts_fp h nofun nofun rfl fun _ => rfl, starts_fp h nofun nofun rfl fun _ => rfl⟩
  · rw [← hsign]
    rfl
  · rw [← hsign]
    rfl

end Sys2Proof.Machine
end

section
/-! Walks in front of which a bank keeps a refused write (R293, R348): what the walk reads is the memory behind that
write. -/

namespace Sys2Proof.Machine

/-- A leaf of level 1 stands at 0x1000, and bank 0 keeps a write of zero to its first octet (R293, R348). -/
def keptUnderWalk : State :=
  { State.reset.wr (Adr.tapuCtx 0) 0x8000000000001000 with
    mem := [(0x1000, 3)]
    sram := { Sram.reset with collided := Sram.reset.collided.set 0 (some ⟨.gate 0 0, 0x1000, [(0, true)]⟩) } }

/-- The bank performs the write that it keeps in front of the walk's read, so that the entry read is not valid. -/
theorem pageWalk_keptUnderWalk : (pageWalk keptUnderWalk (.core 0) 0).busData = 0x8000000000000012 := by decide +kernel

/-- No condition of the clause excludes a kept write, and the octets in memory are not those that the walk reads. -/
theorem not_walkAtLevelOne : ¬ Clause.WalkAtLevelOne := by
  intro h
  obtain ⟨s', hs, hbus, -⟩ := h keptUnderWalk 0 0 3 (by decide +kernel) (by decide +kernel) (by decide +kernel)
    (by decide +kernel) (by decide +kernel) (by decide +kernel) (by decide +kernel) (by decide +kernel)
    (by decide +kernel) (by decide +kernel) (by decide +kernel) (by decide +kernel)
  rw [← Host.Outcome.next.inj hs, pageWalk_keptUnderWalk] at hbus
  exact absurd hbus (by decide +kernel)

/-- Refutes O14: with a write kept by the bank of the leaf, the walk reads the entry behind that write and faults. -/
theorem not_fetchWalkArrival : ¬ Obligations.FetchWalkArrival := fun h => not_walkAtLevelOne h.2

end Sys2Proof.Machine
end

section
/-! Branches, transfers, delay slots, and the bundles that may not hold two instructions (R59, R61, R83 to R90, R110, R115,
R130, R131). -/

namespace Sys2Proof.Machine

/-! ### Branches -/

/-- With no load in the delay slot, no boundary moves in front of the branch (R207). -/
theorem delayDue_noLoadBehind {s : State} {t : TriadId} (h : Clause.NoLoadBehind s t) (op : Op) :
    delayDue s t [(op, (s.leadCore t).pc, 1)] 4 op = 0 := by
  unfold delayDue
  extract_lets x l c
  split
  · next d fn r rb post off hd hm =>
    rw [if_pos]
    exact h.imp_right fun hload => .inr (hload (fn, r, rb, post, off) hm)
  · rfl

section
variable {s : State} {t : TriadId} (h : Ready s t)
include h

theorem bcc_opens (hb : Clause.NoLoadBehind s t) {i : Bool → Instr} (k : Cond) (annul : Bool) (a b : Reg) (off : BitVec 12)
    {taken : Bool} (hk : condHolds k ((s.leadCore t).rg a) ((s.leadCore t).rg b) = taken)
    (he : ∀ e, exec (i e) s = .next (opCommand s t e (.bcc k annul a b off)) := by exact fun _ => rfl) :
    Clause.Held s t i (.bcc k annul a b off)
      ∧ Completes (i true) s (fun s' => Issued s s' t (fun c => c.onward (c.pc + 4) []) (fun _ => [])
        ∧ (s'.tri t).delay = some
            { branchPc := (s.leadCore t).pc
              target := if taken then some ((s.leadCore t).pc + off.signExtend 64 * 4) else none
              annul := annul && !taken }) := by
  refine ⟨(he false).trans (congrArg _ (opCommand_first h _)), _, he true, ?_⟩
  obtain ⟨hissued, hdelay⟩ := opCommand_issues h (.bcc k annul a b off) (opExc_bcc s t _ _ k annul a b off) rfl rfl
    (fun _ _ => rfl) (delayDue_noLoadBehind hb _)
  refine ⟨hissued, hdelay.trans ?_⟩
  rw [delayOf_bcc, hk, wordOff12_eq]

/-- An unconditional transfer to `target` that starts the results `rs`. -/
theorem transfer_opens (hb : Clause.NoLoadBehind s t) {i : Bool → Instr} {op : Op} {rs : List Result} {target : Word}
    (hx : opExc s t (s.leadCore t) (s.leadCore t).pc false op = none)
    (hrs : ∀ c : LaneCore, nextCore { c with flight := cancelUnit op c.flight ++ opResults c (aloneCtx s t op) op } op 4 false none
      = c.onward (c.pc + 4) rs)
    (hd : delayOf (s.leadCore t) (s.leadCore t).pc op =
      some { branchPc := (s.leadCore t).pc, target := some target, annul := false })
    (hi : iinvWaits (s.tri t) op = false := by rfl) (hm : memOf [op] = none := by rfl)
    (hc : ∀ (s : State) (c : LaneCore), cacheOp s t c op = s := by exact fun _ _ => rfl)
    (he : ∀ e, exec (i e) s = .next (opCommand s t e op) := by exact fun _ => rfl) :
    Clause.Held s t i op
      ∧ Completes (i true) s (fun s' => Issued s s' t (fun c => c.onward (c.pc + 4) rs) (fun _ => [])
        ∧ (s'.tri t).delay = some { branchPc := (s.leadCore t).pc, target := some target, annul := false }) := by
  refine ⟨(he false).trans (congrArg _ (opCommand_first h _)), _, he true, ?_⟩
  obtain ⟨hissued, hdelay⟩ := opCommand_issues h op hx hi hm hc (delayDue_noLoadBehind hb op)
  simp only [hrs] at hissued
  exact ⟨hissued, hdelay.trans hd⟩

end

theorem condHolds_eq (k : Cond) (a b : Word) : condHolds k a b = match k with
    | .beq => decide (a = b) | .bne => decide (a ≠ b) | .blt => decide (a.toInt < b.toInt)
    | .bge => decide (b.toInt ≤ a.toInt) | .bltu => decide (a.toNat < b.toNat) | .bgeu => decide (b.toNat ≤ a.toNat) := by
  cases k with
  | beq => exact beq_eq_decide a b
  | bne => exact (congrArg (!·) (beq_eq_decide a b)).trans decide_not.symm
  | blt => rfl
  | bltu => rfl
  | bge => exact decide_not.symm.trans (decide_eq_decide.mpr not_lt)
  | bgeu => exact decide_not.symm.trans (decide_eq_decide.mpr not_lt)

theorem conditionalBranches : Clause.ConditionalBranches := by
  intro s t h annul a b off hb c does
  have hdoes {i : Bool → Instr} (k : Cond) (he : ∀ e, exec (i e) s = .next (opCommand s t e (.bcc k annul a b off))) :=
    bcc_opens h hb k annul a b off (condHolds_eq k (c.rg a) (c.rg b)) he
  exact ⟨hdoes .beq fun _ => rfl, hdoes .bne fun _ => rfl, hdoes .blt fun _ => rfl, hdoes .bge fun _ => rfl,
    hdoes .bltu fun _ => rfl, hdoes .bgeu fun _ => rfl⟩

theorem transfers : Clause.Transfers := by
  intro s t h off r hb c fall does
  refine ⟨transfer_opens h hb (opExc_br s t _ _ off) (fun _ => rfl) ?_,
    transfer_opens h hb (opExc_call s t _ _ off) (fun _ => rfl) ?_,
    transfer_opens h hb (opExc_jr s t _ _ r) (fun _ => rfl) (delayOf_jr _ _ _),
    transfer_opens h hb (opExc_callr s t _ _ r) (fun _ => rfl) (delayOf_callr _ _ _),
    transfer_opens h hb (opExc_ret s t _ _) (fun _ => rfl) (delayOf_ret _ _)⟩
  · rw [delayOf_br, wordOff25_eq]
  · rw [delayOf_call, wordOff25_eq]

end Sys2Proof.Machine
end

section
/-! The instruction in a delay slot, and the second word of a bundle that may not hold two instructions (R61, R83, R85,
R115, R141). -/

namespace Sys2Proof.Machine

/-! ### Updates that leave the lanes -/

theorem Triad.lead_congr {x y : Triad} (h : x.lanes = y.lanes) : x.lead = y.lead := by
  unfold Triad.lead Triad.actives Triad.act
  rw [h]

theorem State.leadCore_setTriad (s : State) (t : TriadId) {f : Triad → Triad} (h : (f (s.tri t)).lanes = (s.tri t).lanes) :
    (s.setTriad t f).leadCore t = s.leadCore t := by
  unfold State.leadCore Triad.lane
  rw [State.tri_setTriad, Triad.lead_congr h, h]

theorem LaneCore.onward_nil (c : LaneCore) (pc : Word) : c.onward pc [] = c.setCur fun b => { b with pc := pc } := by
  rw [LaneCore.onward, List.append_nil]
  rfl

/-! ### In a delay slot -/

section
variable {s : State} {t : TriadId} {d : Delay} (hd : (s.tri t).delay = some d)
  (h : Ready (s.setTriad t fun x => { x with delay := none }) t)
include hd h

/-- Between a branch and its delay slot nothing else happens: the instruction issues as soon as it comes (R83). -/
theorem opCommand_inDelay (op : Op) : opCommand s t true op = (issueBundle s t none op true).getD s := by
  have hslot : (s.tri t).slotOpen = false := by simpa using h.slot
  have hruns : (s.tri t).runs = true := by simpa [Triad.runs] using h.runs
  have hrecovery : (s.tri t).rollbackDue = false := by simpa using h.recovery
  have hforced : (s.tri t).forced = false := by simpa using h.forced
  have hfirst : (s.tri t).first = none := by simpa using h.first
  have hcan : canIssue s t = true := by
    simp [canIssue, hruns, show modeOf s ≠ 5 from h.awake, hrecovery, hforced, hd]
  simp [opCommand, endSlot_of_closed hslot, hcan, Triad.frozen, hslot, hfirst]

/-- An annulled delay slot is one slot in which every lane in use goes on behind it (R85). -/
theorem opCommand_annulled (ha : d.annul = true) (op : Op) : opCommand s t true op = issueAnnulled s t 4 d := by
  rw [opCommand_inDelay hd h]
  simp [issueBundle, hd, ha]

/-- An instruction that meets no exception in the delay slot acts there. -/
theorem opCommand_delayed (ha : d.annul = false) {op : Op} (hx : opExc s t (s.leadCore t) (s.leadCore t).pc true op = none)
    (hi : iinvWaits (s.tri t) op = false) (hm : memOf [op] = none) (hb : opClass op ≠ .branch) :
    opCommand s t true op = issueNow s t false [(op, (s.leadCore t).pc, 1)] 4 op (fun _ => 0) true none := by
  have hr : pswRP (s.leadCore t).psw = false :=
    (congrArg (fun c => pswRP (LaneCore.psw c)) (State.leadCore_setTriad s t rfl)).symm.trans h.noRepeat
  have hexc : bundleExc s t (s.leadCore t) true none op true = none := by simp [bundleExc, bundleOps, hx]
  have hdue : delayDue s t [(op, (s.leadCore t).pc, 1)] 4 op = 0 := by simp [delayDue, delayOf, hb]
  have hmem := issueMem_none (s := s) (t := t) false [(op, (s.leadCore t).pc, 1)] 4 op (by simpa using hm)
  rw [opCommand_inDelay hd h]
  unfold State.leadCore at *
  simp [issueBundle, hd, ha, hr, hexc, hi, bundleOps, hdue, hmem]

end

/-- What an annulled delay slot leaves. -/
theorem issueAnnulled_spec (s : State) (t : TriadId) (size : Nat) (d : Delay) :
    let s' := issueAnnulled s t size d
    (s'.tri t).delay = none ∧ s'.mem = s.mem ∧ (s'.tri t).slots = (s.tri t).slots + 1
      ∧ ∀ l, (s.tri t).act l = true → ((s'.tri t).lane l).core = nextCore ((s.tri t).lane l).core .close size false (some d) := by
  intro s'
  have hs : s' = issueAnnulled s t size d := rfl
  obtain ⟨s1, n, hregs, hcount⟩ := countSlot_spec s t
  rw [issueAnnulled, hcount, State.setTriad_setTriad] at hs
  have htri := congrArg (fun z => State.tri z t) hs
  simp only [State.tri_setTriad, hregs.tri] at htri
  refine ⟨by rw [htri], by rw [hs]; exact hregs.mem, by rw [htri]; rfl, fun l hl => ?_⟩
  simp [htri, Triad.lane, hl]

theorem delaySlots : Clause.DelaySlots := by
  intro s t d rd a b hd h
  refine ⟨_, rfl, ?_⟩
  cases ha : d.annul with
  | true =>
    rw [opCommand_annulled hd h ha]
    obtain ⟨hdelay, hmem, hslots, hlanes⟩ := issueAnnulled_spec s t 4 d
    refine ⟨hdelay, hmem, hslots, fun l hl => (hlanes l hl).trans ?_⟩
    rw [if_pos rfl, LaneCore.onward_nil]
    rfl
  | false =>
    rw [opCommand_delayed hd h ha (op := .alu .add rd a b) rfl rfl rfl nofun]
    obtain ⟨hlanes, -, -, hmem, hslots, -, hdelay, -⟩ :=
      issueNow_alone (.alu .add rd a b) (fun _ _ => rfl) (fun _ => 0) true none (t := t) (s := s)
    refine ⟨hdelay, hmem, hslots, fun l hl => ?_⟩
    rw [hlanes l hl]
    simp only [laneIssue, hd]
    rfl

/-! ### Bundles that may not hold two instructions -/

/-- Triad t holds o as the first word of its bundle (R59). -/
def heldFirst (s : State) (t : TriadId) (o : Op) : State := s.setTriad t fun x => { x with first := some o }

section
variable (s : State) (t : TriadId) (o : Op)

theorem heldFirst_tri : (heldFirst s t o).tri t = { s.tri t with first := some o } := State.tri_setTriad _ _ _

theorem heldFirst_leadCore : (heldFirst s t o).leadCore t = s.leadCore t := State.leadCore_setTriad s t rfl

/-- A held first word changes nothing about when the triad may issue. -/
theorem heldFirst_canIssue : canIssue (heldFirst s t o) t = canIssue s t := by
  simp only [canIssue, boundaryWait, heldByEvent, eventDue, owedEntry, deliverable, bestEvent, pendingEvents, isSplit,
    rotationDue, rotationFound, modeOf, heldFirst, State.tri_setTriad, State.rd_setTriad, State.setTriad_sys]
  rfl

end

section
variable {s : State} {t : TriadId} (h : Ready s t)
include h

/-- The second word completes the bundle, whose first was held (R59). -/
theorem opCommand_second (o op : Op) : opCommand (heldFirst s t o) t true op =
    (issueBundle (heldFirst s t o) t (some o) op true).getD (heldFirst s t o) := by
  have hslot : ((heldFirst s t o).tri t).slotOpen = false := by rw [heldFirst_tri]; exact h.slot
  have hfirst : ((heldFirst s t o).tri t).first = some o := by rw [heldFirst_tri]
  simp [opCommand, endSlot_of_closed hslot, heldFirst_canIssue, h.canIssue, Triad.frozen, hslot, hfirst]

/-- A RETE alone in its bundle that meets no exception returns as soon as every load's data is there; any other one goes the
way of every instruction (R183, R184). -/
theorem Ready.reteCommand (e : Bool) : reteCommand s t e =
    if e && (bundleExc s t (s.leadCore t) false none .rete true).isNone then
      (if (s.leadCore t).waiting then s else rete s t)
    else opCommand s t e .rete := by
  have hlead : (s.tri t).lanes[(s.tri t).lead].core = s.leadCore t := rfl
  simp only [Machine.reteCommand, h.endSlot, h.frozen, h.canIssue, h.first, h.delay, hlead, h.noRepeat, Option.isNone_none,
    Bool.false_and, Bool.not_false, Bool.not_true, Bool.and_true, Bool.or_false, Bool.false_eq_true, if_false]
  cases e && (bundleExc s t (s.leadCore t) false none .rete true).isNone <;> rfl

/-- Two words that may not share a bundle make it illegal, with the PC of the bundle (R61, R105, R141). -/
theorem opCommand_unpairable {o op : Op} (hp : pairLegal o op = false) (hop : opClass op ≠ .prefx) :
    opCommand (heldFirst s t o) t true op = trapped s t 1 none := by
  have hdelay : ((heldFirst s t o).tri t).delay = none := by rw [heldFirst_tri]; exact h.delay
  have hexc : bundleExc (heldFirst s t o) t (s.leadCore t) false (some o) op true = some (1, none) := by
    simp [bundleExc, hp]
  have hr := h.noRepeat
  have hrun : issueBundle (heldFirst s t o) t (some o) op true =
      some (raiseIllegal (heldFirst s t o) t (s.leadCore t).pc [(o, (s.leadCore t).pc), (op, (s.leadCore t).pc + 4)] false) := by
    rw [← heldFirst_leadCore s t o] at hexc hr ⊢
    unfold State.leadCore at hexc hr ⊢
    simp [issueBundle, hdelay, hr, hexc, bundleOps]
  have hpc : Triad.illegalPc { s.tri t with first := some o } (s.leadCore t).pc
      [(o, (s.leadCore t).pc), (op, (s.leadCore t).pc + 4)] false = (s.leadCore t).pc := by
    have hlast : (opClass op == .prefx) = false := beq_eq_false_iff_ne.mpr hop
    cases ho : opClass o == .prefx with
    | true => simp only [Triad.illegalPc, List.find?_cons, ho]
    | false =>
      simp only [Triad.illegalPc, List.find?_cons, List.find?_nil, ho, hlast, h.delay, Option.isSome_none, Bool.false_and,
        Bool.or_false, Bool.false_eq_true, if_false, Triad.faultPc]
      rfl
  rw [opCommand_second h, hrun, Option.getD_some, raiseIllegal, heldFirst, State.setTriad_setTriad]
  refine State.setTriad_congr s t ?_
  rw [Triad.raiseAt, hpc]
  simp only [h.entry, Option.isSome_none, Bool.false_eq_true, if_false]
  rfl

end

theorem unpairableFirsts : Clause.UnpairableFirsts := by
  intro s t h src code sr r rd a b
  refine ⟨?_, fun o ho => congrArg _ (opCommand_unpairable h ho nofun)⟩
  have hheld (op : Op) : Host.Outcome.next (φ := Fault) (ρ := Refusal) (opCommand s t false op) =
      .next (s.setTriad t fun x => { x with first := some op }) := congrArg _ (opCommand_first h op)
  simp only [List.forall_mem_cons]
  refine ⟨hheld _, hheld _, hheld _, hheld _, hheld _, ?_, hheld _, hheld _, hheld _, hheld _, hheld _, nofun⟩
  exact (congrArg Host.Outcome.next (h.reteCommand false)).trans (hheld .rete)

/-- Settles O7: what a branch asks of its delay slot, what happens there, and that an unpairable bundle is illegal. -/
theorem branchesAndDelaySlots : Obligations.BranchesAndDelaySlots :=
  ⟨conditionalBranches, transfers, delaySlots, unpairableFirsts⟩

end Sys2Proof.Machine
end

section
/-! Repeat prefixes and the iterations of a repeat in progress (R100 to R104, R134). -/

namespace Sys2Proof.Machine

/-! ### Prefixes -/

/-- A lane that has latched the count of a repeat: RPC and RP, and PC behind the instruction or, with a count of 0, behind the
instruction that it repeats (R101). -/
def LaneCore.latch (c : LaneCore) (src : RepSrc) (repn : Bool) : LaneCore := c.setCur fun b =>
  { b with
    pc := if repCount c src = 0 then c.pc + 8 else c.pc + 4
    rpc := BitVec.ofNat 32 (repCount c src), psw := putBit b.psw 10 (decide (repCount c src ≠ 0))
    repn := repn && decide (repCount c src ≠ 0) }

theorem LaneCore.latch_eq (c : LaneCore) (src : RepSrc) (repn : Bool) (n : Nat) (hn : repCount c src = n) :
    c.latch src repn = c.setCur fun b =>
      { b with
        pc := if n = 0 then c.pc + 4 + 4 else c.pc + 4
        rpc := BitVec.ofNat 32 n, psw := putBit b.psw 10 (n != 0), repn := repn && n != 0 } := by
  subst hn
  have h8 : c.pc + 4 + 4 = c.pc + 8 := BitVec.add_assoc c.pc 4 4
  have hne : (repCount c src != 0) = decide (repCount c src ≠ 0) := by rw [decide_not]; rfl
  rw [LaneCore.latch, h8, hne]

theorem nextCore_repi (c : LaneCore) (src : RepSrc) :
    nextCore { c with flight := c.flight ++ [] } (.repi src) 4 false none = c.latch src false := by
  rw [List.append_nil]
  exact (c.latch_eq src false _ rfl).symm

theorem nextCore_repn (c : LaneCore) (src : RepSrc) :
    nextCore { c with flight := c.flight ++ [] } (.repn src) 4 false none = c.latch src true := by
  rw [List.append_nil]
  exact (c.latch_eq src true _ rfl).symm

/-- What may stand behind REPI and REPN: an instruction that R104 lets repeat. -/
theorem prefixIllegal_eq_false {s : State} {t : TriadId} {c : LaneCore} {pc : Word} {w : BitVec 32} {o op : Op}
    (hw : peekWord s t c (pc + 4) = some w) (he : wordEnds w = true) (ho : decodeOp w = some o)
    (hr : repeatForbidden o = false) (hm : mtsOwnRpc c o = false) (hn : ∀ src, op = .repn src → repCount c src ≤ 64) :
    prefixIllegal s t c pc op = false := by
  have hnamed : namedOp w = some o := by simp [namedOp, ho]
  cases op
  case repi src => simp only [prefixIllegal, hw, he, hnamed, hr, hm, Bool.not_true, Bool.or_false]
  case repn src =>
    have hle : ¬ 64 < repCount c src := Nat.not_lt.mpr (hn src rfl)
    simp only [prefixIllegal, hw, he, hnamed, hr, hm, Bool.not_true, Bool.or_false, decide_eq_false hle]
  all_goals rfl

theorem repeatPrefixes : Clause.RepeatPrefixes := by
  intro s t h src w o hw he ho hr hm count latched
  have hcount (c : LaneCore) : count c = repCount c src := by cases src <;> rfl
  have hlatched (repn : Bool) : latched repn = fun c => c.latch src repn := by
    funext c
    simp only [latched, hcount]
    rfl
  refine ⟨fun hsrc => ⟨_, rfl, ?_⟩, fun hle => ⟨_, rfl, ?_⟩⟩
  · have henc : opEncodable (.repi src) = true := by
      cases src with
      | imm n => exact bne_iff_ne.mpr fun hn => hsrc (congrArg _ hn)
      | reg r => rfl
    have hlegal := prefixIllegal_eq_false (op := .repi src) hw he ho hr hm nofun
    obtain ⟨hissued, -⟩ := opCommand_issues h (.repi src) (opExc_repi s t _ _ src henc hlegal) rfl rfl (fun _ _ => rfl) rfl
    simp only [opResults, cancelUnit, nextCore_repi] at hissued
    rwa [hlatched]
  · rw [hcount] at hle
    have henc : opEncodable (.repn src) = true := by
      cases src with
      | imm n => exact decide_eq_true hle
      | reg r => rfl
    have hlegal := prefixIllegal_eq_false (op := .repn src) hw he ho hr hm fun src' heq => by
      cases heq
      exact hle
    obtain ⟨hissued, -⟩ := opCommand_issues h (.repn src) (opExc_repn s t _ _ src henc hlegal) rfl rfl (fun _ _ => rfl) rfl
    simp only [opResults, cancelUnit, nextCore_repn] at hissued
    rwa [hlatched]

/-! ### Iterations -/

/-- What an iteration leaves: the lanes in use take the instruction with RPC one lower (R102). -/
theorem issueNow_rep {s : State} {t : TriadId} (op : Op) (hc : ∀ (s : State) (c : LaneCore), cacheOp s t c op = s) :
    let x := s.tri t
    let pc := (s.leadCore t).pc
    let s' := issueNow s t true [(op, pc, 1)] 4 op (fun _ => 0) true none
    (∀ l, x.act l = true → (s'.tri t).lane l = laneIssue x true [(op, pc, 1)] 4 op
      (fallOf s t (startRep true (s.leadCore t)) 4 op) (fun _ => 0) true none l (x.lane l))
    ∧ s'.mem = s.mem ∧ (s'.tri t).slots = x.slots + 1 := by
  intro x pc s'
  have hs : s' = issueNow s t true [(op, pc, 1)] 4 op (fun _ => 0) true none := rfl
  simp only [issueNow, hc] at hs
  generalize hb : branchCounts s t _ _ op = s1 at hs
  have hbranch : RegsOnly s s1 := hb ▸ .branchCounts _ _ _ _ _
  obtain ⟨s2, n, hcounted, hslot⟩ := countSlot_spec s1 t
  have hregs := hbranch.trans hcounted
  rw [hslot, State.setTriad_setTriad] at hs
  have htri := congrArg (fun z => State.tri z t) hs
  simp only [State.tri_setTriad, hregs.tri] at htri
  clear_value s'
  refine ⟨fun l hl => ?_, by rw [hs]; exact hregs.mem, by simp [htri, x]⟩
  simp only [x] at hl
  simp [htri, Triad.lane, hl, x, pc, State.leadCore]

theorem LaneCore.setCur_setCur (c : LaneCore) (f g : Bank → Bank) : (c.setCur f).setCur g = c.setCur fun b => g (f b) := by
  simp [LaneCore.setCur, LaneCore.setBank, vmod]

theorem LaneCore.setCur_congr (c : LaneCore) {f g : Bank → Bank} (h : f c.bank = g c.bank) : c.setCur f = c.setCur g := by
  unfold LaneCore.setCur LaneCore.setBank vmod
  exact congrArg (fun b => { c with banks := c.banks.set c.cur.val b }) h

/-- A sum in a repeat, in one lane: RPC counts down, and with the last iteration the lane leaves the instruction (R102, R103). -/
theorem laneIssue_rep_add {x : Triad} (hd : x.delay = none) (i : LaneId) (pc fall : Word) (rd a b : Reg) (l : Lane) :
    (laneIssue x true [(.alu .add rd a b, pc, 1)] 4 (.alu .add rd a b) fall (fun _ => 0) true none i l).core =
      { l.core.setCur (fun q =>
          if l.core.bank.rpc - 1 = 0 then
            { q with rpc := l.core.bank.rpc - 1, pc := l.core.pc + 4, psw := putBit q.psw 10 false, repn := false }
          else { q with rpc := l.core.bank.rpc - 1 }) with
        flight := l.core.flight ++ [result pc (.g rd) ((l.core.rg a + l.core.rg b).setWidth 128) 1] } := by
  have hbank : (startRep true l.core).bank = { l.core.bank with rpc := l.core.bank.rpc - 1 } := l.core.bank_setCur _
  have hrg (r : Reg) : (startRep true l.core).rg r = l.core.rg r := by
    unfold LaneCore.rg
    rw [hbank]
    rfl
  have hpc : (startRep true l.core).pc = l.core.pc := by
    unfold LaneCore.pc
    rw [hbank]
  have hnext : nextCore (startRep true l.core) (.alu .add rd a b) 4 true none = l.core.setCur (fun q =>
      if l.core.bank.rpc - 1 = 0 then
        { q with rpc := l.core.bank.rpc - 1, pc := l.core.pc + 4, psw := putBit q.psw 10 false, repn := false }
      else { q with rpc := l.core.bank.rpc - 1 }) := by
    simp only [nextCore, hpc, if_true]
    rw [startRep, if_pos rfl, LaneCore.setCur_setCur]
    refine l.core.setCur_congr ?_
    split <;> rfl
  rw [← hnext, ← hrg a, ← hrg b, laneIssue, hd]
  rfl

theorem repeatIterations : Clause.RepeatIterations := by
  intro s t rd a b c hruns hawake hslot hfirst hdelay hentry hinTime hforced hclose hrepair hbound hrecovery hhalt hdormant
    hboundary hevent hrp hrpc hops
  have hcan : canIssue s t = true := by
    simp [canIssue, hruns, hawake, hrecovery, hforced, hdelay, hentry, hinTime, hclose, hbound, hrepair, hhalt, hdormant,
      hboundary, hevent]
  have hlead : (s.tri t).lanes[(s.tri t).lead].core = c := rfl
  have hrpc' : (c.bank.rpc != 0) = true := bne_iff_ne.mpr hrpc
  have hiter : repeatIteration s t = opCommand s t true (.alu .add rd a b) := by
    simp only [repeatIteration, endSlot_of_closed hslot, hlead, hrp, hrpc', hdelay, hops, Option.isNone_none, Bool.and_self,
      if_true]
  have hissue : opCommand s t true (.alu .add rd a b) =
      issueNow s t true [(.alu .add rd a b, c.pc, 1)] 4 (.alu .add rd a b) (fun _ => 0) true none := by
    have hexc : bundleExc s t c false none (.alu .add rd a b) true = none :=
      bundleExc_alone _ _ _ _ (opExc_alu s t c c.pc .add rd a b)
    have hmem := issueMem_none (s := s) (t := t) true [(.alu .add rd a b, c.pc, 1)] 4 (.alu .add rd a b) rfl
    have hbundle : issueBundle s t none (.alu .add rd a b) true =
        issueMem s t true [(.alu .add rd a b, c.pc, 1)] 4 (.alu .add rd a b) := by
      unfold issueBundle
      simp only [Triad.lane, hlead, hdelay, hrp, hrpc', hexc, Option.isNone_none, Option.isSome_none, Bool.and_self]
      rfl
    simp [opCommand, endSlot_of_closed hslot, hcan, Triad.frozen, hslot, hfirst, hbundle, hmem]
  obtain ⟨hlanes, hmem, hslots⟩ := issueNow_rep (.alu .add rd a b) (fun _ _ => rfl) (s := s) (t := t)
  rw [← hissue, ← hiter] at hlanes hmem hslots
  refine ⟨_, rfl, hmem, hslots, fun l hl => ?_⟩
  rw [hlanes l hl]
  exact laneIssue_rep_add hdelay l _ _ rd a b _

/-- Settles O8: what REPI and REPN latch, and what an iteration leaves. -/
theorem repeats : Obligations.Repeats := ⟨repeatPrefixes, repeatIterations⟩

end Sys2Proof.Machine
end

section
/-! Privileged instructions below their level, and the return from a handler (R54, R79, R134, R137, R152, R183 to R185). -/

namespace Sys2Proof.Machine

/-! ### Privileged instructions -/

/-- RETE is legal in the handlers' banks (R183). -/
theorem opIllegal_rete {s : State} {t : TriadId} {c : LaneCore} {pc : Word} (hcur : c.cur ≠ 0) :
    opIllegal s t c pc false .rete = false := beq_eq_false_iff_ne.mpr hcur

theorem opExc_privilege {s : State} {t : TriadId} {c : LaneCore} {pc : Word} {op : Op}
    (hl : opIllegal s t c pc false op = false) (ha : opAllowed c op = false) :
    opExc s t c pc false op = some (3, 2, none) := by
  unfold opExc
  rw [if_neg (by rw [hl]; exact Bool.false_ne_true), if_pos (by rw [ha]; rfl)]

section
variable {s : State} {t : TriadId} (h : Ready s t)
include h

/-- An instruction below its level raises the privilege exception (R54, R142). -/
theorem opCommand_privilege {op : Op} (hl : opIllegal s t (s.leadCore t) (s.leadCore t).pc false op = false)
    (ha : opAllowed (s.leadCore t) op = false) : opCommand s t true op = trapped s t 2 none :=
  opCommand_traps h (opExc_privilege hl ha) (by decide) (by decide)

/-- RETE below S level is no return: it raises the privilege exception (R134). -/
theorem reteCommand_privilege (hp : (s.leadCore t).priv = 0) (hcur : (s.leadCore t).cur ≠ 0) :
    reteCommand s t true = trapped s t 2 none := by
  have hbelow : opAllowed (s.leadCore t) .rete = false := show ((s.leadCore t).priv != 0) = false by rw [hp]; rfl
  have hexc := bundleExc_of_opExc (opExc_privilege (pc := (s.leadCore t).pc) (opIllegal_rete (s := s) (t := t) hcur) hbelow)
  rw [h.reteCommand, hexc]
  exact opCommand_privilege h (opIllegal_rete hcur) hbelow

end

/-- Settles O13: none of these instructions is illegal, and the level admits none of them. -/
theorem privilegeTraps : Obligations.PrivilegeTraps := by
  intro s t h rd w
  have htrap {op : Op} (hl : opIllegal s t (s.leadCore t) (s.leadCore t).pc false op = false)
      (ha : opAllowed (s.leadCore t) op = false) :
      Host.Outcome.next (φ := Fault) (ρ := Refusal) (opCommand s t true op) = .next w :=
    congrArg _ (opCommand_privilege h hl ha)
  constructor
  · intro hp hcur
    have hbelow : ((s.leadCore t).priv != 0) = false := by rw [hp]; rfl
    simp only [List.forall_mem_cons]
    exact ⟨congrArg _ (reteCommand_privilege h hp hcur), htrap (op := .iinva) rfl hbelow, htrap (op := .dinva) rfl hbelow,
      htrap (op := .mfs rd 2) rfl hbelow, nofun⟩
  · intro hp
    exact htrap (op := .mfs rd 3) rfl (beq_eq_false_iff_ne.mpr hp)

/-! ### The return -/

theorem Lane.drain_empty (l : Lane) (h : l.core.flight = []) : l.drain = l := by
  simp [Lane.drain, LaneCore.drain, LaneCore.drainN, h, Lane.foldAll]

/-- With nothing in flight, draining changes no lane (R79). -/
theorem eachActive_drain_empty {x : Triad} (h : ∀ l, (x.lane l).core.flight = []) : x.eachActive Lane.drain = x := by
  have hlanes : x.lanes.map (fun l => if l.state == LaneState.active then l.drain else l) = x.lanes := by
    ext i hi
    have hflight : x.lanes[i].core.flight = [] := h ⟨i, hi⟩
    simp [Lane.drain_empty _ hflight]
  rw [Triad.eachActive, hlanes]

theorem drainTraps_empty {x : Triad} (h : ∀ l, (x.lane l).core.flight = []) : x.drainTraps = false := by
  have hlead : x.lanes[x.lead].core.flight = [] := h x.lead
  rw [Triad.drainTraps, hlead, dueFlags, List.foldl_nil, fpTraps, Nat.zero_and]
  rfl

theorem Lane.foldAll_core (l : Lane) (rs : List Rec) : (l.foldAll rs).core = l.core := by
  unfold Lane.foldAll
  induction rs generalizing l with
  | nil => rfl
  | cons r rs ih => exact ih (l.fold r)

/-- A return without a spill, in one lane (R185). -/
theorem Lane.rete_core (l : Lane) {rb : Fin 4} (hrb : rb.val = field l.core.bank.epriv 5 4 % 4)
    (hspl : bitOf l.core.bank.epriv 8 = false) (hni : pswNI l.core.psw = false) (frame : List Word) : (l.rete frame).core =
      { (l.core.setCur fun q => { q with busy := false }).setBank rb (fun q => q.resume rb) with cur := rb } := by
  have hfin : (⟨field l.core.bank.epriv 5 4 % 4, Nat.mod_lt _ (by decide)⟩ : Fin 4) = rb := Fin.ext hrb.symm
  unfold Lane.rete
  simp only [Lane.foldAll_core, hspl, hni, hfin, Bool.false_eq_true, if_false]
  rfl

/-- What the return leaves, beside its lanes' registers (R79, R185). -/
theorem reteDone_spec (s : State) (t : TriadId) (ws : List (Nat × Bool)) (base : List Word) :
    let x := s.tri t
    let s' := reteDone s t ws base
    s'.mem = s.mem ∧ (∀ u, u ≠ t → s'.tri u = s.tri u) ∧ (s'.tri t).closeDue.getLsbD 3 = true
      ∧ (∀ l, x.act l = false → (s'.tri t).lane l = x.lane l)
      ∧ ∀ l, x.act l = true → (s'.tri t).lane l = (x.lane l).rete (laneFrame x l ws base) := by
  intro x s'
  have hs : s' = reteDone s t ws base := rfl
  obtain ⟨s1, n, hregs, hcount⟩ := countSlot_spec s t
  rw [reteDone, hcount, State.setTriad_setTriad] at hs
  have htri := congrArg (fun z => State.tri z t) hs
  simp only [State.tri_setTriad, hregs.tri] at htri
  clear_value s'
  refine ⟨by rw [hs]; exact hregs.mem, fun u hu => ?_, ?_, fun l hl => ?_, fun l hl => ?_⟩
  · rw [hs, State.tri_setTriad_ne _ _ _ _ hu, hregs.tri]
  · simp [htri, Triad.slotEnds, bit10]
  · simp only [x] at hl ⊢
    simp [htri, Triad.slotEnds, Triad.lane, hl, Triad.countC]
  · simp only [x] at hl ⊢
    simp [htri, Triad.slotEnds, Triad.lane, hl, Triad.countC]

/-- Settles O16: nothing is in flight, so that the return is the one slot of `reteDone`. -/
theorem returnsFromHandler : Obligations.ReturnsFromHandler := by
  intro s t h hflight c hpriv hcur hspl hok hlanes rb hrb
  have hexc : bundleExc s t c false none .rete true = none := bundleExc_alone _ _ _ _
    (opExc_of s t c c.pc .rete (opIllegal_rete hcur) (bne_iff_ne.mpr hpriv) rfl)
  have hwait : c.waiting = false := by
    have hlead : c.flight = [] := hflight _
    simp [LaneCore.waiting, hlead]
  have hdrain : s.setTriad t (fun x => x.eachActive Lane.drain) = s := State.setTriad_id _ _ _ (eachActive_drain_empty hflight)
  have hlead : (s.tri t).lanes[(s.tri t).lead].core = c := rfl
  have hrete : reteCommand s t true = reteDone s t [] [] := by
    rw [h.reteCommand, hexc, hwait]
    simp only [rete, hdrain, hlead, drainTraps_empty hflight, hspl, hok]
    rfl
  obtain ⟨hmem, hothers, hclose, hidle, hact⟩ := reteDone_spec s t [] []
  rw [← hrete] at hmem hothers hclose hidle hact
  refine ⟨_, rfl, hmem, hothers, hclose, hidle, fun l hl => ?_⟩
  obtain ⟨-, hepriv, hni⟩ := hlanes l hl
  rw [hact l hl]
  exact Lane.rete_core _ (by rw [hepriv]) (by rw [hepriv]; exact hspl) hni _

end Sys2Proof.Machine
end

section
/-! The end of an issue slot: what lands, what comes one slot nearer, the flags and the exception they raise (R65, R67, R68,
R77, R78, R198). -/

namespace Sys2Proof.Machine

/-! ### Flags in PSW -/

/-- Landing flags leave the fields of PSW outside FFLAGS (R78). -/
theorem field_addFlags (w : Word) (fl : Nat) {hi lo : Nat} (h : hi < 16 ∨ 20 < lo) :
    field (addFlags w fl) hi lo = field w hi lo :=
  field_congr fun i hlo hhi => by rw [addFlags, bitOf_setField, if_neg (by omega)]

theorem dueFlags_eq_zero {l : List Result} (h : ∀ r ∈ l, r.flags = 0) : dueFlags l = 0 := by
  unfold dueFlags
  induction l with
  | nil => rfl
  | cons r l ih =>
    rw [List.foldl_cons, h r List.mem_cons_self]
    exact ih fun q hq => h q (List.mem_cons_of_mem r hq)

theorem fpTraps_zero (w : Word) : fpTraps w 0 = false := by rw [fpTraps, Nat.zero_and]; rfl

/-! ### A result in its register -/

section
variable (c : LaneCore) (r : Result)

theorem Bank.wg_keeps (b : Bank) (n : Reg) (v : Word) : (b.wg n v).psw = b.psw ∧ (b.wg n v).pc = b.pc := by
  unfold Bank.wg
  split <;> exact ⟨rfl, rfl⟩

/-- A landing result leaves PC, and of PSW all but FFLAGS. -/
theorem LaneCore.put_keeps : (c.put r).psw = addFlags c.psw r.flags.toNat ∧ (c.put r).pc = c.pc := by
  have hflags : (c.setCur fun b => { b with psw := addFlags b.psw r.flags.toNat }).bank =
      { c.bank with psw := addFlags c.bank.psw r.flags.toNat } := c.bank_setCur _
  unfold LaneCore.put
  extract_lets d
  cases r.dest with
  | g n =>
    obtain ⟨hpsw, hpc⟩ := Bank.wg_keeps d.bank n (r.val.setWidth 64)
    simp only [LaneCore.psw, LaneCore.pc, LaneCore.bank_setCur, hpsw, hpc]
    rw [hflags]
    exact ⟨rfl, rfl⟩
  | f n | p n | q =>
    show d.bank.psw = _ ∧ d.bank.pc = _
    rw [hflags]
    exact ⟨rfl, rfl⟩

/-! ### The results of one lane -/

variable {c r}

theorem LaneCore.advance_empty (h : c.flight = []) : c.advance.1 = c := by
  have hc : { c with flight := [] } = c := by rw [← h]
  simp only [LaneCore.advance, h, List.map_nil, List.filter_nil, landAll, hc]

/-- A result at distance 1 lands (R67). -/
theorem LaneCore.advance_lands (h : c.flight = [r]) (hr : r.left = 1) :
    c.advance.1 = ({ c with flight := [] } : LaneCore).put r ∧ c.advance.2.2 = r.flags.toNat := by
  simp [LaneCore.advance, h, hr, landAll, dueFlags]
  rfl

/-- A result further away comes one slot nearer (R67). -/
theorem LaneCore.advance_nearer (h : c.flight = [r]) (hr : 2 ≤ r.left) :
    c.advance.1 = { c with flight := [{ r with left := r.left - 1 }] } := by
  have hne : r.left - 1 ≠ 0 := by omega
  simp [LaneCore.advance, h, hne, landAll]

theorem LaneCore.advance_flags (h : ∀ r ∈ c.flight, r.flags = 0) : c.advance.2.2 = 0 := by
  refine dueFlags_eq_zero fun q hq => ?_
  obtain ⟨r, hr, rfl⟩ := List.mem_map.mp (List.mem_of_mem_filter hq)
  exact h r hr

end

/-! ### The end of a slot in a lane, and in the triad -/

section
variable (l : Lane)

theorem Lane.foldAll_keeps (rs : List Rec) : (l.foldAll rs).state = l.state ∧ (l.foldAll rs).mts = l.mts := by
  unfold Lane.foldAll
  induction rs generalizing l with
  | nil => exact ⟨rfl, rfl⟩
  | cons r rs ih => exact ih (l.fold r)

/-- The MTS of the slot writes behind the results (R54, R198). -/
theorem Lane.endSlot_core : l.endSlot.1.core = match l.mts with
    | some (n, v) => mtsWrite l.core.advance.1 n.toNat v
    | none => l.core.advance.1 := by
  unfold Lane.endSlot
  simp only [Lane.foldAll_keeps]
  cases l.mts <;> simp [Lane.foldAll_core]

theorem Lane.endSlot_state : l.endSlot.1.state = l.state := by
  unfold Lane.endSlot
  simp only [Lane.foldAll_keeps]
  cases l.mts <;> simp

theorem Lane.endSlot_flags : l.endSlot.2 = l.core.advance.2.2 := rfl

end

/-- A triad whose open slot has ended in every lane in use, before what its flags raise (R67). -/
def Triad.slotDone (x : Triad) : Triad :=
  Triad.slotEnds { x with lanes := x.lanes.map fun l => if l.state == LaneState.active then l.endSlot.1 else l }

section
variable (x : Triad)

theorem Triad.slotDone_lane (l : LaneId) : x.slotDone.lane l = if x.act l then (x.lane l).endSlot.1 else x.lane l := by
  simp [Triad.slotDone, Triad.slotEnds, Triad.lane, Triad.act]

theorem Triad.slotDone_lead : x.slotDone.lead = x.lead := by
  have hact : x.slotDone.act = x.act := by
    funext l
    have hlane := x.slotDone_lane l
    unfold Triad.act Triad.lane at *
    rw [hlane]
    split
    · rw [Lane.endSlot_state]
    · rfl
  unfold Triad.lead Triad.actives
  rw [hact]

/-- The leading lane's registers where the slot has ended. -/
theorem Triad.slotDone_leadCore : x.slotDone.lanes[x.slotDone.lead].core = (x.slotDone.lane x.lead).core := by
  show (x.slotDone.lane x.slotDone.lead).core = _
  rw [x.slotDone_lead]

variable {x}

/-- The end of an open slot that meets no other entry: an enabled flag makes the FP exception due (R78). -/
theorem Triad.endSlot_eq (ho : x.slotOpen = true)
    (he : x.entry = none ∨ ∀ r ∈ (x.lane x.lead).core.flight, r.flags = 0) :
    let c := (x.slotDone.lane x.lead).core
    x.endSlot = { x.slotDone with
      entry := if fpTraps c.psw (x.lane x.lead).core.advance.2.2 then some (x.slotDone.exc 9 c.pc none) else x.entry } := by
  intro c
  have hx : x.endSlot =
      let k := x.slotDone.lanes[x.slotDone.lead].core
      if fpTraps k.psw (x.lane x.lead).core.advance.2.2 then
        (match x.slotDone.entry with
          | none => { x.slotDone with entry := some (x.slotDone.exc 9 k.pc none) }
          | some p => if p.vec = 9 then x.slotDone else x.slotDone.fpFirst (x.slotDone.behindFp p))
      else x.slotDone := by
    rw [Triad.endSlot, if_neg (by rw [ho]; exact Bool.false_ne_true)]
    rfl
  rw [x.slotDone_leadCore] at hx
  have hentry : x.slotDone.entry = x.entry := rfl
  rw [hx, hentry]
  simp only
  cases htraps : fpTraps c.psw (x.lane x.lead).core.advance.2.2 with
  | false => rfl
  | true =>
    have hnone : x.entry = none := he.resolve_right fun hflags => by
      rw [LaneCore.advance_flags hflags, fpTraps_zero] at htraps
      exact Bool.false_ne_true htraps
    rw [hnone]
    rfl

/-- With no flag set, the entry stays as it is. -/
theorem Triad.endSlot_entry_of_noFlags (ho : x.slotOpen = true) (hf : ∀ r ∈ (x.lane x.lead).core.flight, r.flags = 0) :
    x.endSlot.entry = x.entry := by
  rw [Triad.endSlot_eq ho (.inr hf), LaneCore.advance_flags hf]
  simp only [fpTraps_zero, Bool.false_eq_true, if_false]

/-- The flags of one landing result raise the FP exception where FEN enables one of them (R78). -/
theorem Triad.endSlot_entry_of_lands (ho : x.slotOpen = true) (he : x.entry = none) (ha : x.act x.lead = true)
    (hm : (x.lane x.lead).mts = none) {r : Result} (hr : (x.lane x.lead).core.flight = [r]) (h1 : r.left = 1) :
    x.endSlot.entry = if r.flags.toNat &&& pswFEN (x.lane x.lead).core.psw = 0 then none
      else some (x.exc 9 (x.lane x.lead).core.pc none) := by
  obtain ⟨hlands, hflags⟩ := LaneCore.advance_lands hr h1
  have hcore : (x.slotDone.lane x.lead).core = ({ (x.lane x.lead).core with flight := [] } : LaneCore).put r := by
    rw [x.slotDone_lane, ha, if_pos rfl, Lane.endSlot_core, hm, hlands]
  obtain ⟨hpsw, hpc⟩ := LaneCore.put_keeps ({ (x.lane x.lead).core with flight := [] } : LaneCore) r
  rw [← hcore] at hpsw hpc
  have hfen : pswFEN (x.slotDone.lane x.lead).core.psw = pswFEN (x.lane x.lead).core.psw := by
    rw [hpsw]
    exact field_addFlags _ _ (.inr (by decide))
  have hpriv : x.slotDone.priv = x.priv := by
    rw [Triad.priv, x.slotDone_leadCore, LaneCore.priv, hpsw]
    exact field_addFlags _ _ (.inl (by decide))
  rw [Triad.endSlot_eq ho (.inl he), hflags]
  simp only [fpTraps, hfen, hpc, he, Triad.exc, hpriv]
  by_cases hz : r.flags.toNat &&& pswFEN (x.lane x.lead).core.psw = 0
  · rw [if_pos hz, hz]
    rfl
  · rw [if_neg hz, if_pos (bne_iff_ne.mpr hz)]
    rfl

end

/-- Settles O11: the lanes in use end the slot each for itself, and the leading lane's flags decide on the exception. -/
theorem slotEnds : Obligations.SlotEnds := by
  intro s t
  have hexec : exec (.resultLands t) s = .next (if (s.tri t).frozen then s else endSlot s t) := rfl
  refine ⟨fun hnone => hexec.trans (congrArg _ ?_), fun hopen hfrozen hentry => ⟨endSlot s t,
    hexec.trans (congrArg _ (if_neg (by rw [hfrozen]; exact Bool.false_ne_true))), ?_⟩⟩
  · rcases hnone with hclosed | hfrozen
    · rw [endSlot_of_closed hclosed, ite_self]
    · rw [if_pos hfrozen]
  have htri : (endSlot s t).tri t = (s.tri t).endSlot := State.tri_setTriad _ _ _
  have heq := Triad.endSlot_eq hopen hentry
  have hlane (l : LaneId) : ((endSlot s t).tri t).lane l =
      if (s.tri t).act l then ((s.tri t).lane l).endSlot.1 else (s.tri t).lane l := by
    rw [htri, heq]
    exact Triad.slotDone_lane _ l
  refine ⟨by rw [htri, heq]; rfl, rfl, rfl, fun u hu => State.tri_setTriad_ne _ _ _ _ hu, fun hflags => ?_,
    fun d v f pc hnone hact hmts hflight => ?_, fun l hl => ?_, fun l hl => ?_⟩
  · rw [htri, Triad.endSlot_entry_of_noFlags hopen hflags]
  · rw [htri]
    exact Triad.endSlot_entry_of_lands hopen hnone hact hmts hflight rfl
  · rw [hlane l, hl, if_neg Bool.false_ne_true]
  · rw [hlane l, hl, if_pos rfl, Lane.endSlot_core]
    refine ⟨fun d v f pc hmts hflight => ?_, fun d v f pc n hmts hflight => ?_, fun sr v hmts hflight => ?_⟩
    · rw [hmts, (LaneCore.advance_lands hflight rfl).1]
      rfl
    · rw [hmts, LaneCore.advance_nearer hflight (by simp [result])]
      rfl
    · rw [hmts, LaneCore.advance_empty hflight]

end Sys2Proof.Machine
end

section
/-! Loads from plain SRAM and stores to it (R65, R66, R126, R127, R215, R216, R222): what the checks, the bank and the
bus do with such an address, the issue of the load and of the store, and the instructions as its cases. -/

namespace Sys2Proof.Machine

/-! ### What a plain address is -/

section
variable {a : Nat} (ha : a < sramSize)
include ha

theorem plainAddr_of_sram : plainAddr a = a := by
  unfold sramSize at ha
  unfold plainAddr setBase clearBase
  rw [if_neg (by omega), if_neg (by omega)]

theorem aliasKind_of_sram : aliasKind a = 0 := by
  unfold sramSize at ha
  unfold aliasKind setBase clearBase
  rw [if_neg (by omega), if_neg (by omega)]

theorem perAddr_of_sram : perAddr a = none := by
  unfold sramSize at ha
  unfold perAddr
  rw [if_neg (by omega), if_neg (by omega)]

theorem readSensitive_of_sram : readSensitive a = false := by
  have hsoft : a ≠ Adr.hstSoftpend := fun h => absurd (h ▸ ha) (by decide)
  simp [readSensitive, perAddr_of_sram ha, hsoft]

theorem not_ddr_of_sram : ¬ ddrBase ≤ a := by
  unfold sramSize at ha
  unfold ddrBase
  omega

theorem ddrWaits_of_sram (s : State) (n : Nat) : ddrWaits s a n = false := by
  simp [ddrWaits, not_ddr_of_sram ha]

variable {s : State} (hopen : sramHole s a = false)
include hopen

theorem regionOf_of_sram : regionOf s a = .sram := by
  rw [regionOf, if_pos ha, hopen]
  rfl

theorem devAddress_of_sram : devAddress s a = false := by
  rw [devAddress, regionOf_of_sram ha hopen]

end

theorem inSecure_of_open {s : State} {a : Nat} (hopen : sramHole s a = false) : inSecure a = false :=
  (Bool.or_eq_false_iff.mp hopen).2

theorem bankOn_of_open {s : State} {a : Nat} (hopen : sramHole s a = false) : bankOn s a = true := by
  have hpower := (Bool.or_eq_false_iff.mp hopen).1
  unfold bankOn
  revert hpower
  cases s.sram.power.toList[a / 0x200000]? with
  | none => exact nofun
  | some p => exact fun hon => by simpa using hon

theorem bankOn_congr (s : State) {a b : Nat} (h : a / 0x200000 = b / 0x200000) : bankOn s a = bankOn s b := by
  rw [bankOn, bankOn, h]

/-! ### A read where no word holds an error and no bank keeps a write -/

theorem sramError_of_clean {s : State} (h : s.sram.errors = []) (w : Nat) : sramError s w = none := by
  simp [sramError, h]

theorem rowRead_of_clean {s : State} {a : Nat} (h : s.sram.errors = []) (hon : bankOn s a = true) (n : Nat) :
    rowRead s a n = s := by
  have htouch (w : Nat) : sramTouch s w = s := by rw [sramTouch, sramError_of_clean h]
  have hall (l : List Nat) : l.foldl sramTouch s = s := by
    induction l with
    | nil => rfl
    | cons w l ih => rw [List.foldl_cons, htouch, ih]
  rw [rowRead, if_pos hon, hall]

theorem portClear_of_none {s : State} (h : ∀ b : Fin 12, s.sram.collided[b] = none) (m : Master) (a : Nat) (w : Bool) :
    portClear s m a w = s := by
  have hkept : keptBefore s m a w = none := by
    unfold keptBefore
    split
    · next hb =>
      have hnone : s.sram.collided[a / 0x200000] = none := h ⟨_, hb⟩
      rw [hnone]
    · rfl
  rw [portClear, hkept]

/-- An aligned access of at most a row's size lies in one row (R342). -/
theorem rowsOf_aligned {a n : Nat} (hn : n ∈ [1, 2, 4, 8]) (ha : a % n = 0) : rowsOf a n = [(a, n)] := by
  have hfit : n ≤ 64 - a % 64 ∧ n ≠ 0 := by
    simp only [List.mem_cons, List.not_mem_nil, or_false] at hn
    rcases hn with rfl | rfl | rfl | rfl <;> omega
  obtain ⟨hle, hpos⟩ := hfit
  have hmin : Nat.min n (64 - a % 64) = n := Nat.min_eq_left hle
  simp [rowsOf, rowPieces, hpos, hmin]

/-- An aligned access lies in one bank. -/
theorem bank_aligned {a n i : Nat} (hn : n ∈ [1, 2, 4, 8]) (ha : a % n = 0) (hi : i < n) :
    (a + i) / 0x200000 = a / 0x200000 := by
  simp only [List.mem_cons, List.not_mem_nil, or_false] at hn
  rcases hn with rfl | rfl | rfl | rfl <;> omega

/-! ### An access that plain SRAM serves -/

section
variable {s : State} {t : TriadId} {va : Word} {n : Nat} (hp : PlainSram s t va n)
include hp

/-- The bus reads the octets that lie there and changes nothing (R342, R345). -/
theorem busRead_of_plain (hn : n ∈ [1, 2, 4, 8]) : busRead s t va.toNat n = (s, BitVec.ofNat 64 (rdMem s va.toNat n)) := by
  have hon := bankOn_of_open hp.open_
  have hoctets : sramOctets s va.toNat n = rdBytes s va.toNat n := by
    refine List.map_congr_left fun i hi => ?_
    rw [bankOn_congr s (bank_aligned hn hp.aligned (List.mem_range.mp hi)), hon, sramError_of_clean hp.clean]
    rfl
  have hread (m : Master) : sramRead s m va.toNat n = (s, rdBytes s va.toNat n) := by
    simp only [sramRead, rowsOf_aligned hn hp.aligned, List.foldl_cons, List.foldl_nil, portClear_of_none hp.kept,
      rowRead_of_clean hp.clean hon, hoctets]
  have hmem : memRead s (.triad t) va.toNat n = (s, rdBytes s va.toNat n) := by
    rw [memRead, if_neg (not_ddr_of_sram hp.inside), plainAddr_of_sram hp.inside, inSecure_of_open hp.open_]
    exact hread _
  rw [busRead, regionOf_of_sram hp.inside hp.open_]
  simp only [hmem]
  rfl

theorem coreReq_ten_of_plain (priv : Nat) (kind : XKind) : (coreReq s t priv kind).ten = false := hp.physical

theorem coreWaits_of_plain (bank3 : Bool) (priv : Nat) (kind : XKind) : coreWaits s t bank3 priv kind va = false := by
  simp [coreWaits, walkWaits, coreReq_ten_of_plain hp]

theorem coreTouch_of_plain (bank3 : Bool) (priv : Nat) (kind : XKind) : coreTouch s t bank3 priv kind va = s := by
  simp [coreTouch, coreReq_ten_of_plain hp]

theorem field_high_of_plain : field va 63 40 = 0 := by
  have hinside := hp.inside
  unfold sramSize at hinside
  unfold field
  rw [Nat.div_eq_of_lt (by omega), Nat.zero_mod]

/-- Plain SRAM may be read and written at every level, and is no device, no SENS and no cached page (R288). -/
theorem impliedAttr_of_plain (user : Bool) :
    let w := impliedAttr s va.toNat user
    attrR w = true ∧ attrW w = true ∧ attrU w = user ∧ attrDev w = false ∧ attrSens w = false ∧ attrCache w = false := by
  simp only [impliedAttr, regionOf_of_sram hp.inside hp.open_]
  cases user <;> decide

/-- A load or store of plain SRAM has the attributes of memory without translation, at every level and in bank 3
(R157, R188, R288). -/
theorem coreAccess_of_plain (bank3 : Bool) (priv : Nat) {kind : XKind} (hk : kind = .load ∨ kind = .store) :
    coreAccess s t bank3 priv kind va = .ok ⟨va.toNat, impliedAttr s va.toNat (priv == 0), 0⟩ := by
  have hregion := regionOf_of_sram hp.inside hp.open_
  have hwindow (m : Bool) : windowOk s t va.toNat kind m false = true := by simp [windowOk, hp.windows]
  obtain ⟨hr, hw, hu, hdev, -, -⟩ := impliedAttr_of_plain hp (priv == 0)
  have hsmall : va.toNat < 1099511627776 := by
    have hinside := hp.inside
    unfold sramSize at hinside
    omega
  cases bank3 with
  | true => simp [coreAccess, checkPhysical, coreReq, hsmall, hregion, hwindow]
  | false =>
    have hcheck : checkAccess s (coreReq s t priv kind) va.toNat (impliedAttr s va.toNat (priv == 0)) 0
        = .ok ⟨va.toNat, impliedAttr s va.toNat (priv == 0), 0⟩ := by
      rcases hk with rfl | rfl <;> simp [checkAccess, coreReq, hregion, hr, hw, hu, hdev, hwindow, pathOk, dmaKind]
    rw [coreAccess, if_neg Bool.false_ne_true, translate, coreReq_ten_of_plain hp, if_pos Bool.not_false,
      if_neg (not_not.mpr (field_high_of_plain hp))]
    exact hcheck

end

/-- The access that a load or store of plain SRAM makes. -/
def sramAccess (va : Word) (n : Nat) : Access :=
  { va := va, pa := va.toNat, size := n, dev := false, sens := false, cache := false }

theorem accessCheck_of_plain {s : State} {t : TriadId} {va : Word} {fn : MemFn} (hp : PlainSram s t va (2 ^ memSize fn))
    (c : LaneCore) : accessCheck s t c fn va = .ok (sramAccess va (2 ^ memSize fn)) := by
  have hregion := regionOf_of_sram hp.inside hp.open_
  have haccess := coreAccess_of_plain hp (c.cur == 3) c.priv (kind := if memIsLoad fn then .load else .store) (by
    cases memIsLoad fn
    · exact .inr rfl
    · exact .inl rfl)
  obtain ⟨-, -, -, hdev, hsens, hcache⟩ := impliedAttr_of_plain hp (c.priv == 0)
  simp [accessCheck, hp.aligned, haccess, hregion, hsens, hdev, hcache, readSensitive_of_sram hp.inside,
    devAddress_of_sram hp.inside hp.open_, sramAccess]

/-- A load that overlaps no set or clear store of the column is no device load (R223, R225). -/
theorem loadIsDev_sramAccess {x : Triad} {va : Word} {n : Nat} (h : aliasOverlap (x.columnOf x.lead) va.toNat n = false) :
    loadIsDev x (sramAccess va n) = false := h

@[simp] theorem sramAccess_va (va : Word) (n : Nat) : (sramAccess va n).va = va := rfl

theorem loadDue_sramAccess {x : Triad} {va : Word} {n : Nat} (h : aliasOverlap (x.columnOf x.lead) va.toNat n = false) :
    loadDue x (sramAccess va n) = 0 := by
  rw [loadDue, loadIsDev_sramAccess h]
  simp [sramAccess, bit10]

/-- The load has its data: the octets that lie in SRAM (R65, R222). -/
theorem plainLoad_of_plain {s : State} {t : TriadId} {va : Word} {n : Nat} (hp : PlainSram s t va n) (hn : n ∈ [1, 2, 4, 8])
    (hahead : NothingAhead s t va) :
    plainLoad s t (sramAccess va n) = .load (sramAccess va n) s (BitVec.ofNat 64 (rdMem s va.toNat n))
      (fullyForwarded ((s.tri t).columnOf (s.tri t).lead) va.toNat n)
      (fullyForwarded ((s.tri t).columnOf (s.tri t).lead) va.toNat n) := by
  have hwaits : readWaits s t va.toNat n = false := by
    simpa [readWaits, ddrWaits_of_sram hp.inside, NothingAhead] using hahead
  simp [plainLoad, sramAccess, busRead_of_plain hp hn, hwaits]

theorem two_pow_memSize_mem (fn : MemFn) : 2 ^ memSize fn ∈ [1, 2, 4, 8] := by
  cases fn <;> decide

/-! ### The issue -/

/-- What the issue of a load or store leaves: the lanes in use start results and take entries of the gate, each its own. -/
structure AccessIssued (s s' : State) (t : TriadId) (rs : LaneId → List Result) (g : LaneId → List GateEntry) : Prop where
  lanes : ∀ l, (s.tri t).act l = true →
    ((s'.tri t).lane l).core = ((s.tri t).lane l).core.onward (((s.tri t).lane l).core.pc + 4) (rs l)
  gates : ∀ l, (s.tri t).act l = true → ((s'.tri t).lane l).gate = ((s.tri t).lane l).gate ++ g l
  idle : ∀ l, (s.tri t).act l = false → (s'.tri t).lane l = (s.tri t).lane l
  others : ∀ u, u ≠ t → s'.tri u = s.tri u
  memory : s'.mem = s.mem
  slots : (s'.tri t).slots = (s.tri t).slots + 1

/-- The entries that a store of this access makes in lane l (R216). -/
def storeEntries (x : Triad) (st : Option (Access × MemFn × Reg)) (l : LaneId) : List GateEntry :=
  (st.map fun p => gateEntry x (x.lane l).core p.1 p.2.1 p.2.2).toList

theorem issueNow_access {s : State} {t : TriadId} (h : Ready s t) (fn : MemFn) (rt rb : Reg) (post : Bool) (off : BitVec 12)
    (data : LaneId → Word) (arrived : Bool) (st : Option (Access × MemFn × Reg)) (counts : List (Nat × Nat)) :
    let op := Op.mem fn rt rb post off
    let pc := (s.leadCore t).pc
    AccessIssued s ((issueNow s t false [(op, pc, 1)] 4 op data arrived st).setTriad t fun y => y.countAll counts) t
      (fun l => opResults ((s.tri t).lane l).core ⟨pc, pc, 1, 0, data l, arrived⟩ op) (storeEntries (s.tri t) st) := by
  intro op pc
  obtain ⟨hlanes, hidle, hothers, hmem, hslots, -⟩ := issueNow_alone op (fun _ _ => rfl) data arrived st (s := s) (t := t)
  have hlane (l : LaneId) : (((issueNow s t false [(op, pc, 1)] 4 op data arrived st).setTriad t
      fun y => y.countAll counts).tri t).lane l = ((issueNow s t false [(op, pc, 1)] 4 op data arrived st).tri t).lane l := by
    simp [Triad.lane]
  refine ⟨fun l hl => ?_, fun l hl => ?_, fun l hl => (hlane l).trans (hidle l hl),
    fun u hu => (State.tri_setTriad_ne _ _ _ _ hu).trans (hothers u hu), hmem, by simpa using hslots⟩
  · rw [hlane, hlanes l hl]
    simp only [laneIssue, startRep, Bool.false_eq_true, if_false, h.delay]
    cases st <;> rfl
  · rw [hlane, hlanes l hl]
    simp only [laneIssue, startRep, Bool.false_eq_true, if_false]
    cases st
    · exact (List.append_nil _).symm
    · rfl

section
variable {s : State} {t : TriadId} (h : Ready s t) {fn : MemFn} {rt rb : Reg} {post : Bool} {off : BitVec 12} {va : Word}
  (hva : memAddr (s.leadCore t) rb post off = va) (hp : PlainSram s t va (2 ^ memSize fn))

section
include hva hp

/-- A load of plain SRAM has its data at once. -/
theorem memStep_load (hl : memIsLoad fn = true) (hahead : NothingAhead s t va)
    (halias : aliasOverlap ((s.tri t).columnOf (s.tri t).lead) va.toNat (2 ^ memSize fn) = false) :
    memStep s t [.mem fn rt rb post off] = .load (sramAccess va (2 ^ memSize fn)) s
      (BitVec.ofNat 64 (rdMem s va.toNat (2 ^ memSize fn)))
      (fullyForwarded ((s.tri t).columnOf (s.tri t).lead) va.toNat (2 ^ memSize fn))
      (fullyForwarded ((s.tri t).columnOf (s.tri t).lead) va.toNat (2 ^ memSize fn)) := by
  unfold State.leadCore at hva
  simp only [memStep, memOf, hva, coreWaits_of_plain hp, accessCheck_of_plain hp, hl, sramAccess_va,
    coreTouch_of_plain hp, loadDue_sramAccess halias, loadIsDev_sramAccess halias, plainLoad_of_plain hp (two_pow_memSize_mem fn) hahead]
  simp

/-- A store to plain SRAM goes to the gate where every lane's column has room (R215). -/
theorem memStep_store (hl : memIsLoad fn = false) (hroom : ∀ l, (s.tri t).act l = true → (s.tri t).column l < 64) :
    memStep s t [.mem fn rt rb post off] = .store (sramAccess va (2 ^ memSize fn)) := by
  have hfull : ((s.tri t).actives.any fun l => decide (64 ≤ (s.tri t).column l)) = false := by
    simp only [List.any_eq_false, decide_eq_true_eq, not_le]
    exact fun l hl => hroom l (List.mem_filter.mp hl).2
  unfold State.leadCore at hva
  simp only [memStep, memOf, hva, coreWaits_of_plain hp, accessCheck_of_plain hp, hl, hfull]
  simp

end

include h hva hp

/-- A load or store that passes its checks goes to its data access. -/
theorem opCommand_sram (he : opEncodable (.mem fn rt rb post off) = true) : opCommand s t true (.mem fn rt rb post off) =
    (issueMem s t false [(.mem fn rt rb post off, (s.leadCore t).pc, 1)] 4 (.mem fn rt rb post off)).getD s := by
  have hexc := bundleExc_alone s t (s.leadCore t) _ (opExc_mem s t (s.leadCore t) (s.leadCore t).pc fn rt rb post off _ he
    (by rw [hva]; exact accessCheck_of_plain hp _))
  rw [opCommand_alone h, issueBundle_alone h _ hexc rfl rfl]

/-- A load of plain SRAM starts its value in every lane in use, from the lane's own column where that holds the octets
(R65, R126, R222). -/
theorem opCommand_load (hl : memIsLoad fn = true) (he : opEncodable (.mem fn rt rb post off) = true)
    (hahead : NothingAhead s t va)
    (halias : aliasOverlap ((s.tri t).columnOf (s.tri t).lead) va.toNat (2 ^ memSize fn) = false) :
    AccessIssued s (opCommand s t true (.mem fn rt rb post off)) t (fun l => opResults ((s.tri t).lane l).core
      ⟨(s.leadCore t).pc, (s.leadCore t).pc, 1, 0, forwardData ((s.tri t).columnOf l) va.toNat (2 ^ memSize fn)
        (BitVec.ofNat 64 (rdMem s va.toNat (2 ^ memSize fn))),
        fullyForwarded ((s.tri t).columnOf (s.tri t).lead) va.toNat (2 ^ memSize fn)⟩
        (.mem fn rt rb post off)) fun _ => [] := by
  rw [opCommand_sram h hva hp he, issueMem, List.map_singleton, memStep_load hva hp hl hahead halias]
  simp only [loadIsDev_sramAccess halias, Bool.false_eq_true, if_false]
  exact issueNow_access h fn rt rb post off _ _ none _

/-- A store to plain SRAM enters every lane's column (R215, R216). -/
theorem opCommand_store (hl : memIsLoad fn = false) (hroom : ∀ l, (s.tri t).act l = true → (s.tri t).column l < 64)
    (he : opEncodable (.mem fn rt rb post off) = true) :
    AccessIssued s (opCommand s t true (.mem fn rt rb post off)) t (fun l => opResults ((s.tri t).lane l).core
      ⟨(s.leadCore t).pc, (s.leadCore t).pc, 1, 0, 0, true⟩ (.mem fn rt rb post off))
      (storeEntries (s.tri t) (some (sramAccess va (2 ^ memSize fn), fn, rt))) := by
  rw [opCommand_sram h hva hp he, issueMem, List.map_singleton, memStep_store hva hp hl hroom]
  simp only [memOf, sramAccess_va, coreTouch_of_plain hp]
  exact issueNow_access h fn rt rb post off _ _ (some _) _

end

/-! ### The instructions -/

theorem opEncodable_mem {fn : MemFn} {rt rb : Reg} {post : Bool} {off : BitVec 12}
    (hbase : post = true → rb ≠ 0) (hown : post = true → memIsLoad fn = true → memDest fn rt = .g rt → rb ≠ rt) :
    opEncodable (.mem fn rt rb post off) = true := by
  cases post with
  | false => rfl
  | true =>
    have hb : rb ≠ 0#5 := hbase rfl
    cases fn <;> simp [opEncodable, hb] <;> exact hown rfl rfl rfl

theorem loadsFromSram : Clause.LoadsFromSram := by
  intro s t h rt rb post off x va does
  have hload (i : Instr) (fn : MemFn) (hexec : exec i s = .next (opCommand s t true (.mem fn rt rb post off)))
      (hl : memIsLoad fn = true) (he : opEncodable (.mem fn rt rb post off) = true) :
      does i (2 ^ memSize fn) (memDest fn rt) (loadExtend fn) := by
    intro hp hahead halias
    have hdone := opCommand_load h (fn := fn) (rt := rt) rfl hp hl he hahead halias
    refine ⟨_, hexec, fun l hact => (hdone.lanes l hact).trans ?_, fun l hact => (hdone.gates l hact).trans (List.append_nil _),
      hdone.idle, hdone.others, hdone.memory, hdone.slots⟩
    simp only [opResults, hl, if_true]
    rfl
  refine ⟨fun hpost => ?_, fun hpost => ?_⟩
  · have he (fn : MemFn) : opEncodable (.mem fn rt rb post off) = true :=
      opEncodable_mem (fun hp => (hpost hp).1) fun hp _ _ => (hpost hp).2
    exact ⟨hload _ .ldb rfl rfl (he _), hload _ .ldbu rfl rfl (he _), hload _ .ldh rfl rfl (he _), hload _ .ldhu rfl rfl (he _),
      hload _ .ldw rfl rfl (he _), hload _ .ldwu rfl rfl (he _), hload _ .ld rfl rfl (he _)⟩
  · exact ⟨hload _ .flw rfl rfl (opEncodable_mem hpost nofun), hload _ .fld rfl rfl (opEncodable_mem hpost nofun)⟩

theorem storesEnterTheGate : Clause.StoresEnterTheGate := by
  intro s t h rt rb post off hpost hroom x va does
  have hstore (i : Instr) (fn : MemFn) (n : Nat) (be : Byte) (src : LaneCore → Word)
      (hexec : exec i s = .next (opCommand s t true (.mem fn rt rb post off))) (hl : memIsLoad fn = false)
      (hn : 2 ^ memSize fn = n) (hbe : BitVec.ofNat 8 (2 ^ n - 1) = be)
      (hsrc : ∀ c, storeData c fn rt = BitVec.ofNat 64 ((src c).toNat % 2 ^ (8 * n))) : does i n be src := by
    subst hn
    intro hp
    have he : opEncodable (.mem fn rt rb post off) = true :=
      opEncodable_mem hpost fun _ hload => absurd (hl.symm.trans hload) nofun
    have hdone := opCommand_store h (fn := fn) (rt := rt) rfl hp hl hroom he
    refine ⟨_, hexec, fun l hact => (hdone.lanes l hact).trans ?_, fun l hact => (hdone.gates l hact).trans ?_,
      hdone.idle, hdone.others, hdone.memory, hdone.slots⟩
    · simp only [opResults, hl, Bool.false_eq_true, if_false]
      rfl
    · have halias : aliasKind (memAddr (s.leadCore t) rb post off).toNat = 0 := aliasKind_of_sram hp.inside
      simp only [storeEntries, Option.map_some, Option.toList_some, gateEntry, hsrc, sramAccess, halias, hbe]
      rfl
  clear_value does
  exact ⟨hstore _ .stb _ _ _ rfl rfl rfl rfl fun _ => rfl, hstore _ .sth _ _ _ rfl rfl rfl rfl fun _ => rfl,
    hstore _ .stw _ _ _ rfl rfl rfl rfl fun _ => rfl, hstore _ .st _ _ _ rfl rfl rfl rfl fun _ => rfl,
    hstore _ .fsw _ _ _ rfl rfl rfl rfl fun _ => rfl, hstore _ .fsd _ _ _ rfl rfl rfl rfl fun _ => rfl⟩

/-- Settles O5: an access to plain SRAM passes its checks, reads the octets there or takes an entry of the gate. -/
theorem loadsAndStores : Obligations.LoadsAndStores := ⟨loadsFromSram, storesEnterTheGate⟩

end Sys2Proof.Machine
end

section
/-! Instruction words: their fields in each format, and that encoding and decoding agree in both directions (R110 to
R137). -/

namespace Sys2Proof.Machine

/-! ### Fields of an instruction word -/

section
variable (w : BitVec 32)

theorem ireg_eq_iff (lo : Nat) (r : Reg) : ireg w lo = r ↔ w.toNat / 2 ^ lo % 32 = r.toNat := by
  rw [← BitVec.toNat_inj, ireg, BitVec.toNat_ofNat]

theorem setWidth_eq_iff {n : Nat} (v : BitVec n) : w.setWidth n = v ↔ w.toNat % 2 ^ n = v.toNat := by
  rw [← BitVec.toNat_inj, BitVec.toNat_setWidth]

theorem getLsbD_eq_iff (i : Nat) (b : Bool) : w.getLsbD i = b ↔ w.toNat / 2 ^ i % 2 = b.toNat := by
  have hbit : w.getLsbD i = decide (w.toNat / 2 ^ i % 2 = 1) := Nat.testBit_eq_decide_div_mod_eq
  rw [hbit]
  cases b
  · simp
  · simp

/-- The low half of a word is a 16-bit operand (R125, R134). -/
theorem ifld_low16_eq_iff (v : BitVec 16) : ifld w 15 0 = v.toNat ↔ w.setWidth 16 = v := by
  rw [setWidth_eq_iff, ifld, pow_zero, Nat.div_one]

/-- A 12-bit operand in the low half, with zeros above it (R134 to R136). -/
theorem ifld_low12_eq_iff (v : BitVec 12) : ifld w 15 0 = v.toNat ↔ ifld w 15 12 = 0 ∧ w.setWidth 12 = v := by
  simp only [setWidth_eq_iff, ifld, Nat.reduceAdd, Nat.reduceSub]
  omega

/-- A shift count of six bits below the function of a shift (R125). -/
theorem ifld_shift_eq_iff {v : BitVec 16} {k : Nat} (hv : v.toNat < 64) (hk : k < 4) :
    ifld w 15 0 = v.toNat + 64 * k ↔ ifld w 15 8 = 0 ∧ ifld w 7 6 = k ∧ BitVec.ofNat 16 (ifld w 5 0) = v := by
  simp only [← BitVec.toNat_inj, BitVec.toNat_ofNat, ifld, Nat.reduceAdd, Nat.reduceSub]
  omega

/-- A register field of zero (R116). -/
theorem ifld_15_11_eq_zero_iff : ifld w 15 11 = 0 ↔ ireg w 11 = 0 := by
  rw [ireg_eq_iff]
  rfl

theorem ifld_10_6_eq_zero_iff : ifld w 10 6 = 0 ↔ ireg w 6 = 0 := by
  rw [ireg_eq_iff]
  rfl

/-- The number of a system register (R134 to R136). -/
theorem ifld_low12 : ifld w 11 0 = (w.setWidth 12).toNat := by
  rw [BitVec.toNat_setWidth, ifld, pow_zero, Nat.div_one]

/-- A repeat count of at most 64 (R134). -/
theorem repnImm_iff :
    opEncodable (.repn (.imm (w.setWidth 16))) = true ↔ ifld w 15 7 = 0 ∧ ifld w 6 0 ≤ 64 := by
  simp only [opEncodable, decide_eq_true_eq, BitVec.toNat_setWidth, ifld, Nat.reduceAdd, Nat.reduceSub]
  omega

/-! ### Words of each format -/

section
variable (e : Bool)

/-- The word of an E bit, a major opcode and 26 bits (R110). -/
theorem instrWord_eq_iff {maj rest : Nat} (hm : maj < 32) (hr : rest < 2 ^ 26) :
    instrWord e maj rest = w ↔ wordEnds w = e ∧ ifld w 30 26 = maj ∧ ifld w 25 0 = rest := by
  have hw := w.isLt
  have he := e.toNat_lt
  rw [wordEnds, getLsbD_eq_iff, instrWord, ← BitVec.toNat_inj, BitVec.toNat_ofNat, ifld, ifld]
  simp only [Nat.reduceAdd, Nat.reduceSub]
  omega

/-- Type A: three registers and a function of six bits below zeros (R111). -/
theorem fnWord_eq_iff {maj n : Nat} (d a b : Reg) (hm : maj < 32) (hn : n < 64) :
    instrWord e maj (regBits d a b + n) = w ↔ wordEnds w = e ∧ ifld w 30 26 = maj
      ∧ ireg w 21 = d ∧ ireg w 16 = a ∧ ireg w 11 = b ∧ ifld w 10 6 = 0 ∧ ifld w 5 0 = n := by
  rw [instrWord_eq_iff w e hm (by simp only [regBits]; omega)]
  refine and_congr_right fun _ => ?_
  simp only [regBits, ireg_eq_iff, ifld, Nat.reduceAdd, Nat.reduceSub]
  omega

/-- Type A with a third source and a format above the function (R111, R121). -/
theorem fpWord_eq_iff {n : Nat} (d a b c : Reg) (single : Bool) (hn : n < 32) :
    instrWord e 0x03 (regBits d a b + c.toNat * 2 ^ 6 + single.toNat * 2 ^ 5 + n) = w ↔ wordEnds w = e ∧ ifld w 30 26 = 0x03
      ∧ ireg w 21 = d ∧ ireg w 16 = a ∧ ireg w 11 = b ∧ ireg w 6 = c ∧ w.getLsbD 5 = single ∧ ifld w 4 0 = n := by
  have hsingle := single.toNat_lt
  rw [instrWord_eq_iff w e (by decide) (by simp only [regBits]; omega)]
  refine and_congr_right fun _ => ?_
  simp only [regBits, ireg_eq_iff, getLsbD_eq_iff, ifld, Nat.reduceAdd, Nat.reduceSub]
  omega

/-- Type B: two registers and the low half (R112). -/
theorem immWord_eq_iff {maj rest n : Nat} (d a : Reg) (hrest : rest = d.toNat * 2 ^ 21 + a.toNat * 2 ^ 16 + n)
    (hm : maj < 32) (hn : n < 2 ^ 16) : instrWord e maj rest = w ↔ wordEnds w = e ∧ ifld w 30 26 = maj
      ∧ ireg w 21 = d ∧ ireg w 16 = a ∧ ifld w 15 0 = n := by
  subst hrest
  rw [instrWord_eq_iff w e hm (by omega)]
  refine and_congr_right fun _ => ?_
  simp only [ireg_eq_iff, ifld, Nat.reduceAdd, Nat.reduceSub]
  omega

/-- Type C: data register, base, size and sign, POST and offset (R113). -/
theorem memWord_eq_iff {maj n : Nat} (t b : Reg) (post : Bool) (off : BitVec 12) (hm : maj < 32) (hn : n < 8) :
    instrWord e maj (t.toNat * 2 ^ 21 + b.toNat * 2 ^ 16 + n * 2 ^ 13 + post.toNat * 2 ^ 12 + off.toNat) = w ↔
      wordEnds w = e ∧ ifld w 30 26 = maj ∧ ireg w 21 = t ∧ ireg w 16 = b ∧ ifld w 15 14 = n / 2
        ∧ (w.getLsbD 13).toNat = n % 2 ∧ w.getLsbD 12 = post ∧ w.setWidth 12 = off := by
  have hbit := (getLsbD_eq_iff w 13 _).mp rfl
  have hpost := post.toNat_lt
  rw [instrWord_eq_iff w e hm (by omega)]
  refine and_congr_right fun _ => ?_
  simp only [ireg_eq_iff, getLsbD_eq_iff w 12, setWidth_eq_iff, ← hbit, ifld, Nat.reduceAdd, Nat.reduceSub]
  omega

/-- Type D, a conditional branch (R114). -/
theorem bccWord_eq_iff {n : Nat} (annul : Bool) (a b : Reg) (off : BitVec 12) (hn : n < 8) :
    instrWord e 0x10 (annul.toNat * 2 ^ 25 + a.toNat * 2 ^ 20 + b.toNat * 2 ^ 15 + n * 2 ^ 12 + off.toNat) = w ↔
      wordEnds w = e ∧ ifld w 30 26 = 0x10 ∧ w.getLsbD 25 = annul ∧ ireg w 20 = a ∧ ireg w 15 = b ∧ ifld w 14 12 = n
        ∧ w.setWidth 12 = off := by
  have hannul := annul.toNat_lt
  rw [instrWord_eq_iff w e (by decide) (by omega)]
  refine and_congr_right fun _ => ?_
  simp only [ireg_eq_iff, getLsbD_eq_iff, setWidth_eq_iff, ifld, Nat.reduceAdd, Nat.reduceSub]
  omega

/-- Type D, a transfer by an offset of 25 bits (R114). -/
theorem brWord_eq_iff {maj : Nat} (off : BitVec 25) (hm : maj < 32) :
    instrWord e maj off.toNat = w ↔
      wordEnds w = e ∧ ifld w 30 26 = maj ∧ w.getLsbD 25 = false ∧ w.setWidth 25 = off := by
  rw [instrWord_eq_iff w e hm (by omega)]
  refine and_congr_right fun _ => ?_
  simp only [getLsbD_eq_iff, setWidth_eq_iff, ifld, Nat.reduceAdd, Nat.reduceSub, Bool.toNat_false]
  omega

/-- Type D, a transfer to a register's address (R114). -/
theorem jumpWord_eq_iff {rest n : Nat} (a : Reg) (hrest : rest = a.toNat * 2 ^ 20 + n * 2 ^ 12) (hn : n < 8) :
    instrWord e 0x13 rest = w ↔ wordEnds w = e ∧ ifld w 30 26 = 0x13
      ∧ w.getLsbD 25 = false ∧ ireg w 20 = a ∧ ifld w 19 15 = 0 ∧ ifld w 14 12 = n ∧ ifld w 11 0 = 0 := by
  subst hrest
  rw [instrWord_eq_iff w e (by decide) (by omega)]
  refine and_congr_right fun _ => ?_
  simp only [ireg_eq_iff, getLsbD_eq_iff, ifld, Nat.reduceAdd, Nat.reduceSub, Bool.toNat_false]
  omega

/-- Type E: a register, the operation at bits 20:16 and the low half (R115). -/
theorem sysWord_eq_iff {maj rest k n : Nat} (r : Reg) (hrest : rest = r.toNat * 2 ^ 21 + k * 2 ^ 16 + n)
    (hm : maj < 32) (hk : k < 32) (hn : n < 2 ^ 16) : instrWord e maj rest = w ↔ wordEnds w = e ∧ ifld w 30 26 = maj
      ∧ ireg w 21 = r ∧ ifld w 20 16 = k ∧ ifld w 15 0 = n := by
  subst hrest
  rw [instrWord_eq_iff w e hm (by omega)]
  refine and_congr_right fun _ => ?_
  simp only [ireg_eq_iff, ifld, Nat.reduceAdd, Nat.reduceSub]
  omega

end

end

/-! ### Function codes -/

theorem aluOf_eq_some_iff (n : Nat) (fn : AluFn) : aluOf n = some fn ↔ n = aluCode fn := by
  constructor
  · intro h
    unfold aluOf at h
    split at h <;> cases h <;> rfl
  · rintro rfl
    cases fn <;> rfl

theorem condOf_eq_some_iff (n : Nat) (k : Cond) : condOf n = some k ↔ n = condCode k := by
  constructor
  · intro h
    unfold condOf at h
    split at h <;> cases h <;> rfl
  · rintro rfl
    cases k <;> rfl

theorem aluCode_lt (fn : AluFn) : aluCode fn < 64 := by cases fn <;> decide
theorem fpCode_lt (fn : FpFn) : fpCode fn < 32 := by cases fn <;> decide
theorem condCode_lt (k : Cond) : condCode k < 8 := by cases k <;> decide

/-- An accumulator pair in a register field of five bits (R119). -/
theorem eq_pair_iff (r : Reg) (p : BitVec 2) : r = p.setWidth 5 ↔ r.toNat < 4 ∧ r.setWidth 2 = p := by
  simp only [← BitVec.toNat_inj, BitVec.toNat_setWidth]
  omega

/-! ### A word that decodes is the word of its operation -/

/-- A word is that of an operation whose operands its encoding admits (R116). -/
structure IsWordOf (w : BitVec 32) (op : Op) : Prop where
  word : encodeOp (wordEnds w) op = w
  encodable : opEncodable op = true
  plain : opPlain op = true

/-- The floating-point functions that read RS2 (R121). -/
def fpTwo : FpFn → Bool
  | .fadd | .fsub | .fmul | .fdiv | .fma | .fms | .fmin | .fmax | .fceq | .fclt | .fcle => true
  | _ => false

theorem fpOf_eq_some_iff (n : Nat) (fn : FpFn) (one : Bool) :
    fpOf n = some (fn, one) ↔ n = fpCode fn ∧ one = !fpTwo fn := by
  constructor
  · intro h
    unfold fpOf at h
    split at h <;> cases h <;> exact ⟨rfl, rfl⟩
  · rintro ⟨rfl, rfl⟩
    cases fn <;> rfl

theorem opPlain_fp_iff (fn : FpFn) (single : Bool) (d a b c : Reg) : opPlain (.fp fn single d a b c) = true ↔
    ((fn == .fma || fn == .fms) = false → c = 0) ∧ (fpTwo fn = false → b = 0) := by
  cases fn <;> simp [opPlain, fpTwo]

theorem opPlain_alu_iff (fn : AluFn) (d a b : Reg) : opPlain (.alu fn d a b) = true ↔
    ((fn == .sxw || fn == .zxw) = true → b = 0) := by
  cases fn <;> simp [opPlain]

section
variable {w : BitVec 32} {op : Op}

theorem decAlu_isWordOf (hm : ifld w 30 26 = 1) (h : decAlu w = some op) : IsWordOf w op := by
  unfold decAlu at h
  split at h
  · cases h
  next fn hfn =>
    simp only [Option.ite_none_left_eq_some, Option.some.injEq] at h
    obtain ⟨hzero, rfl⟩ := h
    obtain ⟨hhigh, hone⟩ := not_or.mp hzero
    refine ⟨(fnWord_eq_iff w _ _ _ _ (by decide) (aluCode_lt fn)).mpr
      ⟨rfl, hm, rfl, rfl, rfl, not_not.mp hhigh, (aluOf_eq_some_iff _ _).mp hfn⟩, rfl, ?_⟩
    exact (opPlain_alu_iff _ _ _ _).mpr fun hf => (ifld_15_11_eq_zero_iff w).mp (not_not.mp fun hne => hone ⟨hf, hne⟩)

theorem decMul_isWordOf (hm : ifld w 30 26 = 2) (h : decMul w = some op) : IsWordOf w op := by
  simp only [decMul, Option.ite_none_left_eq_some] at h
  obtain ⟨hhigh, h⟩ := h
  have hword {d a b : Reg} {n : Nat} (hfn : ifld w 5 0 = n) (hd : ireg w 21 = d) (ha : ireg w 16 = a) (hb : ireg w 11 = b)
      (hn : n < 64 := by decide) : instrWord (wordEnds w) 2 (regBits d a b + n) = w :=
    (fnWord_eq_iff w _ _ _ _ (by decide) hn).mpr ⟨rfl, hm, hd, ha, hb, not_not.mp hhigh, hfn⟩
  have hpair {r : Reg} (hr : r.toNat < 4) : r = (r.setWidth 2).setWidth 5 := (eq_pair_iff _ _).mpr ⟨hr, rfl⟩
  split at h <;> simp only [Option.ite_none_right_eq_some, Option.some.injEq, Bool.and_eq_true, decide_eq_true_eq,
    beq_iff_eq, reduceCtorEq] at h
  case h_1 hfn | h_2 hfn | h_3 hfn | h_4 hfn | h_9 hfn =>
    obtain ⟨hd, rfl⟩ := h
    exact ⟨hword hfn (hpair hd) rfl rfl, rfl, rfl⟩
  case h_5 hfn | h_6 hfn =>
    obtain ⟨hd, rfl⟩ := h
    exact ⟨hword hfn hd rfl rfl, rfl, rfl⟩
  case h_7 hfn | h_8 hfn =>
    obtain ⟨⟨ha, hb⟩, rfl⟩ := h
    exact ⟨hword hfn rfl (hpair ha) hb, rfl, rfl⟩
  case h_10 hfn | h_11 hfn =>
    obtain ⟨⟨ha, hb⟩, rfl⟩ := h
    exact ⟨hword hfn rfl ha hb, rfl, rfl⟩

theorem decFp_isWordOf (hm : ifld w 30 26 = 3) (h : decFp w = some op) : IsWordOf w op := by
  unfold decFp at h
  split at h
  · cases h
  next fn one hfn =>
    simp only [Option.ite_none_left_eq_some, Option.some.injEq] at h
    obtain ⟨hzero, rfl⟩ := h
    obtain ⟨hcode, rfl⟩ := (fpOf_eq_some_iff _ _ _).mp hfn
    refine ⟨(fpWord_eq_iff w _ _ _ _ _ _ (fpCode_lt fn)).mpr ⟨rfl, hm, rfl, rfl, rfl, rfl, rfl, hcode⟩, rfl, ?_⟩
    rw [opPlain_fp_iff, ← ifld_15_11_eq_zero_iff, ← ifld_10_6_eq_zero_iff]
    simpa only [Bool.or_eq_true, Bool.and_eq_true, Bool.not_eq_true', bne_iff_ne, not_or, not_and, not_not] using hzero

/-- The immediate of a shift is its count, below the function (R125). -/
theorem immLow_lt {fn : ImmFn} {d a : Reg} {i : BitVec 16} (h : opEncodable (.imm fn d a i) = true) :
    i.toNat + (immCode fn).2 < 2 ^ 16 := by
  have hi := i.isLt
  cases fn
  case slli | srli | srai =>
    have hshift : i.toNat < 64 := of_decide_eq_true h
    simp only [immCode]
    omega
  all_goals exact hi

theorem decImm_isWordOf {maj : Nat} (hm : ifld w 30 26 = maj) (h : decImm maj w = some op) : IsWordOf w op := by
  have hword {fn : ImmFn} {a : Reg} {i : BitVec 16} (hm : ifld w 30 26 = (immCode fn).1) (ha : ireg w 16 = a)
      (hi : ifld w 15 0 = i.toNat + (immCode fn).2) (hc : opEncodable (.imm fn (ireg w 21) a i) = true) :
      IsWordOf w (.imm fn (ireg w 21) a i) :=
    ⟨(immWord_eq_iff w _ _ a (Nat.add_assoc _ _ _) (by cases fn <;> decide) (immLow_lt hc)).mpr ⟨rfl, hm, rfl, ha, hi⟩,
      hc, rfl⟩
  have himm := (ifld_low16_eq_iff w (w.setWidth 16)).mpr rfl
  simp only [decImm] at h
  split at h
  case h_6 =>
    simp only [Option.ite_none_left_eq_some] at h
    obtain ⟨hhigh, h⟩ := h
    have hlt : (BitVec.ofNat 16 (ifld w 5 0)).toNat < 64 := by
      simp only [BitVec.toNat_ofNat, ifld, Nat.reduceAdd, Nat.reduceSub]
      omega
    have hshift {k : Nat} (hk : k < 4) (hfn : ifld w 7 6 = k) :=
      (ifld_shift_eq_iff w hlt hk).mpr ⟨not_not.mp hhigh, hfn, rfl⟩
    split at h
    case h_4 => cases h
    case h_1 hfn | h_2 hfn | h_3 hfn =>
      cases h
      exact hword hm rfl (hshift (by decide) hfn) (decide_eq_true hlt)
  case h_7 =>
    simp only [Option.ite_none_right_eq_some, Option.some.injEq] at h
    obtain ⟨ha, rfl⟩ := h
    exact hword hm ha himm rfl
  case h_9 => cases h
  all_goals
    cases h
    exact hword hm rfl himm rfl

theorem opEncodable_mem_iff (fn : MemFn) (rt rb : Reg) (post : Bool) (off : BitVec 12) :
    opEncodable (.mem fn rt rb post off) = true ↔ ¬ (post && (rb == 0 || ((memCode fn).1 == 0x0C && rb == rt))) = true := by
  cases post
  · simp [opEncodable]
  · cases fn <;> simp [opEncodable, memCode]

theorem decMem_isWordOf {maj : Nat} (hm : ifld w 30 26 = maj) (h : decMem maj w = some op) : IsWordOf w op := by
  simp only [decMem] at h
  split at h
  · cases h
  next fn hfn =>
  simp only [Option.ite_none_left_eq_some, Option.some.injEq] at h
  obtain ⟨hpost, rfl⟩ := h
  have hcode : maj = (memCode fn).1 ∧ ifld w 15 14 = (memCode fn).2 / 2 ∧ (w.getLsbD 13).toNat = (memCode fn).2 % 2 := by
    clear hpost hm
    split at hfn
    case h_16 => cases hfn
    all_goals
      next hsize hsign =>
      cases hfn
      exact ⟨rfl, hsize, by rw [hsign]; rfl⟩
  obtain ⟨rfl, hsize, hsign⟩ := hcode
  exact ⟨(memWord_eq_iff w _ _ _ _ _ (by cases fn <;> decide) (by cases fn <;> decide)).mpr
    ⟨rfl, hm, rfl, rfl, hsize, hsign, rfl, rfl⟩, (opEncodable_mem_iff _ _ _ _ _).mpr hpost, rfl⟩

theorem decBr_isWordOf {maj : Nat} (hlt : 0x10 ≤ maj ∧ maj ≤ 0x13) (hm : ifld w 30 26 = maj)
    (h : decBr maj w = some op) : IsWordOf w op := by
  simp only [decBr] at h
  split at h
  case h_1 =>
    split at h
    case h_2 => cases h
    next k hk =>
    cases h
    exact ⟨(bccWord_eq_iff w _ _ _ _ _ (condCode_lt k)).mpr
      ⟨rfl, hm, rfl, rfl, rfl, (condOf_eq_some_iff _ _).mp hk, rfl⟩, rfl, rfl⟩
  case h_2 | h_3 =>
    simp only [Option.ite_none_left_eq_some, Option.some.injEq, Bool.not_eq_true] at h
    obtain ⟨ha, rfl⟩ := h
    exact ⟨(brWord_eq_iff w _ _ (by decide)).mpr ⟨rfl, hm, ha, rfl⟩, rfl, rfl⟩
  case h_4 h10 h11 h12 =>
    have h13 : maj = 0x13 := by
      have : maj ≠ 16 := h10
      have : maj ≠ 17 := h11
      have : maj ≠ 18 := h12
      omega
    simp only [Option.ite_none_left_eq_some, Bool.not_eq_true, Bool.or_eq_false_iff, bne_eq_false_iff_eq] at h
    obtain ⟨⟨⟨ha, hrs2⟩, hlow⟩, h⟩ := h
    have hword {rest n : Nat} {r : Reg} (hrest : rest = r.toNat * 2 ^ 20 + n * 2 ^ 12) (hr : ireg w 20 = r)
        (hop : ifld w 14 12 = n) (hn : n < 8 := by decide) : instrWord (wordEnds w) 0x13 rest = w :=
      (jumpWord_eq_iff w _ r hrest hn).mpr ⟨rfl, hm.trans h13, ha, hr, hrs2, hop, hlow⟩
    split at h <;> simp only [Option.ite_none_right_eq_some, Option.some.injEq, reduceCtorEq] at h
    case h_1 hop | h_2 hop =>
      subst h
      exact ⟨hword (by simp) rfl hop, rfl, rfl⟩
    case h_3 hop =>
      obtain ⟨hr, rfl⟩ := h
      exact ⟨hword (by decide) hr hop, rfl, rfl⟩

theorem decSys_isWordOf (hm : ifld w 30 26 = 0x18) (h : decSys w = some op) : IsWordOf w op := by
  have hword {rest k n : Nat} {r : Reg} (hr : ireg w 21 = r) (hop : ifld w 20 16 = k) (hlow : ifld w 15 0 = n)
      (hn : n < 2 ^ 16) (hrest : rest = r.toNat * 2 ^ 21 + k * 2 ^ 16 + n) (hk : k < 32 := by decide) :
      instrWord (wordEnds w) 0x18 rest = w :=
    (sysWord_eq_iff w _ r hrest (by decide) hk hn).mpr ⟨rfl, hm, hr, hop, hlow⟩
  have himm := (ifld_low16_eq_iff w (w.setWidth 16)).mpr rfl
  have himmLt := (w.setWidth 16).isLt
  have hzero (hi : w.setWidth 16 = 0) : ifld w 15 0 = 0 := (ifld_low16_eq_iff w 0).mpr hi
  have hsr (hi : ifld w 15 12 = 0) : ifld w 15 0 = (w.setWidth 12).toNat := (ifld_low12_eq_iff w _).mpr ⟨hi, rfl⟩
  have hsrLt : (w.setWidth 12).toNat < 2 ^ 16 := by omega
  simp only [decSys, ifld_low12] at h
  split at h <;> simp only [Option.ite_none_right_eq_some, Option.some.injEq, reduceCtorEq] at h
  case h_1 hop =>
    obtain ⟨⟨hr, hne⟩, rfl⟩ := h
    exact ⟨hword hr hop himm himmLt (by simp), by simpa [opEncodable] using hne, rfl⟩
  case h_2 hop | h_4 hop =>
    obtain ⟨hi, rfl⟩ := h
    exact ⟨hword rfl hop (hzero hi) (by decide) (by simp), rfl, rfl⟩
  case h_3 hop =>
    obtain ⟨⟨hr, hhigh, hle⟩, rfl⟩ := h
    exact ⟨hword hr hop himm himmLt (by simp), (repnImm_iff w).mpr ⟨hhigh, hle⟩, rfl⟩
  case h_5 hop | h_8 hop =>
    obtain ⟨⟨hr, hi⟩, rfl⟩ := h
    exact ⟨hword hr hop (hzero hi) (by decide) (by decide), rfl, rfl⟩
  case h_6 hop | h_7 hop =>
    obtain ⟨hr, rfl⟩ := h
    exact ⟨hword hr hop himm himmLt (by simp), rfl, rfl⟩
  case h_9 hop | h_10 hop =>
    obtain ⟨⟨hi, hex⟩, rfl⟩ := h
    exact ⟨hword rfl hop (hsr hi) hsrLt rfl, hex, rfl⟩

theorem decCache_isWordOf (hm : ifld w 30 26 = 0x19) (h : decCache w = some op) : IsWordOf w op := by
  simp only [decCache, Option.ite_none_left_eq_some] at h
  obtain ⟨hlow, h⟩ := h
  have hword {rest k : Nat} {r : Reg} (hrest : rest = r.toNat * 2 ^ 21 + k * 2 ^ 16 + 0)
      (hr : ireg w 21 = r) (hop : ifld w 20 16 = k) (hk : k < 32 := by decide) : instrWord (wordEnds w) 0x19 rest = w :=
    (sysWord_eq_iff w _ r hrest (by decide) hk (by decide)).mpr ⟨rfl, hm, hr, hop, not_not.mp hlow⟩
  split at h <;> simp only [Option.ite_none_right_eq_some, Option.some.injEq, reduceCtorEq] at h
  case h_1 hop | h_3 hop =>
    subst h
    exact ⟨hword (by simp) rfl hop, rfl, rfl⟩
  case h_2 hop | h_4 hop =>
    obtain ⟨hr, rfl⟩ := h
    exact ⟨hword (by decide) hr hop, rfl, rfl⟩

/-- Every word that decodes is the word of what it decodes to. -/
theorem isWordOf_of_decodeOp (h : decodeOp w = some op) : IsWordOf w op := by
  simp only [decodeOp] at h
  split at h
  case h_1 hm => exact decAlu_isWordOf hm h
  case h_2 hm => exact decMul_isWordOf hm h
  case h_3 hm => exact decFp_isWordOf hm h
  case h_4 | h_5 | h_6 | h_7 | h_8 | h_9 | h_10 | h_11 => exact decImm_isWordOf rfl h
  case h_12 | h_13 | h_14 => exact decMem_isWordOf rfl h
  case h_15 hm | h_16 hm | h_17 hm | h_18 hm => exact decBr_isWordOf (by omega) rfl h
  case h_19 hm => exact decSys_isWordOf hm h
  case h_20 hm => exact decCache_isWordOf hm h
  case h_21 => cases h
end

/-! ### The word of an operation decodes to it -/

section
variable {w : BitVec 32} {e : Bool}

theorem decodeOp_of_alu {fn : AluFn} {d a b : Reg} (h : encodeOp e (.alu fn d a b) = w)
    (hp : opPlain (.alu fn d a b) = true) : decodeOp w = some (.alu fn d a b) ∧ wordEnds w = e := by
  obtain ⟨he, hm, rfl, rfl, rfl, hhigh, hfn⟩ := (fnWord_eq_iff w e d a b (by decide) (aluCode_lt fn)).mp h
  rw [opPlain_alu_iff, ← ifld_15_11_eq_zero_iff] at hp
  refine ⟨?_, he⟩
  simp only [decodeOp, hm, decAlu, (aluOf_eq_some_iff _ _).mpr hfn]
  exact if_neg fun hbad => hbad.elim (· hhigh) fun hone => hone.2 (hp hone.1)

theorem decodeOp_of_fp {fn : FpFn} {single : Bool} {d a b c : Reg} (h : encodeOp e (.fp fn single d a b c) = w)
    (hp : opPlain (.fp fn single d a b c) = true) : decodeOp w = some (.fp fn single d a b c) ∧ wordEnds w = e := by
  obtain ⟨he, hm, rfl, rfl, rfl, rfl, rfl, hfn⟩ := (fpWord_eq_iff w e d a b c single (fpCode_lt fn)).mp h
  rw [opPlain_fp_iff, ← ifld_15_11_eq_zero_iff, ← ifld_10_6_eq_zero_iff] at hp
  obtain ⟨hthree, htwo⟩ := hp
  refine ⟨?_, he⟩
  simp only [decodeOp, hm, decFp, (fpOf_eq_some_iff _ _ _).mpr ⟨hfn, rfl⟩]
  refine if_neg ?_
  simp only [Bool.or_eq_true, Bool.and_eq_true, Bool.not_eq_true', bne_iff_ne, not_or, not_and, not_not]
  exact ⟨hthree, htwo⟩

theorem decodeOp_of_imm {fn : ImmFn} {d a : Reg} {i : BitVec 16} (h : encodeOp e (.imm fn d a i) = w)
    (hc : opEncodable (.imm fn d a i) = true) : decodeOp w = some (.imm fn d a i) ∧ wordEnds w = e := by
  obtain ⟨he, hm, rfl, rfl, hlow⟩ :=
    (immWord_eq_iff w e d a (Nat.add_assoc _ _ _) (by cases fn <;> decide) (immLow_lt hc)).mp h
  refine ⟨?_, he⟩
  have hshift (k : Nat) (hk : k < 4) (hlow : ifld w 15 0 = i.toNat + 64 * k) (hc : decide (i.toNat < 64) = true) :=
    (ifld_shift_eq_iff w (of_decide_eq_true hc) hk).mp hlow
  cases fn
  case slli =>
    obtain ⟨hhigh, hfn, hi⟩ := hshift 0 (by decide) hlow hc
    simp only [decodeOp, hm, immCode, decImm, hhigh, hfn, hi]
    rfl
  case srli =>
    obtain ⟨hhigh, hfn, hi⟩ := hshift 1 (by decide) hlow hc
    simp only [decodeOp, hm, immCode, decImm, hhigh, hfn, hi]
    rfl
  case srai =>
    obtain ⟨hhigh, hfn, hi⟩ := hshift 2 (by decide) hlow hc
    simp only [decodeOp, hm, immCode, decImm, hhigh, hfn, hi]
    rfl
  case lui =>
    obtain rfl := (ifld_low16_eq_iff w i).mp hlow
    have ha : ireg w 16 = 0 := beq_iff_eq.mp hc
    simp only [decodeOp, hm, immCode, decImm, ha, if_true]
  all_goals
    obtain rfl := (ifld_low16_eq_iff w i).mp hlow
    simp only [decodeOp, hm, immCode, decImm]

theorem decodeOp_of_mem {fn : MemFn} {t b : Reg} {post : Bool} {off : BitVec 12}
    (h : encodeOp e (.mem fn t b post off) = w) (hc : opEncodable (.mem fn t b post off) = true) :
    decodeOp w = some (.mem fn t b post off) ∧ wordEnds w = e := by
  obtain ⟨he, hm, rfl, rfl, hsize, hsign, rfl, rfl⟩ :=
    (memWord_eq_iff w e t b post off (by cases fn <;> decide) (by cases fn <;> decide)).mp h
  rw [opEncodable_mem_iff] at hc
  have hdec : decodeOp w = decMem (memCode fn).1 w := by
    rw [decodeOp, hm]
    cases fn <;> rfl
  have hbit : w.getLsbD 13 = ((memCode fn).2 % 2 == 1) := by
    rw [← hsign]
    cases w.getLsbD 13 <;> rfl
  refine ⟨?_, he⟩
  rw [hdec]
  simp only [decMem, hsize, hbit]
  cases fn <;> exact if_neg hc

/-- Functions of the multiplier, the divider and the accumulators (R119). -/
theorem decodeOp_of_unit {op : Op} {d a b : Reg} {n : Nat} (h : instrWord e 0x02 (regBits d a b + n) = w) (hn : n < 64)
    (hdec : ireg w 21 = d → ireg w 16 = a → ireg w 11 = b → ifld w 10 6 = 0 → ifld w 5 0 = n → decMul w = some op) :
    decodeOp w = some op ∧ wordEnds w = e := by
  obtain ⟨he, hm, hd, ha, hb, hhigh, hfn⟩ := (fnWord_eq_iff w e d a b (by decide) hn).mp h
  refine ⟨?_, he⟩
  simp only [decodeOp, hm]
  exact hdec hd ha hb hhigh hfn

/-- Words of the jump major (R133). -/
theorem decodeOp_of_jump {op : Op} {rest : Nat} (r : Reg) (n : Nat) (h : instrWord e 0x13 rest = w)
    (hdec : w.getLsbD 25 = false → ireg w 20 = r → ifld w 19 15 = 0 → ifld w 14 12 = n → ifld w 11 0 = 0 →
      decBr 0x13 w = some op)
    (hrest : rest = r.toNat * 2 ^ 20 + n * 2 ^ 12 := by simp) (hn : n < 8 := by decide) :
    decodeOp w = some op ∧ wordEnds w = e := by
  obtain ⟨he, hm, ha, hr, hrs2, hop, hlow⟩ := (jumpWord_eq_iff w e r hrest hn).mp h
  refine ⟨?_, he⟩
  simp only [decodeOp, hm]
  exact hdec ha hr hrs2 hop hlow

/-- Words of the system major (R134). -/
theorem decodeOp_of_sys {op : Op} {rest : Nat} (r : Reg) (k n : Nat) (h : instrWord e 0x18 rest = w)
    (hdec : ireg w 21 = r → ifld w 20 16 = k → ifld w 15 0 = n → decSys w = some op)
    (hrest : rest = r.toNat * 2 ^ 21 + k * 2 ^ 16 + n := by simp) (hn : n < 2 ^ 16 := by decide)
    (hk : k < 32 := by decide) : decodeOp w = some op ∧ wordEnds w = e := by
  obtain ⟨he, hm, hr, hop, hlow⟩ := (sysWord_eq_iff w e r hrest (by decide) hk hn).mp h
  refine ⟨?_, he⟩
  simp only [decodeOp, hm]
  exact hdec hr hop hlow

/-- Words of the cache major (R137). -/
theorem decodeOp_of_cache {op : Op} {rest : Nat} (r : Reg) (k : Nat) (h : instrWord e 0x19 rest = w)
    (hdec : ireg w 21 = r → ifld w 20 16 = k → ifld w 15 0 = 0 → decCache w = some op)
    (hrest : rest = r.toNat * 2 ^ 21 + k * 2 ^ 16 + 0 := by simp) (hk : k < 32 := by decide) :
    decodeOp w = some op ∧ wordEnds w = e := by
  obtain ⟨he, hm, hr, hop, hlow⟩ := (sysWord_eq_iff w e r hrest (by decide) hk (by decide)).mp h
  refine ⟨?_, he⟩
  simp only [decodeOp, hm]
  exact hdec hr hop hlow

/-- Every operation is read back from its word, with its E bit. -/
theorem decodeOp_encodeOp (op : Op) (h : encodeOp e op = w) (hc : opEncodable op = true) (hp : opPlain op = true) :
    decodeOp w = some op ∧ wordEnds w = e := by
  cases op with
  | alu fn rd a b => exact decodeOp_of_alu h hp
  | imm fn rd a i => exact decodeOp_of_imm h hc
  | fp fn sg d a b c => exact decodeOp_of_fp h hp
  | mem fn t b post off => exact decodeOp_of_mem h hc
  | mul fn p a b =>
    refine decodeOp_of_unit h (by cases fn <;> decide) fun hd ha hb hhigh hfn => ?_
    obtain ⟨hlt, rfl⟩ := (eq_pair_iff _ _).mp hd
    cases fn <;> simp [decMul, hhigh, hfn, mulCode, ha, hb, hlt]
  | div sg a b =>
    refine decodeOp_of_unit h (by cases sg <;> decide) fun hd ha hb hhigh hfn => ?_
    cases sg <;> simp [decMul, hhigh, hfn, ha, hb, hd]
  | mfp hi d p =>
    refine decodeOp_of_unit h (by cases hi <;> decide) fun hd ha hb hhigh hfn => ?_
    obtain ⟨hlt, rfl⟩ := (eq_pair_iff _ _).mp ha
    cases hi <;> simp [decMul, hhigh, hfn, hd, hb, hlt]
  | mtp p a b =>
    refine decodeOp_of_unit h (by decide) fun hd ha hb hhigh hfn => ?_
    obtain ⟨hlt, rfl⟩ := (eq_pair_iff _ _).mp hd
    simp [decMul, hhigh, hfn, ha, hb, hlt]
  | mfq d second =>
    refine decodeOp_of_unit h (by cases second <;> decide) fun hd ha hb hhigh hfn => ?_
    cases second <;> simp [decMul, hhigh, hfn, ha, hb, hd]
  | bcc k annul a b off =>
    obtain ⟨he, hm, rfl, rfl, rfl, hk, rfl⟩ := (bccWord_eq_iff w e annul a b off (condCode_lt k)).mp h
    refine ⟨?_, he⟩
    simp only [decodeOp, hm, decBr, (condOf_eq_some_iff _ _).mpr hk]
  | br off | call off =>
    obtain ⟨he, hm, ha, rfl⟩ := (brWord_eq_iff w e off (by decide)).mp h
    refine ⟨?_, he⟩
    simp only [decodeOp, hm, decBr, ha]
    rfl
  | jr a =>
    exact decodeOp_of_jump a 0 h fun ha hr hrs2 hop hlow => by
      simp only [decBr, ha, hr, hrs2, hop, hlow]
      rfl
  | callr a =>
    exact decodeOp_of_jump a 1 h fun ha hr hrs2 hop hlow => by
      simp only [decBr, ha, hr, hrs2, hop, hlow]
      rfl
  | ret =>
    exact decodeOp_of_jump 31 2 h fun ha hr hrs2 hop hlow => by
      simp only [decBr, ha, hr, hrs2, hop, hlow]
      rfl
  | repi src =>
    cases src with
    | imm v =>
      refine decodeOp_of_sys 0 0 v.toNat h (hn := v.isLt) fun hr hop hlow => ?_
      obtain rfl := (ifld_low16_eq_iff w v).mp hlow
      simp only [decSys, hop]
      exact if_pos ⟨hr, bne_iff_ne.mp hc⟩
    | reg r =>
      exact decodeOp_of_sys r 1 0 h fun hr hop hlow => by
        simp only [decSys, hop, hr, (ifld_low16_eq_iff w 0).mp hlow, if_true]
  | repn src =>
    cases src with
    | imm v =>
      refine decodeOp_of_sys 0 2 v.toNat h (hn := v.isLt) fun hr hop hlow => ?_
      obtain rfl := (ifld_low16_eq_iff w v).mp hlow
      simp only [decSys, hop]
      exact if_pos ⟨hr, (repnImm_iff w).mp hc⟩
    | reg r =>
      exact decodeOp_of_sys r 3 0 h fun hr hop hlow => by
        simp only [decSys, hop, hr, (ifld_low16_eq_iff w 0).mp hlow, if_true]
  | close =>
    exact decodeOp_of_sys 0 4 0 h fun hr hop hlow => by
      simp only [decSys, hop, hr, (ifld_low16_eq_iff w 0).mp hlow, and_self, if_true]
  | rete =>
    exact decodeOp_of_sys 0 7 0 h fun hr hop hlow => by
      simp only [decSys, hop, hr, (ifld_low16_eq_iff w 0).mp hlow, and_self, if_true]
  | sys code =>
    exact decodeOp_of_sys 0 5 code.toNat h (hn := code.isLt) fun hr hop hlow => by
      simp only [decSys, hop, hr, (ifld_low16_eq_iff w code).mp hlow, if_true]
  | mcall code =>
    exact decodeOp_of_sys 0 6 code.toNat h (hn := code.isLt) fun hr hop hlow => by
      simp only [decSys, hop, hr, (ifld_low16_eq_iff w code).mp hlow, if_true]
  | mfs d sr =>
    refine decodeOp_of_sys d 8 sr.toNat h (hn := by omega) fun hr hop hlow => ?_
    obtain ⟨hhigh, rfl⟩ := (ifld_low12_eq_iff w sr).mp hlow
    simp only [decSys, hop, hr, ifld_low12]
    exact if_pos ⟨hhigh, hc⟩
  | mts sr r =>
    refine decodeOp_of_sys r 9 sr.toNat h (hn := by omega) fun hr hop hlow => ?_
    obtain ⟨hhigh, rfl⟩ := (ifld_low12_eq_iff w sr).mp hlow
    simp only [decSys, hop, hr, ifld_low12]
    exact if_pos ⟨hhigh, hc⟩
  | iinv r => exact decodeOp_of_cache r 0 h fun hr hop hlow => by simp [decCache, hr, hop, hlow]
  | iinva => exact decodeOp_of_cache 0 1 h fun hr hop hlow => by simp [decCache, hr, hop, hlow]
  | dinv r => exact decodeOp_of_cache r 2 h fun hr hop hlow => by simp [decCache, hr, hop, hlow]
  | dinva => exact decodeOp_of_cache 0 3 h fun hr hop hlow => by simp [decCache, hr, hop, hlow]

end

/-- Settles O60: each format's word is told by its fields, so that what decoding reads is what encoding wrote. -/
theorem encodingRoundTrips : Obligations.EncodingRoundTrips :=
  ⟨fun _ op hc hp => decodeOp_encodeOp op rfl hc hp, fun _ _ h =>
    have hword := isWordOf_of_decodeOp h
    ⟨hword.word, hword.encodable, hword.plain⟩⟩

end Sys2Proof.Machine
end

section
/-! Loads and stores at an address that is no multiple of their size (R45, R129, R142). -/

namespace Sys2Proof.Machine

section
variable {s : State} {t : TriadId} (h : Ready s t)
include h

/-- A misaligned access raises the alignment exception (R129, R142). -/
theorem opCommand_misaligned {fn : MemFn} {rt rb : Reg} {post : Bool} {off : BitVec 12}
    (hc : opEncodable (.mem fn rt rb post off) = true)
    (hn : (memAddr (s.leadCore t) rb post off).toNat % 2 ^ memSize fn ≠ 0) :
    opCommand s t true (.mem fn rt rb post off) = trapped s t 5 none := by
  have halign : accessCheck s t (s.leadCore t) fn (memAddr (s.leadCore t) rb post off) = .align := if_pos hn
  have hlegal : opIllegal s t (s.leadCore t) (s.leadCore t).pc false (.mem fn rt rb post off) = false := by
    unfold opIllegal
    rw [hc]
    rfl
  refine opCommand_traps h (rank := 4) ?_ (by decide) (by decide)
  rw [opExc, hlegal]
  simp only [halign]
  rfl

end

/-- Settles O6: the encoding admits each access, and of its checks that of alignment comes first. -/
theorem misalignment : Obligations.Misalignment := by
  intro s t h rt rb post off va i n own hmem hbase hn
  have htrap (fn : MemFn) (hn : va.toNat % 2 ^ memSize fn ≠ 0)
      (hown : memIsLoad fn = true → memDest fn rt = .g rt → own = true) :
      Host.Outcome.next (φ := Fault) (ρ := Refusal) (opCommand s t true (.mem fn rt rb post off))
        = .next (trapped s t 5 none) :=
    congrArg _ (opCommand_misaligned h (opEncodable_mem (fun hp => (hbase hp).1)
      fun hp hl hd => (hbase hp).2 (hown hl hd)) hn)
  simp only [List.mem_cons, Prod.mk.injEq, List.not_mem_nil, or_false] at hmem
  rcases hmem with ⟨rfl, rfl, rfl⟩ | ⟨rfl, rfl, rfl⟩ | ⟨rfl, rfl, rfl⟩ | ⟨rfl, rfl, rfl⟩ | ⟨rfl, rfl, rfl⟩ | ⟨rfl, rfl, rfl⟩
    | ⟨rfl, rfl, rfl⟩ | ⟨rfl, rfl, rfl⟩ | ⟨rfl, rfl, rfl⟩ | ⟨rfl, rfl, rfl⟩ | ⟨rfl, rfl, rfl⟩ | ⟨rfl, rfl, rfl⟩
  · exact htrap .ldh hn fun _ _ => rfl
  · exact htrap .ldhu hn fun _ _ => rfl
  · exact htrap .ldw hn fun _ _ => rfl
  · exact htrap .ldwu hn fun _ _ => rfl
  · exact htrap .ld hn fun _ _ => rfl
  · exact htrap .sth hn nofun
  · exact htrap .stw hn nofun
  · exact htrap .st hn nofun
  · exact htrap .flw hn nofun
  · exact htrap .fsw hn nofun
  · exact htrap .fld hn nofun
  · exact htrap .fsd hn nofun

end Sys2Proof.Machine
end

section
/-! The instructions that stand alone in their bundle (R61): CLOSE, the service calls, MTS and the cache operations, what
their issue leaves, and the statements about all but MTS (R134, R137 to R139, R161, R204). -/

namespace Sys2Proof.Machine

/-! ### What such an instruction is -/

/-- An operation that starts no result, opens no delay slot and moves every lane in use past it. -/
structure MovesPast (op : Op) : Prop where
  mem : memOf [op] = none
  noBranch : opClass op ≠ .branch
  next : ∀ c : LaneCore, nextCore c op 4 false none = c.setCur fun b => { b with pc := c.pc + 4 }
  unit : ∀ fl, cancelUnit op fl = fl
  results : ∀ (c : LaneCore) (x : OpCtx), opResults c x op = []
  counts : ∀ (s : State) (t : TriadId) (l : Lane) (ipc : Word), branchCounts s t l ipc op = s

/-- The operations of R61 that stand alone are such ones. -/
theorem movesPast_of_alone {op : Op} (h : opClass op = .alone) : MovesPast op := by
  cases op with
  | close | sys | mcall | rete | mts | iinv | iinva | dinv | dinva =>
    exact ⟨rfl, nofun, fun _ => rfl, fun _ => rfl, fun _ _ => rfl, fun _ _ _ _ => rfl⟩
  | fp fn => cases fn <;> cases h
  | _ => cases h

/-! ### Its issue -/

@[simp] theorem Triad.countAll_l1i (x : Triad) (l : List (Nat × Nat)) : (x.countAll l).l1i = x.l1i := by
  rw [Triad.countAll_eq]

@[simp] theorem Triad.countAll_l1d (x : Triad) (l : List (Nat × Nat)) : (x.countAll l).l1d = x.l1d := by
  rw [Triad.countAll_eq]

/-- A triad with other caches. -/
def Triad.withCaches (x y : Triad) : Triad := { x with l1i := y.l1i, l1d := y.l1d, fetched := y.fetched }

/-- What the issue of such an operation leaves, where it leaves the triad's caches as those of `y`. -/
structure LoneIssued (s s' : State) (t : TriadId) (op : Op) (y : Triad) : Prop where
  issued : Issued s s' t (fun c => c.onward (c.pc + 4) []) fun _ => []
  act : ∀ l, (s'.tri t).act l = (s.tri t).act l
  slotOpen : (s'.tri t).slotOpen = true
  entry : (s'.tri t).entry = (s.tri t).service ((s.leadCore t).pc + 4) op
  closeDue : (s'.tri t).closeDue = bit10 1 (op == .close)
  l1i : (s'.tri t).l1i = y.l1i
  l1d : (s'.tri t).l1d = y.l1d
  mts : ∀ sr r, op = .mts sr r → ∀ l, (s.tri t).act l = true →
    ((s'.tri t).lane l).mts = some (sr, ((s.tri t).lane l).core.rg r)

section
variable {s : State} {t : TriadId} (h : Ready s t)
include h

/-- An instruction that stands alone and passes its checks issues; of the triad's own state beside the slot it changes the
caches, the entry and the close that are due. -/
theorem opCommand_lone {op : Op} (hop : opClass op = .alone)
    (hx : opExc s t (s.leadCore t) (s.leadCore t).pc false op = none) (hi : iinvWaits (s.tri t) op = false)
    {f : Triad → Triad} (hc : cacheOp s t (s.leadCore t) op = s.setTriad t f)
    (hf : f (s.tri t) = (s.tri t).withCaches (f (s.tri t)) := by rfl) :
    LoneIssued s (opCommand s t true op) t op (f (s.tri t)) := by
  rw [State.setTriad_congr s t (g := fun x => x.withCaches (f (s.tri t))) hf] at hc
  generalize f (s.tri t) = y at hc
  obtain ⟨hmem, hbranch, hnext, hunit, hresults, hcounts⟩ := movesPast_of_alone hop
  have hdue : delayDue s t [(op, (s.leadCore t).pc, 1)] 4 op = 0 := by simp [delayDue, delayOf, hbranch]
  rw [opCommand_alone h, issueBundle_alone h op (bundleExc_alone _ _ _ _ hx) hi hdue,
    issueMem_none _ _ _ _ (by simpa using hmem), Option.getD_some]
  generalize hs : issueNow s t false [(op, (s.leadCore t).pc, 1)] 4 op (fun _ => 0) true none = s'
  unfold State.leadCore at hc
  simp only [issueNow, startRep, Bool.false_eq_true, if_false, hcounts, hc] at hs
  obtain ⟨s1, n, hregs, hcount⟩ := countSlot_spec (s.setTriad t fun x => x.withCaches y) t
  rw [hcount, State.setTriad_setTriad] at hs
  have htri := congrArg (fun z => State.tri z t) hs
  simp only [State.tri_setTriad, hregs.tri] at htri
  have hact (l : LaneId) (hl : (s.tri t).act l = true) : (s'.tri t).lane l =
      laneIssue (s.tri t) false [(op, (s.leadCore t).pc, 1)] 4 op (fallOf s t (s.leadCore t) 4 op) (fun _ => 0) true none l
        ((s.tri t).lane l) := by
    rw [← htri]
    simp [Triad.lane, hl, Triad.withCaches, State.leadCore]
  have hidle (l : LaneId) (hl : (s.tri t).act l = false) : (s'.tri t).lane l = (s.tri t).lane l := by
    rw [← htri]
    simp [Triad.lane, hl, Triad.withCaches]
  refine ⟨⟨?cores, ?gates, hidle, ?others, ?memory, ?slots⟩, ?act, ?slotOpen, ?entry, ?closeDue, ?l1i, ?l1d, ?mts⟩
  case cores =>
    intro l hl
    rw [hact l hl]
    simp only [laneIssue, startRep, Bool.false_eq_true, if_false, List.foldl_cons, List.foldl_nil, Lane.act, hunit,
      hresults, h.delay, hnext]
    rfl
  case gates =>
    intro l hl
    rw [hact l hl]
    simp [laneIssue, startRep, Lane.act]
  case others =>
    intro u hu
    rw [← hs, State.tri_setTriad_ne _ _ _ _ hu, hregs.tri, State.tri_setTriad_ne _ _ _ _ hu]
  case memory =>
    rw [← hs]
    exact hregs.mem
  case act =>
    intro l
    show (((s'.tri t).lane l).state == .active) = _
    cases hl : (s.tri t).act l
    · rw [hidle l hl]
      exact hl
    · rw [hact l hl]
      exact hl
  case entry =>
    unfold State.leadCore
    rw [← htri]
    cases (s.tri t).service (((s.tri t).lane (s.tri t).lead).core.pc + 4) op <;>
      simp [h.entry, Triad.withCaches, Triad.countC]
  case mts =>
    rintro sr r rfl l hl
    rw [hact l hl]
    rfl
  all_goals simp [← htri, h.closeDue, Triad.withCaches, Triad.countC]

/-- Such an operation without effect on a cache. -/
theorem opCommand_lone_plain {op : Op} (hop : opClass op = .alone)
    (hx : opExc s t (s.leadCore t) (s.leadCore t).pc false op = none) (hi : iinvWaits (s.tri t) op = false)
    (hc : cacheOp s t (s.leadCore t) op = s) : LoneIssued s (opCommand s t true op) t op (s.tri t) :=
  opCommand_lone h hop hx hi (f := fun x => x) (hc.trans (State.setTriad_id _ _ _ rfl).symm)

end

/-- Settles O9: each of the three is an issue of its own, and what it asks for is due. -/
theorem closeAndServiceCalls : Obligations.CloseAndServiceCalls := by
  intro s t h code x on
  have hclose := opCommand_lone_plain h (op := .close) rfl (opExc_close ..) rfl rfl
  have hsys := opCommand_lone_plain h (op := .sys code) rfl (opExc_sys ..) rfl rfl
  have hmcall := opCommand_lone_plain h (op := .mcall code) rfl (opExc_mcall ..) rfl rfl
  refine ⟨⟨_, rfl, hclose.issued, hclose.entry, ?_⟩, ⟨_, rfl, hsys.issued, hsys.entry⟩,
    ⟨_, rfl, hmcall.issued, hmcall.entry⟩⟩
  rw [hclose.closeDue]
  rfl

/-! ### Cache maintenance -/

section
variable {s : State} {t : TriadId} (hten : bitOf (s.rd (Adr.tapuCtx t.val)) 63 = false)
include hten

theorem coreTouch_of_untranslated (bank3 : Bool) (priv : Nat) (kind : XKind) (va : Word) :
    coreTouch s t bank3 priv kind va = s := by
  have hq : (coreReq s t priv kind).ten = false := hten
  simp [coreTouch, hq]

theorem leafOf_of_untranslated (bank3 : Bool) {va : Word} (hva : va.toNat < 2 ^ 40) :
    leafOf s t bank3 va = some va.toNat := by
  have hq : (coreReq s t 3 .load).ten = false := hten
  rw [leafOf]
  simp only [hq, Bool.not_false, Bool.or_true, if_true, if_pos hva]

/-- IINV of an untranslated DDR address (R137). -/
theorem cacheOp_iinv (c : LaneCore) (r : Reg) (hva : (c.rg r).toNat < 2 ^ 40) (hddr : regionOf s (c.rg r).toNat = .ddr) :
    cacheOp s t c (.iinv r) = s.setTriad t fun x =>
      { x with l1i := x.l1i.filter fun p => decide (p.1 ≠ (c.rg r).toNat / 64), fetched := none } := by
  have hin : inDdr s (c.rg r).toNat = true := beq_iff_eq.mpr hddr
  simp only [cacheOp, leafOf_of_untranslated hten _ hva, coreTouch_of_untranslated hten, Option.filter_some, hin, if_true]

theorem cacheOp_dinv (c : LaneCore) (r : Reg) (hva : (c.rg r).toNat < 2 ^ 40) (hddr : regionOf s (c.rg r).toNat = .ddr) :
    cacheOp s t c (.dinv r) = s.setTriad t fun x =>
      { x with l1d := x.l1d.filter fun a => decide (a ≠ (c.rg r).toNat / 64 * 64) } := by
  have hin : inDdr s (c.rg r).toNat = true := beq_iff_eq.mpr hddr
  simp only [cacheOp, leafOf_of_untranslated hten _ hva, coreTouch_of_untranslated hten, Option.filter_some, hin, if_true]

end

/-- Settles O12: each of the four is an issue of its own that changes the triad's caches and nothing else. -/
theorem cacheMaintenance : Obligations.CacheMaintenance := by
  intro s t h hrelease hgate r va on
  have hheld : (!(s.tri t).toRelease.isEmpty
      || ((s.tri t).lane (s.tri t).lead).gate.any fun e => decide (e.clause ≠ (s.tri t).clause)) = false := by
    rw [hgate, hrelease]
    rfl
  refine ⟨fun hpriv => ?_, fun hten hva hddr => ?_⟩
  · have hi := opCommand_lone h (op := .iinva) rfl (opExc_iinva _ _ _ _ hpriv) hheld rfl
    have hd := opCommand_lone h (op := .dinva) rfl (opExc_dinva _ _ _ _ hpriv) rfl rfl
    exact ⟨⟨_, rfl, hi.issued, hi.l1i, hi.l1d⟩, _, rfl, hd.issued, hd.l1d, hd.l1i⟩
  · have hi := opCommand_lone h rfl (opExc_iinv ..) hheld (cacheOp_iinv hten _ r hva hddr)
    have hd := opCommand_lone h rfl (opExc_dinv ..) rfl (cacheOp_dinv hten _ r hva hddr)
    exact ⟨⟨_, rfl, hi.issued, hi.l1d, hi.l1i⟩, _, rfl, hd.issued, hd.l1i, hd.l1d⟩

end Sys2Proof.Machine
end

section
/-! System registers: the numbers that a level reads and writes, what MFS reads, and what MTS leaves at the end of its slot
(R54 to R56, R135, R136, R148 to R155). -/

namespace Sys2Proof.Machine

/-! ### The numbers that a level reads and writes -/

section
variable {c : LaneCore} {n : Nat}

theorem mayRead_lt (h : Clause.MayRead c n) : n < 512 := by
  unfold Clause.MayRead at h
  omega

theorem srExists_of_mayRead (h : Clause.MayRead c n) : srExists n = true := by
  unfold Clause.MayRead at h
  simp only [srExists, Bool.or_eq_true, Bool.and_eq_true, decide_eq_true_eq]
  omega

theorem mfsAllowed_of_mayRead (h : Clause.MayRead c n) : mfsAllowed c n = true := by
  unfold mfsAllowed
  rcases h with rfl | rfl | ⟨hp, rfl | rfl⟩ | ⟨hp, rfl | rfl⟩ | ⟨hp, hlo, hhi, -, -, b, hb, hor⟩
  · rfl
  · rfl
  · simpa using hp
  · simpa using hp
  · simpa using hp
  · simpa using hp
  · have hbank : srBank n = b := Fin.ext hb.symm
    simp only [if_pos hlo, hbank]
    simpa [hp, or_assoc] using hor

end

theorem mtsAllowed_of_mayWrite {c : LaneCore} {n : Nat} {v : Word} (h : Clause.MayWrite c n v) :
    mtsAllowed c n v = true := by
  obtain ⟨hread, hrpc, hpsw, -⟩ := h
  have hmfs := mfsAllowed_of_mayRead hread
  unfold mtsAllowed
  split_ifs with hlo
  · exact hmfs
  · simp only [mfsAllowed, if_neg hlo] at hmfs
    split at hmfs
    · by_cases hp : c.priv = 0
      · simp [hpsw rfl hp]
      · simp [hp]
    · simpa using hrpc rfl
    all_goals exact hmfs

/-- R151: an MTS never names the PC of the current bank. -/
theorem mtsOwnPc_of_mayWrite {c : LaneCore} {sr : BitVec 12} {r : Reg} {v : Word} (h : Clause.MayWrite c sr.toNat v) :
    mtsOwnPc c (.mts sr r) = false := by
  obtain ⟨hread, -, -, hpc⟩ := h
  have hlt := mayRead_lt hread
  rw [mtsOwnPc, Bool.and_eq_false_iff, Bool.and_eq_false_iff, Bool.and_eq_false_iff]
  by_contra hown
  simp only [not_or, Bool.not_eq_false, decide_eq_true_eq, beq_iff_eq] at hown
  obtain ⟨⟨⟨-, hlo⟩, hbank⟩, hidx⟩ := hown
  have hcur : sr.toNat / 64 % 4 = c.cur.val := congrArg Fin.val hbank
  unfold srIdx at hidx
  omega

/-! ### A register by its bank's number -/

section
variable (c : LaneCore) (b : Fin 4) {n i : Nat} (hi : i < 64) (hn : n = 0x100 + 64 * b.val + i)
include hi hn

theorem srBank_bankNumber : srBank n = b := by
  apply Fin.ext
  simp only [srBank]
  omega

theorem srIdx_bankNumber : srIdx n = i := by
  simp only [srIdx]
  omega

/-- A register of another bank has no short name (R151). -/
theorem srCanon_other (hb : b ≠ c.cur) : srCanon c.cur n = n := by
  rw [srCanon, srBank_bankNumber b hi hn, if_neg fun h => hb h.2]

/-- What MFS reads by the number of a bank's register, of the current bank too (R149, R151). -/
theorem mfsValue_bankNumber : mfsValue c n =
    if i < 0x20 then (c.banks[b]).rg (BitVec.ofNat 5 i) else if i = 0x20 then (c.banks[b]).pc
    else if i = 0x21 then (c.banks[b]).psw else if i = 0x22 then (c.banks[b]).rpc.setWidth 64 else (c.banks[b]).epriv := by
  have hlo : 0x100 ≤ n := by omega
  have hbank := srBank_bankNumber b hi hn
  have hidx := srIdx_bankNumber b hi hn
  by_cases hshort : b = c.cur ∧ (i = 0x21 ∨ i = 0x22 ∨ i = 0x23)
  · obtain ⟨rfl, rfl | rfl | rfl⟩ := hshort <;> simp only [mfsValue, srCanon, hbank, hidx, hlo] <;> rfl
  · have hcanon : srCanon c.cur n = n := by
      rw [srCanon, hbank, hidx]
      split_ifs with hcur
      · split
        case h_4 => rfl
        all_goals exact absurd ⟨hcur.2, by decide⟩ hshort
      · rfl
    simp only [mfsValue, hcanon, if_pos hlo, hbank, hidx]

/-- What MTS leaves by the number of another bank's register (R149, R154, R155). -/
theorem mtsWrite_bankNumber (hb : b ≠ c.cur) (v : Word) : mtsWrite c n v = c.setBank b fun k =>
    if i < 0x20 then k.wg (BitVec.ofNat 5 i) v else if i = 0x20 then { k with pc := v }
    else if i = 0x21 then { k with psw := pswOther c.priv k.psw v } else if i = 0x22 then { k with rpc := v.setWidth 32 }
    else k := by
  have hlo : 0x100 ≤ n := by omega
  have hother : (b == c.cur) = false := beq_eq_false_iff_ne.mpr hb
  simp only [mtsWrite, srCanon_other c b hi hn hb, if_pos hlo, srBank_bankNumber b hi hn, srIdx_bankNumber b hi hn, hother,
    Bool.false_eq_true, if_false]

end

/-! ### MFS -/

theorem systemRegisterReads : Clause.SystemRegisterReads := by
  intro s t h rd does
  refine ⟨fun n hn => ?_, fun c => ⟨rfl, rfl, rfl, rfl, rfl, rfl, fun b => ?_⟩⟩
  · have hsr : (BitVec.ofNat 12 n).toNat = n := Nat.mod_eq_of_lt ((mayRead_lt hn).trans (by decide))
    refine Starts.of h _ (.mfs rd (BitVec.ofNat 12 n)) _ (fun _ => rfl) (opExc_mfs _ _ _ _ _ _ ?_ ?_) rfl rfl nofun
      (fun _ _ => rfl) (fun _ => rfl) (fun _ => rfl) (fun c x y hi hs => by simp only [opResults, hi, hs]) fun c => ?_
    · rw [hsr]
      exact srExists_of_mayRead hn
    · rw [hsr]
      exact mfsAllowed_of_mayRead hn
    · simp only [opResults, gives, hsr]
      rfl
  · have hreg {n i : Nat} (hn : n = 0x100 + 64 * b.val + i) (hi : i < 64) := mfsValue_bankNumber c b hi hn
    exact ⟨fun i _ hi => (hreg rfl (by omega)).trans (if_pos hi), hreg (i := 0x20) (by omega) (by decide),
      hreg (i := 0x21) (by omega) (by decide), hreg (i := 0x22) (by omega) (by decide),
      hreg (i := 0x23) (by omega) (by decide)⟩

/-! ### MTS, from its issue to the end of its slot -/

/-- The leading lane is in use where a lane is (R195). -/
theorem Triad.act_lead {x : Triad} {l : LaneId} (h : x.act l = true) : x.act x.lead = true := by
  have hmem : l ∈ x.actives := List.mem_filter.mpr ⟨by fin_cases l <;> decide, h⟩
  unfold Triad.lead
  cases hhead : x.actives.head? with
  | none => exact absurd hmem (by rw [List.head?_eq_none_iff.mp hhead]; exact List.not_mem_nil)
  | some k => exact (List.mem_filter.mp (List.mem_of_mem_head? hhead)).2

theorem systemRegisterWrites : Clause.SystemRegisterWrites := by
  intro s t h sr r hw
  have hexc : opExc s t (s.leadCore t) (s.leadCore t).pc false (.mts sr r) = none :=
    opExc_mts _ _ _ _ _ _ (srExists_of_mayRead hw.1) (mtsAllowed_of_mayWrite hw) (mtsOwnPc_of_mayWrite hw)
  have hdone := opCommand_lone_plain h rfl hexc rfl rfl
  have hmts := hdone.mts sr r rfl
  refine ⟨_, rfl, hdone.issued, hmts, fun hflight => ?_⟩
  generalize opCommand s t true (.mts sr r) = s' at hdone hmts
  have hempty (l : LaneId) (hl : (s.tri t).act l = true) : ((s'.tri t).lane l).core.flight = [] := by
    rw [hdone.issued.lanes l hl, LaneCore.onward_nil]
    exact hflight l hl
  obtain ⟨hclosed, hopen⟩ := slotEnds s' t
  cases hfrozen : (s'.tri t).frozen with
  | true =>
    refine ⟨s', hclosed (.inr hfrozen), fun l hl => ?_⟩
    have hlead : (s.tri t).act (s'.tri t).lead = true :=
      (hdone.act _).symm.trans (Triad.act_lead ((hdone.act l).trans hl))
    have hstalled : ((s'.tri t).lane (s'.tri t).lead).core.stalled = true := (Bool.and_eq_true_iff.mp hfrozen).2
    rw [LaneCore.stalled, hempty _ hlead] at hstalled
    cases hstalled
  | false =>
    obtain ⟨u, hu, -, -, -, -, -, -, -, hlanes⟩ := hopen hdone.slotOpen hfrozen (.inl hdone.entry)
    refine ⟨u, hu, fun l hl => ?_⟩
    obtain ⟨-, -, hland⟩ := hlanes l ((hdone.act l).trans hl)
    rw [hland sr _ (hmts l hl) (hempty l hl), hdone.issued.lanes l hl]

/-! ### What an MTS leaves -/

/-- An MTS to PSW at U level leaves the fields below FFLAGS (R55). -/
theorem bitOf_pswFpFields (old new : Word) {i : Nat} (hi : i < 16) : bitOf (pswFpFields old new) i = bitOf old i := by
  unfold pswFpFields
  simp only [bitOf_setField]
  rw [if_neg (by omega)]
  split_ifs
  · rw [bitOf_setField, if_neg (by omega), bitOf_setField, if_neg (by omega)]
  · rw [bitOf_setField, if_neg (by omega)]

theorem testBit_field (w : Word) (hi lo i : Nat) :
    (field w hi lo).testBit i = (decide (i < hi + 1 - lo) && bitOf w (lo + i)) := by
  simp only [field, Nat.testBit_mod_two_pow, Nat.testBit_div_two_pow, BitVec.testBit_toNat, bitOf, Nat.add_comm]

/-- Above U level it moves IE and IPL of them (R56). -/
theorem bitOf_pswMts (old new : Word) {i : Nat} (hi : i < 16) : bitOf (pswMts old new) i =
    if i = 2 ∨ 4 ≤ i ∧ i ≤ 7 then bitOf new i else bitOf old i := by
  rw [pswMts, bitOf_putBit, bitOf_setField, pswIPL, testBit_field, bitOf_pswFpFields old new hi]
  by_cases h2 : i = 2
  · subst h2
    rfl
  by_cases h47 : 4 ≤ i ∧ i ≤ 7
  · rw [if_neg h2, if_pos h47, if_pos (.inr h47), Nat.add_sub_cancel' h47.1]
    simp only [show i < 64 by omega, show i - 4 < 7 + 1 - 4 by omega, decide_true, Bool.true_and]
  · rw [if_neg h2, if_neg h47, if_neg (by omega)]

theorem mtsWrite_psw (c : LaneCore) (v : Word) : (mtsWrite c 0 v).psw =
    if c.priv = 0 then pswFpFields c.psw v else pswMts c.psw v :=
  congrArg Bank.psw (c.bank_setCur _)

theorem mtsLeaves : Clause.MtsLeaves := by
  intro c v
  refine ⟨rfl, rfl, rfl, rfl, rfl, ?_, fun hp => ?_, fun hp => ?_, fun b hb => ?_⟩
  · rw [mtsWrite_psw]
    split_ifs
    · exact field_congr fun i _ hi => bitOf_pswFpFields _ _ (by omega)
    · exact field_congr fun i _ hi => (bitOf_pswMts _ _ (by omega)).trans (if_neg (by omega))
  · rw [mtsWrite_psw, if_pos hp]
    exact ⟨bitOf_pswFpFields _ _ (by decide), field_congr fun i _ hi => bitOf_pswFpFields _ _ (by omega)⟩
  · rw [mtsWrite_psw, if_neg hp]
    exact ⟨bitOf_pswMts _ _ (by decide),
      field_congr fun i hlo hi => (bitOf_pswMts _ _ (by omega)).trans (if_pos (.inr ⟨hlo, hi⟩))⟩
  · have hreg {n i : Nat} (hn : n = 0x100 + 64 * b.val + i) (hi : i < 64) := mtsWrite_bankNumber c b hi hn hb v
    refine ⟨fun i _ hi => ?_, hreg (i := 0x20) (by omega) (by decide), hreg (i := 0x22) (by omega) (by decide),
      hreg (i := 0x23) (by omega) (by decide)⟩
    rw [hreg rfl (by omega)]
    simp only [if_pos hi]

/-- Settles O10: a number that the level admits passes the checks of MFS and MTS, and the end of the slot writes it. -/
theorem systemRegisters : Obligations.SystemRegisters := ⟨systemRegisterReads, systemRegisterWrites, mtsLeaves⟩

end Sys2Proof.Machine
end

section
/-! Pulses of events: pending, overrun and doorbells (R163, R164, R171). -/

namespace Sys2Proof.Machine

theorem RegsOnly.eq_with {s s' : State} (h : RegsOnly s s') : s' = { s with regs := s'.regs } := by
  obtain ⟨r, rfl⟩ := h
  rfl

theorem bitOf_putBit_true (w : Word) {k : Nat} (hk : k < 64) (i : Nat) :
    bitOf (putBit w k true) i = (bitOf w i || decide (i = k)) := by
  rw [bitOf_putBit]
  by_cases h : i = k
  · simp [h, hk]
  · simp [h]

/-- An event shows in two registers, and both are read where it becomes pending (R164). -/
theorem rd_pend (s : State) (n a : Nat) : (pend s n).rd a =
    if a = Adr.evcPend (n / 32) ∨ a = Adr.evcOvr (n / 32) ∧ bitOf (s.rd (Adr.evcPend (n / 32))) (n % 32) = true then
      putBit (s.rd a) (n % 32) true
    else s.rd a := by
  have hne : Adr.evcPend (n / 32) ≠ Adr.evcOvr (n / 32) := by simp only [Adr.evcPend, Adr.evcOvr]; omega
  unfold pend State.setBitR
  dsimp only
  split
  · next hp =>
    by_cases ha : a = Adr.evcPend (n / 32)
    · rw [if_pos (.inl ha), ha, State.rd_up_self, State.rd_up_ne _ _ _ _ hne]
    · rw [State.rd_up_ne _ _ _ _ ha]
      by_cases ho : a = Adr.evcOvr (n / 32)
      · rw [if_pos (.inr ⟨ho, hp⟩), ho, State.rd_up_self]
      · rw [State.rd_up_ne _ _ _ _ ho, if_neg (by tauto)]
  · next hp =>
    by_cases ha : a = Adr.evcPend (n / 32)
    · rw [if_pos (.inl ha), ha, State.rd_up_self]
    · rw [State.rd_up_ne _ _ _ _ ha, if_neg (by tauto)]

/-- What a pulse changes: the event's two bits (R164), and nothing at all in DORMANT (R677). -/
theorem pulse_spec (s : State) (n : Nat) :
    Pulsed s (pulse s n) n ∧ SameRegs s (pulse s n) (eventRegs n) ∧ pulse s n = { s with regs := (pulse s n).regs } := by
  have hbit : n % 32 < 64 := by omega
  have hne : Adr.evcOvr (n / 32) ≠ Adr.evcPend (n / 32) := by simp only [Adr.evcPend, Adr.evcOvr]; omega
  refine ⟨?_, ?_, (RegsOnly.pulse s n).eq_with⟩
  · by_cases hm : modeOf s = 5
    · rw [pulse, State.powered_of_dormant _ _ hm]
      constructor <;> simp [hm]
    · rw [pulse, State.powered_of_awake _ _ hm]
      constructor <;> intro i
      · rw [rd_pend, if_pos (.inl rfl), bitOf_putBit_true _ hbit]
        simp [hm]
      · rw [rd_pend]
        by_cases hp : bitOf (s.rd (Adr.evcPend (n / 32))) (n % 32) = true
        · rw [if_pos (.inr ⟨rfl, hp⟩), bitOf_putBit_true _ hbit]
          by_cases hi : i = n % 32
          · simp [hi, hp, hm]
          · simp [hi]
        · rw [if_neg (by tauto)]
          by_cases hi : i = n % 32
          · simp [hi, hp]
          · simp [hi]
  · intro a ha
    simp only [eventRegs, List.mem_cons, List.not_mem_nil, or_false, not_or] at ha
    unfold pulse State.powered
    split
    · rfl
    · rw [rd_pend, if_neg (by tauto)]

/-- Of the triads that ring, the lowest is found (R171). -/
theorem find_lowestTriad {who : BitVec 6} {w : TriadId} (hw : who.getLsbD w.val = true)
    (hlow : ∀ v : TriadId, v < w → who.getLsbD v.val = false) :
    (allTriads.find? fun u => who.getLsbD u.val) = some w := by
  have hall : allTriads = List.finRange 6 := rfl
  rw [hall, List.find?_eq_some_iff_getElem]
  refine ⟨hw, w.val, by simp, by simp, fun j hj => ?_⟩
  simpa using hlow ⟨j, by omega⟩ hj

theorem find_noTriad : (allTriads.find? fun u => (0 : BitVec 6).getLsbD u.val) = none := by decide

/-- A doorbell's pulse, and FROM and RUNG of its source (R171). -/
theorem ringTriad_spec (s : State) (w : TriadId) (src : BitVec 6) :
    let s' := ringTriad s w src.toNat
    let d := Adr.evcDbfrom (src.toNat / 8)
    let i := 4 * (src.toNat % 8)
    Pulsed s s' (704 + src.toNat) ∧ SameRegs s s' (d :: eventRegs (704 + src.toNat)) ∧ s' = { s with regs := s'.regs }
      ∧ field (s'.rd d) (i + 2) i = w.val ∧ bitOf (s'.rd d) (i + 3) = true
      ∧ ∀ j, (j < i ∨ i + 3 < j) → bitOf (s'.rd d) j = bitOf (s.rd d) j := by
  intro s' d i
  have hsrc : src.toNat % 64 = src.toNat := Nat.mod_eq_of_lt src.isLt
  have hs' : s' = (pulse s (704 + src.toNat)).up d fun x => setField (putBit x (i + 3) true) (i + 2) i w.val := by
    simp only [s', ringTriad, hsrc, d, i]
  obtain ⟨⟨hpend, hovr⟩, hsame, -⟩ := pulse_spec s (704 + src.toNat)
  have hd : d ∉ eventRegs (704 + src.toNat) := by
    simp only [eventRegs, List.mem_cons, List.not_mem_nil, or_false, not_or, d, Adr.evcDbfrom, Adr.evcPend, Adr.evcOvr]
    omega
  have hother {a : Nat} (ha : a ≠ d) : s'.rd a = (pulse s (704 + src.toNat)).rd a := by rw [hs', State.rd_up_ne _ _ _ _ ha]
  have hfrom : s'.rd d = setField (putBit (s.rd d) (i + 3) true) (i + 2) i w.val := by
    rw [hs', State.rd_up_self, hsame d hd]
  simp only [eventRegs, List.mem_cons, List.not_mem_nil, or_false, not_or] at hd
  refine ⟨⟨?_, ?_⟩, fun a ha => ?_, ?_, ?_, ?_, fun j hj => ?_⟩
  · rwa [hother (Ne.symm hd.1)]
  · rwa [hother (Ne.symm hd.2)]
  · obtain ⟨had, hae⟩ := not_or.mp (mt List.mem_cons.mpr ha)
    rw [hother had, hsame a hae]
  · have hregs : RegsOnly s s' := by
      rw [hs']
      exact (RegsOnly.pulse s _).trans (.up _ _ _)
    exact hregs.eq_with
  · apply Nat.eq_of_testBit_eq
    intro j
    have hw : w.val < 2 ^ 3 := by omega
    rw [testBit_field, hfrom, bitOf_setField]
    by_cases hj : j < 3
    · simp [show i + j ≤ i + 2 by omega, show i + j < 64 by omega, show j < i + 2 + 1 - i by omega]
    · rw [Nat.testBit_lt_two_pow (hw.trans_le (Nat.pow_le_pow_right (by decide) (Nat.le_of_not_lt hj)))]
      simp [show ¬ j < i + 2 + 1 - i by omega]
  · rw [hfrom, bitOf_setField, if_neg (by omega), bitOf_putBit_true _ (by omega), decide_eq_true rfl, Bool.or_true]
  · rw [hfrom, bitOf_setField, if_neg (by omega), bitOf_putBit, if_neg (by omega)]

/-- Settles O20: the two ways of a pulse are `pulse` itself, and a doorbell is one pulse with its source's FROM. -/
theorem eventPulses : Obligations.EventPulses := by
  intro s n who src
  refine ⟨fun hn => ⟨_, rfl, ?_⟩, fun hn => ?_, ⟨_, rfl, ?_⟩, fun hwho => ?_, fun w hw hlow => ⟨_, rfl, ?_⟩⟩
  · rw [hn]
    exact pulse_spec s n.val
  · show execEventPulse n s = _
    unfold execEventPulse
    split
    · rfl
    · next hp => rw [pulse, State.powered_of_dormant _ _ (hn.resolve_left hp)]
  · rw [swEvent, Nat.mod_eq_of_lt src.isLt]
    exact pulse_spec s _
  · subst hwho
    show execEvcDbset 0 src s = _
    rw [execEvcDbset, find_noTriad]
  · rw [find_lowestTriad hw hlow]
    exact ringTriad_spec s w src

end Sys2Proof.Machine
end

section
/-! The PSW that an entry gives its bank, field by field (R173, R182). -/

namespace Sys2Proof.Machine

/-! ### A word of kept FP fields over new low fields -/

theorem bitOf_fpMask (i : Nat) : bitOf (0x1FFF0000 : Word) i = decide (16 ≤ i ∧ i ≤ 28) := by
  by_cases hi : i < 64
  · revert i
    decide
  · rw [bitOf_of_ge _ (Nat.le_of_not_lt hi)]
    exact (decide_eq_false (by omega)).symm

section
variable (old : Word) {n : Nat} (hn : n < 2 ^ 16)

theorem bitOf_belowFp {i : Nat} (hi : i < 16) : bitOf ((old &&& 0x1FFF0000) ||| BitVec.ofNat 64 n) i = n.testBit i := by
  rw [bitOf_or, bitOf_and, bitOf_fpMask, bitOf_ofNat, decide_eq_false (by omega), decide_eq_true (by omega), Bool.and_false,
    Bool.false_or, Bool.true_and]

include hn

theorem field_belowFp {hi lo : Nat} (h : hi < 16) :
    field ((old &&& 0x1FFF0000) ||| BitVec.ofNat 64 n) hi lo = n / 2 ^ lo % 2 ^ (hi + 1 - lo) := by
  have hlow : field ((old &&& 0x1FFF0000) ||| BitVec.ofNat 64 n) hi lo = field (BitVec.ofNat 64 n) hi lo := by
    refine field_congr fun i _ hi' => ?_
    rw [bitOf_belowFp old (by omega), bitOf_ofNat, decide_eq_true (by omega), Bool.true_and]
  rw [hlow, field, BitVec.toNat_ofNat, Nat.mod_eq_of_lt (a := n) (b := 2 ^ 64) (by omega)]

theorem field_keptFp {hi lo : Nat} (hlo : 16 ≤ lo) (hhi : hi ≤ 28) :
    field ((old &&& 0x1FFF0000) ||| BitVec.ofNat 64 n) hi lo = field old hi lo := by
  refine field_congr fun i hl hh => ?_
  rw [bitOf_or, bitOf_and, bitOf_fpMask, bitOf_ofNat, decide_eq_true (by omega), Bool.and_true,
    Nat.testBit_lt_two_pow (hn.trans_le (Nat.pow_le_pow_right (by decide) (by omega))), Bool.and_false, Bool.or_false]

end

/-! ### The PSW at entry -/

theorem pswAtEntry : Clause.PswAtEntry := by
  intro old p e htp psw
  have hipl : (if p.nmx then 15 else if p.event.isSome then p.prio.toNat else pswIPL old) < 16 := by
    have hprio : p.prio.toNat < 16 := p.prio.isLt
    have hold : pswIPL old < 16 := Nat.mod_lt _ (by decide)
    split_ifs <;> omega
  have hpsw : psw = entryPsw old p e := rfl
  unfold entryPsw at hpsw
  dsimp only at hpsw
  generalize (if p.nmx then 15 else if p.event.isSome then p.prio.toNat else pswIPL old) = ipl at hipl hpsw ⊢
  generalize (e.budget != 0 && p.vec != 7) = ni at hpsw ⊢
  have hni : ni.toNat ≤ 1 := Bool.toNat_le ni
  have hbank : e.bank.val < 4 := e.bank.isLt
  have hn : ni.toNat * 2 ^ 11 + e.bank.val * 2 ^ 8 + ipl * 2 ^ 4 + e.tpriv < 2 ^ 16 := by omega
  clear_value psw
  subst hpsw
  refine ⟨?_, ?_, ?_, ?_, ?_, ?_, field_keptFp old hn (by decide) (by decide), field_keptFp old hn (by decide) (by decide),
    field_keptFp old hn (by decide) (by decide)⟩
  · rw [pswPriv, field_belowFp old hn (by decide)]
    omega
  · rw [pswBank, field_belowFp old hn (by decide)]
    omega
  · rw [pswIE, bitOf_belowFp old (by decide), Nat.testBit_eq_decide_div_mod_eq]
    exact decide_eq_false (by omega)
  · rw [pswRP, bitOf_belowFp old (by decide), Nat.testBit_eq_decide_div_mod_eq]
    exact decide_eq_false (by omega)
  · rw [pswNI, bitOf_belowFp old (by decide), Nat.testBit_eq_decide_div_mod_eq]
    cases ni with
    | false => exact decide_eq_false (by rw [Bool.toNat_false]; omega)
    | true => exact decide_eq_true (by rw [Bool.toNat_true]; omega)
  · rw [pswIPL, field_belowFp old hn (by decide)]
    omega

end Sys2Proof.Machine
end

section
/-! Reads of memory that a change of one triad does not reach: data words, and the check of a handler's first bundle
(R157, R172, R288, R296, R297). -/

namespace Sys2Proof.Machine

/-! ### Plain SRAM and an empty column -/

theorem plainSram_setTriad {s : State} {t : TriadId} {va : Word} {n : Nat} (h : PlainSram s t va n) (f : Triad → Triad) :
    PlainSram (s.setTriad t f) t va n :=
  ⟨h.physical, h.windows, h.aligned, h.inside, h.open_, h.clean, h.kept⟩

/-- Octets cut from a number, put together again. -/
theorem natLE_octets (n v : Nat) : natLE ((List.range n).map fun i => BitVec.ofNat 8 (v / 256 ^ i)) = v % 256 ^ n := by
  induction n generalizing v with
  | zero => simp [natLE, Nat.mod_one]
  | succ n ih =>
    have hrest : (List.range n).map ((fun i => BitVec.ofNat 8 (v / 256 ^ i)) ∘ Nat.succ)
        = (List.range n).map fun i => BitVec.ofNat 8 (v / 256 / 256 ^ i) :=
      List.map_congr_left fun i _ => by
        simp only [Function.comp_apply, Nat.pow_succ', Nat.div_div_eq_div_mul, Nat.succ_eq_add_one]
    rw [List.range_succ_eq_map, List.map_cons, List.map_map, natLE, hrest, ih, Nat.pow_succ', Nat.mod_mul]
    simp

/-- An empty column forwards nothing (R222). -/
theorem forwardData_nil (pa : Nat) (v : Word) : forwardData [] pa 8 v = v := by
  have hoctet (i : Nat) : gatedOctet [] i = none := rfl
  have h8 : (256 : Nat) ^ 8 = 2 ^ 64 := by norm_num
  simp only [forwardData, hoctet, Option.getD_none, natLE_octets, h8, Nat.mod_eq_of_lt v.isLt, BitVec.ofNat_toNat,
    BitVec.setWidth_eq]

/-! ### A fetch without translation -/

/-- Memory, where a fetch may be served from: no device and no hole (R44, R297). -/
def isMemory : Region → Bool
  | .sram | .setAlias | .clearAlias | .ddr => true
  | _ => false

/-- Of what is implied without translation, only memory and holes may be executed (R288). -/
theorem isMemory_of_attrX {s : State} {pa : Nat} {user : Bool} (hx : attrX (impliedAttr s pa user) = true)
    (hhole : regionOf s pa ≠ .hole) : isMemory (regionOf s pa) = true := by
  unfold impliedAttr at hx
  cases hr : regionOf s pa with
  | sram | setAlias | clearAlias | ddr => rfl
  | hole => exact absurd hr hhole
  | regs | mailbox =>
    rw [hr] at hx
    exact absurd hx (by cases user <;> decide)

/-- A fetch that passes the checks keeps its address, may be executed and meets no hole (R296, R297). -/
theorem checkAccess_fetch {s : State} {q : Xreq} {pa level : Nat} {attr : Word} {x : Xlat} (hk : q.kind = .fetch)
    (h : checkAccess s q pa attr level = .ok x) : x.pa = pa ∧ attrX attr = true ∧ regionOf s pa ≠ .hole := by
  simp only [checkAccess, hk] at h
  split_ifs at h with hpriv hkind hhole hpath hwindow
  all_goals
    refine ⟨congrArg Xlat.pa (Except.ok.inj h).symm, ?_, by simpa using hhole⟩
    simp only [Bool.not_eq_true', Bool.not_eq_false, Bool.and_eq_true] at hkind
    exact hkind.1.1

section
variable {s : State} {t : TriadId} (hten : bitOf (s.rd (Adr.tapuCtx t.val)) 63 = false)
include hten

theorem coreAccess_untranslated (priv : Nat) (kind : XKind) (va : Word) : coreAccess s t false priv kind va =
    if field va 63 40 ≠ 0 then .error ⟨0x1, 0⟩
    else checkAccess s (coreReq s t priv kind) va.toNat (impliedAttr s va.toNat (priv == 0)) 0 := by
  have hreq : (coreReq s t priv kind).ten = false := hten
  rw [coreAccess, if_neg Bool.false_ne_true, translate, hreq, if_pos Bool.not_false]
  rfl

theorem coreAccess_setTriad (f : Triad → Triad) (priv : Nat) (kind : XKind) (va : Word) :
    coreAccess (s.setTriad t f) t false priv kind va = coreAccess s t false priv kind va := by
  rw [coreAccess_untranslated hten, coreAccess_untranslated (s := s.setTriad t f) hten]
  rfl

/-- A fetch that passes its checks without translation reads memory at its own address (R288, R296). -/
theorem coreAccess_fetch {priv : Nat} {va : Word} {x : Xlat} (h : coreAccess s t false priv .fetch va = .ok x) :
    x.pa = va.toNat ∧ isMemory (regionOf s va.toNat) = true := by
  rw [coreAccess_untranslated hten] at h
  split_ifs at h with hhigh
  obtain ⟨hpa, hattr, hhole⟩ := checkAccess_fetch rfl h
  exact ⟨hpa, isMemory_of_attrX hattr hhole⟩

end

/-! ### The words of the handler's first bundle -/

theorem open_of_isMemory {b : Bool} {r : Region} (h : isMemory (if b then .hole else r) = true) : b = false := by
  cases b with
  | false => rfl
  | true => exact absurd (show isMemory .hole = true from h) (by decide)

/-- An address of memory below DDR, taken to its plain SRAM address, is one of a bank that is On (R40, R361). -/
theorem sramHole_of_isMemory {s : State} {pa : Nat} (h : isMemory (regionOf s pa) = true) (hddr : ¬ ddrBase ≤ pa) :
    sramHole s (plainAddr pa) = false := by
  rw [regionOf] at h
  by_cases hsram : pa < sramSize
  · rw [if_pos hsram] at h
    rw [plainAddr_of_sram hsram]
    exact open_of_isMemory h
  rw [if_neg hsram] at h
  by_cases hset : setBase ≤ pa ∧ pa < setBase + sramSize
  · rw [if_pos hset] at h
    rw [plainAddr, if_pos hset]
    exact open_of_isMemory h
  rw [if_neg hset] at h
  by_cases hclear : clearBase ≤ pa ∧ pa < clearBase + sramSize
  · rw [if_pos hclear] at h
    rw [plainAddr, if_neg hset, if_pos hclear]
    exact open_of_isMemory h
  rw [if_neg hclear, if_neg (c := ddrBase ≤ pa ∧ _) (fun hin => hddr hin.1)] at h
  split_ifs at h <;> exact absurd h (by decide)

/-- What a read of one word of memory delivers is read off registers, SRAM and DDR as they stand, where no SRAM word
holds an error and no bank keeps a write. -/
theorem memRead_octets {s : State} {pa : Nat} (m : Master) (hmem : isMemory (regionOf s pa) = true) (hal : pa % 4 = 0)
    (hclean : s.sram.errors = []) (hkept : ∀ b : Fin 12, s.sram.collided[b] = none) : (memRead s m pa 4).2 =
      if ddrBase ≤ pa then (ddrRead s pa 4).2
      else if inSecure (plainAddr pa) && m != .store then List.replicate 4 0
      else sramOctets s (plainAddr pa) 4 := by
  unfold memRead
  split_ifs with hddr hsec
  · rfl
  · rfl
  · have hon : bankOn s (plainAddr pa) = true := bankOn_of_open (sramHole_of_isMemory hmem hddr)
    have hplain : plainAddr pa % 4 = 0 := by
      unfold plainAddr setBase clearBase
      split_ifs <;> omega
    simp only [sramRead, rowsOf_aligned (n := 4) (by decide) hplain, List.foldl_cons, List.foldl_nil, portClear_of_none hkept,
      rowRead_of_clean hclean hon]

/-- A word of memory reads the same whatever another part of the triad than its L1I holds. -/
theorem wordAt_setTriad {s : State} {t : TriadId} {pa : Nat} {f : Triad → Triad} (hl1i : (f (s.tri t)).l1i = (s.tri t).l1i)
    (hmem : isMemory (regionOf s pa) = true) (hal : pa % 4 = 0) (hclean : s.sram.errors = [])
    (hkept : ∀ b : Fin 12, s.sram.collided[b] = none) : wordAt (s.setTriad t f) t pa = wordAt s t pa := by
  have hdev : devAddress s pa = false := by
    unfold devAddress
    revert hmem
    cases regionOf s pa <;> decide
  have hread : (memRead (s.setTriad t f) (.triad t) pa 4).2 = (memRead s (.triad t) pa 4).2 := by
    rw [memRead_octets _ hmem hal hclean hkept, memRead_octets (s := s.setTriad t f) _ hmem hal hclean hkept]
    rfl
  have hdev' : devAddress (s.setTriad t f) pa = false := hdev
  unfold wordAt
  rw [State.tri_setTriad, hl1i, hread, hdev, hdev']
  rfl

/-- The handler passes its check whatever another part of the triad than its L1I holds. -/
theorem handlerCheck_setTriad {s : State} {t : TriadId} {priv : Nat} {va : Word} {f : Triad → Triad}
    (hten : bitOf (s.rd (Adr.tapuCtx t.val)) 63 = false) (hl1i : (f (s.tri t)).l1i = (s.tri t).l1i) (hal : field va 1 0 = 0)
    (hclean : s.sram.errors = []) (hkept : ∀ b : Fin 12, s.sram.collided[b] = none) :
    handlerCheck (s.setTriad t f) t false priv va = handlerCheck s t false priv va := by
  unfold handlerCheck
  simp only [coreAccess_setTriad hten]
  cases hx : coreAccess s t false priv .fetch va with
  | error e => rfl
  | ok x =>
    obtain ⟨hpa, hmem⟩ := coreAccess_fetch hten hx
    have hal4 : va.toNat % 4 = 0 := by simpa [field] using hal
    have hword : wordAt (s.setTriad t f) t x.pa = wordAt s t x.pa := by
      rw [hpa]
      exact wordAt_setTriad hl1i hmem hal4 hclean hkept
    simp only [hword]

end Sys2Proof.Machine
end

section
/-! The interrupted context and the target bank: what an entry writes in each lane (R161, R172, R173, R177, R181). -/

namespace Sys2Proof.Machine

/-! ### One lane -/

/-- The interrupted context: its PC saved, and NI cleared by an overrun's entry (R161, R181). -/
theorem LaneCore.endAtomic_leave (c : LaneCore) (saved : Word) (vec : Nat) : (c.leave saved).endAtomic vec =
    c.setCur fun k => { k with pc := saved, psw := if vec = 7 then putBit k.psw 11 false else k.psw } := by
  unfold LaneCore.endAtomic LaneCore.leave
  split_ifs
  · exact c.setCur_setCur _ _
  · rfl

theorem LaneCore.bank_leave (c : LaneCore) (q : Word) : (c.leave q).bank = { c.bank with pc := q } := c.bank_setCur _

theorem LaneCore.priv_leave (c : LaneCore) (q : Word) : (c.leave q).priv = c.priv := by
  rw [LaneCore.priv, LaneCore.psw, c.bank_leave]
  rfl

theorem LaneCore.pc_leave (c : LaneCore) (q : Word) : (c.leave q).pc = q := by rw [LaneCore.pc, c.bank_leave]

theorem LaneCore.leave_pc (c : LaneCore) : c.leave c.pc = c := by
  rw [LaneCore.leave, LaneCore.setCur, LaneCore.setBank, vmod_id]
  rfl

theorem LaneCore.busy_leave (c : LaneCore) (q : Word) (b : Fin 4) : (c.leave q).banks[b].busy = c.banks[b].busy := by
  by_cases hb : b = c.cur
  · rw [hb, LaneCore.leave, LaneCore.setCur, LaneCore.setBank, vmod_get_self]
  · rw [LaneCore.leave, LaneCore.setCur, LaneCore.setBank, vmod_get_ne _ _ _ _ hb]

/-- The registers that an entry without a spill gives a lane, its context left before (R172, R173, R177, R181). -/
theorem Lane.enter_core (l : Lane) (p : PendEntry) (saved : Word) (e : Entry) (no clause : Nat) (he : e.frame = none) :
    let c := l.core.endAtomic p.vec
    let psw := entryPsw c.psw p e
    (l.enter p saved e no clause).core = { c.setBank e.bank (fun k => { k with
        pc := e.handler, rpc := 0, psw := psw, epriv := entryEpriv c p false, busy := true, repn := false }) with
      cur := e.bank, budget := if pswNI psw then e.budget * 16 else c.budget } := by
  unfold Lane.enter
  rw [he]
  rfl

/-! ### The lanes in use -/

theorem Triad.eachActive_lane (x : Triad) (f : Lane → Lane) (l : LaneId) :
    (x.eachActive f).lane l = if x.act l then f (x.lane l) else x.lane l := by
  simp [Triad.eachActive, Triad.lane, Triad.act]

theorem Triad.lead_eachActive (x : Triad) {f : Lane → Lane} (hf : ∀ l, (f l).state = l.state) :
    (x.eachActive f).lead = x.lead ∧ ∀ l, (x.eachActive f).act l = x.act l := by
  have hact (l : LaneId) : (x.eachActive f).act l = x.act l := by
    have hlane := x.eachActive_lane f l
    unfold Triad.lane at hlane
    rw [Triad.act, hlane]
    split_ifs with h
    · rw [hf]
      rfl
    · rfl
  refine ⟨?_, hact⟩
  unfold Triad.lead Triad.actives
  rw [funext hact]

section
variable (x : Triad) (p : PendEntry)

theorem Triad.leaveAll_lane (l : LaneId) : (x.leaveAll p).lane l =
    if x.act l then { x.lane l with core := (x.lane l).core.leave (savedPc x p) } else x.lane l :=
  x.eachActive_lane _ l

theorem Triad.leaveAll_keeps : (x.leaveAll p).lead = x.lead ∧ ∀ l, (x.leaveAll p).act l = x.act l :=
  x.lead_eachActive (f := fun l => { l with core := l.core.leave (savedPc x p) }) fun _ => rfl

/-- The leading lane stands with some PC saved, and with all else as it was (R161). -/
theorem Triad.leaveAll_leadCore : ∃ q, ((x.leaveAll p).lane (x.leaveAll p).lead).core = (x.lane x.lead).core.leave q
    ∧ (p.vec = 9 → q = savedPc x p) := by
  rw [(x.leaveAll_keeps p).1, x.leaveAll_lane p]
  split_ifs with h
  · exact ⟨_, rfl, fun _ => rfl⟩
  · exact ⟨_, (LaneCore.leave_pc _).symm, fun hv => by rw [savedPc, if_pos hv]; rfl⟩

/-- The PC to save stays the same once it has been saved. -/
theorem savedPc_leaveAll : savedPc (x.leaveAll p) p = savedPc x p := by
  by_cases hv : p.vec = 9
  · obtain ⟨q, hcore, hq⟩ := x.leaveAll_leadCore p
    rw [← hq hv, ← (x.lane x.lead).core.pc_leave q, ← hcore, savedPc, if_pos hv]
    rfl
  · rw [savedPc, if_neg hv, savedPc, if_neg hv]

end

end Sys2Proof.Machine
end

section
/-! The entry into a handler: the boundary in front of it, its vector entry in plain SRAM, and what it leaves (R156 to
R162, R172, R177, R181). -/

namespace Sys2Proof.Machine

/-- Triad y stands in front of its entry as x does; what it owes and what its checkpoint holds may differ. -/
structure FrontOfEntry (x y : Triad) : Prop where
  lanes : y.lanes = x.lanes
  l1i : y.l1i = x.l1i
  entered : y.entered = x.entered
  entryWait : y.entryWait = x.entryWait

section
variable {x y : Triad} (hy : FrontOfEntry x y)
include hy

theorem FrontOfEntry.lane (l : LaneId) : y.lane l = x.lane l := by
  rw [Triad.lane, hy.lanes]
  rfl

theorem FrontOfEntry.act (l : LaneId) : y.act l = x.act l := congrArg (fun l => l.state == .active) (hy.lane l)

theorem FrontOfEntry.leadCore : (y.lane y.lead).core = (x.lane x.lead).core := by
  rw [Triad.lead_congr hy.lanes, hy.lane]

theorem FrontOfEntry.savedPc (p : PendEntry) : savedPc y p = savedPc x p := by
  have hpc : y.lanes[y.lead].core.pc = x.lanes[x.lead].core.pc := congrArg LaneCore.pc hy.leadCore
  rw [Machine.savedPc, hpc]
  rfl

end

/-! ### The vector entry -/

/-- Steps 3 to 7 of R172 meet no failure: the vector entry (h, w) stands in plain SRAM and fits p, the handler's first
bundle may be fetched, and the target bank is free. -/
structure HandlerFound (s : State) (t : TriadId) (p : PendEntry) (h w : Word) : Prop where
  vector : ∀ k, k < 2 → PlainSram s t (vectorAddr (s.leadCore t) p.mTable p.vec + BitVec.ofNat 64 (8 * k)) 8
  first : rdMem s (vectorAddr (s.leadCore t) p.mTable p.vec).toNat 8 = h.toNat
  second : rdMem s (vectorAddr (s.leadCore t) p.mTable p.vec + 8).toNat 8 = w.toNat
  column : (s.tri t).columnOf (s.tri t).lead = []
  valid : vectorOk h w p (s.leadCore t).priv = true
  handler : handlerCheck s t false (vecTpriv w) h = none
  free : ((s.leadCore t).banks[vecTbank w % 4]'(Nat.mod_lt _ (by decide))).busy = false

/-- The entry without a spill that the vector's words ask for (R159). -/
def plainEntry (h w : Word) : Entry := ⟨h, vecTpriv w, ⟨vecTbank w % 4, Nat.mod_lt _ (by decide)⟩, vecBudget w, none⟩

theorem leadRead64_of_plain {s : State} {t : TriadId} {va v : Word} (hp : PlainSram s t va 8)
    (hcol : (s.tri t).columnOf (s.tri t).lead = []) (hv : rdMem s va.toNat 8 = v.toNat) : leadRead64 s t va.toNat = (s, v) := by
  simp [leadRead64, busRead_of_plain hp (by decide), devAddress_of_sram hp.inside hp.open_, hcol, forwardData_nil, hv]

theorem checkPhysical_of_plain {s : State} {t : TriadId} {va : Word} {n : Nat} (hp : PlainSram s t va n) (priv : Nat) :
    checkPhysical s (coreReq s t priv .load) va.toNat = .ok ⟨va.toNat, impliedAttr s va.toNat (priv == 0), 0⟩ := by
  have hsmall : va.toNat < 1099511627776 := by
    have hinside := hp.inside
    unfold sramSize at hinside
    omega
  have hwindow (kind : XKind) (m : Bool) : windowOk s t va.toNat kind m false = true := by simp [windowOk, hp.windows]
  simp [checkPhysical, hsmall, regionOf_of_sram hp.inside hp.open_, coreReq, hwindow]

section
variable {s : State} {t : TriadId} {p : PendEntry} {h w : Word}

theorem HandlerFound.readVector (hf : HandlerFound s t p h w) : readVector s t p.mTable p.vec = (s, some (h, w)) := by
  have h0 : PlainSram s t (vectorAddr (s.leadCore t) p.mTable p.vec) 8 := by simpa using hf.vector 0 (by decide)
  have h1 : PlainSram s t (vectorAddr (s.leadCore t) p.mTable p.vec + 8) 8 := hf.vector 1 (by decide)
  have hnext : (vectorAddr (s.leadCore t) p.mTable p.vec).toNat + 8 = (vectorAddr (s.leadCore t) p.mTable p.vec + 8).toNat := by
    have hinside := h0.inside
    unfold sramSize at hinside
    rw [BitVec.toNat_add, show (8 : Word).toNat = 8 from rfl, Nat.mod_eq_of_lt (by omega)]
  have hlead : vectorAddr (s.tri t).lanes[(s.tri t).lead].core p.mTable p.vec = vectorAddr (s.leadCore t) p.mTable p.vec := rfl
  unfold Machine.readVector
  simp only [hlead, checkPhysical_of_plain h0, leadRead64_of_plain h0 hf.column hf.first, hnext,
    leadRead64_of_plain h1 hf.column hf.second]

/-- The entry is made, with no check failed and nothing touched on the way. -/
theorem HandlerFound.enterVector (hf : HandlerFound s t p h w) (again : Bool) :
    enterVector s t p again = enterHandler s t p (savedPc (s.tri t) p) (plainEntry h w) again := by
  have hlead : (s.tri t).lanes[(s.tri t).lead].core = s.leadCore t := rfl
  unfold Machine.enterVector
  rw [hf.readVector]
  simp only [hlead, hf.valid, hf.handler, coreTouch_of_untranslated (hf.vector 0 (by decide)).physical]
  unfold enterBank
  simp only [hlead, Bool.not_true, Bool.false_eq_true, if_false]
  exact if_pos ((Bool.not_eq_true' _).mpr hf.free)

/-- The triad's context left, the handler is found as before. -/
theorem handlerFound_of_clean (hc : CleanEntry s t p h w) {y : Triad} (hy : FrontOfEntry (s.tri t) y) :
    HandlerFound (s.setTriad t fun _ => y.leaveAll p) t p h w := by
  obtain ⟨q, hq, -⟩ := y.leaveAll_leadCore p
  have hcore : (s.setTriad t fun _ => y.leaveAll p).leadCore t = (s.leadCore t).leave q := by
    rw [State.leadCore, State.tri_setTriad, hq, hy.leadCore]
    rfl
  have hplain := hc.vector 0 (by decide)
  refine ⟨fun k hk => ?_, ?_, ?_, ?_, ?_, ?_, ?_⟩
  · rw [hcore]
    exact plainSram_setTriad (hc.vector k hk) _
  · rw [hcore]
    exact hc.first
  · rw [hcore]
    exact hc.second
  · rw [State.tri_setTriad, Triad.columnOf, Triad.leaveAll_lane, hy.lane]
    obtain ⟨-, hgate, hheld⟩ := hc.empty (y.leaveAll p).lead
    split_ifs <;> simp [hgate, hheld]
  · rw [hcore, LaneCore.priv_leave]
    exact hc.valid
  · rw [handlerCheck_setTriad hplain.physical hy.l1i ?_ hplain.clean hplain.kept]
    · exact hc.handler
    · have hvalid := hc.valid
      simp only [vectorOk, Bool.and_eq_true, decide_eq_true_eq] at hvalid
      tauto
  · rw [hcore]
    exact ((s.leadCore t).busy_leave q ⟨vecTbank w % 4, Nat.mod_lt _ (by decide)⟩).trans hc.free

/-! ### The boundary in front of the entry -/

/-- Nothing is in flight and no exception is masked, so that the entry goes straight to its vector (R172). -/
theorem enter_of_clean (hc : CleanEntry s t p h w) {y : Triad} (hy : FrontOfEntry (s.tri t) y) (again : Bool) :
    enter (s.setTriad t fun _ => y) t p again =
      enterHandler (s.setTriad t fun _ => y.leaveAll p) t p (savedPc (s.tri t) p) (plainEntry h w) again := by
  have hflight (l : LaneId) : (y.lane l).core.flight = [] := by rw [hy.lane]; exact (hc.empty l).1
  have hlead : y.lanes[y.lead].core = s.leadCore t := hy.leadCore
  have hescalates : ¬ (syncVec p.vec = true ∧ pswNI (s.leadCore t).psw = true) := fun ⟨hv, hni⟩ => by
    rw [hc.masked hv] at hni
    exact Bool.false_ne_true hni
  obtain ⟨hentered, hwait⟩ := hc.fresh
  unfold Machine.enter
  simp only [State.tri_setTriad, State.setTriad_setTriad, hy.entryWait, hwait, Triad.entryWindow, hy.entered, hentered,
    Bool.and_false, Bool.false_and, Bool.false_eq_true, if_false, eachActive_drain_empty hflight, hlead, hc.frec, hc.bank,
    and_false, hescalates]
  rw [(handlerFound_of_clean hc hy).enterVector, State.tri_setTriad, savedPc_leaveAll, hy.savedPc]

theorem vectorWaits_of_clean (hc : CleanEntry s t p h w) : vectorWaits s t p = false := by
  have hddr (pa : Nat) : ddrWaits s pa 16 = false := by
    have hnone : ∀ rs ∈ s.ddr.repeats.toList, rs = [] := fun rs hrs => by
      obtain ⟨i, hi, rfl⟩ := Vector.mem_iff_getElem.mp (Vector.mem_toList_iff.mp hrs)
      exact hc.ddr ⟨i, hi⟩
    have hany : (s.ddr.repeats.toList.any fun rs => rs.any fun r => r.write && r.line.any fun l => (linesOf pa 16).contains l)
        = false := List.any_eq_false.mpr fun rs hrs => by simp [hnone rs hrs]
    rw [ddrWaits, hany, Bool.and_false]
  obtain ⟨-, hflying⟩ := hc.column
  simp [vectorWaits, readWaits, hddr, hflying]

/-- At such a boundary the entry is taken at once: the checkpoint records it, and a rollback's debt is paid (R172, R211,
R248). -/
theorem takeEntry_of_clean (hc : CleanEntry s t p h w) : ∃ y again, FrontOfEntry (s.tri t) y ∧
    takeEntry s t p = some (enter (s.setTriad t fun _ => y) t p again) := by
  have hsame : s.setTriad t (fun _ => s.tri t) = s := State.setTriad_id _ _ _ rfl
  have hdrain : (s.tri t).drainFirst p = (s.tri t, p) := by
    rw [Triad.drainFirst, drainTraps_empty fun l => (hc.empty l).1, Bool.and_false, if_neg Bool.false_ne_true]
  unfold takeEntry
  simp only [hc.ready, vectorWaits_of_clean hc, hdrain, hsame, if_pos hc.slots, Bool.not_true, Bool.or_self,
    Bool.false_eq_true, if_false]
  split_ifs with howed
  · rw [State.setTriad_setTriad]
    refine ⟨_, _, ?_, congrArg (fun z => some (enter z t p _)) (State.setTriad_congr _ _ rfl)⟩
    exact ⟨rfl, rfl, rfl, rfl⟩
  · refine ⟨_, _, ?_, congrArg (fun z => some (enter z t p _)) (State.setTriad_congr _ _ rfl)⟩
    exact ⟨rfl, rfl, rfl, rfl⟩

/-- A command that enters p leaves the triad with its context left and its lanes entered (R161, R172). -/
theorem entryCommand_of_clean (hc : CleanEntry s t p h w) {which : State → Option PendEntry} (hp : which s = some p) :
    ∃ y again, FrontOfEntry (s.tri t) y ∧ entryCommand s t which =
      enterHandler (s.setTriad t fun _ => y.leaveAll p) t p (savedPc (s.tri t) p) (plainEntry h w) again := by
  obtain ⟨y, again, hy, htake⟩ := takeEntry_of_clean hc
  have hfrozen : (s.tri t).frozen = false := by rw [Triad.frozen, hc.slot, Bool.false_and]
  refine ⟨y, again, hy, ?_⟩
  unfold entryCommand
  simp only [hfrozen, endSlot_of_closed hc.slot, hp, htake, Option.getD_some, Bool.false_eq_true, if_false]
  exact enter_of_clean hc hy again

/-! ### What the entry leaves -/

/-- The lanes as the handler finds them, and what the entry leaves alone (R172). -/
theorem enterHandler_spec (s : State) (t : TriadId) (p : PendEntry) (saved : Word) (e : Entry) (again : Bool) :
    let s' := enterHandler s t p saved e again
    s'.mem = s.mem ∧ (∀ u, u ≠ t → s'.tri u = s.tri u) ∧ (s'.tri t).entry = none
      ∧ ∀ l, (s'.tri t).lane l = if (s.tri t).act l then
          ((s.tri t).lane l).enter p saved e (s.tri t).stores (s.tri t).clause
        else (s.tri t).lane l := by
  refine ⟨rfl, fun u hu => State.tri_setTriad_ne _ _ _ _ hu, ?_, fun l => ?_⟩
  · rw [enterHandler, State.tri_setTriad]
  · have hcounted : ((s.tri t).countAll (entryCounts p e.frame.isSome)).lane l = (s.tri t).lane l := by
      rw [Triad.lane, Triad.countAll_lanes]
      rfl
    have hact : ((s.tri t).countAll (entryCounts p e.frame.isSome)).act l = (s.tri t).act l := by
      rw [Triad.act, Triad.countAll_lanes]
      rfl
    rw [enterHandler, State.tri_setTriad, ← hcounted, ← hact]
    exact Triad.eachActive_lane _ _ l

theorem entriesReachTheHandler : Clause.EntriesReachTheHandler := by
  intro s t p h w hc b e saved entered
  have hentered {which : State → Option PendEntry} (hp : which s = some p) : entered (entryCommand s t which) := by
    obtain ⟨y, again, hy, hcmd⟩ := entryCommand_of_clean hc hp
    obtain ⟨hmem, hothers, hentry, hlane⟩ :=
      enterHandler_spec (s.setTriad t fun _ => y.leaveAll p) t p (savedPc (s.tri t) p) (plainEntry h w) again
    have hact (l : LaneId) : (y.leaveAll p).act l = (s.tri t).act l := ((y.leaveAll_keeps p).2 l).trans (hy.act l)
    have hleft (l : LaneId) : (y.leaveAll p).lane l = if (s.tri t).act l then
        { (s.tri t).lane l with core := ((s.tri t).lane l).core.leave saved } else (s.tri t).lane l := by
      rw [Triad.leaveAll_lane, hy.savedPc, hy.act, hy.lane]
      rfl
    rw [hcmd]
    refine ⟨hmem, fun u hu => (hothers u hu).trans (State.tri_setTriad_ne _ _ _ _ hu), hentry, fun l hl => ?_, fun l hl => ?_⟩
    · rw [hlane, State.tri_setTriad, hact, hleft, hl]
      rfl
    · rw [hlane, State.tri_setTriad, hact, hleft, hl, if_pos rfl, if_pos rfl, Lane.enter_core _ _ _ _ _ _ rfl,
        LaneCore.endAtomic_leave]
      rfl
  exact ⟨fun hp => ⟨_, rfl, hentered hp⟩, fun hp => ⟨_, rfl, hentered hp⟩, fun hp => ⟨_, rfl, hentered hp⟩⟩

end

/-- Settles O15: nothing of a clean entry fails or waits, so that it is made in every lane in use, under the PSW of
`entryPsw`. -/
theorem handlerEntries : Obligations.HandlerEntries := ⟨entriesReachTheHandler, pswAtEntry⟩

end Sys2Proof.Machine
end

section
/-! Event counters change their own registers only, and a log without a new report stays (R630, R690 to R692). -/

namespace Sys2Proof.Machine

/-! ### Counts -/

/-- The part of the TRC block in which the counters and their overflow bits stand (R690). -/
def CountReg (a : Nat) : Prop := 0x800F1000 ≤ a ∧ a < 0x80100000

theorem rd_bumpCounter (s : State) (t : TriadId) {n : Nat} (hn : n < 32) (k : Nat) {a : Nat} (ha : ¬ CountReg a) :
    (bumpCounter s t n k).rd a = s.rd a := by
  have ht := t.isLt
  unfold CountReg at ha
  have hcnt (v : Word) : (s.wr (Adr.trcCnt t.val n) v).rd a = s.rd a :=
    State.rd_wr_ne _ _ _ _ (by simp only [Adr.trcCnt]; omega)
  unfold bumpCounter
  dsimp only
  split
  · exact (State.rd_up_ne _ _ _ _ (by simp only [Adr.trcOvf]; omega)).trans (hcnt _)
  · exact hcnt _

theorem rd_countAt (s : State) (t : TriadId) (code priv k : Nat) {a : Nat} (ha : ¬ CountReg a) :
    (countAt s t code priv k).rd a = s.rd a := by
  unfold countAt
  split
  · rfl
  · refine List.foldlRecOn (motive := fun z : State => z.rd a = s.rd a) _ _ rfl fun z hz n hn => ?_
    split
    · exact (rd_bumpCounter z t (List.mem_range.mp hn) k ha).trans hz
    · exact hz

theorem rd_countL (s : State) (t : TriadId) (code k : Nat) {a : Nat} (ha : ¬ CountReg a) :
    (countL s t code k).rd a = s.rd a := rd_countAt s t code _ k ha

/-- The CMP blocks lie behind TRC (R41). -/
theorem not_countReg_cmp {a : Nat} (h : 0x80100000 ≤ a) : ¬ CountReg a := fun hc => absurd hc.2 (Nat.not_lt_of_le h)

/-- A register that no step of a fold moves. -/
theorem rd_foldl {α : Type} {f : State → α → State} {a : Nat} (h : ∀ z x, (f z x).rd a = z.rd a) (l : List α) (s : State) :
    (l.foldl f s).rd a = s.rd a := by
  induction l generalizing s with
  | nil => rfl
  | cons x l ih => exact (ih (f s x)).trans (h s x)

theorem RegsOnly.countClose (s : State) (t : TriadId) (causes : BitVec 10) : RegsOnly s (countClose s t causes) := by
  unfold Machine.countClose
  refine (RegsOnly.countL s t 0x28 1).trans (.foldl (fun z b => ?_) _ _)
  split
  · exact .countL _ _ _ _
  · exact .refl _

theorem rd_countClose (s : State) (t : TriadId) (causes : BitVec 10) {a : Nat} (ha : ¬ CountReg a) :
    (countClose s t causes).rd a = s.rd a := by
  unfold countClose
  refine (rd_foldl (fun z b => ?_) _ _).trans (rd_countL s t 0x28 1 ha)
  split
  · exact rd_countL z t _ 1 ha
  · rfl

theorem RegsOnly.commitCounts (s : State) (t : TriadId) (l : List (Nat × Nat)) : RegsOnly s (commitCounts s t l) := by
  unfold Machine.commitCounts
  exact .foldl (fun z p => .countAt z t _ _ _) l s

theorem rd_commitCounts (s : State) (t : TriadId) (l : List (Nat × Nat)) {a : Nat} (ha : ¬ CountReg a) :
    (commitCounts s t l).rd a = s.rd a := by
  unfold commitCounts
  exact rd_foldl (fun z p => rd_countAt z t _ _ _ ha) l s

/-! ### The log -/

/-- Where no report has been logged, there is nothing to put in order (R630). -/
theorem inIdOrder_of_noReport {old s : State} (h : s.rd Adr.fcuLogptr = old.rd Adr.fcuLogptr) : inIdOrder old s = s := by
  have hp : field (old.rd Adr.fcuLogptr) 5 0 < 64 := Nat.mod_lt _ (by decide)
  unfold inIdOrder
  rw [h]
  exact if_pos (by omega)

end Sys2Proof.Machine
end

section
/-! The close of a clause at a boundary and its timeout (R203 to R210, R238). -/

namespace Sys2Proof.Machine

/-- Without a parse, the close hands the clause over and opens the next: its counts and CMP_LASTCLOSE are all that changes
outside the triad (R204, R210, R238). -/
theorem openClause_unparsed {s : State} {t : TriadId} (causes : BitVec 10) (entry : Option PendEntry)
    (hiv : field (s.rd (Adr.cmpParseInterval t.val)) 15 0 = 0) : ∃ s1 len tmax rctl rot event, RegsOnly s s1
      ∧ s1.rd (Adr.cmpLastclose t.val) = causes.setWidth 64 ∧ s1.rd (Adr.cmpRctl t.val) = s.rd (Adr.cmpRctl t.val)
      ∧ openClause s t causes entry = (s1.setTriad t fun x => x.openNext causes entry len tmax 0 rctl).setTriad t
        fun x => { x with swapAt := x.swapFound, rotAt := rot, eventAt := event } := by
  have hkept {a : Nat} (ha : 0x80100000 ≤ a) (hne : a ≠ Adr.cmpLastclose t.val) :
      ((countClose s t causes).wr (Adr.cmpLastclose t.val) (causes.setWidth 64)).rd a = s.rd a :=
    (State.rd_wr_ne _ _ _ _ hne).trans (rd_countClose s t causes (not_countReg_cmp ha))
  have hinterval := hkept (a := Adr.cmpParseInterval t.val) (by simp only [Adr.cmpParseInterval]; omega)
    (by simp only [Adr.cmpParseInterval, Adr.cmpLastclose]; omega)
  have hrctl := hkept (a := Adr.cmpRctl t.val) (by simp only [Adr.cmpRctl]; omega)
    (by simp only [Adr.cmpRctl, Adr.cmpLastclose]; omega)
  unfold openClause
  extract_lets s1 s2 len tmax iv rctl s3 rot event s4
  have hiv2 : iv = 0 := (congrArg (field · 15 0) hinterval).trans hiv
  have hparsed : (s4.tri t).parsed = false := by
    simp only [s4, s3, hiv2, State.tri_setTriad]
    rfl
  refine ⟨s2, len, tmax, rctl, rot, event, (RegsOnly.countClose s t causes).trans (.wr _ _ _), State.rd_wr_self _ _ _,
    hrctl, ?_⟩
  rw [hparsed, if_neg Bool.false_ne_true]
  simp only [s4, s3, hiv2]

/-- An open clause with a slot and a close due closes at the boundary it stands at (R204, R205). -/
theorem clauseClose_atBoundary {s : State} {t : TriadId} (hruns : (s.tri t).runs = true)
    (hback : (s.tri t).rollbackDue = false) (hslot : (s.tri t).slotOpen = false) (hdelay : (s.tri t).delay = none)
    (hclosed : (s.tri t).closed = none) (hforced : (s.tri t).forced = false) (hslots : (s.tri t).slots ≠ 0)
    (hdue : (s.tri t).closeDue ≠ 0) :
    clauseClose s t = splitCommit (openClause s t ((s.tri t).dueNow (eventDue s t)) (s.tri t).entry) t := by
  have hfrozen : (s.tri t).frozen = false := by rw [Triad.frozen, hslot, Bool.false_and]
  have hbound : (s.tri t).atBoundary = true := by simp [Triad.atBoundary, hdelay, hclosed, hslot]
  have hcauses : (s.tri t).dueNow (eventDue s t) ≠ 0 := fun h =>
    hdue (BitVec.or_eq_zero_iff.mp (BitVec.or_eq_zero_iff.mp h).1).1
  have hfound : closeCauses s t = some ((s.tri t).dueNow (eventDue s t)) := by
    unfold closeCauses
    extract_lets x c
    rw [if_neg (ne_true_of_eq_false hforced), if_neg hslots, if_pos (.inl hcauses)]
  simp [clauseClose, hfrozen, hruns, hback, endSlot_of_closed hslot, hbound, hfound]

/-- The lanes behind a close without a parse keep their registers and columns, and those in use begin a signature (R203,
R210). -/
theorem Triad.openNext_lane (x : Triad) (causes : BitVec 10) (entry : Option PendEntry) (len tmax : Nat) (rctl : Word)
    (l : LaneId) : let y := (x.openNext causes entry len tmax 0 rctl).lane l
      y.core = (x.lane l).core ∧ y.gate = (x.lane l).gate ∧ (x.act l = true → y.sig = sigInit) := by
  intro y
  have hy : y = if x.act l then (x.lane l).openClause false else x.lane l := Vector.getElem_map _ l.isLt
  rw [hy]
  split
  · exact ⟨rfl, rfl, fun _ => rfl⟩
  · next hidle => exact ⟨rfl, rfl, fun hact => absurd hact hidle⟩

/-- Settles O17: at the boundary the close is `openNext` of the triad between its counts, and a clause timer at its limit
sets condition 9. -/
theorem clausesClose : Obligations.ClausesClose := by
  intro s t x
  refine ⟨fun hruns hback hslot hdelay hclosed _ hforced hslots hdue hsplit hiv => ?_, fun hruns hslots htimer => ?_⟩
  · obtain ⟨s1, len, tmax, rctl, rot, event, hregs, hlast, hrctl, hopen⟩ :=
      openClause_unparsed (x.dueNow (eventDue s t)) x.entry hiv
    have hstays : isSplit (openClause s t (x.dueNow (eventDue s t)) x.entry) t = false := by
      rw [hopen, isSplit, State.rd_setTriad, State.rd_setTriad, hrctl]
      exact hsplit
    refine ⟨_, congrArg Host.Outcome.next (clauseClose_atBoundary hruns hback hslot hdelay hclosed hforced hslots hdue), ?_⟩
    rw [splitCommit, hstays, Bool.not_false, if_pos rfl, hopen]
    have hx : s1.tri t = x := hregs.tri t
    simp only [State.tri_setTriad, hx, State.setTriad_mem, State.rd_setTriad]
    refine ⟨rfl, rfl, rfl, rfl, hregs.mem, ⟨_, rfl, rfl, rfl, rfl⟩, rfl, hlast, fun u hu => ?_,
      fun l => x.openNext_lane (x.dueNow (eventDue s t)) x.entry len tmax rctl l⟩
    rw [State.tri_setTriad_ne _ _ _ _ hu, State.tri_setTriad_ne _ _ _ _ hu, hregs.tri u]
  · have hlimit : (x.runs && decide (x.slots ≠ 0 ∧ x.tmaxUse ≤ x.timer)) = true := by simp [hruns, hslots, htimer]
    exact congrArg Host.Outcome.next (if_pos hlimit)

end Sys2Proof.Machine
end

section
/-! The compare of a closed clause and the rollback (R213, R214, R219, R255, R260 to R265). -/

namespace Sys2Proof.Machine

/-! ### The verdict -/

/-- With no lane left out, all lanes in use are compared (R252). -/
theorem Triad.compared_of_whole (x : Triad) {cl : Closed} (h : cl.excluded = none) : x.compared cl = x.actives := by
  unfold Triad.compared
  rw [h]
  exact List.filter_eq_self.mpr fun _ _ => rfl

theorem Triad.mem_actives (x : Triad) (l : LaneId) : l ∈ x.actives ↔ x.act l = true := by
  have hall : ∀ l : LaneId, l ∈ allLanes := by decide
  simp [Triad.actives, hall]

/-- Lanes in use that all agree pass (R213). -/
theorem verdict_same {x : Triad} {cl : Closed} (hex : cl.excluded = none) (hforced : cl.forced = false)
    (hsame : ∀ a b, x.act a = true → x.act b = true → cl.same a b = true) : verdict x cl 0 = .same := by
  unfold verdict
  extract_lets used pairs eq
  have hvalid : pairs.any (fun p => (0 : BitVec 3).getLsbD p.2.2) = false := by simp
  have heq : eq = pairs := by
    refine List.filter_eq_self.mpr fun p hp => ?_
    have hused (l : LaneId) (hl : used.contains l = true) : x.act l = true := by
      rw [← x.mem_actives, ← x.compared_of_whole hex]
      exact List.contains_iff_mem.mp hl
    obtain ⟨ha, hb⟩ := Bool.and_eq_true_iff.mp (List.mem_filter.mp hp).2
    exact hsame _ _ (hused _ ha) (hused _ hb)
  rw [hvalid, hforced, if_neg Bool.false_ne_true, if_neg Bool.false_ne_true, heq, if_pos rfl]

/-- Two lanes make one pair. -/
theorem lanePairs_of_two : ∀ a b : LaneId, [a, b].Sublist allLanes →
    ∃ n : Fin 3, lanePairs.filter (fun p => [a, b].contains p.1 && [a, b].contains p.2.1) = [(a, b, n.val)] := by decide

/-- Two lanes in use that differ fail (R255). -/
theorem verdict_mismatch {x : Triad} {cl : Closed} {a b : LaneId} (hex : cl.excluded = none) (hact : x.actives = [a, b])
    (hdiff : cl.same a b = false) : verdict x cl 0 = .mismatch := by
  obtain ⟨n, hpair⟩ := lanePairs_of_two a b (hact ▸ List.filter_sublist)
  unfold verdict
  extract_lets used pairs eq
  have hpairs : pairs = [(a, b, n.val)] := by
    rw [← hpair]
    simp only [pairs, used, x.compared_of_whole hex, hact]
  have heq : eq = [] := by simp [eq, hpairs, hdiff]
  have hvalid : pairs.any (fun p => (0 : BitVec 3).getLsbD p.2.2) = false := by simp
  rw [hvalid, hpairs, heq, if_neg Bool.false_ne_true]
  exact ite_self _

/-! ### What a compare records -/

/-- CMP_SIG and CMP_RESULT are all that the record of a compare changes, and one free value is drawn. -/
theorem recordCompare_keeps (s : State) (t : TriadId) (cl : Closed) {v : Verdict} (hv : v ≠ .invalid) :
    RegsOnly s.draw.2 (recordCompare s t cl 0 v)
      ∧ ∀ a, a < 0x80100000 ∨ a = Adr.cmpSeq t.val → (recordCompare s t cl 0 v).rd a = s.rd a := by
  unfold recordCompare
  rw [show s.draw = (s.draw.1, s.draw.2) from rfl]
  dsimp -zeta only
  extract_lets x out code pairs s1 s2
  rw [if_neg hv]
  refine ⟨(RegsOnly.foldl (fun z l => .wr z _ _) _ _).trans (.wr _ _ _), fun a ha => ?_⟩
  have hsig : s1.rd a = s.rd a := rd_foldl (fun z l => State.rd_wr_ne _ _ _ _ (by
    simp only [Adr.cmpSeq, Adr.cmpSig] at *
    omega)) _ _
  have hres : a ≠ Adr.cmpResult t.val := by
    simp only [Adr.cmpSeq, Adr.cmpResult] at *
    omega
  exact (State.rd_wr_ne _ _ _ _ hres).trans hsig

/-! ### A compare that passes -/

/-- With trace off a commit changes the triad, CMP_SEQ and counters (R214, R219, R691). -/
theorem commit_spec {s : State} (t : TriadId) (cl : Closed) (col : LaneId) (htrace : traceOn s = false) :
    RegsOnly (s.setTriad t fun x => x.commitEntries cl.num col) (commit s t cl col)
      ∧ ∀ a, ¬ CountReg a → (commit s t cl col).rd a = (s.up (Adr.cmpSeq t.val) fun w => w + 1).rd a := by
  unfold commit
  extract_lets s1 s2 s3 s4
  have hregs : RegsOnly s1 s4 := ((RegsOnly.up _ _ _).trans (.commitCounts _ _ _)).trans (.countAt _ _ _ _ _)
  have hrd (a : Nat) (ha : ¬ CountReg a) : s4.rd a = (s.up (Adr.cmpSeq t.val) fun w => w + 1).rd a :=
    (rd_countAt _ _ _ _ _ ha).trans (rd_commitCounts _ _ _ ha)
  have hctl : s4.rd Adr.trcCtl = s.rd Adr.trcCtl :=
    (hrd _ fun h => absurd h.1 (by decide)).trans (State.rd_up_ne _ _ _ _ (by simp only [Adr.trcCtl, Adr.cmpSeq]; omega))
  have hoff : traceOn s4 = false := by rw [traceOn, hctl]; exact htrace
  rw [traceCommit, hoff, if_neg Bool.false_ne_true]
  exact ⟨hregs, hrd⟩

/-- A commit takes entries off the columns and leaves the lanes' registers and states. -/
theorem Triad.commitEntries_lane (x : Triad) (num : Nat) (col l : LaneId) :
    (x.commitEntries num col).lane l = (x.lane l).commit num := Vector.getElem_map _ l.isLt

theorem Triad.commitEntries_actives (x : Triad) (num : Nat) (col : LaneId) : (x.commitEntries num col).actives = x.actives := by
  have hact (l : LaneId) : (x.commitEntries num col).act l = x.act l := by
    change (((x.commitEntries num col).lane l).state == .active) = _
    rw [x.commitEntries_lane]
    rfl
  rw [Triad.actives, Triad.actives, funext hact]

theorem refill_of_two {s : State} {t : TriadId} (h : 2 ≤ (s.tri t).actives.length) : refill s t = s := if_pos (.inr h)

theorem settle_of_slots {s : State} {t : TriadId} (h : (s.tri t).slots ≠ 0) : settle s t = s := if_pos (.inr (.inl h))

/-- The lead is the first lane compared. -/
theorem Triad.find_lead (x : Triad) {cl : Closed} (h : cl.excluded = none) :
    ((x.compared cl).find? fun l => some l != (none : Option LaneId)).getD x.lead = x.lead := by
  rw [x.compared_of_whole h, Triad.lead]
  cases x.actives <;> rfl

/-- A passed compare without an outvoted lane, an arbitration or a repair is the commit from the leading lane's column. -/
theorem passed_plain {s : State} {t : TriadId} {cl : Closed} (hex : cl.excluded = none) (harb : (s.tri t).arb = none)
    (htwo : 2 ≤ (s.tri t).actives.length) (hslots : (s.tri t).slots ≠ 0) (htrace : traceOn s = false) :
    passed s t cl none = commit s t cl (s.tri t).lead := by
  obtain ⟨hregs, -⟩ := commit_spec t cl (s.tri t).lead htrace
  have hcommit : (commit s t cl (s.tri t).lead).tri t = (s.tri t).commitEntries cl.num (s.tri t).lead := by
    rw [hregs.tri, State.tri_setTriad]
  have htwo' : 2 ≤ ((commit s t cl (s.tri t).lead).tri t).actives.length := by
    rw [hcommit, Triad.commitEntries_actives]
    exact htwo
  have hslots' : ((commit s t cl (s.tri t).lead).tri t).slots ≠ 0 := by
    rw [hcommit]
    exact hslots
  simp only [passed, Triad.find_lead _ hex, harb, hex, Option.isSome_none, Bool.false_eq_true, false_and, if_false,
    refill_of_two htwo', settle_of_slots hslots']

theorem equalCompareCommits : Clause.EqualCompareCommits := by
  intro s t cl x hfenced hback hclosed hdone hforced hex htwo hsigs hbad harb hslots htrace
  have hv : verdict x cl 0 = .same := verdict_same hex hforced fun a b ha hb => by
    simp [Closed.same, hsigs a b ha hb, hbad a ha, hbad b hb]
  obtain ⟨hrec, hrecRd⟩ := recordCompare_keeps s t cl (v := .same) (by decide)
  generalize hs1 : recordCompare s t cl 0 .same = s1 at hrec hrecRd
  have hx (u : TriadId) : s1.tri u = s.tri u := hrec.tri u
  have htrace1 : traceOn s1 = false := by
    rw [traceOn, hrecRd _ (.inl (by decide))]
    exact htrace
  have hcompared : compared s t 0 = commit s1 t cl x.lead := by
    have hpassed := passed_plain (s := s1) (t := t) (cl := cl) hex (by rw [hx]; exact harb) (by rw [hx]; exact htwo)
      (by rw [hx]; exact hslots) htrace1
    rw [hx] at hpassed
    rw [← hpassed, ← hs1]
    simp only [compared, hfenced, hback, hclosed, hdone, hv, Bool.or_self, Bool.false_eq_true, if_false, x] at hv ⊢
  obtain ⟨hregs, hrd⟩ := commit_spec t cl x.lead htrace1
  have hlog : (commit s1 t cl x.lead).rd Adr.fcuLogptr = s.rd Adr.fcuLogptr := by
    rw [hrd _ fun h => absurd h.1 (by decide), State.rd_up_ne _ _ _ _ (by simp only [Adr.fcuLogptr, Adr.cmpSeq]; omega)]
    exact hrecRd _ (.inl (by decide))
  have hresult : compareResult s t 0 = commit s1 t cl x.lead := by
    rw [compareResult, hcompared, inIdOrder_of_noReport hlog]
  have htri : (commit s1 t cl x.lead).tri t = x.commitEntries cl.num x.lead := by
    rw [hregs.tri, State.tri_setTriad, hx]
  refine ⟨_, congrArg Host.Outcome.next hresult, ?_⟩
  simp only [htri]
  refine ⟨rfl, rfl, hregs.mem.trans hrec.mem, fun u hu => ?_, ?_, rfl, fun l => ?_⟩
  · rw [hregs.tri, State.tri_setTriad_ne _ _ _ _ hu, hx]
  · rw [hrd _ (not_countReg_cmp (by simp only [Adr.cmpSeq]; omega)), State.rd_up_self, hrecRd _ (.inr rfl)]
  · rw [x.commitEntries_lane]
    exact ⟨rfl, rfl⟩

/-! ### A compare that fails -/

/-- A mismatch of two lanes without a marked signature makes a rollback due, within its limit (R255, R264). -/
theorem failed_pair {s : State} {t : TriadId} {cl : Closed} (hfenced : (s.tri t).fenced = false)
    (htwo : (s.tri t).actives.length = 2) (hbad : ∀ l : LaneId, cl.bad[l] = false) (hlimit : (s.tri t).rollbacks < 2)
    (hrec : recoveryEnabled s ⟨t.val, by omega⟩ = true) : failed s t cl .mismatch =
      s.setTriad t fun x => { x with rollbackDue := true, arb := arbSpare (s.tri t) } := by
  have hmarked : ((s.tri t).compared cl).filter (fun l => cl.bad[l]) = [] :=
    List.filter_eq_nil_iff.mpr fun l _ => by rw [hbad l]; exact Bool.false_ne_true
  have hroom : ¬ (if (s.tri t).actives.length = 3 ∨ (arbSpare (s.tri t)).isSome then 3 else 2) ≤ (s.tri t).rollbacks := by
    split <;> omega
  have hplain : (Verdict.mismatch == .invalid) = false := rfl
  simp only [failed, hmarked, hplain, chargeBad, List.foldl_nil, Bool.false_and, Bool.false_eq_true, if_false,
    refill_of_two (Nat.le_of_eq htwo.symm), hfenced, hrec, Bool.not_true, hroom]

theorem mismatchRollsBack : Clause.MismatchRollsBack := by
  intro s t cl a b x hfenced hback hclosed hdone hact hex hdiff hbad hlimit _ hrecover
  have hv : verdict x cl 0 = .mismatch := verdict_mismatch hex hact (by
    rw [Closed.same, beq_eq_false_iff_ne.mpr hdiff]
    rfl)
  obtain ⟨hrec, hrecRd⟩ := recordCompare_keeps s t cl (v := .mismatch) (by decide)
  generalize hs1 : recordCompare s t cl 0 .mismatch = s1 at hrec hrecRd
  have hx (u : TriadId) : s1.tri u = s.tri u := hrec.tri u
  have hfcu : s1.fcu = s.fcu := by
    obtain ⟨r, rfl⟩ := hrec
    rfl
  have hfailed := failed_pair (s := s1) (t := t) (cl := cl) (by rw [hx]; exact hfenced) (by rw [hx]; exact congrArg List.length hact)
    hbad (by rw [hx]; exact hlimit) (by rw [recoveryEnabled, hfcu]; exact hrecover)
  have hcompared : compared s t 0 = s1.setTriad t fun x => { x with rollbackDue := true, arb := arbSpare (s1.tri t) } := by
    rw [← hfailed, ← hs1]
    simp only [compared, hfenced, hback, hclosed, hdone, hv, Bool.or_self, Bool.false_eq_true, if_false, x] at hv ⊢
  have hresult : compareResult s t 0 = compared s t 0 := inIdOrder_of_noReport (by
    rw [hcompared, State.rd_setTriad]
    exact hrecRd _ (.inl (by decide)))
  refine ⟨_, congrArg Host.Outcome.next (hresult.trans hcompared), ?_⟩
  simp only [State.tri_setTriad, hx]
  exact ⟨trivial, hclosed, rfl, rfl, hrec.mem, fun u hu => (State.tri_setTriad_ne _ _ _ _ hu).trans (hx u)⟩

/-! ### The rollback -/

theorem Lane.foldAll_gate (l : Lane) (rs : List Rec) : (l.foldAll rs).gate = l.gate := by
  unfold Lane.foldAll
  induction rs generalizing l with
  | nil => rfl
  | cons r rs ih => exact ih (l.fold r)

/-- A clause that opens in a lane leaves its registers and its column, with a parse too (R238). -/
theorem Lane.openClause_keeps (l : Lane) (parsed : Bool) :
    (l.openClause parsed).core = l.core ∧ (l.openClause parsed).gate = l.gate := by
  unfold Lane.openClause
  cases parsed with
  | false => exact ⟨rfl, rfl⟩
  | true => exact ⟨Lane.foldAll_core _ _, Lane.foldAll_gate _ _⟩

/-- The lanes behind a rollback in which none takes a copy (R261). -/
theorem Triad.restore_lane {x : Triad} (cl : Closed) (hrepair : x.repair = none) (harb : x.arb = none) (l : LaneId) :
    (x.restore cl).lane l = if x.act l then
        { x.lane l with core := cl.ckpt.cores[l].settled, gate := [], held := [], ras := [] }.openClause cl.ckpt.parsed
      else x.lane l := by
  have hcopy (i : LaneId) : x.takesCopy i = false := by simp [Triad.takesCopy, hrepair, harb]
  refine (Vector.getElem_ofFn l.isLt).trans ?_
  simp only [hcopy]
  rfl

/-- Without an arbitration, a rollback that waits for nothing restores the triad; its counts and its report change nothing
else of a triad (R260 to R263). -/
theorem rollback_triads {s : State} {t : TriadId} {cl : Closed} (hdue : (s.tri t).rollbackDue = true)
    (hfenced : (s.tri t).fenced = false) (hrelease : (s.tri t).toRelease = []) (hflying : (s.tri t).flying = [])
    (hwait : (s.leadCore t).waiting = false) (hclosed : (s.tri t).closed = some cl) (harb : (s.tri t).arb = none) :
    (rollback s t).triads = (s.setTriad t fun x => x.restore cl).triads := by
  have hdrop : dropRetired s t = s := State.setTriad_id _ _ _ (by rw [harb]; exact congrArg (fun a => { s.tri t with arb := a }) harb.symm)
  have hregs (z : State) : RegsOnly z (if cl.ckpt.parsed then countL (countL (countRec z t 15 0) t 0x2A 1) t 0x2E 1
      else countL (countRec z t 15 0) t 0x2A 1) := by
    have hcounted : RegsOnly z (countL (countRec z t 15 0) t 0x2A 1) := (RegsOnly.up _ _ _).trans (.countL _ _ _ _)
    split
    · exact hcounted.trans (.countL _ _ _ _)
    · exact hcounted
  have hwaits : (s.tri t).lanes[(s.tri t).lead].core.waiting = false := hwait
  obtain ⟨r, hr⟩ := hregs (s.setTriad t fun x => x.restore cl)
  simp only [rollback, hdue, hfenced, hrelease, hflying, hwaits, hclosed, hdrop, harb, Bool.not_true, List.isEmpty_nil,
    Bool.or_self, Bool.false_eq_true, if_false]
  rw [reportTriad, (ReportKeeps.report _ _ _).triads, hr]

theorem rollbackRestores : Clause.RollbackRestores := by
  intro s t cl x hdue hfenced hrelease hflying hwait hclosed harb hrepair
  have htriads := rollback_triads hdue hfenced hrelease hflying hwait hclosed harb
  have htri (u : TriadId) : (rollback s t).tri u = (s.setTriad t fun x => x.restore cl).tri u :=
    congrArg (fun v : Vector Triad 6 => v[u]) htriads
  refine ⟨_, rfl, ?_⟩
  simp only [htri, State.tri_setTriad]
  refine ⟨rfl, rfl, rfl, rfl, rfl, rfl, rfl, fun u hu => State.tri_setTriad_ne _ _ _ _ hu, fun l hl => ?_, fun l hl => ?_⟩
  · rw [Triad.restore_lane cl hrepair harb, hl, if_neg Bool.false_ne_true]
  · rw [Triad.restore_lane cl hrepair harb, hl, if_pos rfl]
    obtain ⟨hcore, hgate⟩ := Lane.openClause_keeps
      { x.lane l with core := cl.ckpt.cores[l].settled, gate := [], held := [], ras := [] } cl.ckpt.parsed
    exact ⟨hgate, hcore⟩

/-- Settles O18: two lanes or three that agree commit, two that differ make a rollback due, and the rollback restores the
checkpoint. -/
theorem comparesDecide : Obligations.ComparesDecide := ⟨equalCompareCommits, mismatchRollsBack, rollbackRestores⟩

end Sys2Proof.Machine
end

section
/-! The release of committed entries and the completion of their writes in plain SRAM (R28, R219, R220, R224, R347 to
R350). -/

namespace Sys2Proof.Machine

/-! ### Release -/

theorem gateReleases : Clause.GateReleases := by
  intro s t e l x hhead hclear
  have hready : releasable x e = true := by
    unfold releasable
    split
    · next hdev => rw [if_pos hdev] at hclear; simp [hclear]
    · next hdev => rw [if_neg hdev] at hclear; simpa using hclear
  have hrun : gateRelease s t = s.setTriad t fun x =>
      { x with toRelease := l, flying := x.flying ++ [e],
               colFull := x.colFull && decide (48 ≤ (x.lane x.lead).gate.length + l.length) } := by
    unfold gateRelease
    rw [show (s.tri t).toRelease = e :: l from hhead]
    exact if_pos hready
  refine ⟨_, congrArg Host.Outcome.next hrun, ?_, rfl, rfl, fun u hu => State.tri_setTriad_ne _ _ _ _ hu⟩
  rw [State.tri_setTriad]

/-! ### Octets stored -/

/-- Octets with all their enables set, with what a store of them leaves. -/
theorem rdByte_storeOctets (s : State) (a c : Nat) (bs : List Byte) :
    rdByte (storeOctets s a 0 (enabled bs)) c = if a ≤ c ∧ c < a + bs.length then bs.getD (c - a) 0 else rdByte s c := by
  rw [← rdByte_wrBytes]
  congr 1
  induction bs generalizing s a with
  | nil => rfl
  | cons b bs ih => exact ih (wrByte s a b) (a + 1)

/-- Octets without their enables are passed over. -/
theorem storeOctets_disabled (s : State) (a n : Nat) (kind : BitVec 2) (bs : List (Byte × Bool)) :
    storeOctets s a kind (List.replicate n (0, false) ++ bs) = storeOctets s (a + n) kind bs := by
  induction n generalizing a with
  | zero => rfl
  | succ n ih =>
    rw [List.replicate_succ, List.cons_append, storeOctets, if_neg Bool.false_ne_true, ih, Nat.add_right_comm, Nat.add_assoc]

theorem storeOctets_append (s : State) (a : Nat) (kind : BitVec 2) (bs cs : List (Byte × Bool)) :
    storeOctets s a kind (bs ++ cs) = storeOctets (storeOctets s a kind bs) (a + bs.length) kind cs := by
  induction bs generalizing s a with
  | nil => rfl
  | cons b bs ih => rw [List.cons_append, storeOctets, ih, storeOctets, List.length_cons, Nat.add_right_comm, Nat.add_assoc]

/-- A store changes memory alone. -/
theorem storeOctets_memory (s : State) (a : Nat) (kind : BitVec 2) (bs : List (Byte × Bool)) :
    ∃ m, storeOctets s a kind bs = { s with mem := m } := by
  induction bs generalizing s a with
  | nil => exact ⟨s.mem, rfl⟩
  | cons b bs ih =>
    obtain ⟨m, hm⟩ := ih (if b.2 then wrByte s a (aliasOctet kind (rdByte s a) b.1) else s) (a + 1)
    refine ⟨m, hm.trans ?_⟩
    split <;> rfl

/-! ### An aligned write of plain SRAM -/

section
variable {s : State} {a : Nat} {bs : List Byte} (hn : bs.length ∈ [1, 2, 4, 8]) (ha : a % bs.length = 0)
  (hclean : s.sram.errors = [])
include hn ha

/-- The word of an aligned write: the octets lie in one word, disabled ones around them (R343). -/
theorem padWord_aligned : ∃ k, padWord a (enabled bs) =
      List.replicate (a % 8) (0, false) ++ (enabled bs ++ List.replicate k (0, false))
    ∧ (padWord a (enabled bs)).length = 8 := by
  have hfit : a % 8 + bs.length ≤ 8 ∧ bs.length ≠ 0 := by
    simp only [List.mem_cons, List.not_mem_nil, or_false] at hn
    rcases hn with h | h | h | h <;> rw [h] at ha ⊢ <;> omega
  refine ⟨_, List.append_assoc _ _ _, ?_⟩
  simp only [padWord, enabled, List.length_append, List.length_replicate, List.length_map]
  omega

include hclean

/-- A row takes an aligned write of plain octets (R347). -/
theorem rowWrite_aligned (hon : bankOn s a = true) : rowWrite s a 0 (enabled bs) = storeOctets s a 0 (enabled bs) := by
  obtain ⟨k, hpad, hlen⟩ := padWord_aligned hn ha
  have hsome : (enabled bs).any (fun p => p.2) = true := by
    cases bs with
    | nil => exact absurd hn (by decide)
    | cons b bs => rfl
  have hword : (padWord a (enabled bs)).any (fun p => p.2) = true := by
    rw [hpad, List.any_append, List.any_append, hsome, Bool.true_or, Bool.or_true]
  have hstore : storeOctets s (a / 8 * 8) 0 (padWord a (enabled bs)) = storeOctets s a 0 (enabled bs) := by
    rw [hpad, storeOctets_disabled, storeOctets_append, ← List.append_nil (List.replicate k _), storeOctets_disabled,
      Nat.div_add_mod']
    rfl
  have htake : (padWord a (enabled bs)).take 8 = padWord a (enabled bs) := List.take_of_length_le (Nat.le_of_eq hlen)
  rw [rowWrite, hsome, hon]
  simp only [Bool.not_true, Bool.false_eq_true, if_false, if_true, hlen, sramWords, htake]
  rw [if_pos hword, sramWriteWord, sramError_of_clean hclean, hstore]

/-- So does the bank, outside the device table (R449). -/
theorem rowsWrite_aligned (hon : bankOn s a = true) (htable : a + bs.length ≤ devTable ∨ devTable + 0x10000 ≤ a) :
    rowsWrite s a 0 (enabled bs) = storeOctets s a 0 (enabled bs) := by
  have hlen : (enabled bs).length = bs.length := List.length_map _
  rw [rowsWrite, hlen, rowsOf_aligned hn ha]
  simp only [List.foldl_cons, List.foldl_nil]
  rw [deviceHook, hlen, if_pos htable, List.take_of_length_le (Nat.le_of_eq hlen), rowWrite_aligned hn ha hclean hon]

end

/-! ### A gate entry -/

theorem length_bytesLE (n v : Nat) : (bytesLE n v).length = n := by
  induction n generalizing v with
  | zero => rfl
  | succ n ih => rw [bytesLE, List.length_cons, ih]

theorem getD_bytesLE {n i : Nat} (h : i < n) (v : Nat) : (bytesLE n v).getD i 0 = BitVec.ofNat 8 (v / 256 ^ i) := by
  induction n generalizing i v with
  | zero => exact absurd h (Nat.not_lt_zero i)
  | succ n ih =>
    cases i with
    | zero => rw [Nat.pow_zero, Nat.div_one]; rfl
    | succ i => rw [bytesLE, List.getD_cons_succ, ih (Nat.lt_of_succ_lt_succ h), Nat.div_div_eq_div_mul, Nat.pow_succ']

section
variable {s : State} {e : GateEntry} {n : Nat} (hp : PlainWrite s e n)
include hp

theorem size_mem_of_plainWrite : n ∈ [1, 2, 4, 8] := List.mem_map_of_mem (f := Prod.fst) hp.size

/-- The octets of an entry, all enabled, and their number (R9, R216). -/
theorem octets_of_plainWrite : (octetsOf e.data e.be).take n = enabled (bytesLE n e.data.toNat) ∧ enCount e.be = n := by
  have hsize := hp.size
  simp only [List.mem_cons, List.not_mem_nil, or_false, Prod.mk.injEq] at hsize
  rcases hsize with ⟨rfl, hbe⟩ | ⟨rfl, hbe⟩ | ⟨rfl, hbe⟩ | ⟨rfl, hbe⟩ <;> rw [hbe] <;>
    exact ⟨by simp [octetsOf, enabled, bytesLE], by decide⟩

/-- The bank performs the write of an entry: its octets in their order (R28, R347). -/
theorem rowsWrite_of_plainWrite : rowsWrite s e.pa.toNat 0 (enabled (bytesLE n e.data.toNat)) =
    storeOctets s e.pa.toNat 0 (enabled (bytesLE n e.data.toNat)) := by
  have hlen := length_bytesLE n e.data.toNat
  have hsize : n ≤ 8 := by
    have := size_mem_of_plainWrite hp
    simp only [List.mem_cons, List.not_mem_nil, or_false] at this
    omega
  refine rowsWrite_aligned (by rw [hlen]; exact size_mem_of_plainWrite hp) (by rw [hlen]; exact hp.aligned) hp.clean
    (bankOn_of_open hp.open_) ?_
  rw [hlen]
  exact hp.table.imp_left fun h => by omega

/-- The write of an entry takes the owner or the fabric port of its bank, where the bank keeps no write (R341, R348). -/
theorem busWrite_of_plainWrite (t : TriadId) (hkept : ∀ b : Fin 12, s.sram.collided[b] = none) :
    busWrite s t e.pa.toNat e.data e.be = storeOctets s e.pa.toNat 0 (enabled (bytesLE n e.data.toNat)) := by
  obtain ⟨hoctets, hcount⟩ := octets_of_plainWrite hp
  have hlen : (enabled (bytesLE n e.data.toNat)).length = n := (List.length_map _).trans (length_bytesLE _ _)
  have hlands : landsAt s e.pa.toNat = .sram := by rw [landsAt, regionOf_of_sram hp.inside hp.open_]
  have hport : sramWrite s (.triad t) e.pa.toNat 0 (enabled (bytesLE n e.data.toNat)) =
      rowsWrite s e.pa.toNat 0 (enabled (bytesLE n e.data.toNat)) := by
    rw [sramWrite, hlen, rowsOf_aligned (size_mem_of_plainWrite hp) hp.aligned, List.foldl_cons, List.foldl_nil,
      portClear_of_none hkept]
  have hmem : memWrite s (.triad t) e.pa.toNat (enabled (bytesLE n e.data.toNat)) =
      rowsWrite s e.pa.toNat 0 (enabled (bytesLE n e.data.toNat)) := by
    rw [memWrite, if_neg (not_ddr_of_sram hp.inside), plainAddr_of_sram hp.inside, inSecure_of_open hp.open_, portOf,
      aliasKind_of_sram hp.inside]
    exact hport
  rw [← rowsWrite_of_plainWrite hp, ← hmem]
  simp only [busWrite, hlands, hcount, hoctets]

omit hp in
/-- What a completed write leaves: its octets at its address in their order, the entry in flight no more and forwarded no
more, and all else as it was (R28, R222, R224). -/
theorem landed_storeOctets (s : State) (e : GateEntry) (n : Nat) (t : TriadId) {s1 : State} (hmem : s1.mem = s.mem) (htri : s1.triads = s.triads) :
    let s' := (storeOctets s1 e.pa.toNat 0 (enabled (bytesLE n e.data.toNat))).setTriad t fun x => x.landed e.id
    (∀ a, rdByte s' a = if e.pa.toNat ≤ a ∧ a < e.pa.toNat + n
        then BitVec.ofNat 8 (e.data.toNat / 256 ^ (a - e.pa.toNat)) else rdByte s a)
      ∧ (s'.tri t).flying = (s.tri t).flying.filter (fun g => decide (g.id ≠ e.id))
      ∧ (∀ u, u ≠ t → s'.tri u = s.tri u)
      ∧ ∀ l, (s'.tri t).lane l =
          { (s.tri t).lane l with held := ((s.tri t).lane l).held.filter fun g => decide (g.id ≠ e.id) } := by
  intro s'
  obtain ⟨m, hm⟩ := storeOctets_memory s1 e.pa.toNat 0 (enabled (bytesLE n e.data.toNat))
  have hstored (u : TriadId) : (storeOctets s1 e.pa.toNat 0 (enabled (bytesLE n e.data.toNat))).tri u = s.tri u := by
    rw [hm]
    exact congrArg (fun v : Vector Triad 6 => v[u]) htri
  have hid : (fun g : GateEntry => g.id != e.id) = fun g => decide (g.id ≠ e.id) := funext fun g => by rw [bne, decide_not]; rfl
  have hself : s'.tri t = (s.tri t).landed e.id := by rw [State.tri_setTriad, hstored]
  refine ⟨fun a => ?_, ?_, fun u hu => ?_, fun l => ?_⟩
  · refine (rdByte_storeOctets s1 e.pa.toNat a (bytesLE n e.data.toNat)).trans ?_
    rw [length_bytesLE, show rdByte s1 a = rdByte s a from congrArg (fun m => sparseGet m a 0) hmem]
    split
    · exact getD_bytesLE (by omega) _
    · rfl
  · rw [hself, ← hid]
    rfl
  · rw [State.tri_setTriad_ne _ _ _ _ hu, hstored]
  · rw [hself, ← hid]
    exact Vector.getElem_map _ l.isLt

/-! ### Completion, collision, retry -/

/-- No invalidation starts, and the entry has landed (R224). -/
theorem complete_of_plainWrite (t : TriadId) (hkept : ∀ b : Fin 12, s.sram.collided[b] = none) : complete s t e =
    (storeOctets s e.pa.toNat 0 (enabled (bytesLE n e.data.toNat))).setTriad t fun x => x.landed e.id := by
  have hinval : e.pa.toNat ≠ Adr.tapuInval t.val := by
    have hinside := hp.inside
    simp only [sramSize, Adr.tapuInval] at *
    omega
  simp only [complete, hinval, false_and, if_false, busWrite_of_plainWrite hp t hkept]

omit hp in
/-- Triad t owns bank t alone (R339). -/
theorem ownerOf_ne_triad : ∀ (b : Fin 12) (t : TriadId), (ownerOf b.val != .triad t) = !decide (b.val = t.val) := by decide

/-- The bank that may refuse the write: its own, where the writer does not own it (R341, R348). -/
theorem refusingBank_of_plainWrite (t : TriadId) {b : Fin 12} (hb : e.pa.toNat / 0x200000 = b.val) :
    refusingBank s (.triad t) e.pa.toNat = if b.val = t.val then none else some b := by
  have hin : e.pa.toNat / 0x200000 < 12 := hb ▸ b.isLt
  unfold refusingBank
  extract_lets a
  have ha : a = e.pa.toNat := plainAddr_of_sram hp.inside
  rw [dif_pos (show a / 0x200000 < 12 from ha ▸ hin)]
  simp only [ha, bankOn_of_open hp.open_, inSecure_of_open hp.open_, aliasKind_of_sram hp.inside, hb, ownerOf_ne_triad]
  by_cases h : b.val = t.val <;> simp [h]

/-- A bank that keeps the write performs it for its writer (R348 to R350). -/
theorem collideRetry_of_plainWrite (t : TriadId) {b : Fin 12}
    (hb : s.sram.collided[b] = some ⟨.gate t e.id, e.pa.toNat, (octetsOf e.data e.be).take n⟩) : collideRetry s b =
    (storeOctets { s with sram := { s.sram with collided := s.sram.collided.set b.val none b.isLt } } e.pa.toNat 0
      (enabled (bytesLE n e.data.toNat))).setTriad t fun x => x.landed e.id := by
  have hp0 : PlainWrite { s with sram := { s.sram with collided := s.sram.collided.set b.val none b.isLt } } e n :=
    ⟨hp.size, hp.aligned, hp.inside, hp.open_, hp.clean, hp.plain, hp.table⟩
  rw [← rowsWrite_of_plainWrite hp0]
  simp only [collideRetry, hb, plainAddr_of_sram hp.inside, aliasKind_of_sram hp.inside, (octets_of_plainWrite hp).1]
  rfl

variable {t : TriadId} {k : Nat} (hfly : (s.tri t).flying[k]? = some e)
  (hfirst : ((s.tri t).flying.take k).all (fun g => slaveOf g.pa.toNat != slaveOf e.pa.toNat) = true)
  (hnone : ∀ b : Fin 12, s.sram.collided[b] = none) (hbar : barrierHolds s t e = false)
include hfly hfirst hnone hbar

/-- A write that nothing holds back meets the collision that its port can refuse, or completes (R28, R348). -/
theorem writeCompletion_of_plainWrite (hit : Bool) : writeCompletion s t k hit =
    if hit then (match refusingBank s (.triad t) e.pa.toNat with
      | some b => countL (collide s b ⟨.gate t e.id, e.pa.toNat, (octetsOf e.data e.be).take n⟩) t 0x17 1
      | none => complete s t e)
    else complete s t e := by
  have hahead : ((s.tri t).flying.take k).any (fun g => slaveOf g.pa.toNat == slaveOf e.pa.toNat) = false := by
    rw [← Bool.not_eq_true', List.not_any_eq_all_not]
    exact hfirst
  have hheld : bankHeld s t e = false := by
    unfold bankHeld
    split
    · next b owner _ => rw [hnone b]
    · rfl
  simp only [writeCompletion, hfly, hahead, hheld, hbar, Bool.or_self, Bool.false_eq_true, if_false,
    (octets_of_plainWrite hp).2]
  cases refusingBank s (.triad t) e.pa.toNat <;> cases hit <;> simp

end

/-- A collision leaves the write in its bank and changes neither memory nor a triad (R348, R349). -/
theorem collide_keeps (s : State) (t : TriadId) (b : Fin 12) (w : Kept) (code : Nat) :
    let s' := countL (collide s b w) t code 1
    s'.sram.collided[b] = some w ∧ s'.mem = s.mem ∧ s'.triads = s.triads := by
  obtain ⟨r, hr⟩ : RegsOnly { s with sram := { s.sram with collided := s.sram.collided.set b.val (some w) b.isLt } }
      (countL (collide s b w) t code 1) := (RegsOnly.up _ _ _).trans (.countL _ _ _ _)
  intro s'
  have hs : s' = _ := hr
  rw [hs]
  exact ⟨Vector.getElem_set_self _, rfl, rfl⟩

theorem writesComplete : Clause.WritesComplete := by
  intro s t e n hp kept stored
  refine ⟨fun k hfly hfirst hnone hbar => ?_, fun b hb => ⟨_, rfl, ?_⟩⟩
  · have hrun := writeCompletion_of_plainWrite hp hfly hfirst hnone hbar
    have hstored : stored (complete s t e) := by
      rw [complete_of_plainWrite hp t hnone]
      exact landed_storeOctets s e n t rfl rfl
    refine ⟨⟨_, congrArg Host.Outcome.next (hrun false), hstored⟩, fun b hb => ⟨_, congrArg Host.Outcome.next (hrun true), ?_⟩⟩
    rw [refusingBank_of_plainWrite hp t hb]
    by_cases hown : b.val = t.val
    · simp only [hown, if_true]
      exact hstored
    · simp only [hown, if_false, if_true]
      exact collide_keeps s t b kept 0x17
  · have hretry := collideRetry_of_plainWrite hp t hb
    obtain ⟨m, hm⟩ := storeOctets_memory { s with sram := { s.sram with collided := s.sram.collided.set b.val none b.isLt } }
      e.pa.toNat 0 (enabled (bytesLE n e.data.toNat))
    refine ⟨?_, ?_⟩
    · rw [hretry]
      exact landed_storeOctets s e n t rfl rfl
    · rw [hretry, State.setTriad_sram, hm]
      exact Vector.getElem_set_self _

/-- Settles O19: a plain write lands as `storeOctets` of its octets, at once or behind the collision. -/
theorem gateDrains : Obligations.GateDrains := ⟨gateReleases, writesComplete⟩

end Sys2Proof.Machine
end

section
/-! What a report to the FCUs leaves of memory and of the legacy edge while the device is not DORMANT (R571, R617, R618,
R667). -/

namespace Sys2Proof.Machine

/-- The legacy edge but for what a reaction stops or a sample of a pin counts: the UARTs, the SAFE bits and the runs of
the rails (R544, R571). -/
def Legacy.UnitsAs (g g' : Legacy) : Prop :=
  ∃ u a b r, g' = { g with uart := u, safeTmr := a, safeLeg := b, railRun := r }

/-- From s, not in DORMANT, to s', which is not either: memory and the units of the legacy edge are as they were. -/
def AwakeKeeps (s s' : State) : Prop := modeOf s ≠ 5 → modeOf s' ≠ 5 ∧ s'.mem = s.mem ∧ s.legacy.UnitsAs s'.legacy

theorem Legacy.UnitsAs.refl (g : Legacy) : g.UnitsAs g := ⟨_, _, _, _, rfl⟩

theorem Legacy.UnitsAs.trans {a b c : Legacy} (h : a.UnitsAs b) (g : b.UnitsAs c) : a.UnitsAs c := by
  obtain ⟨_, _, _, _, rfl⟩ := h
  obtain ⟨_, _, _, _, rfl⟩ := g
  exact ⟨_, _, _, _, rfl⟩

/-- SYS_MODE holds its field [2:0] as written (R662). -/
theorem field_setMode (w : Word) {m : Nat} (h : m < 8) : field (setField w 2 0 m) 2 0 = m := by
  have hw := w.isLt
  simp only [field, setField, BitVec.toNat_ofNat]
  omega

namespace AwakeKeeps

theorem refl (s : State) : AwakeKeeps s s := fun h => ⟨h, rfl, .refl _⟩

theorem trans {a b c : State} (h : AwakeKeeps a b) (g : AwakeKeeps b c) : AwakeKeeps a c := fun ha =>
  have ⟨hb, hm, hl⟩ := h ha
  have ⟨hc, hm', hl'⟩ := g hb
  ⟨hc, hm'.trans hm, hl.trans hl'⟩

theorem ite {s a b : State} {c : Prop} [Decidable c] (ha : AwakeKeeps s a) (hb : AwakeKeeps s b) :
    AwakeKeeps s (if c then a else b) := by
  split
  · exact ha
  · exact hb

theorem foldl {α : Type} {f : State → α → State} (h : ∀ s x, AwakeKeeps s (f s x)) (l : List α) (s : State) :
    AwakeKeeps s (l.foldl f s) := by
  induction l generalizing s with
  | nil => exact .refl s
  | cons x l ih => exact (h s x).trans (ih (f s x))

/-! ### Registers and parts of the state -/

/-- Any change of registers other than SYS_MODE. -/
theorem regsOnly {s s' : State} (h : RegsOnly s s') (hm : s'.rd Adr.sysMode = s.rd Adr.sysMode) : AwakeKeeps s s' := by
  obtain ⟨r, rfl⟩ := h
  exact fun ha => ⟨fun h5 => ha ((congrArg (field · 2 0) hm).symm.trans h5), rfl, .refl _⟩

theorem wr (s : State) {a : Nat} (v : Word) (h : Adr.sysMode ≠ a) : AwakeKeeps s (s.wr a v) :=
  regsOnly (.wr s a v) (State.rd_wr_ne s a _ v h)

theorem up (s : State) {a : Nat} (f : Word → Word) (h : Adr.sysMode ≠ a) : AwakeKeeps s (s.up a f) := wr s _ h

theorem sys (s : State) (x : Sys) : AwakeKeeps s { s with sys := x } := fun h => ⟨h, rfl, .refl _⟩
theorem fcu (s : State) (x : Fcu) : AwakeKeeps s { s with fcu := x } := fun h => ⟨h, rfl, .refl _⟩
theorem legacy (s : State) {g : Legacy} (hg : s.legacy.UnitsAs g) : AwakeKeeps s { s with legacy := g } := fun h => ⟨h, rfl, hg⟩
theorem genUp (s : State) (g : Fin 12) : AwakeKeeps s (genUp s g) := fun h => ⟨h, rfl, .refl _⟩
theorem setTriad (s : State) (t : TriadId) (f : Triad → Triad) : AwakeKeeps s (s.setTriad t f) := fun h => ⟨h, rfl, .refl _⟩

theorem countL (s : State) (t : TriadId) (code k : Nat) : AwakeKeeps s (countL s t code k) :=
  regsOnly (.countL s t code k) (rd_countL s t code k fun h => absurd h.1 (by decide))

/-! ### Events and modes -/

theorem pulse (s : State) (n : Nat) : AwakeKeeps s (pulse s n) :=
  .ite (.refl s) <| by
    unfold pend
    exact trans (.ite (up s _ (by simp only [Adr.sysMode, Adr.evcOvr]; omega)) (.refl s))
      (up _ _ (by simp only [Adr.sysMode, Adr.evcPend]; omega))

theorem enterSafe (s : State) (mask : BitVec 6) : AwakeKeeps s (enterSafe s mask) :=
  (legacy s ⟨_, _, _, _, rfl⟩).trans (pulse _ _)

/-- A mode other than DORMANT is entered. -/
theorem putMode (s : State) {m : Nat} (h8 : m < 8) (h5 : m ≠ 5) : AwakeKeeps s (putMode s m) := by
  unfold Machine.putMode
  extract_lets old s1 s2 sys2 s3 sys3 s4
  have h1 : AwakeKeeps s s1 := fun _ => ⟨by rw [modeOf, State.rd_up_self, field_setMode _ h8]; exact h5, rfl, .refl _⟩
  have h3 : AwakeKeeps s2 s3 := .ite (sys s2 _) (.refl s2)
  have h4 : AwakeKeeps s3 s4 := .ite (sys s3 _) (.refl s3)
  exact .ite (.refl s) ((((h1.trans (genUp s1 2)).trans h3).trans h4).trans (.ite (enterSafe s4 _) (.refl s4)))

theorem countDisarm (s : State) (was : Bool) : AwakeKeeps s (countDisarm s was) :=
  .ite ((up s _ (by decide)).trans (pulse _ _)) (.refl s)

theorem setMode (s : State) {m : Nat} (h8 : m < 8) (h5 : m ≠ 5) : AwakeKeeps s (setMode s m) :=
  .ite (.refl s) (.ite (putMode s h8 h5) ((putMode s h8 h5).trans ((fcu _ _).trans (countDisarm _ _))))

/-- Outside DORMANT there is nothing to wake (R618, R667). -/
theorem classAction (s : State) (c : Nat) : AwakeKeeps s (classAction s c) := by
  unfold Machine.classAction
  extract_lets m blank sys0 s1
  intro h
  have hwake : AwakeKeeps s s1 := .ite (sys s _) (.refl s)
  have hact : AwakeKeeps s1 (if blank then s1 else if c = 2 then (if m = 2 then Machine.setMode s1 3 else s1)
      else if m = 0 then { s1 with sys := { s1.sys with holdDue := true } }
      else if m = 1 ∨ m = 2 ∨ m = 3 then Machine.setMode s1 4 else s1) :=
    .ite (.refl s1) <| .ite (.ite (setMode s1 (by decide) (by decide)) (.refl s1)) <|
      .ite (sys s1 _) (.ite (setMode s1 (by decide) (by decide)) (.refl s1))
  rw [if_neg (show ¬ m = 5 from h)]
  exact hwake.trans (.ite hact (.refl s1)) h

/-! ### The report -/

theorem logEntry (s : State) (f info c : Nat) (esc one : Bool) : AwakeKeeps s (logEntry s f info c esc one) :=
  ((wr s _ (by simp only [Adr.sysMode, Adr.fcuLogW0]; omega)).trans
    (wr _ _ (by simp only [Adr.sysMode, Adr.fcuLogW1]; omega))).trans (wr _ _ (by decide))

theorem inIdOrder (old s : State) : AwakeKeeps s (inIdOrder old s) := by
  unfold Machine.inIdOrder
  refine .ite (.refl s) (trans (foldl (fun t e => ?_) _ s) (fcu _ _))
  exact (wr t _ (by simp only [Adr.sysMode, Adr.fcuLogW0]; omega)).trans
    (wr _ _ (by simp only [Adr.sysMode, Adr.fcuLogW1]; omega))

theorem reportOnce (s : State) (f info : Nat) (toA toB : Bool) : AwakeKeeps s (reportOnce s f info toA toB).1 := by
  unfold Machine.reportOnce
  extract_lets useA useB c0 ra rb was cls shown esc s1 s2 fcu2 s3 s4 s5 s6 s7 s8 s9 s10
  split
  · exact .refl s
  · have h3 : AwakeKeeps s s3 := ((logEntry s f info shown esc _).trans (fcu s1 _)).trans (fcu s2 _)
    have h5 : AwakeKeeps s3 s5 := (genUp s3 1).trans (pulse s4 _)
    have h6 : AwakeKeeps s5 s6 := .ite (pulse s5 _) (.refl s5)
    have h7 : AwakeKeeps s6 s7 := .ite (pulse s6 _) (.refl s6)
    have h8 : AwakeKeeps s7 s8 := .ite (pulse s7 _) (.refl s7)
    exact ((((h3.trans h5).trans h6).trans h7).trans h8).trans ((countDisarm s8 was).trans (classAction s9 cls))

theorem reportVia (s : State) (f info : Nat) (toA toB : Bool) : AwakeKeeps s (reportVia s f info toA toB) := by
  have hdis := ((reportOnce s f info toA toB).trans (reportOnce _ 170 0 true true)).trans
    ((pulse _ 774).trans (inIdOrder s _))
  exact .ite (.refl s) (.ite hdis (reportOnce s f info toA toB))

/-- A report from outside DORMANT raises no READY again (R679). -/
theorem report (s : State) (f info : Nat) : AwakeKeeps s (report s f info) := by
  intro h
  rw [Machine.report, reportWakes, if_neg fun hd => h hd.1]
  exact reportVia s f info true true h

end AwakeKeeps

end Sys2Proof.Machine
end

section
/-! Samples of the input pins (R242, R543, R544, R550, R577 to R579, R581). -/

namespace Sys2Proof.Machine

/-! ### One level of a row of pins -/

theorem getLsbD_withBit {w : Nat} (v : BitVec w) {i : Nat} (hi : i < w) (b : Bool) (j : Nat) :
    (if b then v ||| BitVec.ofNat w (2 ^ i) else v &&& ~~~ BitVec.ofNat w (2 ^ i)).getLsbD j =
      if j = i then b else v.getLsbD j := by
  have hbit : (BitVec.ofNat w (2 ^ i)).getLsbD j = decide (j = i) := by
    rw [BitVec.getLsbD_ofNat, Nat.testBit_two_pow]
    by_cases h : j = i
    · simp [h, hi]
    · simp [h, Ne.symm h]
  cases b with
  | true =>
    rw [if_pos rfl, BitVec.getLsbD_or, hbit]
    by_cases h : j = i <;> simp [h]
  | false =>
    rw [if_neg Bool.false_ne_true, BitVec.getLsbD_and, BitVec.getLsbD_not, hbit]
    by_cases h : j = i
    · simp [h]
    · simpa [h] using BitVec.lt_of_getLsbD

theorem getLsbD_setBit128 (v : BitVec 128) {i : Nat} (hi : i < 128) (b : Bool) (j : Nat) :
    (setBit128 v i b).getLsbD j = if j = i then b else v.getLsbD j := getLsbD_withBit v hi b j

theorem getLsbD_setBit64 (v : BitVec 64) {i : Nat} (hi : i < 64) (b : Bool) (j : Nat) :
    (setBit64 v i b).getLsbD j = if j = i then b else v.getLsbD j := getLsbD_withBit v hi b j

/-- The same for a row of n pins, at most 64. -/
theorem getLsbD_setBit64_row {n : Nat} (hn : n ≤ 64) (v : BitVec n) {i : Nat} (hi : i < n) (b : Bool) {j : Nat} (hj : j < n) :
    ((setBit64 (v.setWidth 64) i b).setWidth n).getLsbD j = if j = i then b else v.getLsbD j := by
  rw [BitVec.getLsbD_setWidth, getLsbD_setBit64 _ (by omega), BitVec.getLsbD_setWidth]
  simp [hj, show j < 64 by omega]

/-! ### The agreed value of a triad -/

/-- Three lanes in use take the majority (R242). -/
theorem agree_of_three {x : Triad} (h : x.actives.length = 3) (old : Bool) (r : BitVec 3) : (agree x old r).1 = majority r := by
  unfold agree
  split
  · next hab => rw [hab] at h; exact absurd h (by simp)
  · dsimp only
    split <;> rfl

/-- Two lanes in use take their common level, or keep the one they had (R242). -/
theorem agree_of_two {x : Triad} {a b : LaneId} (h : x.actives = [a, b]) (old : Bool) (r : BitVec 3) :
    (agree x old r).1 = if r.getLsbD a.val = r.getLsbD b.val then r.getLsbD a.val else old := by
  unfold agree
  rw [h]
  dsimp only
  split <;> rfl

/-- What one sample of GPIO pin p does to a triad: its agreed value and the run of samples that disagree (R242, R244). -/
def Triad.sampled (x : Triad) (p : Nat) (r : BitVec 3) : Triad :=
  if x.fenced then x
  else
    let a := agree x (x.agreed.getLsbD p) r
    let rest := x.inRun.filter fun q => decide (q.1 ≠ p)
    { x with agreed := setBit128 x.agreed p a.1,
             inRun := if a.2.2 then (p, (x.inRun.lookup p).getD 0 + 1) :: rest else rest }

theorem Triad.sampled_lanes (x : Triad) (p : Nat) (r : BitVec 3) : (x.sampled p r).lanes = x.lanes := by
  unfold Triad.sampled
  split <;> rfl

theorem Triad.sampled_agreed {x : Triad} (h : x.fenced = false) {p : Nat} (hp : p < 128) (r : BitVec 3) :
    (x.sampled p r).agreed.getLsbD p = (agree x (x.agreed.getLsbD p) r).1 := by
  rw [Triad.sampled, h, if_neg Bool.false_ne_true]
  exact (getLsbD_setBit128 _ hp _ _).trans (if_pos rfl)

theorem RegsOnly.triads {s s' : State} (h : RegsOnly s s') : s'.triads = s.triads := by
  obtain ⟨_, rfl⟩ := h
  rfl

theorem gpioSample_spec (s : State) (t : TriadId) (p : Nat) (r : BitVec 3) :
    AwakeKeeps s (gpioSample s t p r) ∧ (gpioSample s t p r).triads = (s.setTriad t fun x => x.sampled p r).triads := by
  unfold gpioSample
  extract_lets x rest
  cases hf : x.fenced with
  | true =>
    have hsame : (s.setTriad t fun x => x.sampled p r) = s := State.setTriad_id s t _ (if_pos hf)
    rw [if_pos rfl, hsame]
    exact ⟨.refl s, rfl⟩
  | false =>
    rw [if_neg Bool.false_ne_true]
    rcases hagree : agree x (x.agreed.getLsbD p) r with ⟨v, lane, bad⟩
    dsimp -zeta only
    extract_lets run s1 s2
    have hs1 : s1 = s.setTriad t fun x => x.sampled p r := State.setTriad_congr s t (by
      rw [Triad.sampled, if_neg (ne_true_of_eq_false hf), show agree (s.tri t) _ r = _ from hagree]
      dsimp only [run, rest]
      cases bad <;> rfl)
    have h2 : AwakeKeeps s1 s2 ∧ s2.triads = s1.triads := by
      cases bad with
      | false => exact ⟨.refl s1, rfl⟩
      | true =>
        exact ⟨(AwakeKeeps.up s1 _ (by simp only [Adr.sysMode, Adr.cmpErrcnt]; omega)).trans (.countL _ t 0x49 1),
          (RegsOnly.countL _ t 0x49 1).triads⟩
    have h3 : AwakeKeeps s2 (if run = 3 then reportTriad s2 t 8 lane else s2)
        ∧ (if run = 3 then reportTriad s2 t 8 lane else s2).triads = s2.triads := by
      split
      · exact ⟨.report s2 _ _, (ReportKeeps.report s2 _ _).triads⟩
      · exact ⟨.refl s2, rfl⟩
    exact ⟨((AwakeKeeps.setTriad s t _).trans h2.1).trans h3.1, (h3.2.trans h2.2).trans (congrArg State.triads hs1)⟩

/-- A sample at the agreement stages of several triads, each once. -/
theorem foldl_gpioSample_tri (p : Nat) (r : BitVec 3) {l : List TriadId} (hl : l.Nodup) (s : State) (u : TriadId) :
    (l.foldl (fun s t => gpioSample s t p r) s).tri u = if u ∈ l then (s.tri u).sampled p r else s.tri u := by
  induction l generalizing s with
  | nil => rfl
  | cons t l ih =>
    obtain ⟨ht, hl⟩ := List.nodup_cons.mp hl
    have hstep (v : TriadId) : (gpioSample s t p r).tri v = (s.setTriad t fun x => x.sampled p r).tri v :=
      congrArg (fun w : Vector Triad 6 => w[v]) (gpioSample_spec s t p r).2
    rw [List.foldl_cons, ih hl, hstep]
    by_cases hu : u = t
    · subst hu
      simp [ht]
    · simp [hu, State.tri_setTriad_ne _ _ _ _ hu]

/-! ### The rails -/

/-- The runs of the rails of a pin: nothing but these runs and the reports of the FCUs (R544). -/
theorem railSample_keeps (s : State) (pin : Pin) (r : BitVec 3) (k : Nat) :
    AwakeKeeps s (railSample s pin r k) ∧ (railSample s pin r k).triads = s.triads := by
  unfold railSample
  extract_lets bad n rest g s1
  have h1 : AwakeKeeps s s1 := .legacy s ⟨_, _, _, _, rfl⟩
  split
  · exact ⟨h1.trans (.report s1 167 0), (ReportKeeps.report s1 167 0).triads⟩
  · exact ⟨h1, rfl⟩

/-- The runs of a pin's three rails; a pin that no unit uses has none (R544). -/
def railed (s : State) (pin : Pin) (r : BitVec 3) (watched : Bool) : State :=
  if watched then [0, 1, 2].foldl (fun s k => railSample s pin r k) s
  else { s with legacy := { s.legacy with railRun := s.legacy.railRun.filter fun e => e.1 != pin } }

theorem railed_keeps (s : State) (pin : Pin) (r : BitVec 3) (watched : Bool) :
    AwakeKeeps s (railed s pin r watched) ∧ (railed s pin r watched).triads = s.triads := by
  unfold railed
  split
  · obtain ⟨h0, t0⟩ := railSample_keeps s pin r 0
    obtain ⟨h1, t1⟩ := railSample_keeps (railSample s pin r 0) pin r 1
    obtain ⟨h2, t2⟩ := railSample_keeps (railSample (railSample s pin r 0) pin r 1) pin r 2
    exact ⟨(h0.trans h1).trans h2, (t2.trans t1).trans t0⟩
  · exact ⟨.legacy s ⟨_, _, _, _, rfl⟩, rfl⟩

/-! ### The voted level -/

/-- Two states that differ in registers and timer channels at most. -/
def TimersOnly (s s' : State) : Prop := ∃ r x, s' = { s with regs := r, legacy := { s.legacy with timers := x } }

namespace TimersOnly

theorem refl (s : State) : TimersOnly s s := ⟨_, _, rfl⟩

theorem trans {a b c : State} (h : TimersOnly a b) (g : TimersOnly b c) : TimersOnly a c := by
  obtain ⟨_, _, rfl⟩ := h
  obtain ⟨_, _, rfl⟩ := g
  exact ⟨_, _, rfl⟩

theorem regsOnly {s s' : State} (h : RegsOnly s s') : TimersOnly s s' := by
  obtain ⟨_, rfl⟩ := h
  exact ⟨_, _, rfl⟩

theorem upTimer (s : State) (n : Fin 64) (f : Timer → Timer) : TimersOnly s (s.upTimer n f) := ⟨_, _, rfl⟩

theorem capture (s : State) (n : Fin 64) (rising : Bool) (c : BitVec 48) : TimersOnly s (capture s n rising c) := by
  unfold Machine.capture
  extract_lets x v
  split
  · exact (upTimer s n _).trans (regsOnly (.pulse _ _))
  · exact (upTimer s n _).trans (regsOnly (.setBitR _ _ _))

theorem captureEdge (s : State) (n : Fin 64) (pinB rise : Bool) : TimersOnly s (captureEdge s n pinB rise) := by
  unfold Machine.captureEdge
  extract_lets sel
  split
  · exact capture _ _ _ _
  · exact refl s

theorem foldl {α : Type} {f : State → α → State} (h : ∀ s x, TimersOnly s (f s x)) (l : List α) (s : State) :
    TimersOnly s (l.foldl f s) := by
  induction l generalizing s with
  | nil => exact refl s
  | cons x l ih => exact (h s x).trans (ih (f s x))

theorem captureIndex (s : State) (p : Nat) : TimersOnly s (captureIndex s p) := by
  unfold Machine.captureIndex
  refine foldl (fun z n => ?_) _ s
  split
  · exact capture _ _ _ _
  · exact refl z

/-- A changed level of a counter's pin restarts its hold and may capture; an unchanged one does neither (R555). -/
theorem counted (s : State) (same : Prop) [Decidable same] (n : Fin 64) (f : Timer → Timer) (pinB v : Bool) :
    TimersOnly s (if same then s else Machine.captureEdge (s.upTimer n f) n pinB v) := by
  split
  · exact refl s
  · exact (upTimer s n f).trans (captureEdge _ _ _ _)

end TimersOnly

/-- What a vote leaves: memory and the triads, with the pin's level as `level` reads it (R543, R545). -/
structure VotedAs (s s' : State) (level : Legacy → Bool) (v : Bool) : Prop where
  mem : s'.mem = s.mem
  triads : s'.triads = s.triads
  voted : level s'.legacy = v

section
variable (s : State) (v : Bool)

/-- The vote of a GPIO pin takes its own bit, and captures where the pin is an index (R551, R555). -/
theorem voted_gpio (p : Fin 128) : (voted s (.gpio p) v).mem = s.mem ∧ (voted s (.gpio p) v).triads = s.triads
    ∧ (voted s (.gpio p) v).legacy.gpioIn = setBit128 s.legacy.gpioIn p.val v := by
  have htimers : TimersOnly { s with legacy := { s.legacy with gpioIn := setBit128 s.legacy.gpioIn p.val v } }
      (voted s (.gpio p) v) := by
    unfold voted
    dsimp only
    split
    · exact .captureIndex _ _
    · exact .refl _
  obtain ⟨_, _, hvoted⟩ := htimers
  rw [hvoted]
  exact ⟨rfl, rfl, rfl⟩

theorem voted_tmrA (n : Fin 64) : VotedAs s (voted s (.tmrA n) v) (fun g => g.tmrAIn.getLsbD n.val) v := by
  have htimers : TimersOnly { s with legacy := { s.legacy with tmrAIn := setBit64 s.legacy.tmrAIn n.val v } }
      (voted s (.tmrA n) v) := .counted _ _ n _ _ v
  obtain ⟨_, _, hvoted⟩ := htimers
  rw [hvoted]
  exact ⟨rfl, rfl, (getLsbD_setBit64 _ n.isLt _ _).trans (if_pos rfl)⟩

theorem voted_tmrB (n : Fin 64) : VotedAs s (voted s (.tmrB n) v) (fun g => g.tmrBIn.getLsbD n.val) v := by
  have htimers : TimersOnly { s with legacy := { s.legacy with tmrBIn := setBit64 s.legacy.tmrBIn n.val v } }
      (voted s (.tmrB n) v) := .counted _ _ n _ _ v
  obtain ⟨_, _, hvoted⟩ := htimers
  rw [hvoted]
  exact ⟨rfl, rfl, (getLsbD_setBit64 _ n.isLt _ _).trans (if_pos rfl)⟩

theorem voted_ssiDat (m : Fin 16) : VotedAs s (voted s (.ssiDat m) v) (fun g => g.ssiIn.getLsbD m.val) v :=
  ⟨rfl, rfl, (getLsbD_setBit64_row (by decide) _ m.isLt _ m.isLt).trans (if_pos rfl)⟩

theorem voted_uartRx (u : Fin 8) : VotedAs s (voted s (.uartRx u) v) (fun g => g.uartIn.getLsbD u.val) v :=
  ⟨rfl, rfl, (getLsbD_setBit64_row (by decide) _ u.isLt _ u.isLt).trans (if_pos rfl)⟩

end

/-! ### A sample of a pin of the legacy edge -/

/-- Between the agreement stages and the vote, the rails' runs and their reports keep memory, the triads and the levels
(R544, R630). -/
theorem railsOrdered_keeps (old z : State) (pin : Pin) (r : BitVec 3) (watched : Bool) :
    AwakeKeeps z (inIdOrder old (railed z pin r watched)) ∧ (inIdOrder old (railed z pin r watched)).triads = z.triads := by
  obtain ⟨hkeeps, htriads⟩ := railed_keeps z pin r watched
  exact ⟨hkeeps.trans (.inIdOrder old _), (ReportKeeps.inIdOrder old _).triads.trans htriads⟩

section
variable {s : State} (h : modeOf s ≠ 5)
include h

omit h in
/-- The agreement stages of all triads take the sample, each its own (R242, R244). -/
theorem agreementStages_spec (s : State) (p : Nat) (r : BitVec 3) :
    AwakeKeeps s (allTriads.foldl (fun s t => gpioSample s t p r) s)
      ∧ ∀ u, (allTriads.foldl (fun s t => gpioSample s t p r) s).tri u = (s.tri u).sampled p r := by
  have hall : ∀ u : TriadId, u ∈ allTriads := by decide
  exact ⟨.foldl (fun s t => (gpioSample_spec s t p r).1) _ s,
    fun u => (foldl_gpioSample_tri p r (by decide) s u).trans (if_pos (hall u))⟩

omit h in
theorem pinSample_gpio (s : State) (p : Fin 128) (r : BitVec 3) :
    pinSample s (.gpio p) r = voted (inIdOrder s (railed (allTriads.foldl (fun s t => gpioSample s t p.val r) s)
      (.gpio p) r (railWatched s (.gpio p)))) (.gpio p) (majority r) := by
  simp only [pinSample, railed]

/-- A sample of a GPIO pin reaches each triad once, and the legacy edge (R242, R543). -/
theorem gpioPin_completes (p : Fin 128) (r : BitVec 3) :
    Completes (.pinLevelChange (.gpio p) r) s fun s' => s'.mem = s.mem ∧ (∀ u, s'.tri u = (s.tri u).sampled p.val r)
      ∧ s'.legacy.gpioIn = setBit128 s.legacy.gpioIn p.val (majority r) := by
  obtain ⟨hz, hztri⟩ := agreementStages_spec s p.val r
  have hsample := pinSample_gpio s p r
  generalize allTriads.foldl (fun s t => gpioSample s t p.val r) s = z at hz hztri hsample
  obtain ⟨hy, hytri⟩ := railsOrdered_keeps s z (.gpio p) r (railWatched s (.gpio p))
  generalize inIdOrder s (railed z (.gpio p) r (railWatched s (.gpio p))) = y at hy hytri hsample
  obtain ⟨-, hmem, _, _, _, _, hlegacy⟩ := hz.trans hy h
  obtain ⟨hvmem, hvtri, hvin⟩ := voted_gpio y (majority r) p
  have hexec : exec (.pinLevelChange (.gpio p) r) s = .next (s.powered fun s => pinSample s (.gpio p) r) := rfl
  rw [State.powered_of_awake s _ h, hsample] at hexec
  refine ⟨_, hexec, hvmem.trans hmem, fun u => ?_, ?_⟩
  · rw [State.tri, hvtri.trans hytri]
    exact hztri u
  · rw [hvin, hlegacy]

/-- A sample of a plain input reaches the legacy edge alone (R543, R545). -/
theorem plainPin_completes {pin : Pin} {r : BitVec 3} {level : Legacy → Bool}
    (hpin : exec (.pinLevelChange pin r) s =
      .next (s.powered fun s => voted (inIdOrder s (railed s pin r (railWatched s pin))) pin (majority r)))
    (hvoted : ∀ y : State, VotedAs y (voted y pin (majority r)) level (majority r)) :
    Completes (.pinLevelChange pin r) s fun s' => (s'.mem = s.mem ∧ ∀ u, (s'.tri u).lanes = (s.tri u).lanes)
      ∧ s'.triads = s.triads ∧ level s'.legacy = majority r := by
  obtain ⟨hy, hytri⟩ := railsOrdered_keeps s s pin r (railWatched s pin)
  obtain ⟨-, hmem, -⟩ := hy h
  obtain ⟨hvmem, hvtri, hlevel⟩ := hvoted (inIdOrder s (railed s pin r (railWatched s pin)))
  have htriads := hvtri.trans hytri
  exact ⟨_, hpin.trans (congrArg Host.Outcome.next (State.powered_of_awake s _ h)),
    ⟨hvmem.trans hmem, fun u => congrArg (fun w : Vector Triad 6 => w[u].lanes) htriads⟩, htriads, hlevel⟩

end

theorem pinsAgree : Clause.PinsAgree := by
  intro s r h kept
  refine ⟨fun p => ?_, fun n => ⟨plainPin_completes h rfl fun y => voted_tmrA y _ n,
    plainPin_completes h rfl fun y => voted_tmrB y _ n⟩, fun m => plainPin_completes h rfl fun y => voted_ssiDat y _ m,
    fun u => plainPin_completes h rfl fun y => voted_uartRx y _ u⟩
  obtain ⟨s', hs', hmem, htri, hin⟩ := gpioPin_completes h p r
  refine ⟨s', hs', ⟨hmem, fun u => by rw [htri, Triad.sampled_lanes]⟩, ?_, fun q hq _ => ?_,
    fun u hu => ⟨fun hthree => ?_, fun a b htwo => ?_⟩⟩
  · rw [hin, getLsbD_setBit128 _ p.isLt, if_pos rfl]
  · rw [hin, getLsbD_setBit128 _ p.isLt, if_neg hq]
  · rw [htri, Triad.sampled_agreed hu p.isLt, agree_of_three hthree]
  · rw [htri, Triad.sampled_agreed hu p.isLt, agree_of_two htwo]

end Sys2Proof.Machine
end

section
/-! Samples of the island's pins (R577 to R579, R581). -/

namespace Sys2Proof.Machine

/-- The island with one channel's filter changed and the channel counted (R577, R578). -/
def Yober.sampled (y : Yober) (n : Fin 8) (put : YtcFilter → YtcFilter) : Yober :=
  ytcCount { y with ytcIn := vmod y.ytcIn n put } n

section
variable (y : Yober) (n : Fin 8) (put : YtcFilter → YtcFilter)

theorem Yober.sampled_ytcIn : (y.sampled n put).ytcIn[n] = put y.ytcIn[n] := vmod_get_self _ n put

theorem Yober.sampled_others {m : Fin 8} (h : m ≠ n) :
    (y.sampled n put).ytcIn[m] = y.ytcIn[m] ∧ (y.sampled n put).ytc[m] = y.ytc[m] :=
  ⟨vmod_get_ne _ n m put h, Vector.getElem_set_ne n.isLt m.isLt fun e => h (Fin.ext e.symm)⟩

/-- A level counts once it has held for more than FILT cycles (R578). -/
theorem Yober.sampled_levels :
    (y.sampled n put).ytcA.getLsbD n.val = (if (Config.yoberFilt n.val).toNat < (y.sampled n put).ytcIn[n].heldA
        then (y.sampled n put).ytcIn[n].a else y.ytcA.getLsbD n.val)
      ∧ (y.sampled n put).ytcB.getLsbD n.val = (if (Config.yoberFilt n.val).toNat < (y.sampled n put).ytcIn[n].heldB
        then (y.sampled n put).ytcIn[n].b else y.ytcB.getLsbD n.val) :=
  ⟨(getLsbD_setBit64_row (by decide) _ n.isLt _ n.isLt).trans (if_pos rfl),
    (getLsbD_setBit64_row (by decide) _ n.isLt _ n.isLt).trans (if_pos rfl)⟩

end

/-- What a sample does to the A level of a filter, and to its B level (R578). -/
def YtcFilter.putA (v : Bool) (p : YtcFilter) : YtcFilter := if p.a = v then p else { p with a := v, heldA := 1 }
def YtcFilter.putB (v : Bool) (p : YtcFilter) : YtcFilter := if p.b = v then p else { p with b := v, heldB := 1 }

theorem YtcFilter.putA_a (v : Bool) (p : YtcFilter) : (p.putA v).a = v := by
  unfold putA
  split
  · assumption
  · rfl

theorem YtcFilter.putB_b (v : Bool) (p : YtcFilter) : (p.putB v).b = v := by
  unfold putB
  split
  · assumption
  · rfl

/-- While CLK_TNS runs, a sample changes its channel's filter and counts the channel (R577, R578). -/
theorem ytcSample_of_running {s : State} (h : s.yob.clkStopped = false) (n : Fin 8) (v : Bool) :
    ytcSample s n false v = { s with yob := s.yob.sampled n (.putA v) }
      ∧ ytcSample s n true v = { s with yob := s.yob.sampled n (.putB v) } := by
  constructor <;>
  · rw [ytcSample, if_neg (ne_true_of_eq_false h)]
    rfl

/-- While CLK_TNS is stopped no sample of the island's pins is taken (R581). -/
theorem islandSamples_of_stopped {s : State} (h : s.yob.clkStopped = true) (n : Fin 8) (k : Fin 4) (pinB v : Bool) :
    ytcSample s n pinB v = s ∧ adcSample s k v = s := ⟨if_pos h, if_pos h⟩

theorem islandPins : Clause.IslandPins := by
  intro s r n v f p alone
  refine ⟨fun hrun => ⟨?_, ?_, fun k => ?_⟩, fun hstop k => ?_⟩
  case refine_1 =>
    have hin := s.yob.sampled_ytcIn n (.putA v)
    have hlevel := (s.yob.sampled_levels n (.putA v)).1
    rw [hin, YtcFilter.putA_a, ← hin] at hlevel
    exact ⟨_, congrArg Host.Outcome.next (ytcSample_of_running hrun n v).1,
      ⟨rfl, rfl, fun m hm => s.yob.sampled_others n _ hm⟩, hin, hlevel⟩
  case refine_2 =>
    have hin := s.yob.sampled_ytcIn n (.putB v)
    have hlevel := (s.yob.sampled_levels n (.putB v)).2
    rw [hin, YtcFilter.putB_b, ← hin] at hlevel
    exact ⟨_, congrArg Host.Outcome.next (ytcSample_of_running hrun n v).2,
      ⟨rfl, rfl, fun m hm => s.yob.sampled_others n _ hm⟩, hin, hlevel⟩
  case refine_3 =>
    have hsample : adcSample s k v = { s with yob := { s.yob with adc := vmod s.yob.adc k fun x => { x with din := v } } } :=
      if_neg (ne_true_of_eq_false hrun)
    exact ⟨_, congrArg Host.Outcome.next hsample, rfl, congrArg AdcPort.din (vmod_get_self _ k _),
      fun m hm => vmod_get_ne _ k m _ hm⟩
  case refine_4 =>
    have hstopped := islandSamples_of_stopped hstop n k
    simp only [List.forall_mem_cons, List.not_mem_nil, false_implies, implies_true, and_true]
    exact ⟨congrArg Host.Outcome.next (hstopped false v).1, congrArg Host.Outcome.next (hstopped true v).1,
      congrArg Host.Outcome.next (hstopped false v).2⟩

end Sys2Proof.Machine
end

section
/-! Sigma-delta values, GPIO outputs, edges and the safe state, and the statement (R565 to R572). -/

namespace Sys2Proof.Machine

/-! ### A software write of a bit that no lock and no reserved encoding touches (R12, R15) -/

theorem State.sw32_of_regAt (s : State) {a i j : Nat} {d : RegDesc} (v : BitVec 32) (h : regAt a = some (d, i, j)) :
    s.sw32 a v = s.wr a (writeValue d (lockedAt s d i) maskLo (s.rd a) (v.setWidth 64)) := by
  rw [State.sw32, h]

/-- Bit b of a heading is RW in the low word, outside every field with reserved encodings. -/
def RegDesc.free (d : RegDesc) (b : Nat) : Bool :=
  decide (b < 32) && d.rw.testBit b && !d.w1c.testBit b && d.rsv.all fun r => decide (b < r.2.1 ∨ r.1 < b)

theorem bitOf_keepReserved (old w : Word) {rsv : List (Nat × Nat × List (Nat × Nat))} {b : Nat}
    (h : ∀ r ∈ rsv, b < r.2.1 ∨ r.1 < b) : bitOf (keepReserved old rsv w) b = bitOf w b := by
  induction rsv generalizing w with
  | nil => rfl
  | cons r t ih =>
    obtain ⟨hi, lo, ok⟩ := r
    obtain ⟨hr, ht⟩ := List.forall_mem_cons.mp h
    have hout : ¬(lo ≤ b ∧ b ≤ hi) := fun ⟨hlo, hhi⟩ => hr.elim (Nat.not_lt.mpr hlo) (Nat.not_lt.mpr hhi)
    rw [keepReserved, ih _ ht]
    split
    · rfl
    · rw [bitOf_setField, if_neg hout]

theorem bitOf_writeValue_free {d : RegDesc} {b : Nat} (h : d.free b = true) (locked : Bool) (old new : Word) :
    bitOf (writeValue d locked maskLo old new) b = bitOf new b := by
  simp only [RegDesc.free, Bool.and_eq_true, Bool.not_eq_true', decide_eq_true_eq, List.all_eq_true] at h
  obtain ⟨⟨⟨hb, hrw⟩, hw1c⟩, hrsv⟩ := h
  have h64 : b < 64 := by omega
  simp only [writeValue, bitOf_or, bitOf_and, bitOf_not, bitOf_keepReserved _ _ hrsv, bitOf_ofNat, bitOf_maskLo, hb, h64,
    hrw, hw1c]
  cases bitOf new b <;> simp

/-! ### Sigma-delta values (R565, R567) -/

theorem regAt_sdmVal : ∀ k : Fin 32, (regAt (Adr.sdmVal k)).isSome = true := by decide

theorem regAt_sdmCfg : ∀ k : Fin 32, ((regAt (Adr.sdmCfg k)).any fun x => x.1.free 24) = true := by decide

/-- A write of SDM_k_VAL changes no other register. -/
theorem sw32_sdmVal (s : State) (k : Fin 32) (v : BitVec 32) :
    RegsOnly s (s.sw32 (Adr.sdmVal k) v) ∧ SameRegs s (s.sw32 (Adr.sdmVal k) v) [Adr.sdmVal k] := by
  obtain ⟨⟨d, i, j⟩, hd⟩ := Option.isSome_iff_exists.mp (regAt_sdmVal k)
  rw [State.sw32_of_regAt s v hd]
  exact ⟨.wr s _ _, fun a ha => State.rd_wr_ne s _ a _ fun e => ha (List.mem_singleton.mpr e)⟩

/-- A write of SDM_k_CFG changes no other register and takes EN as written (R15, R566). -/
theorem sw32_sdmCfg (s : State) (k : Fin 32) (v : BitVec 32) :
    RegsOnly s (s.sw32 (Adr.sdmCfg k) v) ∧ SameRegs s (s.sw32 (Adr.sdmCfg k) v) [Adr.sdmCfg k]
      ∧ bitOf ((s.sw32 (Adr.sdmCfg k) v).rd (Adr.sdmCfg k)) 24 = v.getLsbD 24 := by
  obtain ⟨⟨d, i, j⟩, hd, hfree⟩ := (Option.any_eq_true _ _).mp (regAt_sdmCfg k)
  rw [State.sw32_of_regAt s v hd]
  refine ⟨.wr s _ _, fun a ha => State.rd_wr_ne s _ a _ fun e => ha (List.mem_singleton.mpr e), ?_⟩
  rw [State.rd_wr_self, bitOf_writeValue_free hfree]
  simp [bitOf]

/-- The clamp as the least and greatest value (R565). -/
theorem sdmClamp_eq (v : BitVec 24) : sdmClamp v = BitVec.ofInt 24 (max (-7549747) (min 7549747 v.toInt)) := by
  unfold sdmClamp clampInt
  congr 1
  split
  · omega
  · split <;> omega

/-- A change of one channel's modulator after changes of registers. -/
theorem upSdm_spec {s t : State} (h : RegsOnly s t) (k : Fin 32) (f : Sdm → Sdm) :
    t.upSdm k f = { s with
        regs := (t.upSdm k f).regs,
        legacy := { s.legacy with sdm := s.legacy.sdm.set k.val (t.upSdm k f).legacy.sdm[k] } }
      ∧ (t.upSdm k f).legacy.sdm[k] = f s.legacy.sdm[k] := by
  obtain ⟨r, rfl⟩ := h
  have hk : (vmod s.legacy.sdm k f)[k] = f s.legacy.sdm[k] := vmod_get_self _ k f
  refine ⟨?_, hk⟩
  show State.upSdm _ k f = { s with
    regs := r, legacy := { s.legacy with sdm := s.legacy.sdm.set k.val (vmod s.legacy.sdm k f)[k] } }
  rw [hk]
  rfl

/-- A clamped value is held where its channel is synchronised, and acts at once elsewhere (R567). -/
def Sdm.written (sync : Bool) (a : BitVec 24) (x : Sdm) : Sdm :=
  if sync then { x with held := some a } else { x with act := a, wdx := false, held := none, age := 0 }

section
variable {s : State} {q : Requester} {k : Fin 32} (h : ownedBy s q (Adr.sdmCfg k) = true)
include h

/-- A new value acts at once, or is held for its group's update (R565, R567). -/
theorem sdmWrite_of_owned (v : BitVec 32) : sdmWrite s q k v =
    (s.sw32 (Adr.sdmVal k) v).upSdm k (.written (bitOf (s.rd (Adr.sdmCfg k)) 15) (sdmClamp (v.setWidth 24))) := by
  have hcfg : (s.sw32 (Adr.sdmVal k) v).rd (Adr.sdmCfg k) = s.rd (Adr.sdmCfg k) :=
    (sw32_sdmVal s k v).2 _ (by simp only [Adr.sdmVal, Adr.sdmCfg, List.mem_singleton]; omega)
  rw [sdmWrite, h, guarded, if_pos rfl]
  dsimp only
  rw [hcfg]
  cases bitOf (s.rd (Adr.sdmCfg k)) 15 <;> rfl

/-- EN from 0 to 1 clears the integrators (R566). -/
theorem writeSdmCfg_of_enabled {v : BitVec 32} (hoff : bitOf (s.rd (Adr.sdmCfg k)) 24 = false) (hon : v.getLsbD 24 = true) :
    writeSdmCfg s q k v = (s.sw32 (Adr.sdmCfg k) v).upSdm k fun x => { x with i1 := 0, i2 := 0 } := by
  have hallowed : cfgAllowed s q (Adr.sdmCfg k) = true := Bool.or_eq_true_iff.mpr (.inl h)
  rw [writeSdmCfg, hallowed, guarded, if_pos rfl]
  dsimp only
  rw [(sw32_sdmCfg s k v).2.2, hoff, hon]
  rfl

end

/-! ### The update of groups (R567) -/

/-- A write of SDM_UPD reaches channel k: the writer's own, synchronised and in a named group. -/
def sdmNamed (s : State) (q : Requester) (mask : BitVec 8) (k : Fin 32) : Bool :=
  mask.getLsbD (field (s.rd (Adr.sdmCfg k)) 18 16) && bitOf (s.rd (Adr.sdmCfg k)) 15 && ownedBy s q (Adr.sdmCfg k)

def sdmUpdOne (q : Requester) (mask : BitVec 8) (s : State) (k : Fin 32) : State :=
  if sdmNamed s q mask k then s.upSdm k sdmApply else s

/-- From s to s' only the modulators change. -/
def SdmsOnly (s s' : State) : Prop := ∃ x, s' = { s with legacy := { s.legacy with sdm := x } }

theorem SdmsOnly.trans {a b c : State} (h : SdmsOnly a b) (g : SdmsOnly b c) : SdmsOnly a c := by
  obtain ⟨_, rfl⟩ := h
  obtain ⟨_, rfl⟩ := g
  exact ⟨_, rfl⟩

theorem sdmUpdOne_spec (q : Requester) (mask : BitVec 8) (s : State) (k : Fin 32) :
    SdmsOnly s (sdmUpdOne q mask s k)
      ∧ (sdmUpdOne q mask s k).legacy.sdm[k] = (if sdmNamed s q mask k then sdmApply s.legacy.sdm[k] else s.legacy.sdm[k])
      ∧ ∀ m, m ≠ k → (sdmUpdOne q mask s k).legacy.sdm[m] = s.legacy.sdm[m] := by
  unfold sdmUpdOne
  split
  · exact ⟨⟨_, rfl⟩, vmod_get_self _ k _, fun m hm => vmod_get_ne _ k m _ hm⟩
  · exact ⟨⟨_, rfl⟩, rfl, fun _ _ => rfl⟩

theorem foldl_sdmUpdOne (q : Requester) (mask : BitVec 8) {l : List (Fin 32)} (hl : l.Nodup) (s : State) :
    SdmsOnly s (l.foldl (sdmUpdOne q mask) s)
      ∧ ∀ m, (l.foldl (sdmUpdOne q mask) s).legacy.sdm[m] =
        if m ∈ l ∧ sdmNamed s q mask m = true then sdmApply s.legacy.sdm[m] else s.legacy.sdm[m] := by
  induction l generalizing s with
  | nil => exact ⟨⟨_, rfl⟩, fun m => (if_neg fun h => List.not_mem_nil h.1).symm⟩
  | cons k l ih =>
    obtain ⟨hk, hl⟩ := List.nodup_cons.mp hl
    obtain ⟨hone, hself, hothers⟩ := sdmUpdOne_spec q mask s k
    obtain ⟨hrest, hsdm⟩ := ih hl (sdmUpdOne q mask s k)
    have hnamed (m : Fin 32) : sdmNamed (sdmUpdOne q mask s k) q mask m = sdmNamed s q mask m := by
      obtain ⟨x, hx⟩ := hone
      rw [hx]
      rfl
    refine ⟨hone.trans hrest, fun m => ?_⟩
    rw [List.foldl_cons, hsdm, hnamed]
    by_cases hm : m = k
    · subst hm
      rw [if_neg fun h => hk h.1, hself]
      simp
    · simp [hothers m hm, hm]

/-- The update of a named channel of the writer (R567). -/
theorem sdmUpdate_of_named {s : State} {q : Requester} {mask : BitVec 8} {k : Fin 32} (h : sdmNamed s q mask k = true) :
    (sdmUpdate s q mask).mem = s.mem ∧ (sdmUpdate s q mask).triads = s.triads
      ∧ (sdmUpdate s q mask).legacy.sdm[k] = sdmApply s.legacy.sdm[k] := by
  have hall : ∀ k : Fin 32, k ∈ allFin32 := by decide
  obtain ⟨hfold, hsdm⟩ := foldl_sdmUpdOne q mask (l := allFin32) (by decide) s
  have hpulses : RegsOnly (allFin32.foldl (sdmUpdOne q mask) s) (sdmUpdate s q mask) := .foldl RegsOnly.pulse _ _
  replace hsdm := (hsdm k).trans (if_pos ⟨hall k, h⟩)
  generalize allFin32.foldl (sdmUpdOne q mask) s = t at hfold hsdm hpulses
  obtain ⟨x, rfl⟩ := hfold
  obtain ⟨r, hr⟩ := hpulses
  rw [hr]
  exact ⟨rfl, rfl, hsdm⟩

/-! ### The watchdog (R568) -/

theorem execSdmWatchdog_of_due {s : State} {k : Fin 32} (h : modeOf s ≠ 5) (hon : field (s.rd (Adr.sdmCfg k)) 7 0 ≠ 0)
    (hdue : field (s.rd (Adr.sdmCfg k)) 7 0 * 2000 ≤ s.legacy.sdm[k].age) (hwdx : s.legacy.sdm[k].wdx = false) :
    exec (.sdmWatchdog k) s = .next (report (pulse (s.upSdm k fun x => { x with wdx := true }) 313) 168 0) := by
  have hlimit : sdmLimit s k ≠ 0 := by unfold sdmLimit; omega
  have hcond : (sdmLimit s k != 0 && !s.legacy.sdm[k].wdx && decide (sdmLimit s k ≤ s.legacy.sdm[k].age)) = true := by
    rw [hwdx, decide_eq_true (show sdmLimit s k ≤ _ from hdue)]
    simp [hlimit]
  exact congrArg Host.Outcome.next ((State.powered_of_awake s _ h).trans (if_pos hcond))

/-- A missed deadline marks the channel and reports F168; memory and the triads stay (R568). -/
theorem sdmWatchdog_completes {s : State} {k : Fin 32} (h : modeOf s ≠ 5) (hon : field (s.rd (Adr.sdmCfg k)) 7 0 ≠ 0)
    (hdue : field (s.rd (Adr.sdmCfg k)) 7 0 * 2000 ≤ s.legacy.sdm[k].age) (hwdx : s.legacy.sdm[k].wdx = false)
    (ha : live s.fcu.a = true) (hb : live s.fcu.b = true) :
    Completes (.sdmWatchdog k) s fun s' => s'.legacy.sdm[k] = { s.legacy.sdm[k] with wdx := true }
      ∧ s'.fcu.a.active.getLsbD 168 = true ∧ s'.fcu.b.active.getLsbD 168 = true ∧ s'.mem = s.mem ∧ s'.triads = s.triads := by
  have hexec := execSdmWatchdog_of_due h hon hdue hwdx
  have hmark : (s.upSdm k fun x => { x with wdx := true }).legacy.sdm[k] = { s.legacy.sdm[k] with wdx := true } :=
    vmod_get_self _ k _
  generalize hu : (s.upSdm k fun x => { x with wdx := true }) = u at hexec hmark
  have hmode : modeOf u ≠ 5 := hu ▸ h
  have hregs := RegsOnly.pulse u 313
  have hfcu : (pulse u 313).fcu = s.fcu := by
    obtain ⟨r, hr⟩ := hregs
    rw [hr, ← hu]
    rfl
  obtain ⟨hfa, hfb⟩ := report_active (pulse u 313) 0 (f := 168) (by decide) (by decide) (hfcu ▸ ha) (hfcu ▸ hb)
  obtain ⟨-, hmem, _, _, _, _, hlegacy⟩ := ((AwakeKeeps.pulse u 313).trans (.report _ 168 0)) hmode
  have htriads := (ReportKeeps.report (pulse u 313) 168 0).triads.trans hregs.triads
  exact ⟨_, hexec, by rw [hlegacy]; exact hmark, hfa, hfb, hmem.trans (hu ▸ rfl), htriads.trans (hu ▸ rfl)⟩

/-! ### GPIO (R569, R570) -/

/-- The owner's write of OUT, SET or CLR (R569). -/
theorem gpioWrite_of_owned {s : State} {q : Requester} {g : Fin 8} (h : ownedBy s q (Adr.gpioCfg g) = true) (f : Word → Word) :
    gpioWrite s q g f = s.wr (Adr.gpioOut g) (f (s.rd (Adr.gpioOut g)) &&& 0xFFFF) := if_pos h

/-- The entry of a stamp: bit 63, LOST, the edge's direction, the pin and the time (R570). -/
def gpioEntry (s : State) (p : Fin 128) (rise : Bool) (lost : Bool) : Word :=
  BitVec.ofNat 64 (2 ^ 63 + lost.toNat * 2 ^ 62 + rise.toNat * 2 ^ 61 + p.val % 16 * 2 ^ 56 + (now s).toNat % 2 ^ 56)

/-- A group's stamps with one more, which tells of those lost before it. -/
def Gpio.stamped (x : Gpio) (w : Word) : Gpio := { fifo := x.fifo ++ [w], lost := false }

/-- A selected edge with room in the FIFO is stamped (R570). -/
theorem gpioStamp_of_selected {s : State} {g : Fin 8} {p : Fin 128} {rise : Bool} (hg : p.val / 16 = g.val)
    (hlevel : s.legacy.gpioIn.getLsbD p.val = rise)
    (hsel : bitOf (s.rd (Adr.gpioEdge g)) (if rise then p.val % 16 else 16 + p.val % 16) = true)
    (hroom : s.legacy.gpio[g].fifo.length < 16) :
    gpioStamp s p rise =
      pulse (s.upGpio g fun x => x.stamped (gpioEntry s p rise s.legacy.gpio[g].lost)) (296 + g.val) := by
  have hgroup : g = ⟨p.val / 16, Nat.div_lt_of_lt_mul p.isLt⟩ := Fin.ext hg.symm
  subst hgroup
  have hnow : field (now s) 55 0 = (now s).toNat % 2 ^ 56 := by simp [field]
  have hcond : (bitOf (s.rd (Adr.gpioEdge (p.val / 16))) (if rise then p.val % 16 else 16 + p.val % 16)
      && s.legacy.gpioIn.getLsbD p.val == rise) = true := by
    rw [hsel, hlevel, beq_self_eq_true, Bool.and_true]
  unfold gpioStamp gpioEntry
  extract_lets g i sel x w
  rw [← hnow]
  exact (if_pos hcond).trans (if_pos hroom)

theorem gpioEdge_completes {s : State} (h : modeOf s ≠ 5) {g : Fin 8} {p : Fin 128} {rise : Bool} (hg : p.val / 16 = g.val)
    (hlevel : s.legacy.gpioIn.getLsbD p.val = rise)
    (hsel : bitOf (s.rd (Adr.gpioEdge g)) (if rise then p.val % 16 else 16 + p.val % 16) = true)
    (hroom : s.legacy.gpio[g].fifo.length < 16) :
    Completes (.gpioEdge p rise) s fun s' => Pulsed s s' (296 + g.val) ∧ SameRegs s s' (eventRegs (296 + g.val))
      ∧ s'.mem = s.mem ∧ s'.triads = s.triads ∧ s'.legacy.gpio[g].lost = false
      ∧ s'.legacy.gpio[g].fifo = s.legacy.gpio[g].fifo ++ [gpioEntry s p rise s.legacy.gpio[g].lost] := by
  have hexec : exec (.gpioEdge p rise) s = .next (gpioStamp s p rise) :=
    congrArg Host.Outcome.next (State.powered_of_awake s _ h)
  rw [gpioStamp_of_selected hg hlevel hsel hroom] at hexec
  have hput := vmod_get_self s.legacy.gpio g fun x => x.stamped (gpioEntry s p rise s.legacy.gpio[g].lost)
  obtain ⟨hpulsed, hsame, hregs⟩ :=
    pulse_spec (s.upGpio g fun x => x.stamped (gpioEntry s p rise s.legacy.gpio[g].lost)) (296 + g.val)
  refine ⟨_, hexec, ⟨hpulsed.pend, hpulsed.ovr⟩, hsame, ?_⟩
  rw [hregs]
  exact ⟨rfl, rfl, congrArg Gpio.lost hput, congrArg Gpio.fifo hput⟩

/-! ### The safe state (R572) -/

/-- A clear of SAFE bits takes the writer's own bit alone. -/
theorem getLsbD_clearOwn (v : BitVec 6) (w : TriadId) (i : Nat) :
    (v &&& ~~~ BitVec.ofNat 6 (2 ^ w.val)).getLsbD i = (v.getLsbD i && decide (i ≠ w.val)) := by
  refine (getLsbD_withBit v w.isLt false i).trans ?_
  by_cases h : i = w.val <;> simp [h]

theorem safeClear_of_allowed {s : State} {w : TriadId} {mask : BitVec 6} (hmask : mask.getLsbD w.val = true)
    (hmode : modeOf s ≠ 4) (hfence : (s.tri w).fenced = false) :
    (mask.getLsbD w.val && modeOf s != 4 && !(s.tri w).fenced) = true := by
  simp [hmask, hmode, hfence]

theorem outputsAndEdges : Clause.OutputsAndEdges := by
  intro s q k g v z clamped old sdmOnly
  have hclamp : sdmClamp (v.setWidth 24) = clamped := sdmClamp_eq _
  refine ⟨fun howned => ⟨?_, fun mask hsync hgroup => ?_, fun hoff _ hon => ?_⟩, ?_, fun howned => ?_, ?_, ?_⟩
  case refine_1 =>
    obtain ⟨hregs, hsame⟩ := sw32_sdmVal s k v
    have hwrite := sdmWrite_of_owned howned v
    rw [hclamp] at hwrite
    obtain ⟨honly, hsdm⟩ := upSdm_spec hregs k (.written (bitOf (s.rd (Adr.sdmCfg k)) 15) clamped)
    exact ⟨_, congrArg Host.Outcome.next hwrite, honly, hsame, hsdm⟩
  case refine_2 =>
    have hnamed : sdmNamed s q mask k = true := by rw [sdmNamed, hgroup, hsync, howned]; rfl
    obtain ⟨hmem, htriads, hsdm⟩ := sdmUpdate_of_named hnamed
    exact ⟨_, rfl, hmem, htriads, hsdm⟩
  case refine_3 =>
    obtain ⟨hregs, hsame, hen⟩ := sw32_sdmCfg s k v
    obtain ⟨honly, hsdm⟩ := upSdm_spec hregs k fun x => { x with i1 := 0, i2 := 0 }
    exact ⟨_, congrArg Host.Outcome.next (writeSdmCfg_of_enabled howned hoff hon), honly, hsame, hen.trans hon, hsdm⟩
  case refine_4 => exact fun hlimit hdue hwdx h ha hb => sdmWatchdog_completes h hlimit hdue hwdx ha hb
  case refine_5 =>
    exact ⟨congrArg Host.Outcome.next (gpioWrite_of_owned howned _), congrArg Host.Outcome.next (gpioWrite_of_owned howned _),
      congrArg Host.Outcome.next (gpioWrite_of_owned howned _)⟩
  case refine_6 => exact fun h p rise hg hlevel hsel hroom => gpioEdge_completes h hg hlevel hsel hroom
  case refine_7 =>
    intro w mask hmask hmode hfence
    have hallowed := safeClear_of_allowed hmask hmode hfence
    exact ⟨⟨_, congrArg Host.Outcome.next (if_pos hallowed), getLsbD_clearOwn _ w, rfl⟩,
      ⟨_, congrArg Host.Outcome.next (if_pos hallowed), getLsbD_clearOwn _ w, rfl⟩⟩

/-- Settles O37: a pin's sample runs through the agreement stages, the rails' runs and the vote, none of which touches a lane
or memory; an island pin's sample is one filter and one count; each output unit's write is one change of that unit. -/
theorem pinsInAndOut : Obligations.PinsInAndOut := ⟨pinsAgree, islandPins, outputsAndEdges⟩

end Sys2Proof.Machine
end

section
/-! Windows that expire, the states that lanes take, and the background test (R257, R269, R271, R277, R279, R619). -/

namespace Sys2Proof.Machine

/-! ### One triad, one lane -/

/-- From s to s' triad t becomes x; memory and the other triads are as they were. -/
structure TriadBecomes (s s' : State) (t : TriadId) (x : Triad) : Prop where
  mem : s'.mem = s.mem
  others : ∀ u, u ≠ t → s'.tri u = s.tri u
  tri : s'.tri t = x

namespace TriadBecomes

variable {s a b : State} {t : TriadId} {x : Triad}

theorem refl (s : State) (t : TriadId) : TriadBecomes s s t (s.tri t) := ⟨rfl, fun _ _ => rfl, rfl⟩

/-- What follows may change anything but the triads and memory. -/
theorem of_kept (h : TriadBecomes s a t x) (htriads : b.triads = a.triads) (hmem : b.mem = a.mem) : TriadBecomes s b t x :=
  have htri (u : TriadId) : b.tri u = a.tri u := congrArg (fun v : Vector Triad 6 => v[u]) htriads
  ⟨hmem.trans h.mem, fun u hu => (htri u).trans (h.others u hu), (htri t).trans h.tri⟩

theorem regsOnly (h : TriadBecomes s a t x) (hregs : RegsOnly a b) : TriadBecomes s b t x := h.of_kept hregs.triads hregs.mem

theorem setTriad (h : TriadBecomes s a t x) (f : Triad → Triad) : TriadBecomes s (a.setTriad t f) t (f x) where
  mem := h.mem
  others u hu := (State.tri_setTriad_ne _ _ _ _ hu).trans (h.others u hu)
  tri := by rw [State.tri_setTriad, h.tri]

theorem trans {y : Triad} (h : TriadBecomes s a t x) (g : TriadBecomes a b t y) : TriadBecomes s b t y :=
  ⟨g.mem.trans h.mem, fun u hu => (g.others u hu).trans (h.others u hu), g.tri⟩

end TriadBecomes

@[simp] theorem Triad.lane_setLane (x : Triad) (l : LaneId) (f : Lane → Lane) : (x.setLane l f).lane l = f (x.lane l) :=
  vmod_get_self x.lanes l f

theorem Triad.lane_setLane_ne (x : Triad) {k l : LaneId} (h : k ≠ l) (f : Lane → Lane) : (x.setLane l f).lane k = x.lane k :=
  vmod_get_ne x.lanes l k f h

theorem Triad.setLane_id (x : Triad) (l : LaneId) : (x.setLane l fun _ => x.lane l) = x := by
  rw [Triad.setLane, vmod_id x.lanes l _ rfl]

theorem Triad.setLane_setLane (x : Triad) (l : LaneId) (f g : Lane → Lane) :
    (x.setLane l f).setLane l g = x.setLane l fun y => g (f y) := by
  simp [Triad.setLane, vmod]

/-- One lane that changes leaves the others of its triad. -/
theorem TriadBecomes.lanes {s s' : State} {t : TriadId} {l : LaneId} {f : Lane → Lane}
    (h : TriadBecomes s s' t ((s.tri t).setLane l f)) : (∀ k, k ≠ l → (s'.tri t).lane k = (s.tri t).lane k)
      ∧ (s'.tri t).lane l = f ((s.tri t).lane l) := by
  rw [h.tri]
  exact ⟨fun k hk => Triad.lane_setLane_ne _ hk f, Triad.lane_setLane _ l f⟩

/-! ### The state of a lane -/

/-- A lane as it is in the state that it has taken; `ticks` is the time (R271). -/
def Lane.into (y : Lane) (st : LaneState) (ticks : Nat) : Lane :=
  { y with state := st, bistRun := false, bistWait := if st == .spareTest || st == .suspect then some ticks else none
           suspectDue := false }

theorem setLane_of_other {s : State} {t : TriadId} {l : LaneId} {st : LaneState} (h : ((s.tri t).lane l).state ≠ st) :
    setLane s t l st = genUp (s.upLane t l fun y => y.into st s.sys.upTicks) 6 := if_neg h

theorem setLane_of_same {s : State} {t : TriadId} {l : LaneId} {st : LaneState} (h : ((s.tri t).lane l).state = st) :
    setLane s t l st = s := if_pos h

theorem setLane_becomes {s : State} {t : TriadId} {l : LaneId} {st : LaneState} (h : ((s.tri t).lane l).state ≠ st) :
    TriadBecomes s (setLane s t l st) t ((s.tri t).setLane l fun y => y.into st s.sys.upTicks) := by
  rw [setLane_of_other h]
  exact ((TriadBecomes.refl s t).setTriad fun x => x.setLane l fun y => y.into st s.sys.upTicks).of_kept rfl rfl

/-- Taking a state, the present one too, leaves the lane's registers and column (R251). -/
theorem setLane_spec (s : State) (t : TriadId) (l : LaneId) (st : LaneState) : ∃ y,
    TriadBecomes s (setLane s t l st) t ((s.tri t).setLane l fun _ => y) ∧ y.state = st
      ∧ y.core = ((s.tri t).lane l).core ∧ y.gate = ((s.tri t).lane l).gate := by
  by_cases h : ((s.tri t).lane l).state = st
  · refine ⟨(s.tri t).lane l, ?_, h, rfl, rfl⟩
    rw [setLane_of_same h, Triad.setLane_id]
    exact .refl s t
  · exact ⟨((s.tri t).lane l).into st s.sys.upTicks, setLane_becomes h, rfl, rfl, rfl⟩

theorem setLane_keeps (s : State) (t : TriadId) (l : LaneId) (st : LaneState) :
    (setLane s t l st).regs = s.regs ∧ (setLane s t l st).sys = s.sys := by
  by_cases h : ((s.tri t).lane l).state = st
  · rw [setLane_of_same h]
    exact ⟨rfl, rfl⟩
  · rw [setLane_of_other h]
    exact ⟨rfl, rfl⟩

/-! ### Windows -/

theorem domainWindowExpiry_completes (s : State) (u : FcuId) (d : Fin 7) : Completes (.domainWindowExpiry u d) s fun s' =>
    (fcuOf s' u).domCount[d] = (fcuOf s u).domCount[d] - 1
      ∧ (∀ e : Fin 7, e ≠ d → (fcuOf s' u).domCount[e] = (fcuOf s u).domCount[e])
      ∧ fcuOf s' u = { fcuOf s u with domCount := (fcuOf s' u).domCount }
      ∧ (∀ v, v ≠ u → fcuOf s' v = fcuOf s v) ∧ s' = { s with fcu := s'.fcu } ∧ s'.regs = s.regs := by
  cases u
  all_goals
    refine ⟨_, rfl, vmod_get_self _ d _, fun e he => vmod_get_ne _ d e _ he, rfl, fun v hv => ?_, rfl, rfl⟩
    cases v
  case a.a | b.b => exact absurd rfl hv
  case a.b | b.a => rfl

theorem windowsExpire : Clause.WindowsExpire := fun s t _ u d =>
  ⟨congrArg Host.Outcome.next (State.setTriad_congr s t rfl), congrArg Host.Outcome.next (State.setTriad_congr s t rfl), rfl,
    domainWindowExpiry_completes s u d⟩

/-! ### The order of service -/

theorem bistPlace_eq_some {s : State} {t : TriadId} {l : LaneId} {p : Nat × Nat × Nat} (h : bistPlace s t l = some p) :
    ∃ since, ((s.tri t).lane l).bistWait = some since
      ∧ p = (if ((s.tri t).lane l).state = .suspect then 0 else 1, since, t.val * 4 + l.val) := by
  unfold bistPlace at h
  split at h
  · exact absurd h nofun
  · obtain ⟨since, hwait, hp⟩ := Option.map_eq_some_iff.mp h
    exact ⟨since, hwait, hp.symm⟩

theorem placeLe_refl (p : Nat × Nat × Nat) : placeLe p p = true := by simp [placeLe]

/-- A lane that waits before every other waiting lane, as R271 orders them, is first in the order of service. -/
theorem bistFirst_of_before {s : State} {t : TriadId} {l : LaneId} {since : Nat}
    (hwait : ((s.tri t).lane l).bistWait = some since)
    (h : ∀ u k, ((s.tri u).lane k).bistWait.isSome = true → (u = t ∧ k = l)
      ∨ (((s.tri t).lane l).state = .suspect ∧ ((s.tri u).lane k).state ≠ .suspect)
      ∨ ((((s.tri t).lane l).state = .suspect ↔ ((s.tri u).lane k).state = .suspect) ∧
        ∀ a b, ((s.tri t).lane l).bistWait = some a → ((s.tri u).lane k).bistWait = some b → a < b ∨ (a = b ∧ t < u))) :
    bistFirst s (if ((s.tri t).lane l).state = .suspect then 0 else 1, since, t.val * 4 + l.val) = true := by
  refine List.all_eq_true.mpr fun u _ => List.all_eq_true.mpr fun k _ => ?_
  split
  case h_2 => rfl
  case h_1 q hq =>
    obtain ⟨b, hb, rfl⟩ := bistPlace_eq_some hq
    obtain ⟨rfl, rfl⟩ | ⟨hmine, hother⟩ | ⟨hsame, horder⟩ := h u k (by rw [hb]; rfl)
    · rw [hwait] at hb
      cases hb
      exact placeLe_refl _
    · simp [placeLe, hmine, hother]
    · have hlt := horder since b hwait hb
      have hl := l.isLt
      have hplace : since < b ∨ since = b ∧ t.val * 4 + l.val ≤ u.val * 4 + k.val := by
        refine hlt.imp_right fun ⟨heq, htu⟩ => ⟨heq, ?_⟩
        have := Fin.lt_def.mp htu
        omega
      simpa [placeLe, hsame] using hplace

/-! ### The test of a lane -/

theorem bistStart_of_first {s : State} {t : TriadId} {l : LaneId} {since : Nat}
    (hwait : ((s.tri t).lane l).bistWait = some since) (hfenced : (s.tri t).fenced = false) (hfree : bistCount s < 2)
    (hfirst : bistFirst s (if ((s.tri t).lane l).state = .suspect then 0 else 1, since, t.val * 4 + l.val) = true) :
    bistStart s t l = s.upLane t l fun y => { y with bistWait := none, bistRun := true } := by
  have hplace : bistPlace s t l = some (if ((s.tri t).lane l).state = .suspect then 0 else 1, since, t.val * 4 + l.val) := by
    simp [bistPlace, hfenced, hwait]
  rw [bistStart, hplace]
  exact if_pos ⟨hfree, hfirst⟩

/-- A lane under test that passes becomes SPARE_READY (R269). -/
theorem bistDone_pass {s : State} {t : TriadId} {l : LaneId} (hrun : ((s.tri t).lane l).bistRun = true)
    (hstate : ((s.tri t).lane l).state ≠ .spareReady) : (bistDone s t l true).regs = s.regs
      ∧ TriadBecomes s (bistDone s t l true) t ((s.tri t).setLane l fun y => { y with
          state := .spareReady, bistRun := false, bistWait := none, suspectDue := false
          chg := if y.state = .suspect then 0 else y.chg }) := by
  have hdone : bistDone s t l true = setLane (s.upLane t l fun y => { y with
      chg := if y.state = .suspect then 0 else y.chg }) t l .spareReady := by
    simp only [bistDone, hrun, Bool.not_true, Bool.false_eq_true, if_false]
    exact congrArg (setLane · t l .spareReady) (State.setTriad_congr s t rfl)
  have hcharge := (TriadBecomes.refl s t).setTriad fun x => x.setLane l fun y => { y with
    chg := if y.state = .suspect then 0 else y.chg }
  have hready := setLane_becomes (st := .spareReady) (show ((State.tri (s.upLane t l _) t).lane l).state ≠ .spareReady by
    rw [State.upLane, hcharge.tri, Triad.lane_setLane]
    exact hstate)
  rw [State.upLane, hcharge.tri, Triad.setLane_setLane] at hready
  rw [hdone]
  exact ⟨(setLane_keeps _ t l _).1, hcharge.trans hready⟩

/-- A lane under test that fails is RETIRED, which is reported (R269, R279). -/
theorem bistDone_fail {s : State} {t : TriadId} {l : LaneId} (hrun : ((s.tri t).lane l).bistRun = true)
    (hstate : ((s.tri t).lane l).state ≠ .retired) (hawake : modeOf s ≠ 5) :
    TriadBecomes s (bistDone s t l false) t ((s.tri t).setLane l fun y => { y with
      state := .retired, bistRun := false, bistWait := none, suspectDue := false }) := by
  have hdone : bistDone s t l false = report (setLane s t l .retired) (16 * t.val + 4) l.val := by
    simp [bistDone, hrun, retire, reportTriad]
  have hmode : modeOf (setLane s t l .retired) ≠ 5 := by
    rw [modeOf, State.rd, (setLane_keeps s t l _).1]
    exact hawake
  rw [hdone]
  exact (setLane_becomes hstate).of_kept (ReportKeeps.report _ _ _).triads (AwakeKeeps.report _ _ _ hmode).2.1

theorem laneTests : Clause.LaneTests := by
  intro s t l y before others
  refine ⟨fun hwait hfenced hfree hawake hfirst => ?_, fun hrun hstate hawake => ⟨?_, ?_⟩⟩
  · obtain ⟨since, hsince⟩ := Option.isSome_iff_exists.mp hwait
    have hstart := bistStart_of_first hsince hfenced hfree (bistFirst_of_before hsince hfirst)
    have h := (TriadBecomes.refl s t).setTriad fun x => x.setLane l fun y => { y with bistWait := none, bistRun := true }
    exact ⟨_, congrArg Host.Outcome.next ((State.powered_of_awake s _ hawake).trans hstart),
      ⟨h.mem, h.others, h.lanes.1⟩, rfl, h.lanes.2⟩
  · have hother : y.state ≠ .spareReady := by rcases hstate with h | h <;> rw [h] <;> decide
    obtain ⟨hregs, h⟩ := bistDone_pass hrun hother
    exact ⟨_, congrArg Host.Outcome.next (State.powered_of_awake s _ hawake), ⟨h.mem, h.others, h.lanes.1⟩, hregs, h.lanes.2⟩
  · have hother : y.state ≠ .retired := by rcases hstate with h | h <;> rw [h] <;> decide
    have h := bistDone_fail hrun hother hawake
    exact ⟨_, congrArg Host.Outcome.next (State.powered_of_awake s _ hawake), ⟨h.mem, h.others, h.lanes.1⟩, h.lanes.2⟩

/-- Settles O21: a window's end is one change of its own count; R271's order makes the waiting lane's place the first, and
the end of a test is one change of the lane's state. -/
theorem lanesAreTested : Obligations.LanesAreTested := ⟨windowsExpire, laneTests⟩

end Sys2Proof.Machine
end

section
/-! Repair, swap-in and rotation: the copy of a lane, and what the boundary brings with it (R254, R266, R270, R272). -/

namespace Sys2Proof.Machine

/-! ### Counters in a register -/

/-- A field reads as what was put into it, cut to its width (R8). -/
theorem field_setField_self (w : Word) {hi lo : Nat} (v : Nat) (h : hi < 64) :
    field (setField w hi lo v) hi lo = v % 2 ^ (hi + 1 - lo) := by
  apply Nat.eq_of_testBit_eq
  intro i
  rw [testBit_field, Nat.testBit_mod_two_pow, bitOf_setField]
  by_cases hi' : i < hi + 1 - lo
  · rw [if_pos (by omega), decide_eq_true (show lo + i < 64 by omega), Nat.add_sub_cancel_left, Bool.true_and]
  · simp [hi']

theorem satSucc_le (v m : Nat) : satSucc v m ≤ m := by
  unfold satSucc
  split <;> omega

/-- A count that saturates (R254). -/
theorem field_satField_self (w : Word) {hi lo : Nat} (h : hi < 64) :
    field (satField w hi lo) hi lo = satSucc (field w hi lo) (2 ^ (hi + 1 - lo) - 1) := by
  have hpos : 0 < 2 ^ (hi + 1 - lo) := Nat.two_pow_pos _
  have hle := satSucc_le (field w hi lo) (2 ^ (hi + 1 - lo) - 1)
  rw [satField, field_setField_self w _ h, Nat.mod_eq_of_lt (by omega)]

theorem field_satField_of_gt (w : Word) {hi lo hi' lo' : Nat} (h : hi < lo') :
    field (satField w hi lo) hi' lo' = field w hi' lo' :=
  field_congr fun _ hlo _ => bitOf_satField_of_gt w (Nat.lt_of_lt_of_le h hlo)

/-! ### The copy of a lane -/

/-- From x to y lane l has taken the registers and the column of lane src, with the checkpoint, and is in state st; lane src
goes on (R266, R272). -/
structure Triad.Joins (x y : Triad) (l src : LaneId) (st : LaneState) : Prop where
  sourceCore : (y.lane src).core = (x.lane src).core
  sourceGate : (y.lane src).gate = (x.lane src).gate
  core : (y.lane l).core = (x.lane src).core
  gate : (y.lane l).gate = (x.lane src).gate
  state : (y.lane l).state = st
  ckpt : y.ckpt.cores[l] = x.ckpt.cores[src]

theorem Triad.sourceFor_ne {x : Triad} {l src : LaneId} (h : x.sourceFor l = some src) : src ≠ l := by
  simpa using List.find?_some h

theorem Triad.copyLane_lane (x : Triad) (l src : LaneId) : (x.copyLane l src).lane l =
    { x.lane l with core := (x.lane src).core, sig := (x.lane src).sig, recs := (x.lane src).recs
                    bundleRecs := (x.lane src).bundleRecs, mts := (x.lane src).mts, gate := (x.lane src).gate
                    held := (x.lane src).held, bad := false, ras := [] } := vmod_get_self _ l _

theorem Triad.copyLane_lane_ne (x : Triad) {k l : LaneId} (src : LaneId) (h : k ≠ l) :
    (x.copyLane l src).lane k = x.lane k := vmod_get_ne _ l k _ h

/-- The lanes' states, and what is charged to them, are no part of the copy. -/
theorem Triad.copyLane_keeps (x : Triad) (l src k : LaneId) :
    ((x.copyLane l src).lane k).state = (x.lane k).state
      ∧ ((x.copyLane l src).lane k).suspectDue = (x.lane k).suspectDue := by
  by_cases h : k = l
  · subst h
    rw [x.copyLane_lane]
    exact ⟨rfl, rfl⟩
  · rw [x.copyLane_lane_ne src h]
    exact ⟨rfl, rfl⟩

theorem Triad.copyLane_joins (x : Triad) {l src : LaneId} (h : src ≠ l) : x.Joins (x.copyLane l src) l src (x.lane l).state where
  sourceCore := by rw [x.copyLane_lane_ne src h]
  sourceGate := by rw [x.copyLane_lane_ne src h]
  core := by rw [x.copyLane_lane]
  gate := by rw [x.copyLane_lane]
  state := (x.copyLane_keeps l src l).1
  ckpt := Vector.getElem_set_self _

theorem Triad.actives_congr {x y : Triad} (h : ∀ l, (y.lane l).state = (x.lane l).state) : y.actives = x.actives := by
  have hact (l : LaneId) : y.act l = x.act l := congrArg (· == .active) (h l)
  rw [Triad.actives, Triad.actives, funext hact]

/-! ### The boundary -/

theorem settleCharges_of_none {s : State} {t : TriadId} (htwo : 2 ≤ (s.tri t).actives.length)
    (hcharge : ∀ l, ((s.tri t).lane l).suspectDue = false) : settleCharges s t = s := by
  unfold settleCharges
  rw [List.foldl_fixed' fun l => by simp [hcharge l], refill_of_two htwo]

theorem settleSel_of_kept {s : State} {t : TriadId} (h : (s.tri t).selPair = true → (s.tri t).actives.length ≠ 3) :
    settleSel s t = s := by
  cases hsel : (s.tri t).selPair with
  | false => simp [settleSel, hsel]
  | true => simp [settleSel, hsel, h hsel]

/-- A boundary at which two lanes or more stay in use, none of them charged to its limit, takes a halt that has been asked
for and brings nothing else (R254, R257, R697). -/
theorem settle_of_calm {s : State} {t : TriadId} (hfenced : (s.tri t).fenced = false) (hslots : (s.tri t).slots = 0)
    (hclosed : (s.tri t).closed = none) (hrepair : (s.tri t).repair = none) (htwo : 2 ≤ (s.tri t).actives.length)
    (hcharge : ∀ l, ((s.tri t).lane l).suspectDue = false)
    (hsel : (s.tri t).selPair = true → (s.tri t).actives.length ≠ 3) : settle s t = takeHalt s t := by
  simp [settle, hfenced, hslots, hclosed, hrepair, settleCharges_of_none htwo hcharge, settleSel_of_kept hsel]

/-- A halt that has been asked for is taken (R697). -/
def Triad.halts (x : Triad) : Triad := { x with haltReq := false, halted := x.haltReq || x.halted }

theorem Triad.halts_of_not {x : Triad} (h : x.haltReq = false) : x.halts = x := by
  rw [Triad.halts, h, Bool.false_or]
  exact congrArg (fun b => { x with haltReq := b }) h.symm

theorem Triad.halts_of_asked {x : Triad} (h : x.haltReq = true) : x.halts = { x with haltReq := false, halted := true } := by
  rw [Triad.halts, h, Bool.true_or]

/-- A triad that is asked to halt shows it in SYS_LSTAT and goes into debug split, before the report (R282, R283). -/
def haltShown (s : State) (t : TriadId) : State :=
  ((s.up Adr.sysLstat fun w => putBit (putBit w 0 true) (8 + t.val) true).setBitR (Adr.cmpRctl t.val) 30).setTriad t
    fun x => { x with haltReq := false, halted := true }

theorem takeHalt_of_asked {s : State} {t : TriadId} (h : (s.tri t).haltReq = true) :
    takeHalt s t = report (haltShown s t) (16 * t.val + 12) 3 := by
  simp only [takeHalt, h, Bool.not_true, Bool.false_eq_true, if_false]
  rfl

theorem takeHalt_of_not {s : State} {t : TriadId} (h : (s.tri t).haltReq = false) : takeHalt s t = s := by
  simp [takeHalt, h]

theorem AwakeKeeps.haltShown (s : State) (t : TriadId) : AwakeKeeps s (haltShown s t) :=
  ((up s _ (by decide)).trans (up _ _ (by simp only [Adr.sysMode, Adr.cmpRctl]; omega))).trans (setTriad _ t _)

theorem AwakeKeeps.takeHalt (s : State) (t : TriadId) : AwakeKeeps s (takeHalt s t) := by
  cases h : (s.tri t).haltReq with
  | false =>
    rw [takeHalt_of_not h]
    exact .refl s
  | true =>
    rw [takeHalt_of_asked h]
    exact (haltShown s t).trans (report _ _ _)

theorem takeHalt_becomes (s : State) (t : TriadId) (hawake : modeOf s ≠ 5) :
    TriadBecomes s (takeHalt s t) t (s.tri t).halts := by
  cases h : (s.tri t).haltReq with
  | false =>
    rw [takeHalt_of_not h, Triad.halts_of_not h]
    exact .refl s t
  | true =>
    rw [takeHalt_of_asked h, Triad.halts_of_asked h]
    have hshown := ((TriadBecomes.refl s t).regsOnly ((RegsOnly.up s Adr.sysLstat
      fun w => putBit (putBit w 0 true) (8 + t.val) true).trans (.setBitR _ (Adr.cmpRctl t.val) 30))).setTriad
      fun x => { x with haltReq := false, halted := true }
    have hmode := (AwakeKeeps.haltShown s t hawake).1
    exact hshown.of_kept (ReportKeeps.report _ _ _).triads (AwakeKeeps.report _ _ _ hmode).2.1

/-! ### Repair (R266) -/

theorem atFresh_boundary {s : State} {t : TriadId} (h : atFresh s t = true) :
    (s.tri t).fenced = false ∧ (s.tri t).slots = 0 ∧ (s.tri t).closed = none := by
  simp only [atFresh, Triad.runs, Bool.and_eq_true, Bool.not_eq_true', decide_eq_true_eq, Option.isNone_iff_eq_none] at h
  obtain ⟨⟨⟨⟨⟨⟨-, hfenced⟩, -⟩, hslots⟩, hclosed⟩, -⟩, -⟩ := h
  exact ⟨hfenced, hslots, hclosed⟩

/-- The triad behind the copy of a repair. -/
def Triad.repaired (x : Triad) (l src : LaneId) : Triad :=
  { x.copyLane l src with repair := none, repairReady := false, excluded := none }

/-- The state behind the copy of a repair, which counts in CMP_RECCNT and as an event and is reported. -/
def repairDone (s : State) (t : TriadId) (l src : LaneId) : State :=
  report (countL (countRec (s.setTriad t fun x => x.repaired l src) t 31 16) t 0x2C 1) (16 * t.val + 1) l.val

theorem repairDone_becomes (s : State) (t : TriadId) (l src : LaneId) (hawake : modeOf s ≠ 5) :
    modeOf (repairDone s t l src) ≠ 5 ∧ TriadBecomes s (repairDone s t l src) t ((s.tri t).repaired l src) := by
  have hcounted : AwakeKeeps s (countL (countRec (s.setTriad t fun x => x.repaired l src) t 31 16) t 0x2C 1) :=
    ((AwakeKeeps.setTriad s t _).trans (.up _ _ (by simp only [Adr.sysMode, Adr.cmpReccnt]; omega))).trans (.countL _ _ _ _)
  have hreport := AwakeKeeps.report _ (16 * t.val + 1) l.val (hcounted hawake).1
  have hcopied := ((TriadBecomes.refl s t).setTriad fun x => x.repaired l src).regsOnly
    (b := countL (countRec (s.setTriad t fun x => x.repaired l src) t 31 16) t 0x2C 1) ((RegsOnly.up _ _ _).trans (.countL _ _ _ _))
  exact ⟨hreport.1, hcopied.of_kept (ReportKeeps.report _ _ _).triads hreport.2.1⟩

section
variable {s : State} {t : TriadId} {l src : LaneId} (hfresh : atFresh s t = true) (hsrc : (s.tri t).sourceFor l = some src)
include hfresh hsrc

theorem repair_of_ready (hready : (s.tri t).repairReady = true) (hrepair : (s.tri t).repair = some l) :
    repair s t = inIdOrder (s.setTriad t fun x => x.repaired l src) (settle (repairDone s t l src) t) := by
  have hrest (z : State) (hz : z = s.setTriad t fun x => x.repaired l src) :
      inIdOrder z (settle (reportTriad (countL (countRec z t 31 16) t 0x2C 1) t 1 l.val) t)
        = inIdOrder (s.setTriad t fun x => x.repaired l src) (settle (repairDone s t l src) t) := by
    rw [hz, repairDone, reportTriad]
  simp only [repair, hfresh, hready, hrepair, Bool.not_true, Bool.or_self, Bool.false_eq_true, if_false]
  exact hrest _ (State.setTriad_congr s t (by rw [hsrc]; rfl))

theorem repair_becomes (hawake : modeOf s ≠ 5) (hready : (s.tri t).repairReady = true) (hrepair : (s.tri t).repair = some l)
    (htwo : 2 ≤ (s.tri t).actives.length) (hsel : (s.tri t).selPair = true → (s.tri t).actives.length ≠ 3)
    (hcharge : ∀ k, ((s.tri t).lane k).suspectDue = false) :
    TriadBecomes s (repair s t) t ((s.tri t).repaired l src).halts := by
  obtain ⟨hmode, hdone⟩ := repairDone_becomes s t l src hawake
  obtain ⟨hfenced, hslots, hclosed⟩ := atFresh_boundary hfresh
  have hkeeps := (s.tri t).copyLane_keeps l src
  have hact : ((s.tri t).repaired l src).actives = (s.tri t).actives := Triad.actives_congr fun k => (hkeeps k).1
  have hsettle : settle (repairDone s t l src) t = takeHalt (repairDone s t l src) t := by
    apply settle_of_calm
    all_goals rw [hdone.tri]
    · exact hfenced
    · exact hslots
    · exact congrArg (Option.map _) hclosed
    · rfl
    · rw [hact]
      exact htwo
    · exact fun k => (hkeeps k).2.trans (hcharge k)
    · rw [hact]
      exact hsel
  have hhalt := takeHalt_becomes (repairDone s t l src) t hmode
  rw [hdone.tri] at hhalt
  rw [repair_of_ready hfresh hsrc hready hrepair, hsettle]
  exact (hdone.trans hhalt).of_kept (ReportKeeps.inIdOrder _ _).triads
    (AwakeKeeps.inIdOrder _ _ (AwakeKeeps.takeHalt _ t hmode).1).2.1

end

/-! ### Swap-in (R272) -/

/-- The triad behind a swap-in: lane l, as y in its new state, has taken the copy; where it leads, nothing fetched is left. -/
def Triad.swapped (x : Triad) (l src : LaneId) (y : Lane) : Triad :=
  let z := (x.setLane l fun _ => y).copyLane l src
  { z with fetched := if z.lead = l then none else z.fetched }

theorem Triad.swapped_joins (x : Triad) {l src : LaneId} (h : src ≠ l) (y : Lane) :
    x.Joins (x.swapped l src y) l src y.state := by
  obtain ⟨hsourceCore, hsourceGate, hcore, hgate, hstate, hckpt⟩ := (x.setLane l fun _ => y).copyLane_joins h
  rw [x.lane_setLane_ne h] at hsourceCore hsourceGate hcore hgate
  rw [Triad.lane_setLane] at hstate
  exact ⟨hsourceCore, hsourceGate, hcore, hgate, hstate, hckpt⟩

theorem Triad.swapped_lane_ne (x : Triad) {k l : LaneId} (src : LaneId) (y : Lane) (h : k ≠ l) :
    (x.swapped l src y).lane k = x.lane k :=
  (Triad.copyLane_lane_ne _ src h).trans (x.lane_setLane_ne h _)

/-- A swap-in makes the lane ACTIVE with the copy and counts in CMP_RECCNT (R254, R272). -/
theorem swapTo_spec {s : State} {t : TriadId} {l src : LaneId} (hsrc : (s.tri t).sourceFor l = some src) :
    (∃ y, y.state = .active ∧ TriadBecomes s (swapTo s t l) t ((s.tri t).swapped l src y))
      ∧ (swapTo s t l).sys = s.sys
      ∧ (swapTo s t l).rd (Adr.cmpReccnt t.val) = satField (s.rd (Adr.cmpReccnt t.val)) 47 32 := by
  obtain ⟨y, hset, hstate, -⟩ := setLane_spec s t l .active
  obtain ⟨hsetRegs, hsetSys⟩ := setLane_keeps s t l .active
  rw [swapTo, hsrc]
  dsimp -zeta only
  extract_lets s1 s2
  have hcopied : TriadBecomes s s2 t ((s.tri t).swapped l src y) := (hset.setTriad _).setTriad _
  have hcounts : RegsOnly s2 (countL (countRec s2 t 47 32) t 0x2D 1) := (RegsOnly.up _ _ _).trans (.countL _ _ _ _)
  refine ⟨⟨y, hstate, hcopied.regsOnly hcounts⟩, ?_, ?_⟩
  · obtain ⟨r, hr⟩ := hcounts
    rw [hr]
    exact hsetSys
  · rw [rd_countL _ _ _ _ (not_countReg_cmp (by simp only [Adr.cmpReccnt]; omega)), countRec, State.rd_up_self]
    rw [State.rd, show s2.regs = s.regs from hsetRegs, State.rd]

/-! ### Rotation (R270) -/

theorem lane_ne_next : ∀ l : LaneId, l ≠ l + 1 := by decide

/-- A lane that leaves keeps its registers and its column, so the lane that has joined keeps its copy. -/
theorem Triad.Joins.leave {x y : Triad} {l src k : LaneId} {st : LaneState} (h : x.Joins y l src st) {z : Lane}
    (hcore : z.core = (y.lane k).core) (hgate : z.gate = (y.lane k).gate) (hk : l ≠ k) :
    x.Joins (y.setLane k fun _ => z) l src st := by
  have hlane := y.lane_setLane_ne hk fun _ => z
  have hsrc : ((y.setLane k fun _ => z).lane src).core = (y.lane src).core
      ∧ ((y.setLane k fun _ => z).lane src).gate = (y.lane src).gate := by
    by_cases he : src = k
    · subst he
      rw [Triad.lane_setLane]
      exact ⟨hcore, hgate⟩
    · rw [y.lane_setLane_ne he]
      exact ⟨rfl, rfl⟩
  exact ⟨hsrc.1.trans h.sourceCore, hsrc.2.trans h.sourceGate, hlane ▸ h.core, hlane ▸ h.gate, hlane ▸ h.state, h.ckpt⟩

/-- A rotation is counted, and its time is kept. -/
def rotationMarked (s : State) (t : TriadId) : State :=
  let s := s.up (Adr.cmpReccnt t.val) fun w => wrapField w 63 48
  s.setTriad t fun x => { x with lastRotation := some s.sys.upTicks }

theorem rotationMarked_eq (s : State) (t : TriadId) : rotationMarked s t =
    (s.up (Adr.cmpReccnt t.val) fun w => wrapField w 63 48).setTriad t fun x =>
      { x with lastRotation := some s.sys.upTicks } := by
  rw [rotationMarked, State.up_sys]

theorem rotationMarked_becomes {s z : State} {t : TriadId} {x : Triad} (h : TriadBecomes s z t x) :
    TriadBecomes s (rotationMarked z t) t { x with lastRotation := some z.sys.upTicks } := by
  rw [rotationMarked_eq]
  exact (h.regsOnly (.up _ _ _)).setTriad _

theorem rotationMarked_rd (s : State) (t : TriadId) : (rotationMarked s t).rd (Adr.cmpReccnt t.val)
    = wrapField (s.rd (Adr.cmpReccnt t.val)) 63 48 := by
  rw [rotationMarked_eq, State.rd_setTriad, State.rd_up_self]

theorem rotation_of_due {s : State} {t : TriadId} {l : LaneId} (hfresh : atFresh s t = true)
    (hdue : rotationDue s t = some l) :
    rotation s t = rotationMarked (setLane (swapTo s t l) t (l + 1) .spareTest) t := by
  unfold rotation
  rw [hfresh, hdue]
  rfl

theorem rotation_spec {s : State} {t : TriadId} {l src : LaneId} (hfresh : atFresh s t = true)
    (hsrc : (s.tri t).sourceFor l = some src) (hdue : rotationDue s t = some l) :
    (∃ y z, y.state = .active ∧ z.state = .spareTest ∧ z.core = (((s.tri t).swapped l src y).lane (l + 1)).core
      ∧ z.gate = (((s.tri t).swapped l src y).lane (l + 1)).gate
      ∧ TriadBecomes s (rotation s t) t { ((s.tri t).swapped l src y).setLane (l + 1) fun _ => z with
          lastRotation := some s.sys.upTicks })
      ∧ (rotation s t).rd (Adr.cmpReccnt t.val) = wrapField (satField (s.rd (Adr.cmpReccnt t.val)) 47 32) 63 48 := by
  obtain ⟨⟨y, hactive, hswap⟩, hswapSys, hswapCount⟩ := swapTo_spec hsrc
  obtain ⟨z, hset, hleaves, hcore, hgate⟩ := setLane_spec (swapTo s t l) t (l + 1) .spareTest
  obtain ⟨hsetRegs, hsetSys⟩ := setLane_keeps (swapTo s t l) t (l + 1) .spareTest
  rw [hswap.tri] at hset hcore hgate
  have hmarked := rotationMarked_becomes (hswap.trans hset)
  rw [hsetSys, hswapSys] at hmarked
  rw [rotation_of_due hfresh hdue, rotationMarked_rd, State.rd, hsetRegs, ← State.rd, hswapCount]
  exact ⟨⟨y, z, hactive, hleaves, hcore, hgate, hmarked⟩, rfl⟩

/-- Settles O22: each of the three is the copy of the source lane between changes of other parts; a repair's boundary brings a
halt at most, a swap-in adds the lane's state, and a rotation the state of the lane that leaves. -/
theorem lanesJoin : Obligations.LanesJoin := by
  intro s t l src x hfresh hsrc joined
  have hne := Triad.sourceFor_ne hsrc
  refine ⟨fun hawake hready hrepair htwo hsel hcharge => ?_, fun hdue => ?_, fun hdue => ?_⟩
  case refine_1 =>
    obtain ⟨hmem, hothers, htri⟩ := repair_becomes hfresh hsrc hawake hready hrepair htwo hsel hcharge
    have hj := x.copyLane_joins hne
    refine ⟨_, rfl, ?_⟩
    simp only [joined, htri]
    exact ⟨⟨hmem, hothers, hj.sourceCore, hj.sourceGate, hj.core, hj.gate, hj.state, hj.ckpt⟩, rfl, rfl, rfl,
      fun k hk => x.copyLane_lane_ne src hk⟩
  case refine_2 =>
    obtain ⟨⟨y, hstate, hmem, hothers, htri⟩, -, hcount⟩ := swapTo_spec hsrc
    have hj := x.swapped_joins hne y
    have hswap : swapIn s t l = swapTo s t l := by simp [swapIn, hfresh, show (s.tri t).swapDue = some l from hdue]
    refine ⟨_, congrArg Host.Outcome.next hswap, ?_⟩
    simp only [joined, htri, hcount]
    exact ⟨⟨hmem, hothers, hj.sourceCore, hj.sourceGate, hj.core, hj.gate, hj.state.trans hstate, hj.ckpt⟩,
      fun k hk => x.swapped_lane_ne src y hk, field_satField_self _ (by decide)⟩
  case refine_3 =>
    obtain ⟨⟨y, z, hstate, hleaves, hcore, hgate, hmem, hothers, htri⟩, hcount⟩ := rotation_spec hfresh hsrc hdue
    have hj := (x.swapped_joins hne y).leave hcore hgate (lane_ne_next l)
    refine ⟨_, rfl, ?_⟩
    simp only [joined, htri, hcount]
    refine ⟨⟨hmem, hothers, hj.sourceCore, hj.sourceGate, hj.core, hj.gate, hj.state.trans hstate, hj.ckpt⟩, ?_, trivial, ?_⟩
    · exact (congrArg Lane.state (Triad.lane_setLane _ (l + 1) _)).trans hleaves
    · rw [wrapField, field_setField_self _ _ (by decide), field_satField_of_gt _ (by decide : 47 < 48)]
      rfl

end Sys2Proof.Machine
end

section
/-! Debug split stays set over a report to the FCUs from outside DORMANT (R283, R284, R617, R618). -/

namespace Sys2Proof.Machine

/-- Triad t stays in debug split where it is in it. -/
def SplitKeeps (t : TriadId) (s s' : State) : Prop := isSplit s t = true → isSplit s' t = true

namespace SplitKeeps

variable {t : TriadId}

theorem refl (s : State) : SplitKeeps t s s := id

theorem trans {a b c : State} (h : SplitKeeps t a b) (g : SplitKeeps t b c) : SplitKeeps t a c := g ∘ h

theorem ite {s a b : State} {c : Prop} [Decidable c] (ha : SplitKeeps t s a) (hb : SplitKeeps t s b) :
    SplitKeeps t s (if c then a else b) := by
  split
  · exact ha
  · exact hb

theorem foldl {α : Type} {f : State → α → State} (h : ∀ s x, SplitKeeps t s (f s x)) (l : List α) (s : State) :
    SplitKeeps t s (l.foldl f s) := by
  induction l generalizing s with
  | nil => exact .refl s
  | cons x l ih => exact (h s x).trans (ih (f s x))

/-! ### Registers -/

theorem of_rd {s s' : State} (h : s'.rd (Adr.cmpRctl t.val) = s.rd (Adr.cmpRctl t.val)) : SplitKeeps t s s' := fun hs => by
  rw [isSplit, h]
  exact hs

theorem of_regs {s s' : State} (h : s'.regs = s.regs) : SplitKeeps t s s' := of_rd (by rw [State.rd, h, State.rd])

theorem sys (s : State) (x : Sys) : SplitKeeps t s { s with sys := x } := of_regs rfl
theorem fcu (s : State) (x : Fcu) : SplitKeeps t s { s with fcu := x } := of_regs rfl
theorem hosts (s : State) (x : Hosts) : SplitKeeps t s { s with hosts := x } := of_regs rfl
theorem legacy (s : State) (x : Legacy) : SplitKeeps t s { s with legacy := x } := of_regs rfl
theorem sram (s : State) (x : Sram) : SplitKeeps t s { s with sram := x } := of_regs rfl

/-- The CMP blocks lie above all others but the island's (R41). -/
theorem wr (s : State) {a : Nat} (v : Word) (h : a < 0x80100000) : SplitKeeps t s (s.wr a v) :=
  of_rd (State.rd_wr_ne s a _ v (by simp only [Adr.cmpRctl]; omega))

theorem up (s : State) {a : Nat} (f : Word → Word) (h : a < 0x80100000) : SplitKeeps t s (s.up a f) := wr s _ h

/-- Setting a bit of any register clears none. -/
theorem setBitR (s : State) (a i : Nat) : SplitKeeps t s (s.setBitR a i) := fun hs => by
  by_cases ha : Adr.cmpRctl t.val = a
  · subst ha
    rw [isSplit, State.setBitR, State.rd_up_self, bitOf_putBit]
    split
    · rfl
    · exact hs
  · exact of_rd (State.rd_up_ne s a _ _ ha) hs

theorem countL (s : State) (u : TriadId) (code k : Nat) : SplitKeeps t s (countL s u code k) :=
  of_rd (rd_countL s u code k (not_countReg_cmp (by simp only [Adr.cmpRctl]; omega)))

/-! ### Events and modes -/

theorem pulse (s : State) (n : Nat) : SplitKeeps t s (pulse s n) :=
  .ite (.refl s) <| by
    unfold pend
    exact trans (.ite (setBitR s _ _) (.refl s)) (setBitR _ _ _)

theorem enterSafe (s : State) (mask : BitVec 6) : SplitKeeps t s (enterSafe s mask) :=
  (legacy s _).trans (pulse _ _)

theorem putMode (s : State) (m : Nat) : SplitKeeps t s (putMode s m) := by
  unfold Machine.putMode
  extract_lets old s1 s2 sys2 s3 sys3 s4
  have h1 : SplitKeeps t s s1 := up s _ (by decide)
  have h2 : SplitKeeps t s1 s2 := hosts s1 _
  have h3 : SplitKeeps t s2 s3 := .ite (sys s2 _) (.refl s2)
  have h4 : SplitKeeps t s3 s4 := .ite (sys s3 _) (.refl s3)
  exact .ite (.refl s) ((((h1.trans h2).trans h3).trans h4).trans (.ite (enterSafe s4 _) (.refl s4)))

theorem countDisarm (s : State) (was : Bool) : SplitKeeps t s (countDisarm s was) :=
  .ite ((up s _ (by decide)).trans (pulse _ _)) (.refl s)

theorem setMode (s : State) (m : Nat) : SplitKeeps t s (setMode s m) :=
  .ite (.refl s) (.ite (putMode s m) ((putMode s m).trans ((fcu _ _).trans (countDisarm _ _))))

theorem wakeWith (s : State) (toMode wakeCode : Nat) : SplitKeeps t s (wakeWith s toMode wakeCode) := by
  have hcause : SplitKeeps t s (s.up Adr.sysRstcause fun w => setField w 7 4 wakeCode) := up s _ (by decide)
  unfold Machine.wakeWith wakeRetain
  refine .ite (hcause.trans (hosts _ _)) (((hcause.trans (putMode _ toMode)).trans (sram _ _)).trans (foldl (fun z n => ?_) _ _))
  exact .ite (pulse z _) (.refl z)

theorem classAction (s : State) (c : Nat) : SplitKeeps t s (classAction s c) := by
  unfold Machine.classAction
  extract_lets m blank sys0 s1
  have hwake : SplitKeeps t s s1 := .ite (sys s _) (.refl s)
  refine hwake.trans (.ite (.ite (wakeWith s1 4 3) <| .ite (.refl s1) <| .ite ?degraded <| .ite ?selftest ?hold) (.refl s1))
  case degraded => exact .ite (setMode s1 3) (.refl s1)
  case selftest => exact sys s1 _
  case hold => exact .ite (setMode s1 4) (.refl s1)

/-! ### The report -/

theorem logEntry (s : State) (f info c : Nat) (esc one : Bool) : SplitKeeps t s (logEntry s f info c esc one) := by
  have hn : field (s.rd Adr.fcuLogptr) 5 0 < 64 := Nat.mod_lt _ (by decide)
  exact ((wr s _ (by simp only [Adr.fcuLogW0]; omega)).trans (wr _ _ (by simp only [Adr.fcuLogW1]; omega))).trans
    (wr _ _ (by decide))

theorem inIdOrder (old s : State) : SplitKeeps t s (inIdOrder old s) := by
  unfold Machine.inIdOrder
  refine .ite (.refl s) (trans (foldl (fun z e => ?_) _ s) (fcu _ _))
  exact (wr z _ (by simp only [Adr.fcuLogW0]; omega)).trans (wr _ _ (by simp only [Adr.fcuLogW1]; omega))

theorem reportOnce (s : State) (f info : Nat) (toA toB : Bool) : SplitKeeps t s (reportOnce s f info toA toB).1 := by
  unfold Machine.reportOnce
  extract_lets useA useB c0 ra rb was cls shown esc s1 s2 fcu2 s3 s4 s5 s6 s7 s8 s9 s10
  split
  · exact .refl s
  · have h1 : SplitKeeps t s s1 := logEntry s f info shown esc _
    have h4 : SplitKeeps t s1 s4 := ((fcu s1 _).trans (fcu s2 _)).trans (hosts s3 _)
    have h6 : SplitKeeps t s5 s6 := .ite (pulse s5 _) (.refl s5)
    have h7 : SplitKeeps t s6 s7 := .ite (pulse s6 _) (.refl s6)
    have h8 : SplitKeeps t s7 s8 := .ite (pulse s7 _) (.refl s7)
    exact (((((h1.trans h4).trans (pulse s4 _)).trans h6).trans h7).trans h8).trans
      ((countDisarm s8 was).trans (classAction s9 cls))

theorem reportVia (s : State) (f info : Nat) (toA toB : Bool) : SplitKeeps t s (reportVia s f info toA toB) := by
  have hdis := ((reportOnce (t := t) s f info toA toB).trans (reportOnce _ 170 0 true true)).trans
    ((pulse _ 774).trans (inIdOrder s _))
  exact .ite (.refl s) (.ite hdis (reportOnce s f info toA toB))

/-- Outside DORMANT a report is no more than its reactions (R679). -/
theorem report {s : State} (hawake : modeOf s ≠ 5) (f info : Nat) : SplitKeeps t s (report s f info) := by
  rw [Machine.report, reportWakes, if_neg fun hd => hawake hd.1]
  exact reportVia s f info true true

end SplitKeeps

end Sys2Proof.Machine
end

section
/-! The debugger's halt and its accesses to registers (R282 to R284, R696, R697). -/

namespace Sys2Proof.Machine

/-! ### Halt -/

section
variable {s : State} {t : TriadId} (hon : lcState s = 1) (hawake : modeOf s ≠ 5) (hruns : (s.tri t).runs = true)
include hon hawake hruns

theorem exec_haltRequest : exec (.haltRequest t) s = .next (settle (s.setTriad t fun x => { x with haltReq := true }) t) := by
  have hreq : haltRequest s t = settle (s.setTriad t fun x => { x with haltReq := true }) t := by
    simp [haltRequest, debugOn, hon, hruns]
  exact congrArg Host.Outcome.next ((State.powered_of_awake s _ hawake).trans hreq)

/-- Between boundaries, and before the compare of the clause in front, the request waits (R697). -/
theorem haltRequest_waits (h : (s.tri t).slots ≠ 0 ∨ (s.tri t).closed.isSome = true) :
    exec (.haltRequest t) s = .next (s.setTriad t fun x => { x with haltReq := true }) := by
  rw [exec_haltRequest hon hawake hruns, settle, if_pos (by rw [State.tri_setTriad]; exact .inr h)]

/-- At a committed boundary it is taken at once (R697). -/
theorem haltRequest_taken (hslots : (s.tri t).slots = 0) (hclosed : (s.tri t).closed = none)
    (htwo : 2 ≤ (s.tri t).actives.length) (hcharge : ∀ l, ((s.tri t).lane l).suspectDue = false)
    (hsel : (s.tri t).selPair = false) (hrepair : (s.tri t).repair = none) : exec (.haltRequest t) s =
      .next (report (haltShown (s.setTriad t fun x => { x with haltReq := true }) t) (16 * t.val + 12) 3) := by
  have hfenced : (s.tri t).fenced = false := by
    simp only [Triad.runs, Bool.and_eq_true, Bool.not_eq_true'] at hruns
    exact hruns.1.2
  rw [exec_haltRequest hon hawake hruns, settle_of_calm, takeHalt_of_asked]
  all_goals rw [State.tri_setTriad]
  · exact hfenced
  · exact hslots
  · exact hclosed
  · exact hrepair
  · exact htwo
  · exact hcharge
  · exact fun h => absurd (hsel.symm.trans h) Bool.false_ne_true

end

/-- The fault of a halt of triad t (R614). -/
theorem faultExists_halt : ∀ t : TriadId, faultExists (16 * t.val + 12) = true := by decide

/-- While a lockstep is broken FAULT_N is low and no PERMIT pin toggles (R282, R605, R625). -/
theorem outputs_of_broken {s : State} (h : broken s = true) : faultN s = false ∧ ∀ u, permitOk s u = false := by
  simp [faultN, permitOk, h]

/-- What a halted triad shows: LOCKSTEP_BROKEN with the triad's own bit, debug split and fault 12 (R282, R283). -/
theorem haltShown_reported (s : State) (t : TriadId) (hawake : modeOf s ≠ 5) (ha : live s.fcu.a = true)
    (hb : live s.fcu.b = true) : let s' := report (haltShown s t) (16 * t.val + 12) 3
      bitOf (s'.rd Adr.sysLstat) 0 = true ∧ bitOf (s'.rd Adr.sysLstat) (8 + t.val) = true ∧ isSplit s' t = true
        ∧ s'.fcu.a.active.getLsbD (16 * t.val + 12) = true := by
  intro s'
  have ht := t.isLt
  have hnoReaction : ¬ ReactionReg Adr.sysLstat := by unfold ReactionReg; decide
  have hlstat : s'.rd Adr.sysLstat = putBit (putBit (s.rd Adr.sysLstat) 0 true) (8 + t.val) true := by
    rw [(ReportKeeps.report _ _ _).regs _ hnoReaction, haltShown, State.rd_setTriad, State.setBitR,
      State.rd_up_ne _ _ _ _ (by simp only [Adr.sysLstat, Adr.cmpRctl]; omega), State.rd_up_self]
  have hsplit : isSplit (haltShown s t) t = true := by
    rw [isSplit, haltShown, State.rd_setTriad, State.setBitR, State.rd_up_self, bitOf_putBit, if_pos rfl]
    rfl
  have hfcu : (haltShown s t).fcu = s.fcu := by rw [haltShown, State.setTriad_fcu, State.setBitR_fcu, State.up_fcu]
  have hactive := report_active (haltShown s t) 3 (show 16 * t.val + 12 < 240 by omega) (faultExists_halt t)
    (by rw [hfcu]; exact ha) (by rw [hfcu]; exact hb)
  refine ⟨?_, ?_, SplitKeeps.report (AwakeKeeps.haltShown s t hawake).1 _ _ hsplit, hactive.1⟩
  · rw [hlstat, bitOf_putBit, if_neg (by omega), bitOf_putBit, if_pos rfl]
    rfl
  · rw [hlstat, bitOf_putBit, if_pos rfl, decide_eq_true (by omega), Bool.and_true]

theorem haltRequest_completes {s : State} {t : TriadId} (hon : lcState s = 1) (hawake : modeOf s ≠ 5)
    (hruns : (s.tri t).runs = true) (hslots : (s.tri t).slots = 0) (hclosed : (s.tri t).closed = none)
    (htwo : 2 ≤ (s.tri t).actives.length) (hcharge : ∀ l, ((s.tri t).lane l).suspectDue = false)
    (hsel : (s.tri t).selPair = false) (hrepair : (s.tri t).repair = none) (ha : live s.fcu.a = true)
    (hb : live s.fcu.b = true) : Completes (.haltRequest t) s fun s' => (s'.tri t).halted = true ∧ (s'.tri t).haltReq = false
      ∧ (∀ u, u ≠ t → s'.tri u = s.tri u) ∧ (s'.tri t).lanes = (s.tri t).lanes
      ∧ bitOf (s'.rd Adr.sysLstat) 0 = true ∧ bitOf (s'.rd Adr.sysLstat) (8 + t.val) = true ∧ isSplit s' t = true
      ∧ s'.fcu.a.active.getLsbD (16 * t.val + 12) = true ∧ faultN s' = false ∧ (∀ u, permitOk s' u = false) := by
  have hasked := (TriadBecomes.refl s t).setTriad fun x => { x with haltReq := true }
  have hhalt := takeHalt_becomes (s.setTriad t fun x => { x with haltReq := true }) t hawake
  rw [hasked.tri, takeHalt_of_asked (by rw [hasked.tri])] at hhalt
  obtain ⟨-, hothers, htri⟩ := hasked.trans hhalt
  obtain ⟨hbroken, hown, hsplit, hactive⟩ := haltShown_reported (s.setTriad t fun x => { x with haltReq := true }) t hawake ha hb
  obtain ⟨hfaultN, hpermit⟩ := outputs_of_broken hbroken
  refine ⟨_, haltRequest_taken hon hawake hruns hslots hclosed htwo hcharge hsel hrepair, ?_⟩
  simp only [htri]
  exact ⟨rfl, rfl, hothers, rfl, hbroken, hown, hsplit, hactive, hfaultN, hpermit⟩

/-! ### Registers by their numbers -/

/-- A register's number without a short name: g registers and PC (R149, R151). -/
theorem srCanon_of_low (cur b : Fin 4) {n i : Nat} (hi : i ≤ 0x20) (hn : n = 0x100 + 64 * b.val + i) : srCanon cur n = n := by
  rw [srCanon, srIdx_bankNumber b (by omega) hn]
  split_ifs
  · split
    case h_4 => rfl
    all_goals omega
  · rfl

/-- A debugger's write of a g register or the PC of any bank, the current one too (R149, R697; log 30). -/
theorem debugWrite_bankNumber (c : LaneCore) (b : Fin 4) {n i : Nat} (hi : i ≤ 0x20) (hn : n = 0x100 + 64 * b.val + i) (v : Word) :
    debugWrite c n v = c.setBank b fun k => if i < 0x20 then k.wg (BitVec.ofNat 5 i) v else { k with pc := v } := by
  have hlow : 0x100 ≤ n := by omega
  simp only [debugWrite, srCanon_of_low c.cur b hi hn, if_neg (show n ≠ 0 by omega), if_pos hlow, srBank_bankNumber b (by omega) hn,
    srIdx_bankNumber b (by omega) hn]
  congr 1
  funext k
  by_cases h : i < 0x20
  · rw [if_pos h, if_pos h]
  · rw [if_neg h, if_neg h, if_pos (show i = 0x20 by omega)]

/-- VBR, VBR_M and DFSP have short names alone (R135). -/
theorem debugWrite_short (c : LaneCore) {n : Nat} (h0 : n ≠ 0) (h : n < 0x100) (v : Word) : debugWrite c n v = mtsWrite c n v := by
  have hcanon : srCanon c.cur n = n := if_neg fun hc => absurd hc.1 (by omega)
  simp only [debugWrite, hcanon, if_neg h0, if_neg (show ¬ 0x100 ≤ n by omega)]

theorem srExists_bankNumber (b : Fin 4) {n i : Nat} (hi : 1 ≤ i) (hi' : i ≤ 0x20) (hn : n = 0x100 + 64 * b.val + i) :
    srExists n = true := by
  have hb := b.isLt
  have hrange : 0x100 ≤ n ∧ n ≤ 0x1FF := by omega
  have hidx : 1 ≤ n % 64 ∧ n % 64 ≤ 0x23 := by omega
  simp [srExists, hrange, hidx]

theorem toNat_bankNumber (b : Fin 4) {i : Nat} (hi : i < 64) :
    (BitVec.ofNat 12 (0x100 + 64 * b.val + i)).toNat = 0x100 + 64 * b.val + i := by
  have hb := b.isLt
  rw [BitVec.toNat_ofNat, Nat.mod_eq_of_lt (by omega)]

/-! ### Resume, and a register access -/

section
variable {s : State} {t : TriadId} (hawake : modeOf s ≠ 5) (hhalted : debugHalted s t = true)
include hawake hhalted

theorem exec_debugResume : exec (.debugResume t) s = .next (s.setTriad t fun x => { x with halted := false, haltReq := false }) :=
  congrArg Host.Outcome.next ((State.powered_of_awake s _ hawake).trans (if_pos hhalted))

theorem exec_singleStep : exec (.singleStep t) s = .next (s.setTriad t fun x => { x with halted := false, haltReq := true }) :=
  congrArg Host.Outcome.next ((State.powered_of_awake s _ hawake).trans (if_pos hhalted))

theorem exec_debugRegisterRead {num : BitVec 12} (hnum : srExists num.toNat = true) :
    exec (.debugRegisterAccess t num none) s = .next { s with busData := mfsValue (s.leadCore t) num.toNat } := by
  have hread : debugRegister s t num.toNat none = { s with busData := mfsValue (s.leadCore t) num.toNat } := by
    simp [debugRegister, hhalted, hnum, State.leadCore]
  exact congrArg Host.Outcome.next ((State.powered_of_awake s _ hawake).trans hread)

/-- A write reaches the registers of each lane in use, and what is fetched is fetched again (R697). -/
theorem debugRegisterWrite_completes {num : BitVec 12} (hnum : srExists num.toNat = true) {v : Word} {f : LaneCore → LaneCore}
    (hf : ∀ c, debugWrite c num.toNat v = f c) : Completes (.debugRegisterAccess t num (some v)) s fun s' =>
      (∀ l, (s.tri t).act l = true → (s'.tri t).lane l = { (s.tri t).lane l with core := f ((s.tri t).lane l).core })
      ∧ (∀ l, (s.tri t).act l = false → (s'.tri t).lane l = (s.tri t).lane l)
      ∧ s' = s.setTriad t fun y => { y with fetched := none, lanes := (s'.tri t).lanes } := by
  have hwrite : debugRegister s t num.toNat (some v) =
      s.setTriad t fun x => { x.eachActive (fun l => { l with core := f l.core }) with fetched := none } := by
    simp only [debugRegister, hhalted, hnum, Bool.not_true, Bool.or_self, Bool.false_eq_true, if_false, hf]
    rfl
  have hlane (l : LaneId) := (s.tri t).eachActive_lane (fun l => { l with core := f l.core }) l
  refine ⟨_, congrArg Host.Outcome.next ((State.powered_of_awake s _ hawake).trans hwrite), ?_⟩
  simp only [State.tri_setTriad]
  refine ⟨fun l hl => (hlane l).trans (if_pos hl), fun l hl => (hlane l).trans (if_neg (ne_true_of_eq_false hl)),
    State.setTriad_congr s t rfl⟩

end

end Sys2Proof.Machine
end

section
/-! The one-bundle clause of a debugger's access to memory, and the statement (R283, R697). -/

namespace Sys2Proof.Machine

/-! ### What a step of such a clause keeps -/

/-- From s to s' triad t becomes x; memory, the other triads, what the bus last read and debug split are as they were. -/
structure ClauseStep (s s' : State) (t : TriadId) (x : Triad) : Prop extends TriadBecomes s s' t x where
  busData : s'.busData = s.busData
  split : SplitKeeps t s s'

namespace ClauseStep

variable {s a b : State} {t : TriadId} {x y : Triad}

theorem refl (s : State) (t : TriadId) : ClauseStep s s t (s.tri t) := ⟨.refl s t, rfl, .refl s⟩

theorem regsOnly (h : ClauseStep s a t x) (hregs : RegsOnly a b) (hsplit : SplitKeeps t a b) : ClauseStep s b t x := by
  obtain ⟨r, rfl⟩ := hregs
  exact ⟨h.toTriadBecomes.regsOnly ⟨r, rfl⟩, h.busData, h.split.trans hsplit⟩

theorem setTriad (h : ClauseStep s a t x) (f : Triad → Triad) : ClauseStep s (a.setTriad t f) t (f x) :=
  ⟨h.toTriadBecomes.setTriad f, h.busData, h.split.trans (.of_regs rfl)⟩

theorem sys (h : ClauseStep s a t x) (q : Sys) : ClauseStep s { a with sys := q } t x :=
  ⟨h.toTriadBecomes.of_kept rfl rfl, h.busData, h.split.trans (.sys a q)⟩

theorem countL (h : ClauseStep s a t x) (code k : Nat) : ClauseStep s (countL a t code k) t x :=
  h.regsOnly (.countL a t code k) (.countL a t code k)

theorem trans (h : ClauseStep s a t x) (g : ClauseStep a b t y) : ClauseStep s b t y :=
  ⟨h.toTriadBecomes.trans g.toTriadBecomes, g.busData.trans h.busData, h.split.trans g.split⟩

end ClauseStep

/-! ### Trace (R682 to R685) -/

/-- A triad whose trace entries have changed. -/
def Triad.traced (x : Triad) (fifo : List (Rec × TriadId × LaneId)) (drop : Nat) (time : Word) : Triad :=
  { x with trace := fifo, traceDrop := drop, traceDropTime := time }

theorem Triad.traced_self (x : Triad) : x.traced x.trace x.traceDrop x.traceDropTime = x := rfl

theorem traceAdd_step (s : State) (t : TriadId) (l : LaneId) (r : Rec) : ∃ fifo drop time,
    ClauseStep s (traceAdd s t l r) t ((s.tri t).traced fifo drop time) := by
  have h := ClauseStep.refl s t
  unfold traceAdd
  extract_lets x need s1 s2 lost
  split
  · have hlost : ClauseStep s s1 t (s.tri t) := h.regsOnly (.up s _ _) (.up s _ (by
      have ht := t.isLt
      simp only [Adr.trcLost]
      omega))
    exact ⟨_, _, _, (hlost.setTriad _).countL _ _⟩
  · exact ⟨_, _, _, ((h.setTriad _).sys _).countL _ _⟩

/-- A commit's trace changes the triad's entries alone, whether trace is on or off. -/
theorem traceCommit_step (s : State) (t : TriadId) (l : LaneId) (recs : List Rec) : ∃ fifo drop time,
    ClauseStep s (traceCommit s t l recs) t ((s.tri t).traced fifo drop time) := by
  have hall (rs : List Rec) (z : State) : ∃ fifo drop time,
      ClauseStep z (rs.foldl (fun s r => traceAdd s t l r) z) t ((z.tri t).traced fifo drop time) := by
    induction rs generalizing z with
    | nil => exact ⟨_, _, _, .refl z t⟩
    | cons r rs ih =>
      obtain ⟨fifo, drop, time, hadd⟩ := traceAdd_step z t l r
      obtain ⟨fifo', drop', time', hrest⟩ := ih (traceAdd z t l r)
      rw [hadd.tri] at hrest
      exact ⟨fifo', drop', time', hadd.trans hrest⟩
  unfold traceCommit
  split
  · exact hall _ s
  · exact ⟨_, _, _, .refl s t⟩

/-! ### Commit and open -/

theorem commit_step (s : State) (t : TriadId) (cl : Closed) (col : LaneId) : ∃ fifo drop time,
    ClauseStep s (commit s t cl col) t (((s.tri t).commitEntries cl.num col).traced fifo drop time) := by
  unfold commit
  extract_lets s1 s2 s3 s4
  have h1 : ClauseStep s s1 t ((s.tri t).commitEntries cl.num col) := (ClauseStep.refl s t).setTriad _
  have h2 := h1.regsOnly (.up s1 (Adr.cmpSeq t.val) fun w => w + 1)
    (.of_rd (State.rd_up_ne _ _ _ _ (by simp only [Adr.cmpRctl, Adr.cmpSeq]; omega)))
  have hkept : ¬ CountReg (Adr.cmpRctl t.val) := not_countReg_cmp (by simp only [Adr.cmpRctl]; omega)
  have h3 : ClauseStep s s3 t _ := h2.regsOnly (.commitCounts s2 t _) (.of_rd (rd_commitCounts s2 t _ hkept))
  have h4 : ClauseStep s s4 t _ := h3.regsOnly (.countAt s3 t _ _ _) (.of_rd (rd_countAt s3 t _ _ _ hkept))
  obtain ⟨fifo, drop, time, htrace⟩ := traceCommit_step s4 t col cl.recs[col]
  rw [h4.tri] at htrace
  exact ⟨fifo, drop, time, h4.trans htrace⟩

/-- A triad that has opened a clause, with what the boundary has found. -/
def Triad.opened (x : Triad) (causes : BitVec 10) (entry : Option PendEntry) (len tmax interval : Nat) (rctl : Word)
    (swap rot : Option LaneId) (event : Bool) : Triad :=
  { x.openNext causes entry len tmax interval rctl with swapAt := swap, rotAt := rot, eventAt := event }

theorem openClause_step (s : State) (t : TriadId) (causes : BitVec 10) (entry : Option PendEntry) :
    ∃ len tmax interval rctl swap rot event,
      ClauseStep s (openClause s t causes entry) t ((s.tri t).opened causes entry len tmax interval rctl swap rot event) := by
  have hkept : ¬ CountReg (Adr.cmpRctl t.val) := not_countReg_cmp (by simp only [Adr.cmpRctl]; omega)
  have hcounted := (ClauseStep.refl s t).regsOnly (.countClose s t causes) (.of_rd (rd_countClose s t causes hkept))
  have hclosed := hcounted.regsOnly (.wr _ (Adr.cmpLastclose t.val) (causes.setWidth 64))
    (.of_rd (State.rd_wr_ne _ _ _ _ (by simp only [Adr.cmpRctl, Adr.cmpLastclose]; omega)))
  unfold openClause
  extract_lets s1 s2 len tmax iv rctl s3 rot event s4
  have hopen : ClauseStep s s4 t ((s.tri t).opened causes entry len tmax iv rctl
      ((s.tri t).openNext causes entry len tmax iv rctl).swapFound rot event) :=
    (hclosed.setTriad fun x => x.openNext causes entry len tmax iv rctl).setTriad
      fun x => { x with swapAt := x.swapFound, rotAt := rot, eventAt := event }
  refine ⟨len, tmax, iv, rctl, ((s.tri t).openNext causes entry len tmax iv rctl).swapFound, rot, event, ?_⟩
  split
  · exact hopen.countL _ _
  · exact hopen

/-! ### Columns -/

/-- Every lane of y is in the state of that of x, with its column. -/
def Triad.SameColumns (x y : Triad) : Prop := ∀ l, (y.lane l).state = (x.lane l).state ∧ (y.lane l).gate = (x.lane l).gate

theorem Triad.SameColumns.lead {x y : Triad} (h : x.SameColumns y) : y.lead = x.lead := by
  rw [Triad.lead, Triad.lead, Triad.actives_congr fun l => (h l).1]

theorem Triad.SameColumns.trans {x y z : Triad} (h : x.SameColumns y) (g : y.SameColumns z) : x.SameColumns z := fun l =>
  ⟨(g l).1.trans (h l).1, (g l).2.trans (h l).2⟩

theorem Triad.sameColumns_eachActive (x : Triad) {f : Lane → Lane} (hf : ∀ y, (f y).state = y.state ∧ (f y).gate = y.gate) :
    x.SameColumns (x.eachActive f) := fun l => by
  rw [x.eachActive_lane]
  split
  · exact hf _
  · exact ⟨rfl, rfl⟩

theorem Lane.openClause_state (y : Lane) (parsed : Bool) : (y.openClause parsed).state = y.state := by
  unfold Lane.openClause
  cases parsed with
  | false => rfl
  | true => exact (Lane.foldAll_keeps _ _).1

theorem Triad.sameColumns_opened (x : Triad) (causes : BitVec 10) (entry : Option PendEntry) (len tmax interval : Nat)
    (rctl : Word) (swap rot : Option LaneId) (event : Bool) :
    x.SameColumns (x.opened causes entry len tmax interval rctl swap rot event) := by
  have hopens := x.sameColumns_eachActive (f := fun y => y.openClause (nextParse x.parse interval).2)
    fun y => ⟨y.openClause_state _, (y.openClause_keeps _).2⟩
  exact hopens

/-! ### The clause of the access -/

/-- In debug split the close commits from the leading lane's column, and ends no single step where no halt is asked for
(R283, R697). -/
theorem splitCommit_step {s : State} {t : TriadId} {cl : Closed} (hsplit : isSplit s t = true)
    (hclosed : (s.tri t).closed = some cl) (hreq : (s.tri t).haltReq = false) : ∃ fifo drop time,
    ClauseStep s (splitCommit s t) t { ((s.tri t).commitEntries cl.num (s.tri t).lead).traced fifo drop time with
      closed := some { cl with done := true } } := by
  obtain ⟨fifo, drop, time, hcommit⟩ := commit_step s t cl (s.tri t).lead
  have hdone := hcommit.setTriad fun x => { x with closed := some { cl with done := true } }
  have hstays : takeHalt ((commit s t cl (s.tri t).lead).setTriad t fun x => { x with closed := some { cl with done := true } }) t
      = (commit s t cl (s.tri t).lead).setTriad t fun x => { x with closed := some { cl with done := true } } :=
    takeHalt_of_not (by rw [hdone.tri]; exact hreq)
  refine ⟨fifo, drop, time, ?_⟩
  simp only [splitCommit, hsplit, hclosed, Bool.not_true, Bool.false_eq_true, if_false, hstays]
  exact hdone

/-- The clause of a debugger's access closes and commits the entries of the leading lane's column (R283, R697). -/
theorem debugClause_step {s : State} {t : TriadId} (hsplit : isSplit s t = true) (hreq : (s.tri t).haltReq = false)
    (r : LaneCore → Rec) : ∃ y, ClauseStep s (debugClause s t r) t y ∧ y.clause = (s.tri t).clause + 1
      ∧ ∀ e ∈ ((s.tri t).lane (s.tri t).lead).gate, e.clause ≤ (s.tri t).clause → e ∈ y.toRelease := by
  have hfold := (ClauseStep.refl s t).setTriad fun x => x.eachActive fun y => y.fold (r y.core)
  obtain ⟨len, tmax, iv, rctl, swap, rot, event, hopen⟩ := openClause_step
    (s.setTriad t fun x => x.eachActive fun y => y.fold (r y.core)) t 0
    ((s.setTriad t fun x => x.eachActive fun y => y.fold (r y.core)).tri t).entry
  have hclause : debugClause s t r = splitCommit (openClause (s.setTriad t fun x => x.eachActive fun y => y.fold (r y.core)) t 0
      ((s.setTriad t fun x => x.eachActive fun y => y.fold (r y.core)).tri t).entry) t := rfl
  have hopened := hfold.trans hopen
  rw [hfold.tri] at hopened hclause
  have hfolded := (s.tri t).sameColumns_eachActive (f := fun y => y.fold (r y.core)) fun _ => ⟨rfl, rfl⟩
  have hcolumns := hfolded.trans (Triad.sameColumns_opened _ 0 ((s.tri t).eachActive fun y => y.fold (r y.core)).entry len tmax iv
    rctl swap rot event)
  obtain ⟨fifo, drop, time, hcommit⟩ := splitCommit_step (hopened.split hsplit) (by rw [hopened.tri]; rfl)
    (by rw [hopened.tri]; exact hreq)
  rw [hopened.tri] at hcommit
  refine ⟨_, hclause ▸ hopened.trans hcommit, rfl, fun e he hle => ?_⟩
  refine List.mem_append_right _ (List.mem_filter.mpr ⟨?_, decide_eq_true hle⟩)
  rw [hcolumns.lead, (hcolumns _).2]
  exact he

/-! ### The access -/

theorem memSize_debugFn : ∀ (size : BitVec 2) (load : Bool), memSize (debugFn size load) = size.toNat := by decide

theorem readWaits_of_plain {s : State} {t : TriadId} {va : Word} {n : Nat} (hp : PlainSram s t va n)
    (hahead : NothingAhead s t va) : readWaits s t va.toNat n = false := by
  simpa [readWaits, ddrWaits_of_sram hp.inside, NothingAhead] using hahead

/-- What a debugger's read of plain SRAM gives: the octets there under those of the leading lane's column (R222, R697). -/
def debugLoaded (s : State) (t : TriadId) (va : Word) (size : BitVec 2) : Word :=
  forwardData ((s.tri t).columnOf (s.tri t).lead) va.toNat (2 ^ size.toNat) (BitVec.ofNat 64 (rdMem s va.toNat (2 ^ size.toNat)))

/-- The entry of a debugger's write of plain SRAM (R697). -/
def debugEntry (s : State) (t : TriadId) (va : Word) (size : BitVec 2) (v : Word) : GateEntry where
  id := (s.tri t).stores
  pa := BitVec.ofNat 40 va.toNat
  data := BitVec.ofNat 64 (v.toNat % 2 ^ (8 * 2 ^ size.toNat))
  be := BitVec.ofNat 8 (2 ^ 2 ^ size.toNat - 1)
  dev := false
  aliasK := aliasKind va.toNat
  clause := (s.tri t).clause

/-- A triad with e at the end of the column of each lane in use. -/
def Triad.takesStore (x : Triad) (e : GateEntry) : Triad :=
  { x.eachActive (fun y => { y with gate := y.gate ++ [e] }) with stores := x.stores + 1 }

theorem Triad.takesStore_lead (x : Triad) (e : GateEntry) : (x.takesStore e).lead = x.lead := by
  rw [Triad.lead, Triad.lead, Triad.actives_congr fun l => ?_]
  change ((x.eachActive fun y => { y with gate := y.gate ++ [e] }).lane l).state = _
  rw [x.eachActive_lane]
  split <;> rfl

theorem Triad.mem_takesStore {x : Triad} (hact : x.act x.lead = true) (e : GateEntry) :
    e ∈ ((x.takesStore e).lane (x.takesStore e).lead).gate := by
  have hlane : (x.takesStore e).lane x.lead = { x.lane x.lead with gate := (x.lane x.lead).gate ++ [e] } :=
    (x.eachActive_lane _ _).trans (if_pos hact)
  rw [x.takesStore_lead, hlane]
  exact List.mem_append_right _ (List.mem_singleton_self e)

section
variable {s : State} {t : TriadId} (hawake : modeOf s ≠ 5) (hhalted : debugHalted s t = true)
  (hclosed : (s.tri t).closed = none) (hslots : (s.tri t).slots = 0) (hsplit : isSplit s t = true)
  (hreq : (s.tri t).haltReq = false) {va : Word} {size : BitVec 2} (hp : PlainSram s t va (2 ^ size.toNat))
include hawake hhalted hclosed hslots hsplit hreq hp

/-- The read's clause closes and commits, and memory stays (R697). -/
theorem debugMemoryRead_completes (hahead : NothingAhead s t va)
    (halias : aliasOverlap ((s.tri t).columnOf (s.tri t).lead) va.toNat (2 ^ size.toNat) = false) :
    Completes (.debugMemoryAccess t va size none) s fun s' => s'.mem = s.mem ∧ (∀ u, u ≠ t → s'.tri u = s.tri u)
      ∧ s'.busData = debugLoaded s t va size ∧ (s'.tri t).clause = (s.tri t).clause + 1 := by
  have hfn : 2 ^ memSize (debugFn size true) = 2 ^ size.toNat := by rw [memSize_debugFn]
  have hcheck := accessCheck_of_plain (fn := debugFn size true) (hfn.symm ▸ hp) (s.leadCore t)
  have hn : 2 ^ size.toNat ∈ [1, 2, 4, 8] := hfn ▸ two_pow_memSize_mem (debugFn size true)
  rw [hfn] at hcheck
  unfold State.leadCore at hcheck
  have hwaits : debugLoadWaits s (s.tri t) t (sramAccess va (2 ^ size.toNat)) = false := by
    rw [debugLoadWaits, loadIsDev_sramAccess halias, Bool.false_and, Bool.false_or]
    exact Bool.and_eq_false_iff.mpr (.inr (readWaits_of_plain hp hahead))
  have hread : debugMemory s t va size none = debugClause { s with busData := debugLoaded s t va size } t
      fun c => ⟨c.pc, va, 0, 6, 0, BitVec.ofNat 8 size.toNat, 1⟩ := by
    simp only [debugMemory, hhalted, hclosed, hslots, Option.isNone_none, coreWaits_of_plain hp, hcheck, coreTouch_of_plain hp,
      hwaits, loadIsDev_sramAccess halias]
    simp only [sramAccess, busRead_of_plain hp hn]
    rfl
  obtain ⟨y, hstep, hclause, -⟩ := debugClause_step (s := { s with busData := debugLoaded s t va size }) hsplit hreq
    fun c => ⟨c.pc, va, 0, 6, 0, BitVec.ofNat 8 size.toNat, 1⟩
  refine ⟨_, congrArg Host.Outcome.next ((State.powered_of_awake s _ hawake).trans hread), ?_⟩
  obtain ⟨⟨hmem, hothers, htri⟩, hbus, -⟩ := hstep
  exact ⟨hmem, hothers, hbus, htri ▸ hclause⟩

/-- A debugger's write of plain SRAM commits one entry of the columns, and memory changes only at the entry's release (R219, R697). -/
theorem debugMemoryWrite_completes (hact : (s.tri t).act (s.tri t).lead = true) (v : Word) :
    Completes (.debugMemoryAccess t va size (some v)) s fun s' => s'.mem = s.mem ∧ (∀ u, u ≠ t → s'.tri u = s.tri u)
      ∧ (s'.tri t).clause = (s.tri t).clause + 1 ∧ ∃ e ∈ (s'.tri t).toRelease, e.pa.toNat = va.toNat
        ∧ e.data = BitVec.ofNat 64 (v.toNat % 2 ^ (8 * 2 ^ size.toNat)) ∧ e.be = BitVec.ofNat 8 (2 ^ 2 ^ size.toNat - 1) := by
  have hfn : 2 ^ memSize (debugFn size false) = 2 ^ size.toNat := by rw [memSize_debugFn]
  have hcheck := accessCheck_of_plain (fn := debugFn size false) (hfn.symm ▸ hp) (s.leadCore t)
  rw [hfn] at hcheck
  unfold State.leadCore at hcheck
  have hwrite : debugMemory s t va size (some v) = debugClause (s.setTriad t fun x => x.takesStore (debugEntry s t va size v)) t
      fun c => ⟨c.pc, va, BitVec.ofNat 64 (v.toNat % 2 ^ (8 * 2 ^ size.toNat)), 7, 0, BitVec.ofNat 8 size.toNat, 1⟩ := by
    simp only [debugMemory, hhalted, hclosed, hslots, Option.isNone_some, coreWaits_of_plain hp, hcheck, coreTouch_of_plain hp]
    rfl
  have hstored := (ClauseStep.refl s t).setTriad fun x => x.takesStore (debugEntry s t va size v)
  obtain ⟨y, hstep, hclause, hgate⟩ := debugClause_step (hstored.split hsplit) (by rw [hstored.tri]; exact hreq) fun c =>
    ⟨c.pc, va, BitVec.ofNat 64 (v.toNat % 2 ^ (8 * 2 ^ size.toNat)), 7, 0, BitVec.ofNat 8 size.toNat, 1⟩
  rw [hstored.tri] at hgate hclause
  refine ⟨_, congrArg Host.Outcome.next ((State.powered_of_awake s _ hawake).trans hwrite), ?_⟩
  obtain ⟨⟨hmem, hothers, htri⟩, -, -⟩ := hstored.trans hstep
  rw [htri]
  refine ⟨hmem, hothers, hclause, debugEntry s t va size v, hgate _ ?_ le_rfl, ?_, rfl, rfl⟩
  · exact Triad.mem_takesStore hact _
  · have hinside := hp.inside
    unfold sramSize at hinside
    rw [debugEntry, BitVec.toNat_ofNat, Nat.mod_eq_of_lt (by omega)]

end

/-! ### The statement -/

/-- Outside DEVELOPMENT there is no debugger (R696). -/
theorem debugger_absent {s : State} (t : TriadId) (hoff : lcState s ≠ 1) :
    ∀ i ∈ [Instr.haltRequest t, .debugResume t, .singleStep t], exec i s = .next s := by
  have hon : debugOn s = false := beq_eq_false_iff_ne.mpr hoff
  have hidle {f : State → State} (hf : f s = s) : (.next (s.powered f) : Host.Outcome State Fault Refusal) = .next s := by
    rw [State.powered, hf, ite_self]
  simp only [List.mem_cons, List.not_mem_nil, or_false]
  rintro i (rfl | rfl | rfl)
  · exact hidle (by simp [haltRequest, hon])
  · exact hidle (by simp [debugResume, debugHalted, hon])
  · exact hidle (by simp [singleStep, debugHalted, hon])

/-- Settles O50: a request for a halt waits for a committed boundary; a halted triad's registers are written in each lane in
use, and an access to memory is a clause that commits in debug split. -/
theorem debuggerActs : Obligations.DebuggerActs := by
  intro s t x lead each
  refine ⟨debugger_absent t, haltRequest_waits, haltRequest_completes, fun hon hawake hhalt hfenced => ?_⟩
  have hhalted : debugHalted s t = true := by
    rw [debugHalted, debugOn, hon, hhalt, hfenced]
    rfl
  refine ⟨exec_debugResume hawake hhalted, exec_singleStep hawake hhalted, fun num => exec_debugRegisterRead hawake hhalted,
    fun v => ⟨fun b i hi hi' => ?_, fun b => ?_, ?_, ?_, ?_⟩, fun va size hp hahead hclosed hslots hsplit hreq hact => ⟨?_, ?_⟩⟩
  · have hnum := toNat_bankNumber b (i := i) (by omega)
    refine debugRegisterWrite_completes (v := v) (f := fun c => c.setBank b fun k => k.wg (BitVec.ofNat 5 i) v) hawake hhalted
      (srExists_bankNumber b hi hi'.le hnum) fun c => ?_
    simp only [debugWrite_bankNumber c b hi'.le hnum, if_pos hi']
  · have hnum : (BitVec.ofNat 12 (0x120 + 64 * b.val)).toNat = 0x100 + 64 * b.val + 0x20 := by
      rw [← toNat_bankNumber b (by decide), Nat.add_right_comm]
    refine debugRegisterWrite_completes (v := v) (f := fun c => c.setBank b fun k => { k with pc := v }) hawake hhalted
      (srExists_bankNumber b (by decide) le_rfl hnum) fun c => ?_
    simp only [debugWrite_bankNumber c b le_rfl hnum, if_neg (lt_irrefl _)]
  · exact debugRegisterWrite_completes hawake hhalted (by decide) fun c => debugWrite_short c (by decide) (by decide) v
  · exact debugRegisterWrite_completes hawake hhalted (by decide) fun c => debugWrite_short c (by decide) (by decide) v
  · exact debugRegisterWrite_completes hawake hhalted (by decide) fun c => debugWrite_short c (by decide) (by decide) v
  · exact debugMemoryRead_completes hawake hhalted hclosed hslots hsplit hreq hp hahead
  · exact debugMemoryWrite_completes hawake hhalted hclosed hslots hsplit hreq hp hact

end Sys2Proof.Machine
end

section
/-! Contexts of the TAPU and invalidations of its translations (R285, R286, R298 to R300, R303). -/

namespace Sys2Proof.Machine

/-! ### A software write of a whole register, bit by bit (R11, R12, R15) -/

/-- Bit b of a heading is RW and outside every field with reserved encodings. -/
def RegDesc.freeWide (d : RegDesc) (b : Nat) : Bool :=
  decide (b < 64) && d.rw.testBit b && !d.w1c.testBit b && d.rsv.all fun r => decide (b < r.2.1 ∨ r.1 < b)

theorem bitOf_maskAll (b : Nat) : bitOf maskAll b = decide (b < 64) := by
  rw [show maskAll = BitVec.ofNat 64 (2 ^ 64 - 1) from rfl, bitOf_ofNat, Nat.testBit_two_pow_sub_one, Bool.and_self]

theorem bitOf_writeValue_freeWide {d : RegDesc} {b : Nat} (h : d.freeWide b = true) (locked : Bool) (old new : Word) :
    bitOf (writeValue d locked maskAll old new) b = bitOf new b := by
  simp only [RegDesc.freeWide, Bool.and_eq_true, Bool.not_eq_true', decide_eq_true_eq, List.all_eq_true] at h
  obtain ⟨⟨⟨hb, hrw⟩, hw1c⟩, hrsv⟩ := h
  simp only [writeValue, bitOf_or, bitOf_and, bitOf_not, bitOf_keepReserved _ _ hrsv, bitOf_ofNat, bitOf_maskAll, hb, hrw, hw1c]
  cases bitOf new b <;> simp

/-! ### Contexts -/

/-- The fields of TAPU_CTX_t: ROOT, ASID and TEN (R285). -/
def ctxBits : List Nat := List.range' 12 40 ++ [63]

theorem mem_ctxBits {b : Nat} : b ∈ ctxBits ↔ (12 ≤ b ∧ b ≤ 51) ∨ b = 63 := by
  simp only [ctxBits, List.mem_append, List.mem_range'_1, List.mem_singleton]
  omega

theorem regAt_tapuCtx : ∀ t : TriadId, ((regAt (Adr.tapuCtx t.val)).any fun x => ctxBits.all x.1.freeWide) = true := by decide

/-- A write of TAPU_CTX_t takes its fields as written and changes no other register (R285). -/
theorem sw_tapuCtx (s : State) (t : TriadId) (v : Word) : RegsOnly s (s.sw (Adr.tapuCtx t.val) v)
    ∧ SameRegs s (s.sw (Adr.tapuCtx t.val) v) [Adr.tapuCtx t.val]
    ∧ ∀ b ∈ ctxBits, bitOf ((s.sw (Adr.tapuCtx t.val) v).rd (Adr.tapuCtx t.val)) b = bitOf v b := by
  obtain ⟨⟨d, i, j⟩, hd, hfree⟩ := (Option.any_eq_true _ _).mp (regAt_tapuCtx t)
  rw [State.sw, hd]
  refine ⟨.wr s _ _, fun a ha => State.rd_wr_ne s _ a _ fun e => ha (List.mem_singleton.mpr e), fun b hb => ?_⟩
  rw [State.rd_wr_self, bitOf_writeValue_freeWide (List.all_eq_true.mp hfree b hb)]

theorem contextWrites : Clause.ContextWrites := by
  intro s w t v
  obtain ⟨hregs, hsame, hbit⟩ := sw_tapuCtx s t v
  obtain ⟨z, hz⟩ : ∃ z, s.sw (Adr.tapuCtx t.val) v = z := ⟨_, rfl⟩
  have hrun : exec (.tapuCtxWrite t t v) s = .next
      (if field (s.rd (Adr.tapuCtx t.val)) 51 40 = field v 51 40 then z else z.setTriad t flushTriad) := by
    rw [← hz]
    exact congrArg Host.Outcome.next (if_pos rfl)
  rw [hz] at hregs hsame hbit
  have hfields (s' : State) (hrd : ∀ a, s'.rd a = z.rd a) :
      field (s'.rd (Adr.tapuCtx t.val)) 39 12 = field v 39 12 ∧ field (s'.rd (Adr.tapuCtx t.val)) 51 40 = field v 51 40
        ∧ bitOf (s'.rd (Adr.tapuCtx t.val)) 63 = bitOf v 63 ∧ SameRegs s s' [Adr.tapuCtx t.val] := by
    rw [hrd]
    exact ⟨field_congr fun i hlo hhi => hbit i (mem_ctxBits.mpr (by omega)),
      field_congr fun i hlo hhi => hbit i (mem_ctxBits.mpr (by omega)), hbit 63 (mem_ctxBits.mpr (.inr rfl)),
      fun a ha => (hrd a).trans (hsame a ha)⟩
  obtain ⟨r, hr⟩ := hregs
  refine ⟨fun h => congrArg Host.Outcome.next (if_neg h), _, hrun, ?_⟩
  split
  · next hasid =>
    obtain ⟨hroot, hid, hten, hrest⟩ := hfields z fun _ => rfl
    subst hr
    exact ⟨hroot, hid, hten, hrest, rfl, rfl, fun _ _ => rfl, fun _ => rfl, fun hne => absurd hasid hne⟩
  · next hasid =>
    obtain ⟨hroot, hid, hten, hrest⟩ := hfields (z.setTriad t flushTriad) fun _ => rfl
    subst hr
    exact ⟨hroot, hid, hten, hrest, rfl, rfl, fun u hu => State.tri_setTriad_ne _ _ _ _ hu, fun heq => absurd heq hasid,
      fun _ => State.tri_setTriad _ _ _⟩

/-! ### Invalidations -/

/-- An invalidation while no barrier of the triad runs: its own translations that match go, and its barrier starts
(R298 to R300). -/
theorem startInval_own {s : State} {t : TriadId} (h : s.barriers[t] = none) (scope : BitVec 2) (asid : BitVec 12)
    (vpn : BitVec 27) : startInval s t t scope asid vpn =
      let b : Barrier := ⟨scope, asid, vpn, barrierSegs s t scope asid vpn, []⟩
      { s with tlb := s.tlb.filter fun e => !invMatches t b e, barriers := s.barriers.set t.val (some b) t.isLt } := by
  simp only [startInval, h, Option.isSome_none, if_true, Bool.false_eq_true, if_false]

/-- What such a start leaves. -/
theorem startInval_completes {s : State} {t : TriadId} {i : Instr} {b : Barrier} {hit : TlbEntry → Prop}
    (hrun : exec i s = .next
      { s with tlb := s.tlb.filter fun e => !invMatches t b e, barriers := s.barriers.set t.val (some b) t.isLt })
    (hhit : ∀ e, invMatches t b e = true ↔ e.triad = t ∧ hit e) : Completes i s fun s' => s'.barriers[t] = some b
      ∧ (∀ u : TriadId, u ≠ t → s'.barriers[u] = s.barriers[u])
      ∧ (∀ e, e ∈ s'.tlb ↔ e ∈ s.tlb ∧ ¬ (e.triad = t ∧ hit e))
      ∧ s' = { s with tlb := s'.tlb, barriers := s'.barriers } := by
  refine ⟨_, hrun, Vector.getElem_set_self _, fun u hu => ?_, fun e => ?_, rfl⟩
  · exact Vector.getElem_set_ne t.isLt u.isLt fun h => hu (Fin.ext h.symm)
  · simp only [List.mem_filter, ← hhit, Bool.not_eq_true', Bool.not_eq_true]

/-- The writes that a barrier holds back are in flight no more once all of them have their response (R222, R303). -/
theorem foldl_landed_flying (l : List Nat) (x : Triad) :
    (l.foldl Triad.landed x).flying = x.flying.filter fun g => !l.contains g.id := by
  induction l generalizing x with
  | nil => simp
  | cons n l ih =>
    rw [List.foldl_cons, ih, Triad.landed, List.filter_filter]
    refine List.filter_congr fun g _ => ?_
    rw [List.contains_cons, Bool.not_or, Bool.and_comm]
    rfl

theorem endInval_of_done {s : State} {t : TriadId} {b : Barrier} (hb : s.barriers[t] = some b)
    (hdone : allFin32.any (segHolds s b) = false) : endInval s t =
      pulse (State.setTriad { s with barriers := s.barriers.set t.val none t.isLt } t fun x => b.waits.foldl Triad.landed x)
        (896 + t.val) := by
  simp only [endInval, hb, hdone, Bool.false_eq_true, if_false]

theorem invalidations : Clause.Invalidations := by
  intro s t asid vpn starts
  refine ⟨fun hnone => ⟨?page, ?ofAsid, ?ofTriad⟩, fun b hb hdone => ?_⟩
  case page =>
    refine startInval_completes (congrArg Host.Outcome.next (startInval_own hnone 0 asid vpn)) fun e => ?_
    simp [invMatches]
  case ofAsid =>
    refine startInval_completes (congrArg Host.Outcome.next (startInval_own hnone 1 asid 0)) fun e => ?_
    simp [invMatches]
  case ofTriad =>
    refine startInval_completes (congrArg Host.Outcome.next (startInval_own hnone 2 0 0)) fun e => ?_
    simp [invMatches]
  obtain ⟨z, hz⟩ : ∃ z, State.setTriad { s with barriers := s.barriers.set t.val none t.isLt } t
    (fun x => b.waits.foldl Triad.landed x) = z := ⟨_, rfl⟩
  have hrun : exec (.invalidationBarrierEnd t) s = .next (pulse z (896 + t.val)) := by
    rw [← hz]
    exact congrArg Host.Outcome.next (endInval_of_done hb hdone)
  obtain ⟨hpulsed, hsame, hwith⟩ := pulse_spec z (896 + t.val)
  have htriads : (pulse z (896 + t.val)).triads = z.triads := (RegsOnly.pulse z _).triads
  have htri (u : TriadId) : (pulse z (896 + t.val)).tri u = z.tri u := (RegsOnly.pulse z _).tri u
  refine ⟨_, hrun, ?_⟩
  subst hz
  refine ⟨?_, ⟨hpulsed.pend, hpulsed.ovr⟩, hsame, ?_, fun hw => ?_, fun u hu => ?_, ?_⟩
  · rw [hwith]
    exact Vector.getElem_set_self _
  · rw [hwith]
    rfl
  · rw [htriads, hw]
    exact vmod_id s.triads t (fun x => x) rfl
  · rw [htri]
    exact State.tri_setTriad_ne _ _ _ _ hu
  · rw [htri, State.tri_setTriad]
    exact foldl_landed_flying _ _

/-- Settles O24: a context is a register of its own triad, whose ASID decides on the flush, and an invalidation takes what
`invMatches` finds and its barrier ends in a pulse. -/
theorem translationsChange : Obligations.TranslationsChange := ⟨contextWrites, invalidations⟩

end Sys2Proof.Machine
end

section
/-! The commands of a DMA channel: doorbell, RESUME, ABORT (R315 to R317, R324, R333, R334). -/

namespace Sys2Proof.Machine

theorem RegsOnly.chans {s s' : State} (h : RegsOnly s s') : s'.chans = s.chans := by
  obtain ⟨r, rfl⟩ := h
  rfl

/-! ### A change of one channel -/

/-- From s to s' no register but those of the list and no channel but c differs, and memory and the triads are as they were. -/
def ChanOnly (s s' : State) (c : Fin 32) (l : List Nat) : Prop :=
  SameRegs s s' l ∧ (∀ d : Fin 32, d ≠ c → s'.chans[d] = s.chans[d]) ∧ s'.mem = s.mem ∧ s'.triads = s.triads

theorem chanOnly_of_vmod {s s' : State} {c : Fin 32} {l : List Nat} {f : Chan → Chan} (hregs : SameRegs s s' l)
    (hchans : s'.chans = vmod s.chans c f) (hmem : s'.mem = s.mem) (htri : s'.triads = s.triads) :
    ChanOnly s s' c l ∧ s'.chans[c] = f s.chans[c] := by
  refine ⟨⟨hregs, fun d hd => ?_, hmem, htri⟩, ?_⟩
  · rw [hchans]
    exact vmod_get_ne _ _ _ _ hd
  · rw [hchans]
    exact vmod_get_self _ _ _

theorem State.rd_congr {s s' : State} (h : s'.regs = s.regs) (a : Nat) : s'.rd a = s.rd a := by
  rw [State.rd, h, State.rd]

@[simp] theorem State.rd_upChan (s : State) (c : Fin 32) (f : Chan → Chan) (a : Nat) : (s.upChan c f).rd a = s.rd a := rfl
@[simp] theorem State.upChan_mem (s : State) (c : Fin 32) (f : Chan → Chan) : (s.upChan c f).mem = s.mem := rfl
@[simp] theorem State.upChan_triads (s : State) (c : Fin 32) (f : Chan → Chan) : (s.upChan c f).triads = s.triads := rfl
@[simp] theorem State.upChan_sram (s : State) (c : Fin 32) (f : Chan → Chan) : (s.upChan c f).sram = s.sram := rfl

@[simp] theorem State.upChan_self (s : State) (c : Fin 32) (f : Chan → Chan) : (s.upChan c f).chans[c] = f s.chans[c] :=
  vmod_get_self s.chans c f

theorem State.upChan_ne (s : State) {c e : Fin 32} (f : Chan → Chan) (h : e ≠ c) : (s.upChan c f).chans[e] = s.chans[e] :=
  vmod_get_ne s.chans c e f h

/-- A change of one channel behind changes of registers. -/
theorem upChan_chanOnly {s z : State} {c : Fin 32} {l : List Nat} (h : RegsOnly s z) (hregs : SameRegs s z l)
    (f : Chan → Chan) : ChanOnly s (z.upChan c f) c l ∧ (z.upChan c f).chans[c] = f s.chans[c] :=
  chanOnly_of_vmod (s' := z.upChan c f) hregs (congrArg (vmod · c f) h.chans) h.mem h.triads

/-- One bit of a register set: no other register differs, and the bit reads 1. -/
theorem setBitR_spec (s : State) (a : Nat) {i : Nat} (hi : i < 64) :
    SameRegs s (s.setBitR a i) [a] ∧ bitOf ((s.setBitR a i).rd a) i = true := by
  refine ⟨fun b hb => State.rd_up_ne s a b _ fun e => hb (List.mem_singleton.mpr e), ?_⟩
  rw [State.setBitR, State.rd_up_self, bitOf_putBit_true _ hi]
  simp

/-- A pulse behind a change of one channel. -/
theorem chanOnly_pulse {s z : State} {c : Fin 32} {l : List Nat} (h : ChanOnly s z c l) (n : Nat) :
    ChanOnly s (pulse z n) c (l ++ eventRegs n) := by
  obtain ⟨hregs, hchans, hmem, htri⟩ := h
  have hp := RegsOnly.pulse z n
  refine ⟨fun a ha => ?_, fun d hd => ?_, hp.mem.trans hmem, hp.triads.trans htri⟩
  · rw [List.mem_append, not_or] at ha
    exact ((pulse_spec z n).2.1 a ha.2).trans (hregs a ha.1)
  · rw [hp.chans]
    exact hchans d hd

/-- A pulse reads as one from s, where the states before it have the same registers. -/
theorem Pulsed.of_regs {s z s' : State} {n : Nat} (h : Pulsed z s' n) (hmode : modeOf z = modeOf s)
    (hregs : ∀ a ∈ eventRegs n, z.rd a = s.rd a) : Pulsed s s' n := by
  have hpend := hregs _ (List.mem_cons_self)
  have hovr := hregs _ (List.mem_cons_of_mem _ (List.mem_singleton_self _))
  refine ⟨fun i => ?_, fun i => ?_⟩
  · rw [h.pend, hpend, hmode]
  · rw [h.ovr, hovr, hpend, hmode]

/-- A channel that becomes READY may free its engine, and nothing else changes (R328). -/
theorem becomeReady_spec (s : State) (c : Fin 32) (f : Chan → Chan) :
    (becomeReady s c f).chans = vmod s.chans c (fun k => { f k with state := .ready })
      ∧ (becomeReady s c f).regs = s.regs ∧ (becomeReady s c f).mem = s.mem ∧ (becomeReady s c f).triads = s.triads := by
  unfold becomeReady
  extract_lets rests z
  split <;> exact ⟨rfl, rfl, rfl, rfl⟩

/-- A channel that becomes READY behind changes of registers. -/
theorem becomeReady_chanOnly {s z : State} {c : Fin 32} {l : List Nat} {f : Chan → Chan} (h : RegsOnly s z)
    (hregs : SameRegs s z l) : ChanOnly s (becomeReady z c f) c l
      ∧ (becomeReady z c f).chans[c] = { f s.chans[c] with state := .ready } ∧ ∀ a, (becomeReady z c f).rd a = z.rd a := by
  obtain ⟨hchans, hr, hmem, htri⟩ := becomeReady_spec z c f
  obtain ⟨honly, hchan⟩ := chanOnly_of_vmod (fun a ha => (State.rd_congr hr a).trans (hregs a ha))
    (hchans.trans (by rw [h.chans])) (hmem.trans h.mem) (htri.trans h.triads)
  exact ⟨honly, hchan, State.rd_congr hr⟩

/-! ### The doorbell (R316, R317) -/

section
variable {s : State} {w : TriadId} {c : Fin 32}

/-- The stamp of a doorbell: the ringing triad's context, its number and the PRIV of the channel (R317). -/
def chanStamp (s : State) (w : TriadId) (c : Fin 32) : Word :=
  setField (putBit (s.rd (Adr.tapuCtx w.val)) 56 (bitOf (s.rd (cfgOf c)) 4)) 54 52 w.val

theorem bitOf_chanStamp {i : Nat} (h : i < 52 ∨ 54 < i) (h56 : i ≠ 56) :
    bitOf (chanStamp s w c) i = bitOf (s.rd (Adr.tapuCtx w.val)) i := by
  rw [chanStamp, bitOf_setField, if_neg (by omega), bitOf_putBit, if_neg h56]

theorem chanStamp_fields : field (chanStamp s w c) 39 12 = field (s.rd (Adr.tapuCtx w.val)) 39 12
    ∧ field (chanStamp s w c) 51 40 = field (s.rd (Adr.tapuCtx w.val)) 51 40
    ∧ bitOf (chanStamp s w c) 63 = bitOf (s.rd (Adr.tapuCtx w.val)) 63
    ∧ field (chanStamp s w c) 54 52 = w.val ∧ bitOf (chanStamp s w c) 56 = bitOf (s.rd (cfgOf c)) 4 := by
  refine ⟨field_congr fun i _ _ => bitOf_chanStamp (by omega) (by omega),
    field_congr fun i _ _ => bitOf_chanStamp (by omega) (by omega), bitOf_chanStamp (by decide) (by decide), ?_, ?_⟩
  · rw [chanStamp, field_setField_self _ _ (by decide), Nat.mod_eq_of_lt (by omega)]
  · rw [chanStamp, bitOf_setField, if_neg (by omega), bitOf_putBit, if_pos rfl, decide_eq_true (by decide), Bool.true_and]

/-- The registers that a doorbell writes are distinct. -/
theorem chanRegs_ne (c : Fin 32) : ctxOf c ≠ res0Of c ∧ ctxOf c ≠ res1Of c ∧ res0Of c ≠ res1Of c := by
  simp only [ctxOf, res0Of, res1Of, Adr.dmaCtx, Adr.dmaRes0, Adr.dmaRes1]
  omega

theorem not_mem_eventRegs {a n : Nat} (ha : 0x80060000 ≤ a) (hn : n < 1024) : a ∉ eventRegs n := by
  simp only [eventRegs, List.mem_cons, List.not_mem_nil, or_false, Adr.evcPend, Adr.evcOvr]
  omega

theorem statOf_ge (c : Fin 32) : 0x80060000 ≤ statOf c := by
  simp only [statOf, Adr.dmaStat]
  omega

/-- The registers of a channel that the doorbell writes: its stamp, the descriptor's address, a record of nothing done. -/
def rungRegs (s : State) (w : TriadId) (c : Fin 32) (v : Word) : State :=
  ((s.wr (ctxOf c) (chanStamp s w c)).wr (res0Of c) (v &&& 0xFFFFFFFFFFFFFFC0)).wr (res1Of c) 0

theorem rungRegs_spec (s : State) (w : TriadId) (c : Fin 32) (v : Word) : RegsOnly s (rungRegs s w c v)
    ∧ SameRegs s (rungRegs s w c v) [ctxOf c, res0Of c, res1Of c] ∧ (rungRegs s w c v).rd (ctxOf c) = chanStamp s w c
    ∧ (rungRegs s w c v).rd (res0Of c) = v &&& 0xFFFFFFFFFFFFFFC0 ∧ (rungRegs s w c v).rd (res1Of c) = 0 := by
  obtain ⟨h01, h02, h12⟩ := chanRegs_ne c
  refine ⟨((RegsOnly.wr s _ _).trans (.wr _ _ _)).trans (.wr _ _ _), fun a ha => ?_, ?_, ?_, State.rd_wr_self _ _ _⟩
  · simp only [List.mem_cons, List.not_mem_nil, or_false, not_or] at ha
    obtain ⟨hctx, hres0, hres1⟩ := ha
    rw [rungRegs, State.rd_wr_ne _ _ _ _ hres1, State.rd_wr_ne _ _ _ _ hres0, State.rd_wr_ne _ _ _ _ hctx]
  · rw [rungRegs, State.rd_wr_ne _ _ _ _ h02, State.rd_wr_ne _ _ _ _ h01, State.rd_wr_self]
  · rw [rungRegs, State.rd_wr_ne _ _ _ _ h12, State.rd_wr_self]

/-- The channel as a doorbell leaves it, before it is READY: a descriptor fetch is due (R316, R320). -/
def Chan.rung (k : Chan) : Chan :=
  { k with desc := none, nextSeg := 0, fetchDue := true, abortDue := false, failed := none, turn := 0 }

theorem doorbell_of_idle (hw : w.val = chanOwner s c) (hk : s.chans[c].state = .idle) (v : Word) :
    exec (.doorbell w c v) s = .next (becomeReady (rungRegs s w c v) c Chan.rung) :=
  congrArg Host.Outcome.next (if_pos ⟨hw, hk⟩)

/-! ### RESUME (R333) -/

/-- A resumed channel: with SIDE 0b00 it fetches its descriptor again, else it goes on behind the segments done. -/
def Chan.resumed (k : Chan) (side done : Nat) : Chan :=
  if side = 0 then { k with fetchDue := true, desc := none, nextSeg := 0, state := .ready }
  else { k with nextSeg := done / 256, state := .ready }

theorem resume_completes (hw : w.val = chanOwner s c) (hk : s.chans[c].state = .suspended) :
    Completes (.resume w c) s fun s' => ChanOnly s s' c (eventRegs (904 + c.val)) ∧ Pulsed s s' (904 + c.val)
      ∧ s'.chans[c] = s.chans[c].resumed (field (s.rd (res1Of c)) 37 36) (chanDone s c) := by
  obtain ⟨f, hf, hrun⟩ : ∃ f : Chan → Chan,
      ({ f s.chans[c] with state := .ready } = s.chans[c].resumed (field (s.rd (res1Of c)) 37 36) (chanDone s c))
      ∧ exec (.resume w c) s = .next (pulse (becomeReady s c f) (904 + c.val)) := by
    refine ⟨_, ?_, congrArg Host.Outcome.next (if_pos ⟨hw, hk⟩)⟩
    unfold Chan.resumed
    split <;> rfl
  obtain ⟨honly, hchan, -⟩ := becomeReady_chanOnly (c := c) (f := f) (RegsOnly.refl s) (l := []) fun _ _ => rfl
  refine ⟨_, hrun, chanOnly_pulse honly _, (pulse_spec _ _).1.of_regs ?_ fun a _ => honly.1 a List.not_mem_nil, ?_⟩
  · rw [modeOf, honly.1 _ List.not_mem_nil, modeOf]
  · rw [(RegsOnly.pulse _ _).chans, hchan, hf]

/-! ### ABORT (R333, R334) -/

/-- A transfer that an ABORT ends at once: what is in flight of it no longer counts. -/
def Chan.aborted (k : Chan) : Chan :=
  { k with state := .idle, desc := none, fetchDue := false, failed := none
           flying := k.flying.map fun g => { g with live := false } }

/-- The channel's transfer ends, and STAT shows it. -/
def abortedNow (s : State) (c : Fin 32) : State := (s.setBitR (statOf c) 10).upChan c Chan.aborted

theorem abortedNow_spec (s : State) (c : Fin 32) : ChanOnly s (abortedNow s c) c [statOf c]
    ∧ (abortedNow s c).chans[c] = s.chans[c].aborted ∧ bitOf ((abortedNow s c).rd (statOf c)) 10 = true := by
  obtain ⟨hregs, hbit⟩ := setBitR_spec s (statOf c) (i := 10) (by decide)
  obtain ⟨honly, hchan⟩ := upChan_chanOnly (.setBitR s _ _) hregs Chan.aborted
  refine ⟨honly, hchan, ?_⟩
  rw [abortedNow, State.rd_upChan]
  exact hbit

theorem abortCmd_of_owned (hw : w.val = chanOwner s c) (h : s.chans[c].state ≠ .idle ∧ s.chans[c].state ≠ .error) :
    exec (.abort w c) s = .next (abortChan s c) := congrArg Host.Outcome.next (if_pos ⟨hw, h⟩)

theorem abortChan_of_waiting (h : s.chans[c].state = .armed ∨ s.chans[c].state = .ready) : abortChan s c = abortedNow s c := by
  rcases h with h | h <;> simp only [abortChan, h] <;> rfl

theorem abortChan_of_suspended (h : s.chans[c].state = .suspended) : abortChan s c = pulse (abortedNow s c) (904 + c.val) := by
  simp only [abortChan, h]
  rfl

theorem abortChan_of_running (h : s.chans[c].state = .running) (hfly : s.chans[c].flying ≠ []) : abortChan s c =
    { s with chans := s.chans.set c.val { s.chans[c] with abortDue := true } } := by
  have hempty : s.chans[c].flying.isEmpty = false := List.isEmpty_eq_false_iff.mpr hfly
  have hrun : abortChan s c = if s.chans[c].flying.isEmpty then abortDone s c
      else s.upChan c fun k => { k with abortDue := true } := by simp only [abortChan, h]
  rw [hrun, hempty]
  rfl

theorem abort_rejected (h : s.chans[c].state = .idle ∨ s.chans[c].state = .error) :
    exec (.abort w c) s = .next (s.setBitR (statOf c) 9) :=
  congrArg Host.Outcome.next (if_neg fun ⟨_, h1, h2⟩ => h.elim h1 h2)

end

theorem channelCommands : Clause.ChannelCommands := by
  intro s w c v hw k only
  have howned {st : ChanState} (hk : k.state = st) (h : st ≠ .idle ∧ st ≠ .error) :
      exec (.abort w c) s = .next (abortChan s c) := abortCmd_of_owned hw (by rwa [← hk] at h)
  obtain ⟨hnow, hchan, hbit⟩ := abortedNow_spec s c
  refine ⟨fun hk => ?doorbell, fun hk => ?resume, fun hk => ?waiting, fun hk => ?suspended, fun hk => ?rejected,
    fun hk hfly => ?running⟩
  case doorbell =>
    obtain ⟨hregs, hsame, hctx, hres0, hres1⟩ := rungRegs_spec s w c v
    obtain ⟨honly, hc, hrd⟩ := becomeReady_chanOnly (c := c) (f := Chan.rung) hregs hsame
    refine ⟨_, doorbell_of_idle hw hk v, honly, ?_, ?_, ?_, (hrd _).trans hres0, (hrd _).trans hres1, ?_⟩
    · rw [hc]
    · rw [hc]
      rfl
    · rw [hc]
      rfl
    · rw [hrd, hctx]
      exact chanStamp_fields
  case resume =>
    obtain ⟨s', hrun, honly, hpulsed, hc⟩ := resume_completes hw hk
    refine ⟨s', hrun, honly, hpulsed, ?_, fun hside => ?_, fun hside => ?_⟩
    · rw [hc, Chan.resumed]
      split <;> rfl
    · rw [hc, Chan.resumed, if_pos hside]
      exact ⟨rfl, rfl⟩
    · rw [hc, Chan.resumed, if_neg hside]
      exact ⟨rfl, rfl⟩
  case waiting =>
    have hrun : exec (.abort w c) s = .next (abortChan s c) := by
      rcases hk with hk | hk <;> exact howned hk (by decide)
    refine ⟨_, hrun.trans (congrArg _ (abortChan_of_waiting hk)), hnow, ?_, ?_, hbit⟩ <;> rw [hchan] <;> rfl
  case suspended =>
    have hp := RegsOnly.pulse (abortedNow s c) (904 + c.val)
    have hev : 904 + c.val < 1024 := by omega
    have hmode : modeOf (abortedNow s c) = modeOf s := by
      rw [modeOf, hnow.1 _ (by simp only [List.mem_singleton, statOf, Adr.dmaStat, Adr.sysMode]; omega), modeOf]
    refine ⟨_, (howned hk (by decide)).trans (congrArg _ (abortChan_of_suspended hk)), chanOnly_pulse hnow _,
      (pulse_spec _ _).1.of_regs hmode fun a ha => hnow.1 a fun e => ?_, ?_, ?_, ?_⟩
    · rw [List.mem_singleton.mp e] at ha
      exact not_mem_eventRegs (statOf_ge c) hev ha
    · rw [hp.chans, hchan]
      rfl
    · rw [hp.chans, hchan]
      rfl
    · rw [(pulse_spec _ _).2.1 _ (not_mem_eventRegs (statOf_ge c) hev)]
      exact hbit
  case rejected =>
    obtain ⟨hregs, hbit9⟩ := setBitR_spec s (statOf c) (i := 9) (by decide)
    exact ⟨_, abort_rejected hk, ⟨hregs, fun d _ => by rw [State.setBitR_chans], State.setBitR_mem .., State.setBitR_triads ..⟩,
      State.setBitR_chans .., hbit9⟩
  case running => exact (howned hk (by decide)).trans (congrArg _ (abortChan_of_running hk hfly))

end Sys2Proof.Machine
end

section
/-! A report to the FCUs leaves the DMA channels as they are and clears no bit of the engines' registers (R32, R617, R618,
R679). -/

namespace Sys2Proof.Machine

/-- The blocks of the two DMA engines (R41). -/
def DmaReg (a : Nat) : Prop := 0x80060000 ≤ a ∧ a < 0x80080000

/-- From s to s' no channel changes, and the bits that are set in the engines' registers stay set. -/
structure DmaKeeps (s s' : State) : Prop where
  chans : s'.chans = s.chans
  bits : ∀ a, DmaReg a → ∀ i, bitOf (s.rd a) i = true → bitOf (s'.rd a) i = true

namespace DmaKeeps

theorem refl (s : State) : DmaKeeps s s := ⟨rfl, fun _ _ _ => id⟩

theorem trans {a b c : State} (h : DmaKeeps a b) (g : DmaKeeps b c) : DmaKeeps a c :=
  ⟨g.chans.trans h.chans, fun r hr i => g.bits r hr i ∘ h.bits r hr i⟩

theorem ite {s a b : State} {c : Prop} [Decidable c] (ha : DmaKeeps s a) (hb : DmaKeeps s b) :
    DmaKeeps s (if c then a else b) := by
  split
  · exact ha
  · exact hb

theorem foldl {α : Type} {f : State → α → State} (h : ∀ s x, DmaKeeps s (f s x)) (l : List α) (s : State) :
    DmaKeeps s (l.foldl f s) := by
  induction l generalizing s with
  | nil => exact .refl s
  | cons x l ih => exact (h s x).trans (ih (f s x))

/-! ### Registers and parts of the state -/

theorem of_regs {s s' : State} (hc : s'.chans = s.chans) (hr : s'.regs = s.regs) : DmaKeeps s s' :=
  ⟨hc, fun a _ i h => by rwa [State.rd_congr hr]⟩

theorem sys (s : State) (x : Sys) : DmaKeeps s { s with sys := x } := of_regs rfl rfl
theorem fcu (s : State) (x : Fcu) : DmaKeeps s { s with fcu := x } := of_regs rfl rfl
theorem hosts (s : State) (x : Hosts) : DmaKeeps s { s with hosts := x } := of_regs rfl rfl
theorem legacy (s : State) (x : Legacy) : DmaKeeps s { s with legacy := x } := of_regs rfl rfl
theorem sram (s : State) (x : Sram) : DmaKeeps s { s with sram := x } := of_regs rfl rfl
theorem mem (s : State) (m : List Host.Cell) : DmaKeeps s { s with mem := m } := of_regs rfl rfl

theorem wr (s : State) {a : Nat} (v : Word) (h : ¬ DmaReg a) : DmaKeeps s (s.wr a v) :=
  ⟨rfl, fun r hr i hi => by rwa [State.rd_wr_ne s a r v fun e => h (e ▸ hr)]⟩

theorem up (s : State) {a : Nat} (f : Word → Word) (h : ¬ DmaReg a) : DmaKeeps s (s.up a f) := wr s _ h

/-- Setting a bit of any register clears none. -/
theorem setBitR (s : State) (a i : Nat) : DmaKeeps s (s.setBitR a i) := by
  refine ⟨State.setBitR_chans s a i, fun r _ j hj => ?_⟩
  by_cases ha : r = a
  · subst ha
    rw [State.setBitR, State.rd_up_self, bitOf_putBit]
    split
    · have h64 : j < 64 := Nat.lt_of_not_le fun hge => absurd hj (by rw [bitOf_of_ge _ hge]; exact Bool.false_ne_true)
      rw [decide_eq_true h64]
      rfl
    · exact hj
  · rwa [State.setBitR, State.rd_up_ne _ _ _ _ ha]

/-! ### Events and modes -/

theorem pulse (s : State) (n : Nat) : DmaKeeps s (pulse s n) :=
  .ite (.refl s) <| by
    unfold pend
    exact trans (.ite (setBitR s _ _) (.refl s)) (setBitR _ _ _)

theorem enterSafe (s : State) (mask : BitVec 6) : DmaKeeps s (enterSafe s mask) := (legacy s _).trans (pulse _ _)

theorem putMode (s : State) (m : Nat) : DmaKeeps s (putMode s m) := by
  unfold Machine.putMode
  extract_lets old s1 s2 sys2 s3 sys3 s4
  have h1 : DmaKeeps s s1 := up s _ (by unfold DmaReg; decide)
  have h2 : DmaKeeps s1 s2 := hosts s1 _
  have h3 : DmaKeeps s2 s3 := .ite (sys s2 _) (.refl s2)
  have h4 : DmaKeeps s3 s4 := .ite (sys s3 _) (.refl s3)
  exact .ite (.refl s) ((((h1.trans h2).trans h3).trans h4).trans (.ite (enterSafe s4 _) (.refl s4)))

theorem countDisarm (s : State) (was : Bool) : DmaKeeps s (countDisarm s was) :=
  .ite ((up s _ (by unfold DmaReg; decide)).trans (pulse _ _)) (.refl s)

theorem setMode (s : State) (m : Nat) : DmaKeeps s (setMode s m) :=
  .ite (.refl s) (.ite (putMode s m) ((putMode s m).trans ((fcu _ _).trans (countDisarm _ _))))

theorem wakeWith (s : State) (toMode wakeCode : Nat) : DmaKeeps s (wakeWith s toMode wakeCode) := by
  have hcause : DmaKeeps s (s.up Adr.sysRstcause fun w => setField w 7 4 wakeCode) := up s _ (by unfold DmaReg; decide)
  unfold Machine.wakeWith wakeRetain
  refine .ite (hcause.trans (hosts _ _)) (((hcause.trans (putMode _ toMode)).trans (sram _ _)).trans (foldl (fun z n => ?_) _ _))
  exact .ite (pulse z _) (.refl z)

theorem classAction (s : State) (c : Nat) : DmaKeeps s (classAction s c) := by
  unfold Machine.classAction
  extract_lets m blank sys0 s1
  have hwake : DmaKeeps s s1 := .ite (sys s _) (.refl s)
  refine hwake.trans (.ite (.ite (wakeWith s1 4 3) <| .ite (.refl s1) <| .ite ?degraded <| .ite ?selftest ?hold) (.refl s1))
  case degraded => exact .ite (setMode s1 3) (.refl s1)
  case selftest => exact sys s1 _
  case hold => exact .ite (setMode s1 4) (.refl s1)

/-! ### The report -/

theorem not_dmaReg_fcuLog (n : Nat) (h : n < 64) : ¬ DmaReg (Adr.fcuLogW0 n) ∧ ¬ DmaReg (Adr.fcuLogW1 n) := by
  simp only [DmaReg, Adr.fcuLogW0, Adr.fcuLogW1]
  omega

theorem logEntry (s : State) (f info c : Nat) (esc one : Bool) : DmaKeeps s (logEntry s f info c esc one) :=
  have ⟨h0, h1⟩ := not_dmaReg_fcuLog (field (s.rd Adr.fcuLogptr) 5 0) (Nat.mod_lt _ (by decide))
  ((wr s _ h0).trans (wr _ _ h1)).trans (wr _ _ (by unfold DmaReg; decide))

theorem inIdOrder (old s : State) : DmaKeeps s (inIdOrder old s) := by
  unfold Machine.inIdOrder
  refine .ite (.refl s) (trans (foldl (fun z e => ?_) _ s) (fcu _ _))
  have ⟨h0, h1⟩ := not_dmaReg_fcuLog ((field (old.rd Adr.fcuLogptr) 5 0 + e.2) % 64) (Nat.mod_lt _ (by decide))
  exact (wr z _ h0).trans (wr _ _ h1)

theorem reportOnce (s : State) (f info : Nat) (toA toB : Bool) : DmaKeeps s (reportOnce s f info toA toB).1 := by
  unfold Machine.reportOnce
  extract_lets useA useB c0 ra rb was cls shown esc s1 s2 fcu2 s3 s4 s5 s6 s7 s8 s9 s10
  split
  · exact .refl s
  · have h1 : DmaKeeps s s1 := logEntry s f info shown esc _
    have h4 : DmaKeeps s1 s4 := ((fcu s1 _).trans (fcu s2 _)).trans (hosts s3 _)
    have h6 : DmaKeeps s5 s6 := .ite (pulse s5 _) (.refl s5)
    have h7 : DmaKeeps s6 s7 := .ite (pulse s6 _) (.refl s6)
    have h8 : DmaKeeps s7 s8 := .ite (pulse s7 _) (.refl s7)
    exact (((((h1.trans h4).trans (pulse s4 _)).trans h6).trans h7).trans h8).trans
      ((countDisarm s8 was).trans (classAction s9 cls))

theorem reportVia (s : State) (f info : Nat) (toA toB : Bool) : DmaKeeps s (reportVia s f info toA toB) := by
  have hdis := ((reportOnce s f info toA toB).trans (reportOnce _ 170 0 true true)).trans
    ((pulse _ 774).trans (inIdOrder s _))
  exact .ite (.refl s) (.ite hdis (reportOnce s f info toA toB))

/-! ### READY, which a wake writes (R679) -/

theorem sramTouch (s : State) (w : Nat) : DmaKeeps s (sramUe s w) ∧ DmaKeeps s (sramTouch s w) := by
  have hue : DmaKeeps s (sramUe s w) :=
    (((up s _ (by unfold DmaReg; decide)).trans (wr _ _ (by unfold DmaReg; decide))).trans (pulse _ 880)).trans
      (reportVia _ 96 _ true true)
  have hce : DmaKeeps s (sramCe s w) := by
    unfold sramCe
    extract_lets held s1 s2 sram2 s3
    have h1 : DmaKeeps s s1 := up s _ (by unfold DmaReg; decide)
    have h2 : DmaKeeps s1 s2 := .ite (.refl s1) (wr s1 _ (by unfold DmaReg; decide))
    exact ((h1.trans h2).trans (sram s2 _)).trans (pulse s3 881)
  refine ⟨hue, ?_⟩
  unfold Machine.sramTouch
  split
  · exact hue
  · exact hce
  · exact .refl s

theorem storeOctets (s : State) (a : Nat) (kind : BitVec 2) (bs : List (Byte × Bool)) :
    DmaKeeps s (storeOctets s a kind bs) := by
  obtain ⟨m, hm⟩ := storeOctets_memory s a kind bs
  rw [hm]
  exact mem s m

theorem sramWriteWord (s : State) (w : Nat) (kind : BitVec 2) (bs : List (Byte × Bool)) :
    DmaKeeps s (sramWriteWord s w kind bs) := by
  obtain ⟨hue, htouch⟩ := sramTouch s w
  have hheal : DmaKeeps s (Machine.storeOctets (sramHeal s w) w kind bs) := (sram s _).trans (storeOctets _ w kind bs)
  unfold Machine.sramWriteWord
  extract_lets full
  split
  · exact .ite hheal hue
  · exact .ite hheal (htouch.trans (storeOctets _ w kind bs))
  · exact storeOctets s w kind bs

theorem writeReady (s : State) (v : Nat) : DmaKeeps s (writeReady s v) :=
  .ite (.refl s) ((sramWriteWord s _ _ _).trans (sramWriteWord _ _ _ _))

theorem report (s : State) (f info : Nat) : DmaKeeps s (report s f info) :=
  .ite ((reportVia s f info true true).trans (writeReady _ 1)) (reportVia s f info true true)

end DmaKeeps

end Sys2Proof.Machine
end

section
/-! The comparison fault of a DMA engine, and the statement (R332). -/

namespace Sys2Proof.Machine

theorem mem_engChans {x : Fin 2} {c : Fin 32} : c ∈ engChans x ↔ c.val / 16 = x.val := by
  simp [engChans, allFin32]

@[simp] theorem State.rd_setEngCur (s : State) (v : Vector (Option (Fin 16)) 2) (a : Nat) :
    State.rd { s with engCur := v } a = s.rd a := rfl

theorem AwakeKeeps.engCur (s : State) (v : Vector (Option (Fin 16)) 2) : AwakeKeeps s { s with engCur := v } :=
  fun h => ⟨h, rfl, .refl _⟩

/-- A channel whose engine has stopped. -/
def Chan.stopped (k : Chan) : Chan :=
  { k with state := .error, flying := [], fetchDue := false, abortDue := false, failed := none }

/-- A channel's end at its engine's stop: a running one shows the cause 0xB in RES1, and each pulses its event. -/
def stopChan (s : State) (c : Fin 32) : State :=
  pulse ((if s.chans[c].state = .running then
      s.up (res1Of c) fun w => setField (setField (setField w 39 38 0) 37 36 3) 35 32 0xB
    else s).upChan c Chan.stopped) (480 + c.val)

theorem stopChan_spec (s : State) (c : Fin 32) : (stopChan s c).chans = vmod s.chans c Chan.stopped
    ∧ (stopChan s c).triads = s.triads ∧ AwakeKeeps s (stopChan s c) := by
  unfold stopChan
  generalize hz : (if s.chans[c].state = ChanState.running then
    s.up (res1Of c) fun w => setField (setField (setField w 39 38 0) 37 36 3) 35 32 0xB else s) = z
  have hne : Adr.sysMode ≠ res1Of c := by simp only [Adr.sysMode, res1Of, Adr.dmaRes1]; omega
  have hregs : RegsOnly s z ∧ AwakeKeeps s z := by
    rw [← hz]
    split
    · exact ⟨.up s _ _, .up s _ hne⟩
    · exact ⟨.refl s, .refl s⟩
  have hp := RegsOnly.pulse (z.upChan c Chan.stopped) (480 + c.val)
  have hup : AwakeKeeps z (z.upChan c Chan.stopped) := fun h => ⟨h, rfl, .refl _⟩
  exact ⟨hp.chans.trans (congrArg (vmod · c Chan.stopped) hregs.1.chans), hp.triads.trans hregs.1.triads,
    (hregs.2.trans hup).trans (.pulse _ _)⟩

/-- The channels of a list stop, and the others stay. -/
theorem foldl_stopChan (l : List (Fin 32)) (s : State) :
    (∀ c : Fin 32, (l.foldl stopChan s).chans[c] = if c ∈ l then s.chans[c].stopped else s.chans[c])
      ∧ (l.foldl stopChan s).triads = s.triads ∧ AwakeKeeps s (l.foldl stopChan s) := by
  induction l generalizing s with
  | nil => exact ⟨fun c => rfl, rfl, .refl s⟩
  | cons d l ih =>
    obtain ⟨hchans, htri, hawake⟩ := stopChan_spec s d
    obtain ⟨ihc, iht, iha⟩ := ih (stopChan s d)
    refine ⟨fun c => ?_, iht.trans htri, hawake.trans iha⟩
    rw [List.foldl_cons, ihc, hchans]
    by_cases hcd : c = d
    · subst hcd
      rw [vmod_get_self, if_pos List.mem_cons_self]
      split <;> rfl
    · simp only [vmod_get_ne _ _ _ _ hcd, List.mem_cons, hcd, false_or]

/-- An engine's stop behind its segments: its channels end, STAT shows it, and no channel holds the engine. -/
def engineStop (s : State) (x : Fin 2) : State :=
  let z := ((engChans x).foldl stopChan s).setBitR (Adr.dmaEngStat x) 31
  { z with engCur := z.engCur.set x.val none x.isLt }

theorem engineStop_spec (s : State) (x : Fin 2) :
    (∀ c : Fin 32, (engineStop s x).chans[c] = if c ∈ engChans x then s.chans[c].stopped else s.chans[c])
      ∧ (engineStop s x).triads = s.triads ∧ AwakeKeeps s (engineStop s x) ∧ engStopped (engineStop s x) x = true := by
  obtain ⟨hchans, htri, hkeep⟩ := foldl_stopChan (engChans x) s
  obtain ⟨-, hbit⟩ := setBitR_spec ((engChans x).foldl stopChan s) (Adr.dmaEngStat x) (i := 31) (by decide)
  have hset : AwakeKeeps ((engChans x).foldl stopChan s) (((engChans x).foldl stopChan s).setBitR (Adr.dmaEngStat x) 31) :=
    .up _ _ (by simp only [Adr.sysMode, Adr.dmaEngStat]; omega)
  have hz := RegsOnly.setBitR ((engChans x).foldl stopChan s) (Adr.dmaEngStat x) 31
  unfold engineStop
  generalize ((engChans x).foldl stopChan s).setBitR (Adr.dmaEngStat x) 31 = z at hbit hset hz ⊢
  refine ⟨fun c => ?_, hz.triads.trans htri, (hkeep.trans hset).trans (.engCur z _), ?_⟩
  · rw [← hchans]
    exact congrArg (·[c]) hz.chans
  · rw [engStopped, State.rd_setEngCur]
    exact hbit

/-- What a comparison fault cuts off before the engine stops: the segments in flight of its channels (R332). -/
def cutEngine (s : State) (x : Fin 2) : State :=
  (engChans x).foldl (fun s c => s.chans[c].flying.foldl (fun s g => cutSegment s c g) s) s

theorem cutEngine_of_idle {s : State} {x : Fin 2} (h : ∀ c ∈ engChans x, s.chans[c].flying = []) : cutEngine s x = s := by
  unfold cutEngine
  generalize engChans x = l at h
  induction l with
  | nil => rfl
  | cons c l ih =>
    rw [List.foldl_cons, h c List.mem_cons_self]
    exact ih fun d hd => h d (List.mem_cons_of_mem _ hd)

theorem engineComparisonFault_runs {s : State} {x : Fin 2} (h : engStopped s x = false) (hawake : modeOf s ≠ 5) :
    exec (.engineComparisonFault x) s = .next (report (engineStop (cutEngine s x) x) (132 + x.val) 0) := by
  refine congrArg Host.Outcome.next ((State.powered_of_awake _ _ hawake).trans ((if_neg ?_).trans ?_))
  · rw [h]
    exact Bool.false_ne_true
  · rfl

theorem enginesStop : Clause.EnginesStop := by
  intro s x hrun hawake
  obtain ⟨hchans, htri, hkeep, hbit⟩ := engineStop_spec (cutEngine s x) x
  have hdma := DmaKeeps.report (engineStop (cutEngine s x) x) (132 + x.val) 0
  refine ⟨_, engineComparisonFault_runs hrun hawake, ?_, fun c hc => ?_, fun hidle => ?_⟩
  · rw [engStopped]
    exact hdma.bits _ (by simp only [DmaReg, Adr.dmaEngStat]; omega) 31 hbit
  · rw [hdma.chans, hchans, if_pos hc]
    exact ⟨rfl, rfl⟩
  · rw [cutEngine_of_idle hidle] at hchans htri hkeep hdma ⊢
    obtain ⟨-, hmem, -⟩ := (hkeep.trans (.report _ (132 + x.val) 0)) hawake
    refine ⟨fun c hc => ?_, hmem, (ReportKeeps.report _ _ 0).triads.trans htri⟩
    rw [hdma.chans, hchans, if_neg (mt mem_engChans.mp hc)]

/-- Settles O25: each command changes the one channel and its registers, and an engine's stop reaches its own channels. -/
theorem dmaCommands : Obligations.DmaCommands := ⟨channelCommands, enginesStop⟩

end Sys2Proof.Machine
end

section
/-! Octets of plain SRAM as a DMA channel reads and writes them (R322, R342, R345, R347, R348). -/

namespace Sys2Proof.Machine

/-! ### Ranges of plain octets -/

/-- Every octet of the range lies in a bank that is On, outside the secure region and the device table (R40, R361, R366, R449). -/
def PlainOctets (s : State) (a n : Nat) : Prop :=
  ∀ x, a ≤ x → x < a + n → sramHole s x = false ∧ (x < devTable ∨ devTable + 0x10000 ≤ x)

theorem PlainOctets.sub {s : State} {a n b m : Nat} (h : PlainOctets s a n) (hlo : a ≤ b) (hhi : b + m ≤ a + n) :
    PlainOctets s b m := fun x hb hm => h x (by omega) (by omega)

/-- Holes of SRAM are whole pages (R361, R366). -/
theorem sramHole_congr (s : State) {a b : Nat} (h : a / 4096 = b / 4096) : sramHole s a = sramHole s b := by
  have hbank : a / 0x200000 = b / 0x200000 := by omega
  have hsecure : (0x1600000 ≤ a ∧ a < 0x1640000) = (0x1600000 ≤ b ∧ b < 0x1640000) := by
    rw [eq_iff_iff]
    omega
  simp only [sramHole, hbank, hsecure]

theorem lt_sramSize_of_open {s : State} {a : Nat} (h : sramHole s a = false) : a < sramSize := by
  have hlen : s.sram.power.toList.length = 12 := s.sram.power.length_toList
  by_contra hge
  have hnone : s.sram.power.toList[a / 0x200000]? = none := by
    rw [List.getElem?_eq_none_iff, hlen]
    unfold sramSize at hge
    omega
  simp [sramHole, hnone] at h

theorem plainOctets_of_range {s : State} {a n : Nat} (h : plainRange s a n) : PlainOctets s a n := by
  obtain ⟨hpage, -, hopen, htable⟩ := h
  intro x hlo hhi
  refine ⟨?_, by omega⟩
  rw [← hopen]
  exact sramHole_congr s (by omega)

/-! ### Rows (R342) -/

theorem mem_rowPieces {k a n : Nat} {p : Nat × Nat} (h : p ∈ rowPieces k a n) : a ≤ p.1 ∧ 0 < p.2 ∧ p.1 + p.2 ≤ a + n := by
  induction k generalizing a n with
  | zero => exact absurd h List.not_mem_nil
  | succ k ih =>
    unfold rowPieces at h
    split at h
    · exact absurd h List.not_mem_nil
    · have hmin : 0 < Nat.min n (64 - a % 64) ∧ Nat.min n (64 - a % 64) ≤ n := by
        simp only [Nat.min_def]
        split <;> omega
      rcases List.mem_cons.mp h with rfl | h
      · exact ⟨le_rfl, hmin.1, Nat.add_le_add_left hmin.2 a⟩
      · obtain ⟨h1, h2, h3⟩ := ih h
        omega

theorem rowPieces_single {k a n : Nat} (hpos : 0 < n) (hrow : a % 64 + n ≤ 64) : rowPieces (k + 2) a n = [(a, n)] := by
  have hmin : Nat.min n (64 - a % 64) = n := Nat.min_eq_left (by omega)
  rw [rowPieces, if_neg (by omega), hmin]
  dsimp only
  rw [Nat.sub_self, rowPieces, if_pos rfl]

theorem rowsOf_single {a n : Nat} (hpos : 0 < n) (hrow : a % 64 + n ≤ 64) : rowsOf a n = [(a, n)] := rowPieces_single hpos hrow

/-! ### A read -/

/-- A fold that meets a fixed point at each element. -/
theorem foldl_fixed_of_mem {α β : Type} {f : β → α → β} {l : List α} {s : β} (h : ∀ x ∈ l, f s x = s) : l.foldl f s = s := by
  induction l with
  | nil => rfl
  | cons x l ih => rw [List.foldl_cons, h x List.mem_cons_self, ih fun y hy => h y (List.mem_cons_of_mem _ hy)]

section
variable {s : State} {c : Fin 32} (hp : PlainDma s c)
include hp

theorem sramRead_of_plainOctets {m : Master} {a n : Nat} (ho : PlainOctets s a n) : sramRead s m a n = (s, rdBytes s a n) := by
  have hrows : (rowsOf a n).foldl (fun s r => rowRead (portClear s m r.1 false) r.1 r.2) s = s := by
    refine foldl_fixed_of_mem fun r hr => ?_
    obtain ⟨hlo, hpos, hhi⟩ := mem_rowPieces hr
    rw [portClear_of_none hp.kept]
    exact rowRead_of_clean hp.clean (bankOn_of_open (ho r.1 hlo (by omega)).1) r.2
  have hoctets : sramOctets s a n = rdBytes s a n := by
    refine List.map_congr_left fun i hi => ?_
    have hopen := (ho (a + i) (Nat.le_add_right _ _) (Nat.add_lt_add_left (List.mem_range.mp hi) _)).1
    rw [bankOn_of_open hopen, sramError_of_clean hp.clean]
    rfl
  simp only [sramRead, hrows, hoctets]

/-- A DMA read of a plain range returns the octets there and changes nothing. -/
theorem dmaReadPiece_of_plain {a n : Nat} (hr : plainRange s a n) : dmaReadPiece s c a n = (s, rdBytes s a n) := by
  obtain ⟨-, -, hopen, -⟩ := id hr
  have ha := lt_sramSize_of_open hopen
  simp only [dmaReadPiece, perAddr_of_sram ha, memRead, not_ddr_of_sram ha, plainAddr_of_sram ha, inSecure_of_open hopen,
    Bool.false_and, Bool.false_eq_true, if_false]
  exact sramRead_of_plainOctets hp (plainOctets_of_range hr)

theorem dmaGather_of_plain {a n : Nat} (hr : plainRange s a n) : dmaGather s c [(a, n)] = (s, rdBytes s a n) := by
  simp only [dmaGather, dmaReadPiece_of_plain hp hr, List.append_nil]

end

/-! ### A write within one row -/

theorem storeOctets_of_disabled (s : State) (a : Nat) (kind : BitVec 2) {l : List (Byte × Bool)}
    (h : (l.any fun p => p.2) = false) : storeOctets s a kind l = s := by
  induction l generalizing a with
  | nil => rfl
  | cons p l ih =>
    obtain ⟨hhead, htail⟩ : p.2 = false ∧ _ := Bool.or_eq_false_iff.mp h
    rw [storeOctets, hhead]
    exact ih (a + 1) htail

/-- A store changes no part of the SRAM's own state. -/
theorem storeOctets_sram (s : State) (a : Nat) (kind : BitVec 2) (l : List (Byte × Bool)) :
    (storeOctets s a kind l).sram = s.sram := by
  obtain ⟨m, hm⟩ := storeOctets_memory s a kind l
  rw [hm]

/-- Words without errors take their octets one after another (R343, R347). -/
theorem sramWords_of_clean {s : State} (hclean : s.sram.errors = []) (w : Nat) {n : Nat} {l : List (Byte × Bool)}
    (hlen : l.length = 8 * n) : sramWords s w 0 n l = storeOctets s w 0 l := by
  induction n generalizing s w l with
  | zero =>
    rw [List.length_eq_zero_iff.mp hlen]
    rfl
  | succ n ih =>
    have hword : (if (l.take 8).any fun p => p.2 then sramWriteWord s w 0 (l.take 8) else s) = storeOctets s w 0 (l.take 8) := by
      split
      · rw [sramWriteWord, sramError_of_clean hclean]
      · next hoff => rw [storeOctets_of_disabled _ _ _ (Bool.not_eq_true _ ▸ hoff)]
    have hnext : (storeOctets s w 0 (l.take 8)).sram.errors = [] := by rw [storeOctets_sram, hclean]
    have hlen8 : (l.take 8).length = 8 := by rw [List.length_take]; omega
    simp only [sramWords, hword]
    rw [ih hnext (w + 8) (by rw [List.length_drop]; omega)]
    conv_rhs => rw [← List.take_append_drop 8 l, storeOctets_append, hlen8]

theorem rowWrite_of_clean {s : State} (hclean : s.sram.errors = []) {a : Nat} (hon : bankOn s a = true) (bs : List Byte) :
    rowWrite s a 0 (enabled bs) = storeOctets s a 0 (enabled bs) := by
  have hlen : (padWord a (enabled bs)).length = 8 * ((padWord a (enabled bs)).length / 8) := by
    simp only [padWord, List.length_append, List.length_replicate]
    omega
  cases hany : (enabled bs).any fun p => p.2 with
  | false => rw [rowWrite, hany, storeOctets_of_disabled _ _ _ hany]; rfl
  | true =>
    simp only [rowWrite, hany, hon, Bool.not_true, Bool.false_eq_true, if_false, if_true]
    rw [sramWords_of_clean hclean _ hlen, padWord, List.append_assoc, storeOctets_disabled, storeOctets_append,
      ← List.append_nil (List.replicate _ _), storeOctets_disabled, Nat.div_add_mod']
    rfl

/-- A write of plain octets within one row reaches the row as it stands (R342, R347). -/
theorem dmaWritePiece_row {s : State} {c : Fin 32} (hp : PlainDma s c) {a : Nat} {bs : List Byte} (hpos : 0 < bs.length)
    (hrow : a % 64 + bs.length ≤ 64) (ho : PlainOctets s a bs.length) :
    dmaWritePiece s c a bs = storeOctets s a 0 (enabled bs) := by
  obtain ⟨hopen, htable⟩ := ho a le_rfl (by omega)
  obtain ⟨-, hlast⟩ := ho (a + (bs.length - 1)) (by omega) (by omega)
  have ha := lt_sramSize_of_open hopen
  have hlen : (enabled bs).length = bs.length := List.length_map _
  have hout : a + bs.length ≤ devTable ∨ devTable + 0x10000 ≤ a := by
    unfold devTable at *
    omega
  have hrows : rowsWrite s a 0 (enabled bs) = storeOctets s a 0 (enabled bs) := by
    rw [rowsWrite, hlen, rowsOf_single hpos hrow, List.foldl_cons, List.foldl_nil, deviceHook, hlen, if_pos hout,
      List.take_of_length_le (Nat.le_of_eq hlen), rowWrite_of_clean hp.clean (bankOn_of_open hopen)]
  simp only [← hrows, dmaWritePiece, perAddr_of_sram ha, memWrite, not_ddr_of_sram ha, plainAddr_of_sram ha,
    inSecure_of_open hopen, aliasKind_of_sram ha, Bool.false_and, Bool.false_eq_true, if_false, sramWrite, hlen,
    rowsOf_single hpos hrow, List.foldl_cons, List.foldl_nil, portClear_of_none hp.kept]

/-! ### The writes of a segment -/

/-- The octets of a segment's writes, row by row. -/
def rowOctets : List (Nat × Nat) → List Byte → List (Nat × List Byte)
  | [], _ => []
  | p :: l, bs => (p.1, bs.take p.2) :: rowOctets l (bs.drop p.2)

theorem foldl_rowOctets (l : List (Nat × Nat)) (r : List (Nat × List Byte)) (bs : List Byte) :
    (l.foldl (fun (r : List (Nat × List Byte) × List Byte) p => (r.1 ++ [(p.1, r.2.take p.2)], r.2.drop p.2)) (r, bs)).1
      = r ++ rowOctets l bs := by
  induction l generalizing r bs with
  | nil => rw [rowOctets, List.append_nil]; rfl
  | cons p l ih => rw [List.foldl_cons, ih, rowOctets, List.append_assoc]; rfl

theorem segRows_of_plain {g : Seg} {b n : Nat} (hb : b < sramSize) (hdst : g.dst = [(b, n)]) (bs : List Byte) :
    segRows g bs = rowOctets (rowsOf b n) bs := by
  have hrows : (g.dst.flatMap fun p => if (perAddr p.1).isSome then [p] else rowsOf p.1 p.2) = rowsOf b n := by
    rw [hdst, List.flatMap_singleton, perAddr_of_sram hb]
    rfl
  simp only [segRows, hrows]
  exact foldl_rowOctets _ [] bs

theorem plainDma_congr {s z : State} {c : Fin 32} (hp : PlainDma s c) (hregs : z.regs = s.regs) (hsram : z.sram = s.sram) :
    PlainDma z c where
  physical := by rw [State.rd_congr hregs]; exact hp.physical
  windows t := by
    rw [← hp.windows t]
    simp only [windowsActive, State.rd_congr hregs]
  clean := by rw [hsram]; exact hp.clean
  kept b := by rw [hsram]; exact hp.kept b

theorem sramHole_of_sram {s z : State} (h : z.sram = s.sram) (a : Nat) : sramHole z a = sramHole s a := by
  rw [sramHole, h, sramHole]

/-- The rows of plain octets are stored one behind another. -/
theorem foldl_dmaWritePiece {s : State} {c : Fin 32} (hp : PlainDma s c) {k a : Nat} {bs : List Byte}
    (hfuel : 0 < bs.length → a % 64 + bs.length ≤ 64 * k) (ho : PlainOctets s a bs.length) :
    (rowOctets (rowPieces k a bs.length) bs).foldl (fun s p => dmaWritePiece s c p.1 p.2) s = storeOctets s a 0 (enabled bs) := by
  induction k generalizing s a bs with
  | zero =>
    have hnil : bs = [] := List.length_eq_zero_iff.mp (by omega)
    subst hnil
    rfl
  | succ k ih =>
    by_cases hzero : bs.length = 0
    · rw [List.length_eq_zero_iff.mp hzero]
      rfl
    obtain ⟨m, hm⟩ : ∃ m, Nat.min bs.length (64 - a % 64) = m := ⟨_, rfl⟩
    have hmle : 0 < m ∧ m ≤ bs.length ∧ a % 64 + m ≤ 64 ∧ (m = bs.length ∨ (a + m) % 64 = 0) := by
      rw [← hm]
      simp only [Nat.min_def]
      split <;> omega
    obtain ⟨hmpos, hmlen, hmrow, hmend⟩ := hmle
    have htake : (bs.take m).length = m := List.length_take_of_le hmlen
    have hrow : dmaWritePiece s c a (bs.take m) = storeOctets s a 0 (enabled (bs.take m)) :=
      dmaWritePiece_row hp (by rw [htake]; exact hmpos) (by rw [htake]; exact hmrow) (htake.symm ▸ ho.sub le_rfl (by omega))
    have hsram := storeOctets_sram s a 0 (enabled (bs.take m))
    have hregs : (storeOctets s a 0 (enabled (bs.take m))).regs = s.regs := by
      obtain ⟨mem, hmem⟩ := storeOctets_memory s a 0 (enabled (bs.take m))
      rw [hmem]
    have hrest : PlainOctets (storeOctets s a 0 (enabled (bs.take m))) (a + m) (bs.drop m).length := fun x hlo hhi => by
      rw [sramHole_of_sram hsram]
      exact ho x (by omega) (by rw [List.length_drop] at hhi; omega)
    have hnext := ih (plainDma_congr hp hregs hsram) (a := a + m) (bs := bs.drop m) (by rw [List.length_drop]; omega) hrest
    rw [List.length_drop] at hnext
    rw [rowPieces, if_neg hzero, hm, rowOctets, List.foldl_cons, hrow, hnext]
    conv_rhs => rw [← List.take_append_drop m bs, enabled, List.map_append, storeOctets_append, List.length_map, htake]
    rfl

end Sys2Proof.Machine
end

section
/-! The translations of a DMA channel that runs without them, and the fetch of its descriptor (R288, R317, R319, R320, R323,
R324). -/

namespace Sys2Proof.Machine

/-! ### Plain SRAM under an untranslated stamp -/

section
variable {s : State} {c : Fin 32} (hp : PlainDma s c)
include hp

theorem chanReq_ten_of_plain (kind : XKind) : (chanReq s c kind).ten = false := hp.physical

theorem walkWaits_of_plain (kind : XKind) (va : Word) : walkWaits s (chanReq s c kind) va = false := by
  simp only [walkWaits, chanReq_ten_of_plain hp, Bool.false_and]

theorem translateFill_of_plain (kind : XKind) (va : Word) : translateFill s (chanReq s c kind) va = s := by
  simp only [translateFill, chanReq_ten_of_plain hp, Bool.not_false, Bool.true_or, if_true]

/-- A DMA access to plain SRAM passes its checks and reaches its own address (R25, R288, R296). -/
theorem translate_of_plain {kind : XKind} (hk : kind = .dmaRead ∨ kind = .dmaWrite) {va : Word}
    (hopen : sramHole s va.toNat = false) :
    ∃ attr, translate s (chanReq s c kind) va = .ok ⟨va.toNat, attr, 0⟩ := by
  have ha := lt_sramSize_of_open hopen
  have hregion := regionOf_of_sram ha hopen
  have hhigh : field va 63 40 = 0 := by
    unfold sramSize at ha
    unfold field
    rw [Nat.div_eq_of_lt (by omega), Nat.zero_mod]
  obtain ⟨attr, hattr⟩ : ∃ attr, impliedAttr s va.toNat (chanReq s c kind).user = attr := ⟨_, rfl⟩
  have hbits : attrR attr = true ∧ attrW attr = true ∧ attrU attr = (chanReq s c kind).user ∧ attrDev attr = false := by
    rw [← hattr]
    simp only [impliedAttr, hregion]
    cases (chanReq s c kind).user <;> decide
  obtain ⟨hr, hw, hu, hdev⟩ := hbits
  have hwindow : windowOk s (chanReq s c kind).triad va.toNat kind (chanReq s c kind).mLevel false = true := by
    simp [windowOk, hp.windows]
  have hkind : (chanReq s c kind).kind = kind := rfl
  refine ⟨attr, ?_⟩
  simp only [translate, chanReq_ten_of_plain hp, hhigh, hattr, Bool.not_false, if_true, ne_eq, not_true_eq_false, if_false]
  rcases hk with rfl | rfl <;> simp [checkAccess, hkind, hregion, hr, hw, hu, hdev, hwindow, pathOk]

/-! ### The descriptor -/

/-- A valid descriptor of some length is loaded, and with TWAIT its channel waits for its start (R320, R323, R324). -/
theorem descFetch_of_plain {d : Desc} (hdue : s.chans[c].fetchDue = true) (hfly : s.chans[c].flying = [])
    (hr : plainRange s (s.rd (res0Of c)).toNat 32) (hd : d = descOf (rdBytes s (s.rd (res0Of c)).toNat 32))
    (hvalid : d.invalid = false) (hlen : d.len ≠ 0) : descFetch s c =
      (let z := s.upChan c fun k => { k with desc := some d, nextSeg := 0, fetchDue := false }
       if d.ctl.getLsbD 8 then z.upChan c fun k => { k with state := .armed } else z) := by
  obtain ⟨-, -, hopen, -⟩ := id hr
  obtain ⟨attr, hx⟩ := translate_of_plain hp (.inl rfl) hopen
  simp only [descFetch, hdue, hfly, List.isEmpty_nil, Bool.not_true, Bool.or_self, Bool.false_eq_true, if_false,
    walkWaits_of_plain hp, translateFill_of_plain hp, hx, ddrWaits_of_sram (lt_sramSize_of_open hopen),
    dmaReadPiece_of_plain hp hr, ← hd, hvalid, hlen]

end

theorem descriptorFetch_completes {s : State} {c : Fin 32} (hp : PlainDma s c) {d : Desc}
    (hdue : s.chans[c].fetchDue = true) (hfly : s.chans[c].flying = []) (hr : plainRange s (s.rd (res0Of c)).toNat 32)
    (hd : d = descOf (rdBytes s (s.rd (res0Of c)).toNat 32)) (hvalid : d.invalid = false) (hlen : d.len ≠ 0) :
    Completes (.descriptorFetch c) s fun s' =>
      s'.chans[c] = { s.chans[c] with desc := some d, nextSeg := 0, fetchDue := false
                                      state := if d.ctl.getLsbD 8 then .armed else s.chans[c].state }
      ∧ (∀ e : Fin 32, e ≠ c → s'.chans[e] = s.chans[e]) ∧ s'.mem = s.mem ∧ s'.regs = s.regs ∧ s'.triads = s.triads := by
  refine ⟨_, congrArg Host.Outcome.next (descFetch_of_plain hp hdue hfly hr hd hvalid hlen), ?_⟩
  dsimp only
  split <;> exact ⟨by simp only [State.upChan_self], fun e he => by simp only [State.upChan_ne _ _ he], rfl, rfl, rfl⟩

end Sys2Proof.Machine
end

section
/-! The start of a segment (R325 to R329). -/

namespace Sys2Proof.Machine

/-! ### The channel that starts -/

/-- One channel that can run is selected (R328). -/
theorem selectChan_of_alone {s : State} {c : Fin 32} (hrun : runnable s c = true)
    (hothers : ∀ e ∈ engChans (engOf c), e ≠ c → runnable s e = false) : selectChan s (engOf c) = some c := by
  have hmem : c ∈ engChans (engOf c) := mem_engChans.mpr rfl
  have honly : (engChans (engOf c)).filter (runnable s) = [c] := by
    have hsame : (engChans (engOf c)).filter (runnable s) = (engChans (engOf c)).filter (· == c) := by
      refine List.filter_congr fun e he => ?_
      by_cases hec : e = c
      · rw [hec, hrun, beq_self_eq_true]
      · rw [hothers e he hec, beq_false_of_ne hec]
    have hnodup : (engChans (engOf c)).Nodup := (List.nodup_finRange 32).filter _
    rw [hsame, List.filter_beq, List.count_eq_one_of_mem hnodup hmem]
    rfl
  have htop : ([c].filter fun d => decide (chanPrio s d = [c].foldl (fun m d => Nat.max m (chanPrio s d)) 0)) = [c] := by
    simp
  simp only [selectChan, honly, htop, List.find?_singleton]
  cases keepsEngine s c with
  | true => rfl
  | false =>
    cases s.engCur[engOf c] with
    | none => rfl
    | some n => by_cases hn : n.val < (chOf c).val <;> simp [hn]

theorem yieldEngine_of_resting {s : State} {c : Fin 32} (h : s.chans[c].state ≠ .running) : yieldEngine s c = s :=
  if_neg fun ⟨hrun, _⟩ => h hrun

/-- Where no channel of the engine runs, the turn changes the one channel and the engine's holder. -/
theorem turnTo_of_ready {s : State} {c : Fin 32} (hk : s.chans[c].state = .ready)
    (hothers : ∀ e ∈ engChans (engOf c), e ≠ c → s.chans[e].state ≠ .running) :
    (turnTo s c).chans[c] = { s.chans[c] with state := .running, turn := 0 }
      ∧ (∀ e : Fin 32, e ≠ c → (turnTo s c).chans[e] = s.chans[e]) ∧ (turnTo s c).regs = s.regs
      ∧ (turnTo s c).sram = s.sram ∧ (turnTo s c).mem = s.mem ∧ (turnTo s c).triads = s.triads := by
  have hstate : (s.chans[c].state == ChanState.running) = false := by rw [hk]; rfl
  have hkeeps : keepsEngine s c = false := by rw [keepsEngine, hstate, Bool.and_false, Bool.false_and]
  have hrests (e : Fin 32) (he : e ∈ engChans (engOf c)) : s.chans[e].state ≠ .running := by
    by_cases hec : e = c
    · rw [hec]
      exact fun hrun => nomatch hk.symm.trans hrun
    · exact hothers e he hec
  unfold turnTo
  rw [hkeeps]
  dsimp only
  rw [if_neg Bool.false_ne_true, foldl_fixed_of_mem fun e he => yieldEngine_of_resting ?_]
  · exact ⟨State.upChan_self .., fun e he => State.upChan_ne _ _ he, rfl, rfl, rfl, rfl⟩
  · exact hrests e he

/-! ### Its segment -/

theorem sidePieces_of_plain {z : State} {base : Word} {off n unit : Nat} (hpos : 0 < n)
    (hr : plainRange z (base.toNat + off) n) : sidePieces base true unit off n = [(base.toNat + off, n)] := by
  obtain ⟨hpage, hend, hopen, -⟩ := hr
  have ha := lt_sramSize_of_open hopen
  unfold sramSize at ha
  have hmod : (base.toNat + off) % 2 ^ 64 = base.toNat + off := Nat.mod_eq_of_lt (by omega)
  have hmin : Nat.min n (4096 - (base.toNat + off) % 4096) = n := Nat.min_eq_left (by omega)
  rw [sidePieces, if_pos rfl, hmod, pagePieces, if_neg (by omega), hmin]
  dsimp only
  rw [Nat.sub_self, pagePieces, if_pos rfl]

theorem sideCheck_of_plain {z : State} {c : Fin 32} (hp : PlainDma z c) {kind : XKind} (hk : kind = .dmaRead ∨ kind = .dmaWrite)
    {a n : Nat} (hr : plainRange z a n) : sideCheck z (chanReq z c kind) [(a, n)] = (z, .ok [(a, n)]) := by
  obtain ⟨-, -, hopen, -⟩ := hr
  have ha := lt_sramSize_of_open hopen
  unfold sramSize at ha
  have hnat : (BitVec.ofNat 64 a).toNat = a := by rw [BitVec.toNat_ofNat]; omega
  obtain ⟨attr, hx⟩ := translate_of_plain hp hk (va := BitVec.ofNat 64 a) (hnat.symm ▸ hopen)
  simp only [sideCheck, hx, translateFill_of_plain hp, hnat]

/-- The segment that a channel starts on plain octets (R325, R326). -/
def plainSeg (z : State) (c : Fin 32) (d : Desc) (n : Nat) : Seg :=
  let k := z.chans[c]
  let q := chanReq z c .dmaRead
  { id := k.started, num := k.nextSeg, bytes := n, src := [(d.src.toNat + k.nextSeg * 256, n)]
    dst := [(d.dst.toNat + k.nextSeg * 256, n)], triad := q.triad, asid := q.asid, pages := [], live := true, moved := false
    kept := 0 }

theorem startSegment_of_plain {z : State} {c : Fin 32} (hp : PlainDma z c) {d : Desc} {n : Nat} (hd : z.chans[c].desc = some d)
    (hcan : canStart z c = true) (hsinc : d.ctl.getLsbD 2 = true) (hdinc : d.ctl.getLsbD 3 = true)
    (hn : Nat.min 256 (d.len.toNat - z.chans[c].nextSeg * 256) = n) (hpos : 0 < n)
    (hsrc : plainRange z (d.src.toNat + z.chans[c].nextSeg * 256) n)
    (hdst : plainRange z (d.dst.toNat + z.chans[c].nextSeg * 256) n) :
    startSegment z c = z.upChan c fun k => { k with
      nextSeg := k.nextSeg + 1, flying := k.flying ++ [plainSeg z c d n], turn := k.turn + 1, started := k.started + 1 } := by
  have hpages (kind : XKind) (l : List (Nat × Nat)) : pagesUsed z c l kind = [] := by
    simp only [pagesUsed, chanReq_ten_of_plain hp, Bool.not_false, if_true]
  simp only [startSegment, hd, hcan, Bool.not_true, Bool.false_eq_true, if_false, hn, hsinc, hdinc,
    sidePieces_of_plain hpos hsrc, sidePieces_of_plain hpos hdst, List.any_cons, List.any_nil, walkWaits_of_plain hp,
    Bool.or_self, sideCheck_of_plain hp (.inl rfl) hsrc, sideCheck_of_plain hp (.inr rfl) hdst, hpages, List.append_nil]
  rfl

/-- The selected channel takes the engine, and its next segment is in flight (R325 to R328). -/
theorem segmentStart_completes {s : State} {c : Fin 32} (hp : PlainDma s c) {d : Desc} {n : Nat}
    (hk : s.chans[c].state = .ready) (hd : s.chans[c].desc = some d) (hfly : s.chans[c].flying = []) (hcan : canStart s c = true)
    (hengine : engStopped s (engOf c) = false) (habort : s.chans[c].abortDue = false) (hfailed : s.chans[c].failed = none)
    (hothers : ∀ e ∈ engChans (engOf c), e ≠ c → runnable s e = false ∧ s.chans[e].state ≠ .running)
    (hsinc : d.ctl.getLsbD 2 = true) (hdinc : d.ctl.getLsbD 3 = true)
    (hn : Nat.min 256 (d.len.toNat - s.chans[c].nextSeg * 256) = n)
    (hsrc : plainRange s (d.src.toNat + s.chans[c].nextSeg * 256) n)
    (hdst : plainRange s (d.dst.toNat + s.chans[c].nextSeg * 256) n) :
    Completes (.segmentStart (engOf c)) s fun s' =>
      s'.chans[c] = { s.chans[c] with state := .running, nextSeg := s.chans[c].nextSeg + 1, flying := [plainSeg s c d n], turn := 1
                                      started := s.chans[c].started + 1 }
      ∧ (∀ e : Fin 32, e ≠ c → s'.chans[e] = s.chans[e]) ∧ s'.mem = s.mem ∧ s'.regs = s.regs ∧ s'.triads = s.triads := by
  have hrun : runnable s c = true := by
    rw [runnable, hk, habort, hfailed]
    rfl
  have hpos : 0 < n := by
    simp only [canStart, hd, Bool.and_eq_true, decide_eq_true_eq] at hcan
    rw [← hn]
    exact Nat.lt_min.mpr ⟨by decide, by omega⟩
  have hselect := selectChan_of_alone hrun fun e he hec => (hothers e he hec).1
  obtain ⟨hzc, hze, hregs, hsram, hmem, htri⟩ := turnTo_of_ready hk fun e he hec => (hothers e he hec).2
  have hexec : exec (.segmentStart (engOf c)) s = .next (startSegment (turnTo s c) c) := by
    refine congrArg Host.Outcome.next ?_
    rw [segmentStart, hengine, if_neg Bool.false_ne_true, hselect]
  generalize turnTo s c = z at hzc hze hregs hsram hmem htri hexec
  have hrange {a m : Nat} (h : plainRange s a m) : plainRange z a m := by
    rw [plainRange, sramHole_of_sram hsram]
    exact h
  have hcanz : canStart z c = true := by
    rw [canStart, hzc]
    exact hcan
  have hstart := startSegment_of_plain (plainDma_congr hp hregs hsram) (d := d) (n := n) (by rw [hzc]; exact hd) hcanz hsinc hdinc
    (by rw [hzc]; exact hn) hpos (by rw [hzc]; exact hrange hsrc) (by rw [hzc]; exact hrange hdst)
  have hseg : plainSeg z c d n = plainSeg s c d n := by
    simp only [plainSeg, hzc, chanReq, State.rd_congr hregs]
  refine ⟨_, hexec, ?_⟩
  rw [hstart, hseg]
  refine ⟨?_, fun e he => (State.upChan_ne _ _ he).trans (hze e he), hmem, hregs, htri⟩
  simp only [State.upChan_self, hzc, hfly]
  rfl

end Sys2Proof.Machine
end

section
/-! The end of a segment, and the statement (R326, R327, R338, R348). -/

namespace Sys2Proof.Machine

/-! ### The accesses -/

/-- Segment id of the channel has made its accesses. -/
def Chan.marked (k : Chan) (id : Nat) : Chan :=
  { k with flying := k.flying.map fun h => if h.id = id then { h with moved := true } else h }

theorem Chan.marked_single {k : Chan} {g : Seg} (h : k.flying = [g]) :
    k.marked g.id = { k with flying := [{ g with moved := true }] } := by
  rw [Chan.marked, h, List.map_singleton, if_pos rfl]

theorem plainRange_of_sram {s z : State} (h : z.sram = s.sram) {a n : Nat} (hr : plainRange s a n) : plainRange z a n := by
  rw [plainRange, sramHole_of_sram h]
  exact hr

theorem length_rdBytes (s : State) (a n : Nat) : (rdBytes s a n).length = n := by
  rw [rdBytes, List.length_map, List.length_range]

theorem getD_rdBytes (s : State) (a : Nat) {n i : Nat} (h : i < n) : (rdBytes s a n).getD i 0 = rdByte s (a + i) := by
  rw [List.getD_eq_getElem _ _ (by rw [length_rdBytes]; exact h)]
  simp only [rdBytes, List.getElem_map, List.getElem_range]

/-- One write of a segment: a number of `hit` meets the owner port, where there is one. -/
def segWrite (s : State) (c : Fin 32) (id : Nat) (hit : List Nat) (p : (Nat × List Byte) × Nat) : State :=
  match hit.contains p.2, refusingBank s .fabric p.1.1 with
  | true, some bank => segCollide s c id bank p.1.1 p.1.2
  | _, _ => dmaWritePiece s c p.1.1 p.1.2

theorem segWrite_nil (s : State) (c : Fin 32) (id : Nat) (p : (Nat × List Byte) × Nat) :
    segWrite s c id [] p = dmaWritePiece s c p.1.1 p.1.2 := rfl

theorem segWrite_hit {s : State} {c : Fin 32} {id b : Nat} {bs : List Byte} {bank : Fin 12}
    (h : refusingBank s .fabric b = some bank) : segWrite s c id [0] ((b, bs), 0) = segCollide s c id bank b bs := by
  simp only [segWrite, List.contains_cons, beq_self_eq_true, Bool.true_or, h]

section
variable {s : State} {c : Fin 32} (hp : PlainDma s c) {g : Seg} {a b n : Nat} (hsrc : g.src = [(a, n)])
  (hdst : g.dst = [(b, n)]) (ha : plainRange s a n) (hb : plainRange s b n)
include hp hsrc hdst ha hb

/-- The accesses of a segment on plain octets: what its source holds goes to its rows, one after another (R326, R342). -/
theorem moveSegment_rows (hit : List Nat) : moveSegment s c g hit =
    (rowOctets (rowsOf b n) (rdBytes s a n)).zipIdx.foldl (fun s p => segWrite s c g.id hit p)
      (s.upChan c fun k => k.marked g.id) := by
  obtain ⟨-, -, hopen, -⟩ := id hb
  obtain ⟨y, hy⟩ : ∃ y, (s.upChan c fun k => k.marked g.id) = y := ⟨_, rfl⟩
  have hkeep : y.regs = s.regs ∧ y.sram = s.sram ∧ y.mem = s.mem := by
    rw [← hy]
    exact ⟨rfl, rfl, rfl⟩
  obtain ⟨hregs, hsram, hmem⟩ := hkeep
  have hread : rdBytes y a n = rdBytes s a n := by simp only [rdBytes, rdByte, hmem]
  have hgather := dmaGather_of_plain (plainDma_congr hp hregs hsram) (plainRange_of_sram hsram ha)
  rw [hread] at hgather
  rw [← segRows_of_plain (lt_sramSize_of_open hopen) hdst, hy]
  have hmark : (s.upChan c fun k => { k with flying := k.flying.map fun h => if h.id = g.id then { h with moved := true } else h })
    = y := hy
  simp only [moveSegment, hmark, hsrc, hgather]
  rfl

/-- Where no write meets the owner port, the octets of the source are stored at the destination. -/
theorem moveSegment_stores : moveSegment s c g [] =
    storeOctets (s.upChan c fun k => k.marked g.id) b 0 (enabled (rdBytes s a n)) := by
  have hlen := length_rdBytes s a n
  have hfuel : 0 < (rdBytes s a n).length → b % 64 + (rdBytes s a n).length ≤ 64 * (n / 64 + 2) := by omega
  have hplain : PlainDma (s.upChan c fun k => k.marked g.id) c := plainDma_congr hp rfl rfl
  have hoctets : PlainOctets (s.upChan c fun k => k.marked g.id) b (rdBytes s a n).length := by
    rw [hlen]
    exact plainOctets_of_range (plainRange_of_sram rfl hb)
  have hstore := foldl_dmaWritePiece hplain hfuel hoctets
  rw [hlen] at hstore
  rw [moveSegment_rows hp hsrc hdst ha hb, ← hstore]
  refine Eq.trans ?_ (congrArg (List.foldl _ _) (List.zipIdx_map_fst 0 _))
  simp only [List.foldl_map, segWrite_nil, rowsOf]

end

/-! ### A write that meets the owner port (R338, R348) -/

/-- No bank is the fabric's own (R339). -/
theorem ownerOf_ne_fabric : ∀ b : Fin 12, (ownerOf b.val != .fabric) = true := by decide

theorem refusingBank_of_open {s : State} {a : Nat} {bank : Fin 12} (hopen : sramHole s a = false)
    (hbank : a / 0x200000 = bank.val) : refusingBank s .fabric a = some bank := by
  have ha := lt_sramSize_of_open hopen
  simp only [refusingBank, plainAddr_of_sram ha, dif_pos bank.isLt, bankOn_of_open hopen, inSecure_of_open hopen, hbank,
    ownerOf_ne_fabric, Bool.not_false, Bool.or_true, Bool.and_self, if_true]

/-- What a bank that keeps a write leaves (R348, R349). -/
theorem collide_spec (s : State) (b : Fin 12) (w : Kept) : (collide s b w).chans = s.chans ∧ (collide s b w).mem = s.mem
    ∧ (collide s b w).triads = s.triads ∧ (collide s b w).sram.collided[b] = some w ∧ SameRegs s (collide s b w) [Adr.srbColcnt] := by
  unfold collide
  obtain ⟨z, hz⟩ : ∃ z, { s with sram := { s.sram with collided := s.sram.collided.set b.val (some w) b.isLt } } = z := ⟨_, rfl⟩
  have hrd : ∀ r, s.rd r = z.rd r := fun r => (State.rd_congr (by rw [← hz]) r).symm
  refine ⟨?_, ?_, ?_, ?_, fun r hr => ?_⟩
  · exact State.up_chans ..
  · exact State.up_mem ..
  · exact State.up_triads ..
  · rw [State.up_sram]
    exact Vector.getElem_set_self _
  · rw [hrd, ← hz]
    exact State.rd_up_ne _ _ _ _ fun e => hr (List.mem_singleton.mpr e)

/-- The segment's one write waits in its bank (R348, R349). -/
def Chan.keptOne (k : Chan) (id : Nat) : Chan :=
  { k with flying := k.flying.map fun g => if g.id = id then { g with kept := g.kept + 1 } else g }

theorem moveSegment_collides {s : State} {c : Fin 32} (hp : PlainDma s c) {g : Seg} {a b n : Nat} (hsrc : g.src = [(a, n)])
    (hdst : g.dst = [(b, n)]) (ha : plainRange s a n) (hb : plainRange s b n) {bank : Fin 12}
    (hbank : b / 0x200000 = bank.val) (hpos : 0 < n) (hrow : b % 64 + n ≤ 64) : moveSegment s c g [0] =
      (collide (s.upChan c fun k => k.marked g.id) bank ⟨.seg c g.id, b, enabled (rdBytes s a n)⟩).upChan c
        fun k => k.keptOne g.id := by
  obtain ⟨-, -, hopen, -⟩ := id hb
  have hrows : rowOctets (rowsOf b n) (rdBytes s a n) = [(b, rdBytes s a n)] := by
    rw [rowsOf_single hpos hrow, rowOctets, rowOctets, List.take_of_length_le (Nat.le_of_eq (length_rdBytes s a n))]
  have hrefuse : refusingBank (s.upChan c fun k => k.marked g.id) .fabric b = some bank :=
    refusingBank_of_open ((sramHole_of_sram rfl b).trans hopen) hbank
  have hclear : portClear (s.upChan c fun k => k.marked g.id) .fabric (plainAddr b) true = s.upChan c fun k => k.marked g.id :=
    portClear_of_none (s := s.upChan c fun k => k.marked g.id) hp.kept _ _ _
  rw [moveSegment_rows hp hsrc hdst ha hb, hrows]
  rw [List.zipIdx_singleton, List.foldl_cons, List.foldl_nil, segWrite_hit hrefuse, segCollide, hclear]
  rfl

/-! ### The end of the segment -/

/-- A pre-empted channel yields when nothing of it is in flight (R329). -/
def Chan.yielded (k : Chan) (held : Prop) [Decidable held] : Chan :=
  { k with state := if k.state = .running ∧ ¬held then .ready else k.state }

theorem yieldEngine_spec {s : State} {c : Fin 32} (hfly : s.chans[c].flying = []) :
    (yieldEngine s c).chans[c] = s.chans[c].yielded (s.engCur[engOf c] = some (chOf c))
      ∧ (∀ e : Fin 32, e ≠ c → (yieldEngine s c).chans[e] = s.chans[e])
      ∧ (yieldEngine s c).regs = s.regs ∧ (yieldEngine s c).mem = s.mem ∧ (yieldEngine s c).triads = s.triads := by
  unfold yieldEngine Chan.yielded
  dsimp only
  by_cases hgo : s.chans[c].state = .running ∧ s.engCur[engOf c] ≠ some (chOf c)
  · rw [if_pos ⟨hgo.1, hfly, hgo.2⟩, if_pos hgo]
    exact ⟨vmod_get_self _ _ _, fun e he => vmod_get_ne _ _ _ _ he, rfl, rfl, rfl⟩
  · rw [if_neg fun h => hgo ⟨h.1, h.2.2⟩, if_neg hgo]
    exact ⟨rfl, fun _ _ => rfl, rfl, rfl, rfl⟩

/-- The state behind a segment's last write: it is in flight no more, and DONE counts its octets (R327). -/
def segmentDone (s : State) (c : Fin 32) (g : Seg) : State :=
  (s.upChan c fun k => { k with flying := k.flying.filter fun h => decide (h.id ≠ g.id) }).up (res1Of c)
    fun w => setField w 31 0 (field w 31 0 + g.bytes)

theorem segmentDone_spec (s : State) {c : Fin 32} {g h : Seg} (hfly : s.chans[c].flying = [h]) (hid : h.id = g.id) :
    (segmentDone s c g).chans[c] = { s.chans[c] with flying := [] }
      ∧ (∀ e : Fin 32, e ≠ c → (segmentDone s c g).chans[e] = s.chans[e])
      ∧ chanDone (segmentDone s c g) c = (chanDone s c + g.bytes) % 2 ^ 32 ∧ SameRegs s (segmentDone s c g) [res1Of c]
      ∧ (segmentDone s c g).mem = s.mem ∧ (segmentDone s c g).triads = s.triads ∧ (segmentDone s c g).engCur = s.engCur := by
  have hnone : [h].filter (fun h => decide (h.id ≠ g.id)) = [] := by simp [hid]
  refine ⟨?_, fun e he => vmod_get_ne s.chans c e _ he, ?_, fun r hr => ?_, rfl, rfl, rfl⟩
  · refine (vmod_get_self s.chans c _).trans ?_
    rw [hfly, hnone]
  · rw [chanDone, segmentDone, State.rd_up_self, State.rd_upChan, field_setField_self _ _ (by decide)]
    rfl
  · exact State.rd_up_ne _ _ _ _ fun e => hr (List.mem_singleton.mpr e)

/-- The last segment in flight of a descriptor that has more to copy (R327). -/
theorem segmentEnds_of_partial {s : State} {c : Fin 32} {g h : Seg} {d : Desc} (hlive : g.live = true)
    (hfly : s.chans[c].flying = [h]) (hid : h.id = g.id) (habort : s.chans[c].abortDue = false)
    (hfailed : s.chans[c].failed = none) (hd : s.chans[c].desc = some d) (hmore : chanDone s c + g.bytes < d.len.toNat) :
    segmentEnds s c g = yieldEngine (segmentDone s c g) c ∧ chanDone (segmentDone s c g) c = chanDone s c + g.bytes := by
  obtain ⟨hchan, -, hdone, -, -, -, -⟩ := segmentDone_spec s hfly hid
  have hsum : chanDone (segmentDone s c g) c = chanDone s c + g.bytes := by
    rw [hdone, Nat.mod_eq_of_lt (by have := d.len.isLt; omega)]
  refine ⟨?_, hsum⟩
  have hnot : ¬ d.len.toNat ≤ chanDone (segmentDone s c g) c := by rw [hsum]; omega
  obtain ⟨z, hz⟩ : ∃ z, segmentDone s c g = z := ⟨_, rfl⟩
  have hup : (s.upChan c fun k => { k with flying := k.flying.filter fun h => decide (h.id ≠ g.id) }).up (res1Of c)
    (fun w => setField w 31 0 (field w 31 0 + g.bytes)) = z := hz
  rw [hz] at hchan hnot ⊢
  simp only [segmentEnds, hlive, Bool.not_true, Bool.false_eq_true, if_false, hup, hchan, List.isEmpty_nil, habort, hfailed, hd,
    hnot]

/-- What the end of such a segment leaves. -/
theorem segmentEnds_spec {s : State} {c : Fin 32} {g h : Seg} {d : Desc} (hlive : g.live = true)
    (hfly : s.chans[c].flying = [h]) (hid : h.id = g.id) (habort : s.chans[c].abortDue = false)
    (hfailed : s.chans[c].failed = none) (hd : s.chans[c].desc = some d) (hmore : chanDone s c + g.bytes < d.len.toNat) :
    (segmentEnds s c g).chans[c] = Chan.yielded { s.chans[c] with flying := [] } (s.engCur[engOf c] = some (chOf c))
      ∧ (∀ e : Fin 32, e ≠ c → (segmentEnds s c g).chans[e] = s.chans[e])
      ∧ chanDone (segmentEnds s c g) c = chanDone s c + g.bytes ∧ SameRegs s (segmentEnds s c g) [res1Of c]
      ∧ (segmentEnds s c g).mem = s.mem ∧ (segmentEnds s c g).triads = s.triads := by
  obtain ⟨hends, hdone⟩ := segmentEnds_of_partial hlive hfly hid habort hfailed hd hmore
  obtain ⟨hchan, hothers, -, hsame, hmem, htri, hcur⟩ := segmentDone_spec s hfly hid
  obtain ⟨hyield, hyothers, hyregs, hymem, hytri⟩ := yieldEngine_spec (s := segmentDone s c g) (c := c) (by rw [hchan])
  rw [hends]
  refine ⟨?_, fun e he => (hyothers e he).trans (hothers e he), ?_, fun r hr => (State.rd_congr hyregs r).trans (hsame r hr),
    hymem.trans hmem, hytri.trans htri⟩
  · rw [hyield, hchan, hcur]
  · rw [chanDone, State.rd_congr hyregs, ← chanDone, hdone]

/-! ### SEGMENT_COMPLETE -/

theorem segmentComplete_of_plain {s : State} {c : Fin 32} {g : Seg} {a n : Nat} (hfly : s.chans[c].flying = [g])
    (hmoved : g.moved = false) (hsrc : g.src = [(a, n)]) (ha : a < sramSize) (hit : List Nat) :
    exec (.segmentComplete ⟨c, hit⟩) s = .next
      (if ((moveSegment s c g hit).chans[c].flying.head?).any fun h => h.kept != 0 then moveSegment s c g hit
        else segmentEnds (moveSegment s c g hit) c g) := by
  refine congrArg Host.Outcome.next ?_
  simp only [segmentComplete, hfly, List.head?_cons, hmoved, hsrc, List.any_cons, List.any_nil, ddrWaits_of_sram ha,
    Bool.or_self, Bool.false_eq_true, if_false]

/-! ### The statement -/

section
variable {s : State} {c : Fin 32} (hp : PlainDma s c) {g : Seg} {a b n : Nat} (hsrc : g.src = [(a, n)])
  (hdst : g.dst = [(b, n)]) (ha : plainRange s a n) (hb : plainRange s b n) (hfly : s.chans[c].flying = [g])
  (hmoved : g.moved = false) (hkept : g.kept = 0)
include hp hsrc hdst ha hb hfly hmoved hkept

theorem segmentComplete_copies (hlive : g.live = true) (hbytes : g.bytes = n) (habort : s.chans[c].abortDue = false)
    (hfailed : s.chans[c].failed = none) {d : Desc} (hd : s.chans[c].desc = some d)
    (hmore : chanDone s c + n < d.len.toNat) : Completes (.segmentComplete ⟨c, []⟩) s fun s' =>
      (∀ x, rdByte s' x = if b ≤ x ∧ x < b + n then rdByte s (x - b + a) else rdByte s x)
      ∧ chanDone s' c = chanDone s c + n ∧ SameRegs s s' [res1Of c]
      ∧ s'.chans[c] = Chan.yielded { s.chans[c] with flying := [] } (s.engCur[engOf c] = some (chOf c))
      ∧ (∀ e : Fin 32, e ≠ c → s'.chans[e] = s.chans[e]) ∧ s'.triads = s.triads := by
  obtain ⟨-, -, hopen, -⟩ := id ha
  have hrun := segmentComplete_of_plain hfly hmoved hsrc (lt_sramSize_of_open hopen) []
  have hbyte := rdByte_storeOctets (s.upChan c fun k => k.marked g.id) b (bs := rdBytes s a n)
  obtain ⟨m, hm⟩ := storeOctets_memory (s.upChan c fun k => k.marked g.id) b 0 (enabled (rdBytes s a n))
  rw [moveSegment_stores hp hsrc hdst ha hb, hm] at hrun
  rw [hm] at hbyte
  obtain ⟨z, hz⟩ : ∃ z : State, { s.upChan c (fun k => k.marked g.id) with mem := m } = z := ⟨_, rfl⟩
  have hzc : z.chans[c] = { s.chans[c] with flying := [{ g with moved := true }] } := by
    rw [← hz, ← Chan.marked_single hfly]
    exact State.upChan_self ..
  have hkeep : z.regs = s.regs ∧ z.triads = s.triads ∧ z.engCur = s.engCur ∧ ∀ e : Fin 32, e ≠ c → z.chans[e] = s.chans[e] := by
    rw [← hz]
    exact ⟨rfl, rfl, rfl, fun e he => State.upChan_ne s _ he⟩
  obtain ⟨hregs, htri, hcur, hze⟩ := hkeep
  have hnokept : ([{ g with moved := true }].head?.any fun h => h.kept != 0) = false := by simp [hkept]
  rw [hz] at hrun hbyte
  rw [hzc, hnokept, if_neg Bool.false_ne_true] at hrun
  have hdone0 : chanDone z c = chanDone s c := by rw [chanDone, State.rd_congr hregs, chanDone]
  obtain ⟨hc, hothers, hdone, hsame, hmem, htri'⟩ := segmentEnds_spec (s := z) (c := c) (g := g) (h := { g with moved := true })
    (d := d) hlive (by rw [hzc]) rfl (by rw [hzc]; exact habort) (by rw [hzc]; exact hfailed) (by rw [hzc]; exact hd)
    (by rw [hdone0, hbytes]; exact hmore)
  refine ⟨_, hrun, fun x => ?_, ?_, fun r hr => (hsame r hr).trans (State.rd_congr hregs r), ?_,
    fun e he => (hothers e he).trans (hze e he), htri'.trans htri⟩
  · rw [rdByte, hmem, ← rdByte, hbyte, length_rdBytes]
    split
    · next hx => rw [getD_rdBytes s a (by omega), Nat.add_comm]
    · rfl
  · rw [hdone, hdone0, hbytes]
  · rw [hc, hzc, hcur]

theorem segmentComplete_collides {bank : Fin 12} (hbank : b / 0x200000 = bank.val) (hpos : 0 < n) (hrow : b % 64 + n ≤ 64) :
    Completes (.segmentComplete ⟨c, [0]⟩) s fun s' => s'.mem = s.mem ∧ s'.triads = s.triads
      ∧ s'.chans[c] = { s.chans[c] with flying := [{ g with moved := true, kept := 1 }] }
      ∧ s'.sram.collided[bank] = some ⟨.seg c g.id, b, enabled (rdBytes s a n)⟩ ∧ SameRegs s s' [Adr.srbColcnt] := by
  obtain ⟨-, -, hopen, -⟩ := id ha
  have hrun := segmentComplete_of_plain hfly hmoved hsrc (lt_sramSize_of_open hopen) [0]
  rw [moveSegment_collides hp hsrc hdst ha hb hbank hpos hrow] at hrun
  obtain ⟨z, hz⟩ : ∃ z, (collide (s.upChan c fun k => k.marked g.id) bank
    ⟨.seg c g.id, b, enabled (rdBytes s a n)⟩).upChan c (fun k => k.keptOne g.id) = z := ⟨_, rfl⟩
  obtain ⟨hchans, hmem, htri, hcollided, hregs⟩ := collide_spec (s.upChan c fun k => k.marked g.id) bank
    ⟨.seg c g.id, b, enabled (rdBytes s a n)⟩
  have hzc : z.chans[c] = { s.chans[c] with flying := [{ g with moved := true, kept := 1 }] } := by
    have hmark : (s.chans[c].marked g.id).keptOne g.id = { s.chans[c] with flying := [{ g with moved := true, kept := 1 }] } := by
      rw [Chan.marked_single hfly, Chan.keptOne, List.map_singleton, if_pos rfl, hkept]
    rw [← hz, ← hmark]
    refine (vmod_get_self _ c _).trans (congrArg (fun k => Chan.keptOne k g.id) ?_)
    rw [hchans]
    exact vmod_get_self _ c _
  have hwaits : (z.chans[c].flying.head?.any fun h => h.kept != 0) = true := by rw [hzc]; rfl
  rw [hz, hwaits, if_pos rfl] at hrun
  refine ⟨z, hrun, ?_, ?_, hzc, ?_, fun r hr => ?_⟩
  · rw [← hz, State.upChan_mem, hmem, State.upChan_mem]
  · rw [← hz, State.upChan_triads, htri, State.upChan_triads]
  · rw [← hz, State.upChan_sram, hcollided]
  · rw [← hz, State.rd_upChan, hregs r hr, State.rd_upChan]

end

/-- Settles O26: on plain SRAM a descriptor is read and a segment checked as they stand there, and a segment's rows are its
octets, which land or, in one row that its bank keeps, wait. -/
theorem descriptorsRun : Obligations.DescriptorsRun := by
  intro s c hp k pa
  refine ⟨fun d hdue hfly hr hd hvalid hlen => descriptorFetch_completes hp hdue hfly hr hd hvalid hlen, ?start, ?complete⟩
  case start =>
    intro d hk hd hfly hcan hengine habort hfailed hothers hsinc hdinc off n hsrc hdst
    obtain ⟨s', hrun, hc, hrest⟩ := segmentStart_completes hp hk hd hfly hcan hengine habort hfailed hothers hsinc hdinc rfl
      hsrc hdst
    refine ⟨s', hrun, ?_, ?_, ⟨plainSeg s c d n, ?_, rfl, rfl, rfl, rfl, rfl⟩, hrest⟩ <;> rw [hc]
  case complete =>
    intro g d a b n hfly hmoved hkept hlive hbytes hsrc hdst _ ha hb habort hfailed hd hmore
    exact ⟨segmentComplete_copies hp hsrc hdst ha hb hfly hmoved hkept hlive hbytes habort hfailed hd hmore,
      fun bank hbank hpos hrow => segmentComplete_collides hp hsrc hdst ha hb hfly hmoved hkept hbank hpos hrow⟩

end Sys2Proof.Machine
end

section
/-! A failing cell of the background test under a reaction table that holds a class past X, which no write of an object lets
in (R614, R616) and which the clause's states do not exclude: the event pulsed for that class has its pending bit in
SRB_BGTFAIL (R358, R616, R618). -/

namespace Sys2Proof.Machine

/-- The class under which the event pulsed for it, 768 + class, has its pending bit at bit 0 of SRB_BGTFAIL. -/
def strayClass : Nat := (Adr.srbBgtfail - Adr.evcPend 0) / 4 * 32 - 768

/-- A device in COMMISSION whose reaction table holds that class for F97, the fault of the background test. -/
def strayTable : State :=
  { State.reset.wr Adr.sysMode 1 with
    fcu := { Fcu.reset with table := [(objKey (0x2100 + 97) 1, bytesBE 3 strayClass)] } }

/-- Region 0 fails: SRB_BGTFAIL receives its address 0, and the report then sets bit 0 there. -/
theorem srbBgtfail_strayTable : (backgroundTest strayTable true).rd Adr.srbBgtfail = 1 := by decide +kernel

/-- No condition of the clause binds the reaction table, whose class decides which event the report pulses. -/
theorem not_memoryUpkeep : ¬ Clause.MemoryUpkeep := by
  intro h
  obtain ⟨-, htest, -⟩ := h strayTable
  obtain ⟨-, hfails⟩ := htest (by decide +kernel) (by decide +kernel) (by decide +kernel) (by decide +kernel)
  obtain ⟨s', hrun, -, hfail, -⟩ := hfails (by decide +kernel) (by decide +kernel)
  have hs' : backgroundTest strayTable true = s' := by
    rw [← State.powered_of_awake strayTable (fun s => backgroundTest s true) (by decide +kernel)]
    exact Host.Outcome.next.inj hrun
  rw [← hs', srbBgtfail_strayTable] at hfail
  exact absurd hfail (by decide +kernel)

/-- Refutes O27: in a state whose reaction table holds a class past X, the report of the failing cell alters the address that
SRB_BGTFAIL has just taken. -/
theorem not_memoryBanks : ¬ Obligations.MemoryBanks := fun h => not_memoryUpkeep h.2

end Sys2Proof.Machine
end

section
/-! Octets of a bank as its host port reads and writes them, where no word holds an error and no bank keeps a write (R339,
R342, R345, R347, R348). -/

namespace Sys2Proof.Machine

/-! ### Changes of memory alone -/

/-- From s to s' memory alone differs. -/
def MemOnly (s s' : State) : Prop := ∃ m, s' = { s with mem := m }

theorem memOnly_storeOctets (s : State) (a : Nat) (kind : BitVec 2) (bs : List (Byte × Bool)) :
    MemOnly s (storeOctets s a kind bs) := storeOctets_memory s a kind bs

theorem MemOnly.trans {a b c : State} (h : MemOnly a b) (g : MemOnly b c) : MemOnly a c := by
  obtain ⟨_, rfl⟩ := h
  obtain ⟨_, rfl⟩ := g
  exact ⟨_, rfl⟩

theorem MemOnly.regs {s s' : State} (h : MemOnly s s') : s'.regs = s.regs := by obtain ⟨m, rfl⟩ := h; rfl
theorem MemOnly.triads {s s' : State} (h : MemOnly s s') : s'.triads = s.triads := by obtain ⟨m, rfl⟩ := h; rfl
theorem MemOnly.sram {s s' : State} (h : MemOnly s s') : s'.sram = s.sram := by obtain ⟨m, rfl⟩ := h; rfl
theorem MemOnly.hosts {s s' : State} (h : MemOnly s s') : s'.hosts = s.hosts := by obtain ⟨m, rfl⟩ := h; rfl
theorem MemOnly.lcs {s s' : State} (h : MemOnly s s') : s'.lcs = s.lcs := by obtain ⟨m, rfl⟩ := h; rfl

/-! ### A range of one bank -/

/-- The n octets from a lie in the bank of c. -/
def SameBank (c a n : Nat) : Prop := ∀ x, a ≤ x → x < a + n → x / 0x200000 = c / 0x200000

theorem State.clean_congr {s z : State} {c : Nat} (h : s.clean c) (hsram : z.sram = s.sram) : z.clean c where
  good := by rw [hsram]; exact h.good
  kept b := by rw [hsram]; exact h.kept b
  on := by rw [bankOn, hsram]; exact h.on

section
variable {s : State} {c : Nat} (h : s.clean c)
include h

theorem bankOn_of_clean {a n x : Nat} (hin : SameBank c a n) (hlo : a ≤ x) (hhi : x < a + n) : bankOn s x = true := by
  rw [bankOn_congr s (hin x hlo hhi)]
  exact h.on

theorem sramRead_of_clean (m : Master) {a n : Nat} (hin : SameBank c a n) : sramRead s m a n = (s, rdBytes s a n) := by
  have hrows : (rowsOf a n).foldl (fun s r => rowRead (portClear s m r.1 false) r.1 r.2) s = s := by
    refine foldl_fixed_of_mem fun r hr => ?_
    obtain ⟨hlo, hpos, hhi⟩ := mem_rowPieces hr
    rw [portClear_of_none h.kept]
    exact rowRead_of_clean h.good (bankOn_of_clean h hin hlo (by omega)) r.2
  have hoctets : sramOctets s a n = rdBytes s a n := by
    refine List.map_congr_left fun i hi => ?_
    rw [bankOn_of_clean h hin (Nat.le_add_right _ _) (Nat.add_lt_add_left (List.mem_range.mp hi) _), sramError_of_clean h.good]
    rfl
  simp only [sramRead, hrows, hoctets]

theorem hostTouch_of_clean {a n : Nat} (hin : SameBank c a n) : hostTouch s a n = s :=
  congrArg Prod.fst (sramRead_of_clean h .host hin)

theorem hostNat_of_clean {a n : Nat} (hin : SameBank c a n) : hostNat s a n = rdMem s a n :=
  congrArg (fun p : State × List Byte => natLE p.2) (sramRead_of_clean h .host hin)

end

/-! ### A write -/

/-- The rows of a write take their octets one behind another. -/
theorem foldl_rowWrite {s : State} (hgood : s.sram.errors = []) {k a : Nat} {bs : List Byte}
    (hfuel : 0 < bs.length → a % 64 + bs.length ≤ 64 * k) (hon : ∀ x, a ≤ x → x < a + bs.length → bankOn s x = true) :
    ((rowPieces k a bs.length).foldl (fun (p : State × List (Byte × Bool)) r =>
      (rowWrite p.1 r.1 0 (p.2.take r.2), p.2.drop r.2)) (s, enabled bs)).1 = storeOctets s a 0 (enabled bs) := by
  induction k generalizing s a bs with
  | zero =>
    have hnil : bs = [] := List.length_eq_zero_iff.mp (by omega)
    subst hnil
    rfl
  | succ k ih =>
    by_cases hzero : bs.length = 0
    · rw [List.length_eq_zero_iff.mp hzero]
      rfl
    obtain ⟨m, hm⟩ : ∃ m, Nat.min bs.length (64 - a % 64) = m := ⟨_, rfl⟩
    have hmle : 0 < m ∧ m ≤ bs.length ∧ (m = bs.length ∨ (a + m) % 64 = 0) := by
      rw [← hm]
      simp only [Nat.min_def]
      split <;> omega
    obtain ⟨hmpos, hmlen, hmend⟩ := hmle
    have htake : (enabled bs).take m = enabled (bs.take m) := (List.map_take ..).symm
    have hdrop : (enabled bs).drop m = enabled (bs.drop m) := (List.map_drop ..).symm
    have hlen : (enabled (bs.take m)).length = m := by rw [enabled, List.length_map, List.length_take_of_le hmlen]
    have hrow := rowWrite_of_clean hgood (hon a le_rfl (by omega)) (bs.take m)
    have hkeep := memOnly_storeOctets s a 0 (enabled (bs.take m))
    have hnext := ih (s := storeOctets s a 0 (enabled (bs.take m))) (a := a + m) (bs := bs.drop m) (by rw [hkeep.sram, hgood])
      (by rw [List.length_drop]; omega) fun x hlo hhi => by
        rw [List.length_drop] at hhi
        rw [bankOn, hkeep.sram]
        exact hon x (by omega) (by omega)
    rw [List.length_drop] at hnext
    rw [rowPieces, if_neg hzero, hm, List.foldl_cons, htake, hdrop, hrow, hnext]
    conv_rhs => rw [← List.take_append_drop m bs, enabled, List.map_append, storeOctets_append]
    exact congrArg (fun n => storeOctets _ (a + n) 0 _) hlen.symm

section
variable {s : State} {c : Nat} (h : s.clean c) {a : Nat}
include h

/-- Outside the device table the port stores its octets as they are (R347, R449). -/
theorem hostWrite_of_clean {bs : List Byte} (hin : SameBank c a bs.length)
    (htable : a + bs.length ≤ devTable ∨ devTable + 0x10000 ≤ a) : hostWrite s a bs = storeOctets s a 0 (enabled bs) := by
  have hlen : (enabled bs).length = bs.length := List.length_map _
  have hport : (rowsOf a bs.length).foldl (fun s r => portClear s .host r.1 true) s = s :=
    foldl_fixed_of_mem fun r _ => portClear_of_none h.kept .host r.1 true
  have hrows := foldl_rowWrite h.good (k := bs.length / 64 + 2) (a := a) (bs := bs) (by omega)
    fun x hlo hhi => bankOn_of_clean h hin hlo hhi
  rw [hostWrite, sramWrite, hlen, hport, rowsWrite, deviceHook, hlen, if_pos htable]
  exact hrows

/-- A number stored by the port: its octets, and nothing else (R9). -/
theorem hostPut_of_clean {n : Nat} (hin : SameBank c a n) (htable : a + n ≤ devTable ∨ devTable + 0x10000 ≤ a) (v : Nat) :
    MemOnly s (hostPut s a n v) ∧ Stored s (hostPut s a n v) a n v := by
  have hlen := length_bytesLE n v
  have hrun : hostPut s a n v = storeOctets s a 0 (enabled (bytesLE n v)) :=
    hostWrite_of_clean h (by rw [hlen]; exact hin) (by rw [hlen]; exact htable)
  rw [hrun]
  refine ⟨memOnly_storeOctets _ _ _ _, fun x => ?_⟩
  rw [rdByte_storeOctets, hlen]
  split
  · next hx => exact getD_bytesLE (by omega) v
  · rfl

end

end Sys2Proof.Machine
end

section
/-! Sessions: what a change of one session, a withdrawal, the close and a response leave (R497, R498, R502, R532, R533). -/

namespace Sys2Proof.Machine

/-! ### Parts of the state -/

section
variable (s : State)

@[simp] theorem State.upHosts_hosts (f : Hosts → Hosts) : (s.upHosts f).hosts = f s.hosts := rfl
@[simp] theorem State.upHosts_lcs (f : Hosts → Hosts) : (s.upHosts f).lcs = s.lcs := rfl
@[simp] theorem State.upHosts_regs (f : Hosts → Hosts) : (s.upHosts f).regs = s.regs := rfl
@[simp] theorem State.upLcs_lcs (f : Lcs → Lcs) : (s.upLcs f).lcs = f s.lcs := rfl
@[simp] theorem State.upLcs_hosts (f : Lcs → Lcs) : (s.upLcs f).hosts = s.hosts := rfl
@[simp] theorem State.upLcs_regs (f : Lcs → Lcs) : (s.upLcs f).regs = s.regs := rfl

@[simp] theorem genUp_lcs (g : Fin 12) : (genUp s g).lcs = s.lcs := rfl
@[simp] theorem genUp_regs (g : Fin 12) : (genUp s g).regs = s.regs := rfl
@[simp] theorem genUp_sessions (g : Fin 12) : (genUp s g).hosts.sessions = s.hosts.sessions := rfl
@[simp] theorem genUp_m0Sent (g : Fin 12) : (genUp s g).hosts.m0Sent = s.hosts.m0Sent := rfl
@[simp] theorem genUp_pcie (g : Fin 12) : (genUp s g).hosts.pcie = s.hosts.pcie := rfl

variable (p : Fin 2) (e : PcieFunction → PcieFunction)

@[simp] theorem State.upPcie_lcs : (s.upPcie p e).lcs = s.lcs := rfl
@[simp] theorem State.upPcie_sram : (s.upPcie p e).sram = s.sram := rfl
@[simp] theorem State.upPcie_mem : (s.upPcie p e).mem = s.mem := rfl
@[simp] theorem State.upPcie_regs : (s.upPcie p e).regs = s.regs := rfl
@[simp] theorem State.upPcie_triads : (s.upPcie p e).triads = s.triads := rfl
@[simp] theorem State.upPcie_self : (s.upPcie p e).hosts.pcie[p] = e s.hosts.pcie[p] := vmod_get_self s.hosts.pcie p e

variable (k : Fin 8) (f : Session → Session)

@[simp] theorem State.upSess_lcs : (s.upSess k f).lcs = s.lcs := rfl
@[simp] theorem State.upSess_regs : (s.upSess k f).regs = s.regs := rfl
@[simp] theorem State.upSess_sessions : (s.upSess k f).hosts.sessions = vmod s.hosts.sessions k f := rfl
@[simp] theorem State.upSess_m0Sent : (s.upSess k f).hosts.m0Sent = s.hosts.m0Sent := rfl
@[simp] theorem State.upSess_pcie : (s.upSess k f).hosts.pcie = s.hosts.pcie := rfl

@[simp] theorem sess_upSess_self : sess (s.upSess k f) k = f (sess s k) := vmod_get_self _ _ _
theorem sess_upSess_ne {j : Fin 8} (h : j ≠ k) : sess (s.upSess k f) j = sess s j := vmod_get_ne _ _ _ _ h

end

/-- The sessions are read from their own vector. -/
theorem sess_congr {s z : State} (h : z.hosts.sessions = s.hosts.sessions) (k : Fin 8) : sess z k = sess s k := by
  rw [sess, h, sess]

theorem RegsOnly.hosts {s s' : State} (h : RegsOnly s s') : s'.hosts = s.hosts := by
  obtain ⟨r, rfl⟩ := h
  rfl

theorem RegsOnly.lcs {s s' : State} (h : RegsOnly s s') : s'.lcs = s.lcs := by
  obtain ⟨r, rfl⟩ := h
  rfl

theorem RegsOnly.sram {s s' : State} (h : RegsOnly s s') : s'.sram = s.sram := by
  obtain ⟨r, rfl⟩ := h
  rfl

/-! ### Withdrawals (R532) -/

/-- What a slot holds when the pending proposals of session k have been withdrawn. -/
def withdrawn (k : Fin 8) (o : Option Proposal) : Option Proposal :=
  o.filter fun p => p.applying || p.proposer != .session k

/-- From s to s' only the proposal slots and the generation counters differ. -/
def SlotsOnly (s s' : State) : Prop :=
  ∃ sl g, s' = { s with lcs := { s.lcs with slots := sl }, hosts := { s.hosts with gens := g } }

theorem SlotsOnly.refl (s : State) : SlotsOnly s s := ⟨_, _, rfl⟩

theorem SlotsOnly.trans {a b c : State} (h : SlotsOnly a b) (g : SlotsOnly b c) : SlotsOnly a c := by
  obtain ⟨_, _, rfl⟩ := h
  obtain ⟨_, _, rfl⟩ := g
  exact ⟨_, _, rfl⟩

/-- Slot j with its proposal withdrawn, where session k's is pending there. -/
def withdrawSlot (k : Fin 8) (s : State) (j : Fin 8) : State :=
  match s.lcs.slots[j] with
  | some p => if !p.applying && p.proposer == .session k then freeSlot s j 2 else s
  | none => s

theorem withdrawWhere_session (s : State) (k : Fin 8) :
    withdrawWhere s (fun p => p.proposer == .session k) = (List.finRange 8).foldl (withdrawSlot k) s := rfl

/-- A session's proposal that goes shows its outcome in no register (R534). -/
theorem freeSlot_session {s : State} {j k : Fin 8} {p : Proposal} (hp : s.lcs.slots[j] = some p)
    (hk : p.proposer = .session k) (outc : Nat) : freeSlot s j outc = putSlot s j none := by
  simp only [freeSlot, hp, putOutc, hk]

theorem withdrawSlot_spec (k : Fin 8) (s : State) (j : Fin 8) :
    SlotsOnly s (withdrawSlot k s j) ∧ (withdrawSlot k s j).lcs.slots[j] = withdrawn k s.lcs.slots[j]
      ∧ ∀ i : Fin 8, i ≠ j → (withdrawSlot k s j).lcs.slots[i] = s.lcs.slots[i] := by
  cases hp : s.lcs.slots[j] with
  | none =>
    have hz : withdrawSlot k s j = s := by rw [withdrawSlot, hp]
    rw [hz]
    exact ⟨.refl s, hp, fun _ _ => rfl⟩
  | some p =>
    cases hw : !p.applying && p.proposer == .session k with
    | true =>
      have hz : withdrawSlot k s j = putSlot s j none := by
        simp only [withdrawSlot, hp, hw, if_true, freeSlot_session hp (eq_of_beq (Bool.and_eq_true_iff.mp hw).2)]
      have hout : withdrawn k (some p) = none := Option.filter_some_neg (by simpa using hw)
      rw [hz, hout]
      exact ⟨⟨_, _, rfl⟩, Vector.getElem_set_self _, fun i hi => Vector.getElem_set_ne j.isLt i.isLt fun e => hi (Fin.ext e.symm)⟩
    | false =>
      have hz : withdrawSlot k s j = s := by simp only [withdrawSlot, hp, hw, Bool.false_eq_true, if_false]
      have hin : withdrawn k (some p) = some p := Option.filter_some_pos (by cases ha : p.applying <;> simp_all)
      rw [hz, hin]
      exact ⟨.refl s, hp, fun _ _ => rfl⟩

theorem withdrawn_withdrawn (k : Fin 8) (o : Option Proposal) : withdrawn k (withdrawn k o) = withdrawn k o := by
  rw [withdrawn, withdrawn, Option.filter_filter]
  simp only [Bool.and_self]

theorem foldl_withdrawSlot (k : Fin 8) (l : List (Fin 8)) (s : State) :
    SlotsOnly s (l.foldl (withdrawSlot k) s)
      ∧ ∀ j : Fin 8, (l.foldl (withdrawSlot k) s).lcs.slots[j] = if j ∈ l then withdrawn k s.lcs.slots[j] else s.lcs.slots[j] := by
  induction l generalizing s with
  | nil => exact ⟨.refl s, fun j => rfl⟩
  | cons i l ih =>
    obtain ⟨hone, hself, hne⟩ := withdrawSlot_spec k s i
    obtain ⟨hrest, hslots⟩ := ih (withdrawSlot k s i)
    refine ⟨hone.trans hrest, fun j => (hslots j).trans ?_⟩
    by_cases hj : j = i
    · subst hj
      rw [hself, withdrawn_withdrawn, ite_self, if_pos List.mem_cons_self]
    · rw [hne j hj]
      exact if_congr (by simp [hj]) rfl rfl

/-- The pending proposals of a session are withdrawn from every slot, and nothing else changes. -/
theorem withdrawSession_spec (s : State) (k : Fin 8) :
    let z := withdrawWhere s fun p => p.proposer == .session k
    SlotsOnly s z ∧ ∀ j : Fin 8, z.lcs.slots[j] = withdrawn k s.lcs.slots[j] := by
  rw [withdrawWhere_session]
  obtain ⟨honly, hslots⟩ := foldl_withdrawSlot k (List.finRange 8) s
  exact ⟨honly, fun j => (hslots j).trans (if_pos (List.mem_finRange j))⟩

/-! ### Changes of one session -/

/-- From s to s' no session but k differs, no octet of memory, no bank and no triad, and no approval begins to wait. -/
structure SessionOnly (s s' : State) (k : Fin 8) : Prop where
  others : ∀ j, j ≠ k → sess s' j = sess s j
  mem : s'.mem = s.mem
  sram : s'.sram = s.sram
  triads : s'.triads = s.triads
  quiet : s.lcs.waiting = [] → s'.lcs.waiting = []

theorem SessionOnly.trans {a b c : State} {k : Fin 8} (h : SessionOnly a b k) (g : SessionOnly b c k) : SessionOnly a c k where
  others j hj := (g.others j hj).trans (h.others j hj)
  mem := g.mem.trans h.mem
  sram := g.sram.trans h.sram
  triads := g.triads.trans h.triads
  quiet := g.quiet ∘ h.quiet

theorem SessionOnly.upSess (s : State) (k : Fin 8) (f : Session → Session) : SessionOnly s (s.upSess k f) k :=
  ⟨fun _ hj => sess_upSess_ne s k f hj, rfl, rfl, rfl, id⟩

theorem SessionOnly.upHosts (s : State) (k : Fin 8) {f : Hosts → Hosts} (h : (f s.hosts).sessions = s.hosts.sessions) :
    SessionOnly s (s.upHosts f) k := ⟨fun j _ => sess_congr h j, rfl, rfl, rfl, id⟩

theorem SessionOnly.upLcs (s : State) (k : Fin 8) {f : Lcs → Lcs} (h : s.lcs.waiting = [] → (f s.lcs).waiting = []) :
    SessionOnly s (s.upLcs f) k := ⟨fun _ _ => rfl, rfl, rfl, rfl, h⟩

theorem SessionOnly.genUp (s : State) (k : Fin 8) (g : Fin 12) : SessionOnly s (genUp s g) k := ⟨fun _ _ => rfl, rfl, rfl, rfl, id⟩

theorem SessionOnly.regsOnly {s s' : State} (h : RegsOnly s s') (k : Fin 8) : SessionOnly s s' k := by
  obtain ⟨r, rfl⟩ := h
  exact ⟨fun _ _ => rfl, rfl, rfl, rfl, id⟩

theorem SessionOnly.slotsOnly {s s' : State} (h : SlotsOnly s s') (k : Fin 8) : SessionOnly s s' k := by
  obtain ⟨sl, g, rfl⟩ := h
  exact ⟨fun _ _ => rfl, rfl, rfl, rfl, id⟩

/-! ### The close (R502) -/

/-- A session that has closed. -/
def Session.closed (x : Session) : Session :=
  { x with isOpen := false, role := 0, key := [], held := [], executing := none, tagFails := 0, building := none,
           via := none, waiting := [] }

/-- What the close of session k leaves. -/
structure Closes (s s' : State) (k : Fin 8) : Prop where
  only : SessionOnly s s' k
  self : sess s' k = (sess s k).closed
  pulsed : Pulsed s s' (640 + k.val)
  regs : SameRegs s s' (eventRegs (640 + k.val))
  m0Sent : s'.hosts.m0Sent = s.hosts.m0Sent
  pcie : s'.hosts.pcie = s.hosts.pcie
  slots : ∀ j : Fin 8, s'.lcs.slots[j] = withdrawn k s.lcs.slots[j]

/-- The close of a session up to its pulse: its soft requests, its STORE and its approvals lose their addressee. -/
theorem closeSession_of_open {s : State} {k : Fin 8} (hopen : (sess s k).isOpen = true) :
    ∃ y, closeSession s k = withdrawWhere (pulse y (640 + k.val)) (fun p => p.proposer == .session k) ∧ SessionOnly s y k
      ∧ sess y k = (sess s k).closed ∧ y.regs = s.regs ∧ y.hosts.m0Sent = s.hosts.m0Sent ∧ y.hosts.pcie = s.hosts.pcie
      ∧ y.lcs.slots = s.lcs.slots := by
  unfold closeSession
  rw [if_pos hopen]
  extract_lets s1 s2 s3 s4
  have h1 : SessionOnly s s1 k := .upSess s k _
  have h2 : SessionOnly s1 s2 k := .upHosts s1 k rfl
  have h3 : SessionOnly s2 s3 k := .upLcs s2 k id
  have h4 : SessionOnly s3 s4 k := .upLcs s3 k fun h => congrArg (List.map _) h
  have hself : sess s1 k = (sess s k).closed := sess_upSess_self s k _
  refine ⟨genUp s4 4, rfl, (((h1.trans h2).trans h3).trans h4).trans (.genUp s4 k 4), ?_, ?_, ?_, ?_, ?_⟩
  · rw [← hself]
    exact sess_congr (by simp [s4, s3, s2]) k
  all_goals simp [s4, s3, s2, s1]

theorem closeSession_spec {s : State} {k : Fin 8} (hopen : (sess s k).isOpen = true) : Closes s (closeSession s k) k := by
  obtain ⟨y, hrun, honly, hself, hregs, hsent, hpcie, hslots⟩ := closeSession_of_open hopen
  have hp := RegsOnly.pulse y (640 + k.val)
  obtain ⟨hpulsed, hsame, -⟩ := pulse_spec y (640 + k.val)
  obtain ⟨hw, hwslots⟩ := withdrawSession_spec (pulse y (640 + k.val)) k
  rw [← hrun] at hw hwslots
  have hwonly := SessionOnly.slotsOnly hw k
  obtain ⟨sl, g, hw⟩ := hw
  have hrd (a : Nat) : (closeSession s k).rd a = (pulse y (640 + k.val)).rd a := State.rd_congr (by rw [hw]) a
  refine ⟨(honly.trans (.regsOnly hp k)).trans hwonly, ?_, ?_, fun a ha => ?_, ?_, ?_, fun j => ?_⟩
  · rw [← hself]
    exact sess_congr (by rw [hw, ← hp.hosts]) k
  · refine Pulsed.of_regs (z := y) ?_ (by rw [modeOf, State.rd_congr hregs, modeOf]) fun a _ => State.rd_congr hregs a
    exact ⟨fun i => by rw [hrd]; exact hpulsed.pend i, fun i => by rw [hrd]; exact hpulsed.ovr i⟩
  · rw [hrd, hsame a ha, State.rd_congr hregs]
  · rw [hw, ← hsent, ← hp.hosts]
  · rw [hw, ← hpcie, ← hp.hosts]
  · rw [hwslots, hp.lcs, hslots]

end Sys2Proof.Machine
end

section
/-! What follows a message, and a session that an OPEN begins (R368, R497 to R501, R533). -/

namespace Sys2Proof.Machine

/-! ### Responses on M0 -/

theorem approvalsGoOn_of_none {s : State} (h : s.lcs.waiting = []) : approvalsGoOn s = s := by
  rw [approvalsGoOn, nextApproval, h, ite_self]

theorem drain_of_none {s : State} {k : Fin 8} (h : (sess s k).waiting = []) (n : Nat) : drain n s k = s := by
  cases n with
  | zero => rfl
  | succ n => rw [drain, h, ite_self]

/-- The response of a session on M0: the newest datagram and the newest of the responses held, no request executing
(R488, R497). -/
theorem answerUnder_m0 {s : State} {k : Fin 8} {a : BitVec 128} {u : BitVec 16} (hvia : (sess s k).via = some (.m0 a u))
    (key : List Byte) (seq : BitVec 32) (op : Byte) (status : Nat) (payload : List Byte) :
    let s' := answerUnder s k key seq op status payload
    let m := tagged key (msgOctets 0x12 op (BitVec.ofNat 8 k.val) seq status (if status = 0 then payload else []))
    SessionOnly s s' k ∧ (∃ l, sess s' k = { sess s k with held := l, executing := none }) ∧ s'.regs = s.regs
      ∧ s'.lcs = s.lcs ∧ s'.hosts.m0Sent = (a, u, m) :: s.hosts.m0Sent ∧ s'.hosts.soft = s.hosts.soft
      ∧ s'.hosts.softLate = s.hosts.softLate := by
  intro s' m
  have hrun : s' = (s.upSess k fun x => { x with held := ((seq, m) :: x.held).take 4, executing := none }).upHosts
      fun h => { h with m0Sent := (a, u, m) :: h.m0Sent } := by
    simp only [s', answerUnder, hvia]
    rfl
  rw [hrun]
  exact ⟨(SessionOnly.upSess s k _).trans (.upHosts _ k rfl), ⟨_, sess_upSess_self s k _⟩, rfl, rfl, rfl, rfl, rfl⟩

/-! ### The new session (R499 to R501) -/

/-- A session key is written, or held while the region is wiped (R367, R368). -/
theorem secureWrite_key (s : State) (k : Fin 8) (key : List Byte) :
    let w := secureWrite s (.key k key)
    SessionOnly s w k ∧ sess w k = { sess s k with key := if s.sram.wiping then (sess s k).key else key }
      ∧ (s.sram.wiping = true → SecureWrite.key k key ∈ w.lcs.held) ∧ w.regs = s.regs
      ∧ w.hosts.m0Sent = s.hosts.m0Sent := by
  intro w
  cases hw : s.sram.wiping with
  | true =>
    have hrun : w = s.upLcs fun l => { l with held := l.held ++ [.key k key] } := if_pos hw
    rw [hrun]
    exact ⟨.upLcs s k id, rfl, fun _ => List.mem_append_right _ List.mem_cons_self, rfl, rfl⟩
  | false =>
    have hrun : w = s.upSess k fun x => { x with key := key } := if_neg (by simp [hw])
    rw [hrun]
    exact ⟨.upSess s k _, sess_upSess_self s k _, nofun, rfl, rfl⟩

/-- DNONCE has 16 octets, and drawing it changes nothing but the generator (R500, R540). -/
theorem drawNonce_spec (s : State) (k : Fin 8) : (drawNonce s).2.length = 16 ∧ SessionOnly s (drawNonce s).1 k
    ∧ (drawNonce s).1.hosts = s.hosts ∧ (drawNonce s).1.regs = s.regs := by
  refine ⟨?_, ⟨fun _ _ => rfl, rfl, rfl, rfl, id⟩, rfl, rfl⟩
  simp [drawNonce, bytesBE, length_bytesLE]

/-- A session as an OPEN begins it, but for its key. -/
def Session.opened (via : HostVia) (cred role : Nat) : Session :=
  { isOpen := true, role := role, cred := cred, key := [], last := 0, held := [], executing := none, tagFails := 0,
    tagFailTotal := 0, building := none, via := some via, waiting := [] }

/-- The state in which session k has begun and its event has pulsed. -/
def State.begun (s : State) (via : HostVia) (k : Fin 8) (cred role : Nat) : State :=
  pulse (genUp ((s.upSess k fun _ => .opened via cred role).wr (Adr.hstSess k) 0) 4) (640 + k.val)

theorem begun_spec {s : State} (hawake : modeOf s ≠ 5) (via : HostVia) (k : Fin 8) (cred role : Nat) :
    let z := s.begun via k cred role
    SessionOnly s z k ∧ sess z k = .opened via cred role ∧ bitOf (z.rd (Adr.evcPend 20)) k.val = true
      ∧ z.hosts.m0Sent = s.hosts.m0Sent := by
  obtain ⟨y, hy⟩ : ∃ y, genUp ((s.upSess k fun _ => .opened via cred role).wr (Adr.hstSess k) 0) 4 = y := ⟨_, rfl⟩
  have hp := RegsOnly.pulse y (640 + k.val)
  have honly : SessionOnly s y k := by
    rw [← hy]
    exact ((SessionOnly.upSess s k _).trans (.regsOnly (.wr _ _ _) k)).trans (.genUp _ k 4)
  have hmode : modeOf y ≠ 5 := by
    rw [← hy, modeOf, State.rd_congr (genUp_regs _ _), State.rd_wr_ne _ _ _ _ (by simp only [Adr.sysMode, Adr.hstSess]; omega)]
    exact hawake
  have hbit := (pulse_spec y (640 + k.val)).1.pend k.val
  rw [show (640 + k.val) / 32 = 20 by omega, show (640 + k.val) % 32 = k.val by omega, decide_eq_true ⟨hmode, rfl⟩,
    Bool.or_true] at hbit
  rw [State.begun, hy]
  refine ⟨honly.trans (.regsOnly hp k), ?_, hbit, ?_⟩
  · have hsess : sess (pulse y (640 + k.val)) k = sess (s.upSess k fun _ => .opened via cred role) k :=
      sess_congr (by rw [hp.hosts, ← hy, genUp_sessions, State.wr_hosts]) k
    exact hsess.trans (sess_upSess_self s k _)
  · rw [hp.hosts, ← hy, genUp_m0Sent, State.wr_hosts, State.upSess_m0Sent]

/-- The key of session k under its credential's key and both nonces (R500). -/
def sessionKey (c : Cred) (pl dn : List Byte) (k : Fin 8) : List Byte :=
  hmac c.key (ascii "AOP1" ++ pl.drop 4 ++ dn ++ [BitVec.ofNat 8 k.val])

/-- An accepted OPEN: the nonce, the new session, its key, the response. -/
theorem openSession_eq (s : State) (via : HostVia) (k : Fin 8) (cred : Nat) (c : Cred) (pl : List Byte) :
    let key := sessionKey c pl (drawNonce s).2 k
    ∃ pay, openSession s via k cred c pl =
      answerUnder (secureWrite ((drawNonce s).1.begun via k cred c.role) (.key k key)) k key 0 0x01 0 pay := ⟨_, rfl⟩

/-- What an OPEN on M0 makes of session k, its role and key those of the credential. -/
theorem openSession_spec {s : State} (hawake : modeOf s ≠ 5) (a : BitVec 128) (u : BitVec 16) (k : Fin 8) (cred : Nat)
    (c : Cred) (pl : List Byte) :
    let s' := openSession s (.m0 a u) k cred c pl
    let key := sessionKey c pl (drawNonce s).2 k
    SessionOnly s s' k ∧ (∃ l, sess s' k = { Session.opened (.m0 a u) cred c.role with
        key := if s.sram.wiping then [] else key, held := l })
      ∧ (s.sram.wiping = true → SecureWrite.key k key ∈ s'.lcs.held) ∧ bitOf (s'.rd (Adr.evcPend 20)) k.val = true
      ∧ s'.hosts.m0Sent.length = s.hosts.m0Sent.length + 1 := by
  intro s' key
  obtain ⟨-, hd, hdhosts, hdregs⟩ := drawNonce_spec s k
  have hdmode : modeOf (drawNonce s).1 ≠ 5 := by rw [modeOf, State.rd_congr hdregs]; exact hawake
  obtain ⟨hz, hzself, hzbit, hzsent⟩ := begun_spec hdmode (.m0 a u) k cred c.role
  obtain ⟨hw, hwself, hwheld, hwregs, hwsent⟩ := secureWrite_key ((drawNonce s).1.begun (.m0 a u) k cred c.role) k key
  rw [hz.sram, hd.sram, hzself] at hwself
  rw [hz.sram, hd.sram] at hwheld
  obtain ⟨pay, hrun⟩ := openSession_eq s (.m0 a u) k cred c pl
  obtain ⟨hs', ⟨l, hself⟩, hregs, hlcs, hsent, -⟩ :=
    answerUnder_m0 (by rw [hwself]; rfl) key 0 0x01 0 pay
  rw [← show s' = _ from hrun] at hs' hself hregs hlcs hsent
  refine ⟨((hd.trans hz).trans hw).trans hs', ⟨l, hself.trans (by rw [hwself]; rfl)⟩, fun h => ?_, ?_, ?_⟩
  · rw [hlcs]
    exact hwheld h
  · rw [State.rd_congr (hregs.trans hwregs)]
    exact hzbit
  · rw [hsent, List.length_cons, hwsent, hzsent, hdhosts]

end Sys2Proof.Machine
end

section
/-! OPEN on M0, OPEN in RETIRED, and the idle timeout (R368, R496, R499 to R502, R536). -/

namespace Sys2Proof.Machine

theorem modeOf_of_events {s s' : State} {n : Nat} (h : SameRegs s s' (eventRegs n)) : modeOf s' = modeOf s := by
  have hmode : Adr.sysMode ∉ eventRegs n := by
    simp only [eventRegs, List.mem_cons, List.not_mem_nil, or_false, Adr.sysMode, Adr.evcPend, Adr.evcOvr]
    omega
  rw [modeOf, h _ hmode, modeOf]

/-- Outside DORMANT, RETIRED and the boot the engine takes messages. -/
theorem awake_of_engineUp {s : State} (h : engineUp s = true) : modeOf s ≠ 5 := by
  rintro h5
  simp [engineUp, h5] at h

/-! ### OPEN (R499 to R501) -/

/-- The state in which the session that the sender had is closed (R501). -/
def State.freed (s : State) (via : HostVia) : State :=
  match openFormer s via with
  | some f => closeSession s f
  | none => s

theorem isOpen_of_openFormer {s : State} {via : HostVia} {f : Fin 8} (h : openFormer s via = some f) :
    (sess s f).isOpen = true := by
  have hmatch := List.find?_some h
  exact (Bool.and_eq_true_iff.mp hmatch).1

/-- The former session alone closes. -/
theorem freed_spec (s : State) (via : HostVia) :
    let y := s.freed via
    (∀ j, if openFormer s via = some j then (sess y j).isOpen = false else sess y j = sess s j)
      ∧ modeOf y = modeOf s ∧ y.mem = s.mem ∧ y.triads = s.triads ∧ y.sram = s.sram ∧ y.hosts.m0Sent = s.hosts.m0Sent
      ∧ (s.lcs.waiting = [] → y.lcs.waiting = []) := by
  intro y
  cases hf : openFormer s via with
  | none =>
    have hy : y = s := by simp only [y, State.freed, hf]
    rw [hy]
    exact ⟨fun j => by rw [if_neg (by simp)], rfl, rfl, rfl, rfl, rfl, id⟩
  | some f =>
    have hy : y = closeSession s f := by simp only [y, State.freed, hf]
    have hc := closeSession_spec (isOpen_of_openFormer hf)
    rw [hy]
    refine ⟨fun j => ?_, modeOf_of_events hc.regs, hc.only.mem, hc.only.triads, hc.only.sram, hc.m0Sent, hc.only.quiet⟩
    split
    · next hj =>
      rw [← Option.some.inj hj, hc.self]
      rfl
    · next hj => exact hc.only.others j fun e => hj (by rw [e])

section
variable {s : State} {k : Fin 8} {a : BitVec 128} {u : BitVec 16} {m : AopMsg}

/-- A message of operation OPEN that M0 accepts. -/
theorem aopOpen_runs (hup : engineUp s = true) (hreach : m0Accepts s m.dgram = true) :
    exec (.aopOpen (.m0 a u) m) s = .next (approvalsGoOn (openMessage s (.m0 a u) m)) := by
  show Host.Outcome.next (aopMessage (.m0 a u) 0x01 m s) = _
  simp only [aopMessage, hup, hreach, Bool.not_true, Bool.false_eq_true, if_false, if_true]

/-- An OPEN that nothing refuses opens its target behind the close of the former session. -/
theorem openMessage_opens (hnot : openDiscarded s (.m0 a u) m = false) (hlen : m.payload.length = 20)
    (hzero : beAt m.payload 3 1 = 0) (hrole : beAt m.payload 2 1 = (credOf s (beAt m.payload 0 2)).role)
    (htarget : openTarget s (.m0 a u) = some k) : openMessage s (.m0 a u) m =
      openSession (s.freed (.m0 a u)) (.m0 a u) k (beAt m.payload 0 2) (credOf s (beAt m.payload 0 2)) m.payload := by
  simp only [openMessage, hnot, hlen, hzero, hrole, htarget, Bool.false_eq_true, if_false, ne_eq, not_true_eq_false, or_self]
  rfl

theorem aopOpen_completes (hup : engineUp s = true) (hreach : m0Accepts s m.dgram = true) (hwait : s.lcs.waiting = [])
    (hnot : openDiscarded s (.m0 a u) m = false) :
    let c := credOf s (beAt m.payload 0 2)
    m.payload.length = 20 → beAt m.payload 3 1 = 0 → beAt m.payload 2 1 = c.role → openTarget s (.m0 a u) = some k →
    Completes (.aopOpen (.m0 a u) m) s (fun s' => ∃ dn : List Byte, dn.length = 16
      ∧ (sess s' k).isOpen = true ∧ (sess s' k).role = c.role ∧ (sess s' k).cred = beAt m.payload 0 2
      ∧ (let key := hmac c.key (ascii "AOP1" ++ m.payload.drop 4 ++ dn ++ [BitVec.ofNat 8 k.val])
         if s.sram.wiping then SecureWrite.key k key ∈ s'.lcs.held else (sess s' k).key = key)
      ∧ (sess s' k).last = 0 ∧ (sess s' k).via = some (.m0 a u) ∧ s'.hosts.m0Sent.length = s.hosts.m0Sent.length + 1
      ∧ bitOf (s'.rd (Adr.evcPend 20)) k.val = true ∧ s'.mem = s.mem ∧ s'.triads = s.triads
      ∧ ∀ j, j ≠ k → if openFormer s (.m0 a u) = some j then (sess s' j).isOpen = false else sess s' j = sess s j) := by
  intro c hlen hzero hrole htarget
  obtain ⟨hformer, hmode, hmem, htri, hsram, hsent, hquiet⟩ := freed_spec s (.m0 a u)
  obtain ⟨y, hy⟩ : ∃ y, s.freed (.m0 a u) = y := ⟨_, rfl⟩
  rw [hy] at hformer hmode hmem htri hsram hsent hquiet
  obtain ⟨hdn, -⟩ := drawNonce_spec y k
  obtain ⟨honly, ⟨l, hself⟩, hheld, hbit, hcount⟩ :=
    openSession_spec (by rw [hmode]; exact awake_of_engineUp hup) a u k (beAt m.payload 0 2) c m.payload
  obtain ⟨s', hs'⟩ : ∃ s', openSession y (.m0 a u) k (beAt m.payload 0 2) c m.payload = s' := ⟨_, rfl⟩
  rw [hs'] at honly hself hheld hbit hcount
  rw [hsram] at hself hheld
  have hrun := aopOpen_runs (a := a) (u := u) hup hreach
  rw [openMessage_opens hnot hlen hzero hrole htarget, hy, hs', approvalsGoOn_of_none (honly.quiet (hquiet hwait))] at hrun
  refine ⟨s', hrun, (drawNonce y).2, hdn, ?_, ?_, ?_, ?_, ?_, ?_, ?_, hbit, honly.mem.trans hmem, honly.triads.trans htri,
    fun j hj => ?_⟩
  · rw [hself]; rfl
  · rw [hself]; rfl
  · rw [hself]; rfl
  · intro key
    split
    · next hon => exact hheld hon
    · next hoff =>
      rw [hself]
      exact if_neg hoff
  · rw [hself]; rfl
  · rw [hself]; rfl
  · rw [hcount, hsent]
  · rw [honly.others j hj]
    exact hformer j

end

/-! ### OPEN in RETIRED (R536) -/

/-- A discard for no failed tag counts and pulses, and nothing else changes (R496). -/
theorem discard_regsOnly (s : State) (named : Nat) : RegsOnly s (discard s named false) := by
  unfold discard
  extract_lets s1
  have h1 : RegsOnly s s1 := (RegsOnly.setBitR s _ _).trans (.pulse _ _)
  split
  · simp only [Bool.false_and, Bool.false_eq_true, if_false]
    exact h1.trans (.up _ _ _)
  · exact h1

theorem bitOf_discard (s : State) (named : Nat) : bitOf ((discard s named false).rd Adr.hstStat) 0 = true := by
  unfold discard
  extract_lets s1
  have h1 : bitOf (s1.rd Adr.hstStat) 0 = true := by
    rw [(pulse_spec _ 650).2.1 _ (by decide)]
    exact (setBitR_spec s Adr.hstStat (by decide)).2
  split
  · next h =>
    simp only [Bool.false_and, Bool.false_eq_true, if_false]
    rw [State.rd_up_ne _ _ _ _ (by simp only [Adr.hstStat, Adr.hstSess]; omega)]
    exact h1
  · exact h1

theorem aopOpenRetired_completes {s : State} (via : HostVia) (m : AopMsg) (h : openInRetired s 0x01 = true) :
    Completes (.aopOpen via m) s (fun s' => s' = { s with regs := s'.regs } ∧ bitOf (s'.rd Adr.hstStat) 0 = true) := by
  have hdown : engineUp s = false := by
    simp only [openInRetired, Bool.and_eq_true, beq_iff_eq] at h
    simp [engineUp, h.1.1.2]
  refine ⟨discard s m.sess.toNat false, ?_, (discard_regsOnly _ _).eq_with, bitOf_discard _ _⟩
  show Host.Outcome.next (aopMessage via 0x01 m s) = _
  simp only [aopMessage, hdown, h, Bool.not_false, if_true]

/-! ### The idle timeout (R502) -/

/-- A withdrawal takes the pending proposals of the session, and no other. -/
theorem withdrawn_some (k : Fin 8) (p : Proposal) :
    withdrawn k (some p) = if p.applying = false ∧ p.proposer = .session k then none else some p := by
  split
  · next h => exact Option.filter_some_neg (by simp [h.1, h.2])
  · next h => exact Option.filter_some_pos (by cases ha : p.applying <;> simp_all)

theorem idleTimeout_completes {s : State} {k : Fin 8} (hopen : (sess s k).isOpen = true) (hwait : s.lcs.waiting = []) :
    Completes (.sessionIdleTimeout k) s (fun s' =>
      (sess s' k).isOpen = false ∧ (sess s' k).key = [] ∧ Pulsed s s' (640 + k.val)
      ∧ (∀ (j : Fin 8) (p : Proposal), s.lcs.slots[j] = some p →
          s'.lcs.slots[j] = if p.applying = false ∧ p.proposer = .session k then none else some p)
      ∧ (∀ j, j ≠ k → sess s' j = sess s j) ∧ s'.mem = s.mem ∧ s'.triads = s.triads) := by
  have hc := closeSession_spec hopen
  refine ⟨closeSession s k, congrArg Host.Outcome.next (approvalsGoOn_of_none (hc.only.quiet hwait)), ?_, ?_, hc.pulsed,
    fun j p hp => ?_, hc.only.others, hc.only.mem, hc.only.triads⟩
  · rw [hc.self]; rfl
  · rw [hc.self]; rfl
  · rw [hc.slots, hp, withdrawn_some]

theorem sessionsOpenAndClose : Clause.SessionsOpenAndClose := fun _ _ =>
  ⟨fun _ _ _ hup _ hreach hwait hnot => aopOpen_completes hup hreach hwait hnot, aopOpenRetired_completes, idleTimeout_completes⟩

end Sys2Proof.Machine
end

section
/-! A host's writes of the ring header and of BAR0 (R26, R489, R491 to R493). -/

namespace Sys2Proof.Machine

/-! ### The ring header in a clean bank -/

/-- A range at most two ports' BAR0 behind a ring's base lies in bank 10, outside the device table (R339, R449, R491). -/
theorem ring_range (p : Fin 2) {o n : Nat} (h : o + n ≤ 0x20000) : SameBank (ringBase p) (ringBase p + o) n
    ∧ (ringBase p + o + n ≤ devTable ∨ devTable + 0x10000 ≤ ringBase p + o) := by
  have hbase : ringBase p = 0x1400000 + 0x10000 * p.val := rfl
  refine ⟨fun x hlo hhi => ?_, .inr ?_⟩
  · omega
  · unfold devTable
    omega

section
variable {s : State} {p : Fin 2} (h : s.clean (ringBase p))
include h

theorem hostNat_ring {o n : Nat} (ho : o + n ≤ 0x20000) : hostNat s (ringBase p + o) n = rdMem s (ringBase p + o) n :=
  hostNat_of_clean h (ring_range p ho).1

theorem hostPut_ring {o n : Nat} (ho : o + n ≤ 0x20000) (v : Nat) :
    MemOnly s (hostPut s (ringBase p + o) n v) ∧ Stored s (hostPut s (ringBase p + o) n v) (ringBase p + o) n v :=
  hostPut_of_clean h (ring_range p ho).1 (ring_range p ho).2 v

theorem hostTouch_header : hostTouch s (ringBase p) 20 = s := hostTouch_of_clean h (ring_range p (o := 0) (by decide)).1

theorem rqProdOf_of_clean : rqProdOf s p = rdMem s (ringBase p) 4 % 15 :=
  congrArg (· % 15) (hostNat_ring h (o := 0) (by decide))

theorem rqConsOf_of_clean : rqConsOf s p = rdMem s (ringBase p + 4) 4 % 15 := congrArg (· % 15) (hostNat_ring h (by decide))
theorem rsProdOf_of_clean : rsProdOf s p = rdMem s (ringBase p + 8) 4 % 16 := congrArg (· % 16) (hostNat_ring h (by decide))
theorem rsConsOf_of_clean : rsConsOf s p = rdMem s (ringBase p + 12) 4 % 16 := congrArg (· % 16) (hostNat_ring h (by decide))

end

/-! ### An index taken or discarded (R493) -/

/-- From s to s' a word of four octets is stored and nothing but memory differs. -/
def WordStored (s s' : State) (a v : Nat) : Prop := Stored s s' a 4 v ∧ s'.regs = s.regs ∧ s'.triads = s.triads

/-- From s to s' an index write of port p has been discarded. -/
def IndexDiscarded (s s' : State) (p : Fin 2) : Prop :=
  s'.mem = s.mem ∧ Pulsed s s' 650 ∧ bitOf (s'.rd (Adr.hstPstat p)) 17 = true
    ∧ SameRegs s s' (Adr.hstPstat p :: eventRegs 650) ∧ s'.triads = s.triads

theorem wordStored_of_clean {s : State} {p : Fin 2} (h : s.clean (ringBase p)) {o : Nat} (ho : o + 4 ≤ 0x20000) (v : Nat) :
    WordStored s (hostPut s (ringBase p + o) 4 v) (ringBase p + o) v :=
  have ⟨honly, hstored⟩ := hostPut_ring h ho v
  ⟨hstored, honly.regs, honly.triads⟩

theorem hstPstat_not_mem (p : Fin 2) : Adr.hstPstat p ∉ eventRegs 650 := by
  simp only [eventRegs, List.mem_cons, List.not_mem_nil, or_false, Adr.hstPstat, Adr.evcPend, Adr.evcOvr]
  omega

theorem ringErr_discards (s : State) (p : Fin 2) : IndexDiscarded s (ringErr s p) p := by
  have hset := setBitR_spec s (Adr.hstPstat p) (i := 17) (by decide)
  obtain ⟨hsame, hbit⟩ := hset
  obtain ⟨z, hz⟩ : ∃ z, s.setBitR (Adr.hstPstat p) 17 = z := ⟨_, rfl⟩
  have honly : RegsOnly s z := hz ▸ .setBitR s _ _
  rw [hz] at hsame hbit
  obtain ⟨hpulsed, hevents, -⟩ := pulse_spec z 650
  have hp := RegsOnly.pulse z 650
  have hmode : Adr.sysMode ∉ [Adr.hstPstat p] := by
    simp only [List.mem_singleton, Adr.sysMode, Adr.hstPstat]
    omega
  have hne {a : Nat} (ha : a ∈ eventRegs 650) : a ∉ [Adr.hstPstat p] := fun e =>
    hstPstat_not_mem p (List.mem_singleton.mp e ▸ ha)
  rw [ringErr, hz]
  refine ⟨hp.mem.trans honly.mem, ?_, ?_, fun a ha => ?_, hp.triads.trans honly.triads⟩
  · exact hpulsed.of_regs (by rw [modeOf, hsame _ hmode, modeOf]) fun a ha => hsame a (hne ha)
  · rw [hevents _ (hstPstat_not_mem p)]
    exact hbit
  · obtain ⟨ha1, ha2⟩ := not_or.mp (mt List.mem_cons.mpr ha)
    rw [hevents a ha2, hsame a (by simpa using ha1)]

/-- A new index is stored where the ring holds as many entries as it advances by, and discarded elsewhere. -/
theorem writeRqProd_of_clean {s : State} {p : Fin 2} (h : s.clean (ringBase p)) (v : Nat) :
    let at_ := rdMem s (ringBase p) 4 % 15
    if v < 15 ∧ (v + 15 - at_) % 15 ≤ (rdMem s (ringBase p + 4) 4 % 15 + 14 - at_) % 15 then
      WordStored s (writeRqProd s p v) (ringBase p) v
    else IndexDiscarded s (writeRqProd s p v) p := by
  intro at_
  rw [writeRqProd]
  simp only [hostTouch_header h, rqProdOf_of_clean h, rqConsOf_of_clean h]
  split
  · exact wordStored_of_clean h (o := 0) (by decide) v
  · exact ringErr_discards s p

theorem writeRsCons_of_clean {s : State} {p : Fin 2} (h : s.clean (ringBase p)) (v : Nat) :
    let at_ := rdMem s (ringBase p + 12) 4 % 16
    if v < 16 ∧ (v + 16 - at_) % 16 ≤ (rdMem s (ringBase p + 8) 4 % 16 + 16 - at_) % 16 then
      WordStored s (writeRsCons s p v) (ringBase p + 12) v
    else IndexDiscarded s (writeRsCons s p v) p := by
  intro at_
  rw [writeRsCons]
  simp only [hostTouch_header h, rsConsOf_of_clean h, rsProdOf_of_clean h]
  split
  · exact wordStored_of_clean h (by decide) v
  · exact ringErr_discards s p

/-! ### The two rows (log 25) -/

theorem hostRow_runs {s : State} {p : Fin 2} {w : HostStore} {i : Instr} (hi : i ∈ [Instr.rqProd p w, .rsCons p w]) :
    exec i s = .next (s.powered fun s => hostStore s p w) := by
  simp only [List.mem_cons, List.not_mem_nil, or_false] at hi
  rcases hi with rfl | rfl <;> rfl

/-- Without link, and outside BAR0, a write does nothing. -/
theorem hostStore_nowhere {s : State} {p : Fin 2} {w : HostStore} (h : pcieLink s p = false ∨ barOffset s p w.addr = none) :
    hostStore s p w = s := by
  rcases h with h | h
  · exact if_pos (by rw [h]; rfl)
  · rw [hostStore, h, ite_self]

/-- With link, a write at a word of BAR0 goes by the word's place. -/
theorem hostStore_at {s : State} {p : Fin 2} {w : HostStore} {o : Nat} (hlink : pcieLink s p = true)
    (ho : barOffset s p w.addr = some o) : hostStore s p w =
      if o = 0 then writeRqProd s p w.v.toNat else if o = 12 then writeRsCons s p w.v.toNat else if o < 64 then s
      else hostPut s (ringBase p + o) 4 w.v.toNat := by
  rw [hostStore, hlink, ho]
  rfl

theorem barOffset_lt {s : State} {p : Fin 2} {addr : BitVec 64} {o : Nat} (h : barOffset s p addr = some o) :
    o < (s.hosts.pcie[p]).barSize := by
  simp only [barOffset] at h
  split at h
  · next hin =>
    rw [← Option.some.inj h]
    exact Nat.sub_lt_left_of_lt_add hin.1 hin.2.1
  · exact absurd h nofun

section
variable {s : State} {p : Fin 2} {w : HostStore} {i : Instr} (hi : i ∈ [Instr.rqProd p w, .rsCons p w])
include hi

theorem hostRow_nowhere (h : pcieLink s p = false ∨ barOffset s p w.addr = none) : exec i s = .next s := by
  rw [hostRow_runs hi, State.powered, hostStore_nowhere h, ite_self]

variable (hlink : pcieLink s p = true) (hawake : modeOf s ≠ 5)
include hlink hawake

theorem hostRow_at {o : Nat} (ho : barOffset s p w.addr = some o) : exec i s = .next
    (if o = 0 then writeRqProd s p w.v.toNat else if o = 12 then writeRsCons s p w.v.toNat else if o < 64 then s
      else hostPut s (ringBase p + o) 4 w.v.toNat) := by
  rw [hostRow_runs hi, State.powered_of_awake _ _ hawake, hostStore_at hlink ho]

variable (h : s.clean (ringBase p)) (hsize : (s.hosts.pcie[p]).barSize = 0x10000)
include h hsize

/-- The writes of BAR0 by their place: RQ_PROD, RS_CONS, the rest of the header, the words behind it. -/
theorem hostRow_completes :
    (barOffset s p w.addr = some 0 →
      let at_ := rdMem s (ringBase p) 4 % 15
      Completes i s (fun s' =>
        if w.v.toNat < 15 ∧ (w.v.toNat + 15 - at_) % 15 ≤ (rdMem s (ringBase p + 4) 4 % 15 + 14 - at_) % 15 then
          WordStored s s' (ringBase p) w.v.toNat else IndexDiscarded s s' p))
    ∧ (barOffset s p w.addr = some 12 →
      let at_ := rdMem s (ringBase p + 12) 4 % 16
      Completes i s (fun s' =>
        if w.v.toNat < 16 ∧ (w.v.toNat + 16 - at_) % 16 ≤ (rdMem s (ringBase p + 8) 4 % 16 + 16 - at_) % 16 then
          WordStored s s' (ringBase p + 12) w.v.toNat else IndexDiscarded s s' p))
    ∧ ∀ o, barOffset s p w.addr = some o →
      (o ∉ [0, 12] → o < 64 → exec i s = .next s)
      ∧ (64 ≤ o → Completes i s (fun s' => WordStored s s' (ringBase p + o) w.v.toNat)) := by
  refine ⟨fun ho => ⟨writeRqProd s p w.v.toNat, ?_, writeRqProd_of_clean h _⟩,
    fun ho => ⟨writeRsCons s p w.v.toNat, ?_, writeRsCons_of_clean h _⟩, fun o ho => ⟨fun hnot hlt => ?_, fun hge => ?_⟩⟩
  · rw [hostRow_at hi hlink hawake ho, if_pos rfl]
  · rw [hostRow_at hi hlink hawake ho, if_neg (by decide), if_pos rfl]
  · simp only [List.mem_cons, List.not_mem_nil, or_false, not_or] at hnot
    rw [hostRow_at hi hlink hawake ho, if_neg hnot.1, if_neg hnot.2, if_pos hlt]
  · have hlt := barOffset_lt ho
    refine ⟨hostPut s (ringBase p + o) 4 w.v.toNat, ?_, wordStored_of_clean h (by omega) _⟩
    rw [hostRow_at hi hlink hawake ho, if_neg (by omega), if_neg (by omega), if_neg (by omega)]

end

end Sys2Proof.Machine
end

section
/-! The link of a PCIe port, and what M0 answers outside AOP (R26, R487, R489, R492, R502). -/

namespace Sys2Proof.Machine

/-- Port p with its HST_PSTATp and its function changed. -/
def State.upLink (s : State) (p : Fin 2) (f : Word → Word) (g : PcieFunction → PcieFunction) : State :=
  (s.up (Adr.hstPstat p) f).upPcie p g

theorem upLink_spec (s : State) (p : Fin 2) (f : Word → Word) (g : PcieFunction → PcieFunction) :
    let z := s.upLink p f g
    z.rd (Adr.hstPstat p) = f (s.rd (Adr.hstPstat p)) ∧ SameRegs s z [Adr.hstPstat p] ∧ z.sram = s.sram ∧ z.mem = s.mem
      ∧ z.triads = s.triads ∧ z.lcs = s.lcs ∧ z.hosts.pcie[p] = g s.hosts.pcie[p] := by
  have hregs := State.rd_congr (State.upPcie_regs (s.up (Adr.hstPstat p) f) p g)
  refine ⟨(hregs _).trans (State.rd_up_self _ _ _), fun a ha => ?_, State.upPcie_sram _ _ _, State.upPcie_mem _ _ _,
    State.upPcie_triads _ _ _, State.upPcie_lcs _ _ _, State.upPcie_self _ _ _⟩
  exact (hregs a).trans (State.rd_up_ne _ _ _ _ fun e => ha (List.mem_singleton.mpr e))

/-! ### The link goes down (R492, R502) -/

/-- Whether a session was open or not, behind its close it is not. -/
theorem closeSession_closes (s : State) (k : Fin 8) :
    let s' := closeSession s k
    (sess s' k).isOpen = false ∧ SessionOnly s s' k ∧ SameRegs s s' (eventRegs (640 + k.val)) ∧ s'.hosts.pcie = s.hosts.pcie := by
  intro s'
  cases hopen : (sess s k).isOpen with
  | true =>
    have hc := closeSession_spec hopen
    exact ⟨by rw [hc.self]; rfl, hc.only, hc.regs, hc.pcie⟩
  | false =>
    have hs' : s' = s := if_neg (by simp [hopen])
    rw [hs']
    exact ⟨hopen, .regsOnly (.refl s) k, fun _ _ => rfl, rfl⟩

theorem rdMem_of_zero {s : State} {a n : Nat} (h : ∀ i, i < n → rdByte s (a + i) = 0) : rdMem s a n = 0 := by
  have hzero (n : Nat) : natLE (List.replicate n 0) = 0 := by
    induction n with
    | zero => rfl
    | succ n ih => rw [List.replicate_succ, natLE, ih]; rfl
  have hbytes : rdBytes s a n = List.replicate n 0 := by
    rw [rdBytes, List.eq_replicate_iff]
    refine ⟨by rw [List.length_map, List.length_range], fun b hb => ?_⟩
    obtain ⟨i, hi, rfl⟩ := List.mem_map.mp hb
    exact h i (List.mem_range.mp hi)
  rw [rdMem, hbytes, hzero]

/-- The header reads zero up to READY, and no octet outside it changes (R492). -/
theorem clearRing_of_clean {s : State} {p : Fin 2} (h : s.clean (ringBase p)) : MemOnly s (clearRing s p)
    ∧ (∀ x, ringBase p ≤ x → x < ringBase p + 16 → rdByte (clearRing s p) x = 0)
    ∧ ∀ x, (x < ringBase p ∨ ringBase p + 64 ≤ x) → rdByte (clearRing s p) x = rdByte s x := by
  obtain ⟨y, hy⟩ : ∃ y, hostWrite s (ringBase p) (List.replicate 64 0) = y := ⟨_, rfl⟩
  have hrange := ring_range p (o := 0) (n := 64) (by decide)
  have hrun := hostWrite_of_clean h (a := ringBase p) (bs := List.replicate 64 0) hrange.1 hrange.2
  have hyonly : MemOnly s y := by
    rw [← hy, hrun]
    exact memOnly_storeOctets _ _ _ _
  have hybyte (x : Nat) : rdByte y x = if ringBase p ≤ x ∧ x < ringBase p + 64 then 0 else rdByte s x := by
    rw [← hy, hrun, rdByte_storeOctets, List.length_replicate]
    exact if_congr Iff.rfl (List.getD_eq_getElem?_getD.trans (List.getElem?_getD_replicate_default_eq _ _ _)) rfl
  obtain ⟨honly, hstored⟩ := hostPut_ring (State.clean_congr h hyonly.sram) (o := 16) (n := 4) (by decide) (engineUp s).toNat
  rw [clearRing, hy]
  refine ⟨hyonly.trans honly, fun x hlo hhi => ?_, fun x hx => ?_⟩
  · rw [hstored, if_neg (by omega), hybyte, if_pos (by omega)]
  · rw [hstored, if_neg (by omega), hybyte, if_neg (by omega)]

/-- HST_PSTATp of a port whose link has gone. -/
def pstatDown (w : Word) : Word := satField (setField (setField (putBit w 31 false) 30 28 0) 26 24 0) 15 0

theorem bitOf_pstatDown (w : Word) : bitOf (pstatDown w) 31 = false := by
  rw [pstatDown, bitOf_satField_of_gt _ (by decide), bitOf_setField, if_neg (by decide), bitOf_setField, if_neg (by decide),
    bitOf_putBit, if_pos rfl, Bool.and_false]

theorem linkDown_completes {s : State} {p : Fin 2} (hlink : pcieLink s p = true) (h : s.clean (ringBase p))
    (hwait : s.lcs.waiting = []) :
    Completes (.pcieLinkDown p) s (fun s' => pcieLink s' p = false ∧ s'.triads = s.triads
      ∧ (∀ x, ringBase p ≤ x → x < ringBase p + 16 → rdByte s' x = 0)
      ∧ (∀ x, (x < ringBase p ∨ ringBase p + 64 ≤ x) → rdByte s' x = rdByte s x)
      ∧ (s'.hosts.pcie[p]).msi = none ∧ (sess s' (ringSess p)).isOpen = false) := by
  obtain ⟨hzpstat, -, hzsram, hzmem, hztri, hzlcs, hzfn⟩ :=
    upLink_spec s p pstatDown fun f => { PcieFunction.reset with signalled := f.signalled }
  obtain ⟨z, hz⟩ : ∃ z, (s.upLink p pstatDown fun f => { PcieFunction.reset with signalled := f.signalled }) = z := ⟨_, rfl⟩
  rw [hz] at hzpstat hzsram hzmem hztri hzlcs hzfn
  obtain ⟨honly, hzero, hkeep⟩ := clearRing_of_clean (State.clean_congr h hzsram)
  obtain ⟨y, hy⟩ : ∃ y, clearRing z p = y := ⟨_, rfl⟩
  rw [hy] at honly hzero hkeep
  obtain ⟨hclosed, hcloses, hregs, hpcie⟩ := closeSession_closes y (ringSess p)
  obtain ⟨s', hs'⟩ : ∃ s', closeSession y (ringSess p) = s' := ⟨_, rfl⟩
  rw [hs'] at hclosed hcloses hregs hpcie
  have hbyte (x : Nat) : rdByte s' x = rdByte y x := by rw [rdByte, hcloses.mem, rdByte]
  have hquiet : s'.lcs.waiting = [] := hcloses.quiet (by rw [honly.lcs, hzlcs, hwait])
  have hpstat : Adr.hstPstat p ∉ eventRegs (640 + (ringSess p).val) := by
    simp only [eventRegs, ringSess, List.mem_cons, List.not_mem_nil, or_false, Adr.hstPstat, Adr.evcPend, Adr.evcOvr]
    omega
  refine ⟨s', ?_, ?_, ?_, fun x hlo hhi => (hbyte x).trans (hzero x hlo hhi), fun x hx => ?_, ?_, hclosed⟩
  · show Host.Outcome.next (pcieDown s p) = _
    rw [← approvalsGoOn_of_none hquiet, ← hs', ← hy, ← hz, pcieDown, if_pos hlink]
    rfl
  · rw [pcieLink, hregs _ hpstat, State.rd_congr honly.regs, hzpstat, bitOf_pstatDown]
  · rw [hcloses.triads, honly.triads, hztri]
  · rw [hbyte, hkeep x hx, rdByte, hzmem, rdByte]
  · rw [hpcie, honly.hosts, hzfn]
    rfl

/-! ### The link comes up (R26, R489, R492) -/

/-- HST_PSTATp of a port that has trained. -/
def pstatUp (gen width : BitVec 3) (w : Word) : Word :=
  setField (setField (putBit w 31 true) 30 28 gen.toNat) 26 24 width.toNat

theorem pstatUp_fields (gen width : BitVec 3) (w : Word) : bitOf (pstatUp gen width w) 31 = true
    ∧ field (pstatUp gen width w) 30 28 = gen.toNat ∧ field (pstatUp gen width w) 26 24 = width.toNat := by
  refine ⟨?_, ?_, ?_⟩
  · rw [pstatUp, bitOf_setField, if_neg (by decide), bitOf_setField, if_neg (by decide), bitOf_putBit, if_pos rfl]
    rfl
  · have hgen : field (pstatUp gen width w) 30 28 = field (setField (putBit w 31 true) 30 28 gen.toNat) 30 28 :=
      field_congr fun i hlo _ => by rw [pstatUp, bitOf_setField, if_neg (by omega)]
    rw [hgen, field_setField_self _ _ (by decide), Nat.mod_eq_of_lt gen.isLt]
  · rw [pstatUp, field_setField_self _ _ (by decide), Nat.mod_eq_of_lt width.isLt]

theorem engineUp_congr {s z : State} {l : List Nat} (h : SameRegs s z l) (hlcs : z.lcs = s.lcs) (hmode : Adr.sysMode ∉ l)
    (hstat : Adr.tstStat ∉ l) : engineUp z = engineUp s := by
  simp only [engineUp, modeOf, lcState, h _ hmode, h _ hstat, hlcs]

theorem linkUp_idle {s : State} {p : Fin 2} (gen : BitVec 3) (x : PcieSetup)
    (h : trainsAt s p gen x.width = false ∨ serdesUp s = false) : exec (.pcieLinkUp p gen x) s = .next s := by
  refine congrArg Host.Outcome.next (if_pos ?_)
  rcases h with h | h <;> simp [h]

theorem linkUp_completes {s : State} {p : Fin 2} (gen : BitVec 3) (x : PcieSetup) (h : s.clean (ringBase p))
    (htrains : trainsAt s p gen x.width = true) (hup : serdesUp s = true) :
    Completes (.pcieLinkUp p gen x) s (fun s' => pcieLink s' p = true
      ∧ field (s'.rd (Adr.hstPstat p)) 30 28 = gen.toNat ∧ field (s'.rd (Adr.hstPstat p)) 26 24 = x.width.toNat
      ∧ SameRegs s s' [Adr.hstPstat p] ∧ s'.triads = s.triads
      ∧ s'.hosts.pcie[p] = { s.hosts.pcie[p] with bar0 := x.bar0 &&& 0xFFFF0000, msi := x.msi }
      ∧ if engineUp s then Stored s s' (ringBase p + 16) 4 1 else s'.mem = s.mem) := by
  obtain ⟨hzpstat, hzsame, hzsram, hzmem, hztri, hzlcs, hzfn⟩ :=
    upLink_spec s p (pstatUp gen x.width) fun f => { f with bar0 := x.bar0 &&& 0xFFFF0000, msi := x.msi }
  obtain ⟨z, hz⟩ : ∃ z,
    (s.upLink p (pstatUp gen x.width) fun f => { f with bar0 := x.bar0 &&& 0xFFFF0000, msi := x.msi }) = z := ⟨_, rfl⟩
  rw [hz] at hzpstat hzsame hzsram hzmem hztri hzlcs hzfn
  have hengine : engineUp z = engineUp s := by
    refine engineUp_congr hzsame hzlcs ?_ ?_ <;> simp only [List.mem_singleton, Adr.sysMode, Adr.tstStat, Adr.hstPstat] <;> omega
  obtain ⟨hlink, hgen, hwidth⟩ := pstatUp_fields gen x.width (s.rd (Adr.hstPstat p))
  have hrun : exec (.pcieLinkUp p gen x) s = .next (if engineUp s then hostPut z (ringBase p + 16) 4 1 else z) := by
    rw [← hengine, ← hz]
    exact congrArg Host.Outcome.next (if_neg (by simp [htrains, hup]))
  obtain ⟨y, hy⟩ : ∃ y, (if engineUp s then hostPut z (ringBase p + 16) 4 1 else z) = y := ⟨_, rfl⟩
  rw [hy] at hrun
  obtain ⟨hyonly, hymem⟩ : MemOnly z y ∧ if engineUp s then Stored s y (ringBase p + 16) 4 1 else y.mem = s.mem := by
    rw [← hy]
    split
    · obtain ⟨honly, hstored⟩ := hostPut_ring (State.clean_congr h hzsram) (o := 16) (n := 4) (by decide) 1
      refine ⟨honly, fun x => (hstored x).trans ?_⟩
      rw [rdByte, hzmem, rdByte]
    · exact ⟨⟨_, rfl⟩, hzmem⟩
  have hyrd := State.rd_congr hyonly.regs
  refine ⟨y, hrun, ?_, ?_, ?_, fun a ha => (hyrd a).trans (hzsame a ha), ?_, ?_, hymem⟩
  · rw [pcieLink, hyrd, hzpstat, hlink]
  · rw [hyrd, hzpstat, hgen]
  · rw [hyrd, hzpstat, hwidth]
  · rw [hyonly.triads, hztri]
  · rw [hyonly.hosts, hzfn]

/-! ### ARP and echo (R487) -/

/-- M0 answers the frames for an address it owns: with the station address, and with the payload of the echo. -/
theorem m0Replies {s : State} {v6 : Bool} {target src : BitVec 128} {o : List Byte} (hfits : frameFits o = true)
    (hup : engineUp s = true) (howns : m0Owns s v6 target = true) :
    exec (.arp v6 target src o) s = .next { s with hosts := { s.hosts with
        m0Sent := (src, 0, bytesBE 6 Config.fuseMac.toNat) :: s.hosts.m0Sent } }
      ∧ exec (.echoRequest v6 target src o) s = .next { s with hosts := { s.hosts with m0Sent := (src, 0, o) :: s.hosts.m0Sent } } := by
  have hreply (bs : List Byte) : m0Reply s v6 target src bs = send s (.m0 src 0) bs := by
    rw [m0Reply, hup, howns]
    rfl
  have harp : exec (.arp v6 target src o) s = .next (m0Reply s v6 target src (bytesBE 6 Config.fuseMac.toNat)) :=
    congrArg Host.Outcome.next (if_pos hfits)
  have hecho : exec (.echoRequest v6 target src o) s = .next (m0Reply s v6 target src o) :=
    congrArg Host.Outcome.next (if_pos hfits)
  rw [harp, hecho, hreply, hreply]
  exact ⟨rfl, rfl⟩

end Sys2Proof.Machine
end

section
/-! Answers of the soft server, and the statement (R512, R513). -/

namespace Sys2Proof.Machine

section
variable {s : State} {e : Fin 32} {x : SoftEntry} {k : Fin 8} {a : BitVec 128} {u : BitVec 16}
  (hvia : (sess s k).via = some (.m0 a u)) (hwait : (sess s k).waiting = [])
include hvia hwait

/-- A deferred response on M0 with nothing waiting behind it. -/
theorem answerLate_m0 (seq : BitVec 32) (op : Byte) (status : Nat) (payload : List Byte) :
    let s' := answerLate s k seq op status payload
    let m := tagged (sess s k).key (msgOctets 0x12 op (BitVec.ofNat 8 k.val) seq status (if status = 0 then payload else []))
    SessionOnly s s' k ∧ (sess s' k).executing = none ∧ s'.regs = s.regs ∧ s'.hosts.m0Sent = (a, u, m) :: s.hosts.m0Sent
      ∧ s'.hosts.soft = s.hosts.soft ∧ s'.hosts.softLate = s.hosts.softLate := by
  intro s' m
  obtain ⟨honly, ⟨l, hself⟩, hregs, -, hsent, hsoft, hlate⟩ := answerUnder_m0 hvia (sess s k).key seq op status payload
  have hrun : s' = answerUnder s k (sess s k).key seq op status payload := drain_of_none (by rw [answer, hself]; exact hwait) 4
  rw [hrun]
  exact ⟨honly, by rw [hself], hregs, hsent, hsoft, hlate⟩

end

/-- The entry's request is answered: the entry is free, no request executes, and nothing else but the session changes. -/
def SoftAnswered (s s' : State) (e : Fin 32) (x : SoftEntry) (k : Fin 8) (a : BitVec 128) (u : BitVec 16) (status : Nat) : Prop :=
  s'.hosts.soft = s.hosts.soft.filter (fun y => decide (y.entry ≠ e)) ∧ (sess s' k).executing = none
    ∧ s'.hosts.m0Sent = (a, u, tagged (sess s k).key (msgOctets 0x12 x.op (BitVec.ofNat 8 k.val) x.seq status [])) :: s.hosts.m0Sent
    ∧ s'.mem = s.mem ∧ s'.regs = s.regs ∧ s'.triads = s.triads

theorem freeSoft_soft (s : State) (e : Fin 32) :
    (freeSoft s e).hosts.soft = s.hosts.soft.filter fun y => decide (y.entry ≠ e) :=
  List.filter_congr fun y _ => Bool.eq_iff_iff.mpr (by rw [bne_iff_ne, decide_eq_true_iff])

section
variable {s : State} {e : Fin 32} {x : SoftEntry} {k : Fin 8} {a : BitVec 128} {u : BitVec 16}
  (hfind : s.hosts.soft.find? (fun y => y.entry == e) = some x) (hsess : x.sess = some k)
  (hvia : (sess s k).via = some (.m0 a u)) (hwait : (sess s k).waiting = [])
include hfind hsess hvia hwait

/-- The server's answer with status 0 to a write (R512). -/
theorem softDone_answers (w : TriadId) (h : s.clean 0x1430000) (hserver : field (s.rd Adr.hstSoftcfg) 18 16 = w.val)
    (hstatus : rdMem s (0x1430000 + 0x1000 * e.val + 0x600) 2 = 0) (hop : x.op = 0x11) :
    Completes (.hstSoftdone w e) s (fun s' => SoftAnswered s s' e x k a u 0) := by
  obtain ⟨y, hy⟩ : ∃ y, freeSoft s e = y := ⟨_, rfl⟩
  have hysess : sess y = sess s := by rw [← hy]; rfl
  have hymem : y.mem = s.mem := by rw [← hy]; rfl
  have hysoft := freeSoft_soft s e
  have hyparts : y.regs = s.regs ∧ y.triads = s.triads ∧ y.hosts.m0Sent = s.hosts.m0Sent ∧ y.sram = s.sram := by
    rw [← hy]
    exact ⟨rfl, rfl, rfl, rfl⟩
  obtain ⟨hyregs, hytri, hysent, hysram⟩ := hyparts
  rw [hy] at hysoft
  have hyclean := State.clean_congr h hysram
  have hbank (n : Nat) (hn : n ≤ 16) : SameBank 0x1430000 (softAddr e.val + 0x600) n := fun z hlo hhi => by
    unfold softAddr at hlo hhi
    omega
  have hread : hostNat y (softAddr e.val + 0x600) 2 = 0 := by
    rw [hostNat_of_clean hyclean (hbank 2 (by decide)), ← hstatus, rdMem, rdMem, rdBytes, rdBytes]
    simp only [rdByte, hymem]
    rfl
  have htouch : hostTouch y (softAddr e.val + 0x600) 16 = y := hostTouch_of_clean hyclean (hbank 16 (by decide))
  have hrun : softDone s w e = answerLate y k x.seq x.op 0 [] := by
    rw [softDone, if_neg (by rw [hserver]; exact fun hne => hne rfl), hfind]
    simp only [hsess, hy, hop]
    rw [if_neg (by decide), htouch, hread]
    rfl
  obtain ⟨honly, hexec, hregs, hsent, hsoft, -⟩ :=
    answerLate_m0 (s := y) (by rw [hysess]; exact hvia) (by rw [hysess]; exact hwait) x.seq x.op 0 []
  refine ⟨_, congrArg Host.Outcome.next hrun, hsoft.trans hysoft, hexec, ?_, honly.mem.trans hymem, hregs.trans hyregs,
    honly.triads.trans hytri⟩
  rw [hsent, hysess, hysent, ite_self]

/-- The time for the server's answer ends (R513). -/
theorem softTimeout_answers : Completes (.softTimeout e) s (fun s' => SoftAnswered s s' e x k a u 0x000A ∧ e ∈ s'.hosts.softLate) := by
  obtain ⟨y, hy⟩ : ∃ y, (freeSoft s e).upHosts (fun h => { h with softLate := e :: h.softLate.filter fun x => x != e }) = y :=
    ⟨_, rfl⟩
  have hysess : sess y = sess s := by rw [← hy]; rfl
  have hysoft : y.hosts.soft = (freeSoft s e).hosts.soft := by rw [← hy]; rfl
  have hylate : e ∈ y.hosts.softLate := by rw [← hy]; exact List.mem_cons_self
  have hyparts : y.mem = s.mem ∧ y.regs = s.regs ∧ y.triads = s.triads ∧ y.hosts.m0Sent = s.hosts.m0Sent := by
    rw [← hy]
    exact ⟨rfl, rfl, rfl, rfl⟩
  obtain ⟨hymem, hyregs, hytri, hysent⟩ := hyparts
  have hrun : softTimeout s e = answerLate y k x.seq x.op 0x000A [] := by
    simp only [softTimeout, hfind, hsess, hy]
  obtain ⟨honly, hexec, hregs, hsent, hsoft, hlate⟩ :=
    answerLate_m0 (s := y) (by rw [hysess]; exact hvia) (by rw [hysess]; exact hwait) x.seq x.op 0x000A []
  refine ⟨_, congrArg Host.Outcome.next hrun, ⟨hsoft.trans (hysoft.trans (freeSoft_soft s e)), hexec, ?_,
    honly.mem.trans hymem, hregs.trans hyregs, honly.triads.trans hytri⟩, by rw [hlate]; exact hylate⟩
  rw [hsent, hysess, hysent, ite_self]

end

/-! ### The statement -/

theorem hostTraffic : Clause.HostTraffic := by
  intro s p base stored refused
  refine ⟨fun w i hi => ⟨hostRow_nowhere hi, fun hlink h hawake hsize => hostRow_completes hi hlink hawake h hsize⟩,
    fun hlink h hwait => ?down, linkUp_idle, linkUp_completes,
    fun v6 target src o hfits hup howns => m0Replies hfits hup howns,
    fun e x k a u hfind hsess hvia hwait =>
      ⟨softDone_answers hfind hsess hvia hwait, softTimeout_answers hfind hsess hvia hwait⟩⟩
  case down =>
    obtain ⟨s', hrun, hgone, htri, hzero, hkeep, hmsi, hclosed⟩ := linkDown_completes hlink h hwait
    have hindex (o : Nat) (ho : o + 4 ≤ 16) : rdMem s' (base + o) 4 = 0 :=
      rdMem_of_zero fun i hi => hzero _ (by rw [Nat.add_assoc]; exact Nat.le_add_right _ _) (by
        rw [Nat.add_assoc]; exact Nat.add_lt_add_left (by omega) _)
    exact ⟨s', hrun, hgone, htri, hindex 0 (by decide), hindex 4 (by decide), hindex 8 (by decide), hindex 12 (by decide),
      hkeep, hmsi, hclosed⟩

/-- Settles O40: an OPEN opens its target behind the close of the sender's former session; in a clean bank the ring's header
is read and written as it stands; a soft request's answer leaves by its session's datagram. -/
theorem sessionsAndTraffic : Obligations.SessionsAndTraffic := ⟨sessionsOpenAndClose, hostTraffic⟩

end Sys2Proof.Machine
end

section
/-! A step of the timebase, and an input flip, under a reaction table that holds a class past X, which no write of an object
lets in (R614, R616) and which the clauses' states do not exclude: the report of a late action, or of the word with its
STATUS, then reaches a register of the Tense unit (R164, R346, R397, R398, R417, R427). -/

namespace Sys2Proof.Machine

/-- The class under which the event pulsed for it, 768 + class, has its pending bit at bit 0 of register a. -/
def strayClassAt (a : Nat) : Nat := (a - Adr.evcPend 0) / 4 * 32 - 768

/-- The state with a reaction table that holds that class for fault f. -/
def State.withStrayClass (s : State) (f a : Nat) : State :=
  { s with fcu := { s.fcu with table := [(objKey (0x2100 + f) 1, bytesBE 3 (strayClassAt a))] } }

/-! ### A step (R397, R398) -/

/-- An undispatched action of triad 0 for time 0, with the late policy FAULT. -/
def faultAction : Armed :=
  { idx := 0, time := 0, kind := 6, tgt := 0, owner := 0, late := 2, arg0 := 0, arg1 := 0, cyc := none, dispatched := false,
    isLate := false }

/-- The timebase stands at 0; the class of F11, which a late action of triad 0 reports, is one of TNS_NOW. -/
def strayStep : State := (State.reset.setArmed [faultAction]).withStrayClass 11 Adr.tnsNow

/-- A step by 0 finds the action late, and its report sets bit 0 of TNS_NOW. -/
theorem now_writeStep_strayStep : now (writeStep strayStep 0) = 1 := by decide +kernel

theorem not_timeIsServed : ¬ Clause.TimeIsServed := by
  intro h
  obtain ⟨hstep, -, -⟩ := h strayStep
  obtain ⟨s', hrun, hnow, -⟩ := hstep 0 (by decide +kernel) (by decide +kernel) (.inr (by decide +kernel))
  have hs' : writeStep strayStep 0 = s' := Host.Outcome.next.inj hrun
  rw [← hs', now_writeStep_strayStep] at hnow
  exact absurd hnow (by decide +kernel)

/-- Refutes O28: in a state whose reaction table holds a class past X, the report of an action late by step alters the
TIME64 to which the step has just added its offset. -/
theorem not_timeKeeps : ¬ Obligations.TimeKeeps := fun h => not_timeIsServed h.2

/-! ### An input flip (R427) -/

/-- The dispatched input flip of table 0 for its cycle 0. -/
def flipAction : Armed := { faultAction with kind := 5, cyc := some (0, 0), dispatched := true }

/-- Table 0 is enabled and bound to the input image; two cells of the word with the flip's STATUS have flipped, and the class
of F96, the fault of such a word, is one of TNS_ISTAT. -/
def strayFlip : State :=
  let s := ((State.reset.setArmed [flipAction]).wr (Adr.tnsCycCtl 0) 0x10000).wr Adr.tnsIcfg 0x10000
  { s with sram := { s.sram with errors := [((entryAddr 0 + 28) / 8 * 8, 3)] } }.withStrayClass 96 Adr.tnsIstat

/-- The flip toggles READ and shows cycle 0; the write of STATUS then reports the word, and CYCLE reads 1. -/
theorem cycle_inputFlip_strayFlip : field ((flipEffect strayFlip 0 0 inputFlip).rd Adr.tnsIstat) 31 0 = 1 := by decide +kernel

theorem not_imagesFlip : ¬ Clause.ImagesFlip := by
  intro h
  obtain ⟨hinput, -⟩ := h strayFlip 0 flipAction 0 0 (by decide +kernel) rfl (by decide +kernel)
  obtain ⟨s', hrun, -, hcycle, -⟩ := hinput rfl (by decide +kernel) (by decide +kernel) (by decide +kernel)
  have hs' : flipEffect strayFlip 0 0 inputFlip = s' := Host.Outcome.next.inj hrun
  rw [← hs', cycle_inputFlip_strayFlip] at hcycle
  exact absurd hcycle (by decide)

/-- Refutes O30: in a state whose reaction table holds a class past X, the report of the uncorrectable word that takes the
flip's STATUS alters the cycle that TNS_ISTAT has just taken. -/
theorem not_tablesAndImages : ¬ Obligations.TablesAndImages := fun h => not_imagesFlip h.2

end Sys2Proof.Machine
end

section
/-! The calendar's entries in a clean bank, and its commands (R408, R409, R411 to R415, R417). -/

namespace Sys2Proof.Machine

/-! ### An entry as octets -/

theorem natLE_lt (l : List Byte) : natLE l < 256 ^ l.length := by
  induction l with
  | nil => exact Nat.one_pos
  | cons b l ih =>
    have hb := b.isLt
    rw [natLE, List.length_cons, Nat.pow_succ]
    omega

/-- A number of eight octets fits a word. -/
theorem toNat_ofNat_rdMem (s : State) (a : Nat) : (BitVec.ofNat 64 (rdMem s a 8)).toNat = rdMem s a 8 := by
  have h := natLE_lt (rdBytes s a 8)
  rw [length_rdBytes] at h
  exact Nat.mod_eq_of_lt h

/-- A number within octets that were read is the number that memory holds there (R9). -/
theorem leAt_rdBytes (s : State) (a : Nat) {m off n : Nat} (h : off + n ≤ m) : leAt (rdBytes s a m) off n = rdMem s (a + off) n := by
  refine congrArg natLE (List.map_congr_left fun i hi => ?_)
  rw [getD_rdBytes s a (by have := List.mem_range.mp hi; omega), Nat.add_assoc]

/-- A valid entry's copy holds the entry's index, time and argument, and awaits its dispatch (R407, R409). -/
theorem parseEntry_spec {bs : List Byte} {k : Nat} {a : Armed} (h : parseEntry bs k = some a) :
    a.idx = k ∧ a.time = BitVec.ofNat 64 (leAt bs 0 8) ∧ a.arg0 = BitVec.ofNat 64 (leAt bs 16 8) ∧ a.dispatched = false := by
  unfold parseEntry at h
  extract_lets w kind tgt late tgtOk at h
  split at h
  · cases h
    exact ⟨rfl, rfl, rfl, rfl⟩
  · cases h

/-! ### An entry in its bank -/

section
variable {s : State} {k : BitVec 14} (h : s.clean (entryAddr k.toNat))
include h

/-- The unit reads an entry as it stands in memory. -/
theorem sramRead_entry : sramRead s .tense (entryAddr k.toNat) 32 = (s, rdBytes s (entryAddr k.toNat) 32) :=
  sramRead_of_clean h .tense fun x hlo hhi => by
    have := k.isLt
    unfold entryAddr at *
    omega

/-- STATUS of an action that no table made: its four octets, and nothing else (R414). -/
theorem writeStatus_entry (bits : Nat) : MemOnly s (writeStatus s k.toNat bits none)
    ∧ Stored s (writeStatus s k.toNat bits none) (entryAddr k.toNat + 28) 4 bits := by
  have hk := k.isLt
  have hlen : (bytesLE 4 bits).length = 4 := length_bytesLE 4 bits
  have hbytes : (bytesLE 4 bits).length ∈ [1, 2, 4, 8] := by rw [hlen]; decide
  have halign : (entryAddr k.toNat + 28) % (bytesLE 4 bits).length = 0 := by
    rw [hlen, entryAddr]
    omega
  have hon : bankOn s (entryAddr k.toNat + 28) = true := by
    rw [bankOn_congr s (b := entryAddr k.toNat) (by unfold entryAddr; omega)]
    exact h.on
  have htable : entryAddr k.toNat + 28 + (bytesLE 4 bits).length ≤ devTable := by
    rw [hlen, entryAddr, devTable]
    omega
  have hrun : writeStatus s k.toNat bits none = storeOctets s (entryAddr k.toNat + 28) 0 (enabled (bytesLE 4 bits)) := by
    have hlen' : (enabled (bytesLE 4 bits)).length = (bytesLE 4 bits).length := List.length_map _
    simp only [writeStatus, Nat.add_zero]
    rw [sramWrite, hlen', rowsOf_aligned hbytes halign, List.foldl_cons, List.foldl_nil, portClear_of_none h.kept,
      rowsWrite_aligned hbytes halign h.good hon (.inl htable)]
  rw [hrun]
  refine ⟨memOnly_storeOctets _ _ _ _, fun x => ?_⟩
  rw [rdByte_storeOctets, hlen]
  split
  · next hx => exact getD_bytesLE (by omega) bits
  · rfl

end

theorem MemOnly.tense {s s' : State} (h : MemOnly s s') : s'.tense = s.tense := by obtain ⟨m, rfl⟩ := h; rfl
theorem MemOnly.chans {s s' : State} (h : MemOnly s s') : s'.chans = s.chans := by obtain ⟨m, rfl⟩ := h; rfl
theorem MemOnly.legacy {s s' : State} (h : MemOnly s s') : s'.legacy = s.legacy := by obtain ⟨m, rfl⟩ := h; rfl

/-- A pulse still shows behind what changes no register. -/
theorem Pulsed.then_regs {s z s' : State} {n : Nat} (h : Pulsed s z n) (hregs : s'.regs = z.regs) : Pulsed s s' n where
  pend i := by rw [State.rd_congr hregs]; exact h.pend i
  ovr i := by rw [State.rd_congr hregs]; exact h.ovr i

/-- Octets stored behind what leaves memory as it was. -/
theorem Stored.of_mem {s z s' : State} {a n v : Nat} (h : Stored z s' a n v) (hmem : z.mem = s.mem) :
    Stored s s' a n v := fun x => by
  have hz : rdByte z x = rdByte s x := congrArg (fun m => sparseGet m x 0) hmem
  rw [h x, hz]

/-! ### Arming (R408, R409, R413) -/

/-- The undispatched copy of an entry leaves the calendar (R413). -/
theorem replaceCopy_eq (s : State) (k : Nat) :
    replaceCopy s k = s.setArmed (s.tense.armed.filter fun b => decide (b.idx ≠ k ∨ b.dispatched = true)) := by
  refine congrArg s.setArmed (List.filter_congr fun b _ => ?_)
  cases b.dispatched <;> simp [beq_eq_decide]

/-- An outcome in TNS_ARMRES is one register, whatever became of the calendar before it. -/
theorem putArmres_setArmed (s : State) (l : List Armed) (w : TriadId) (k res : Nat) :
    let s' := putArmres (s.setArmed l) w k res
    (SameRegs s s' [Adr.tnsArmres w] ∧ s'.triads = s.triads) ∧ s'.mem = s.mem
      ∧ s'.rd (Adr.tnsArmres w) = BitVec.ofNat 64 (k * 65536 + res) ∧ s'.tense.armed = l :=
  ⟨⟨fun a ha => State.rd_wr_ne (s.setArmed l) _ a _ fun e => ha (List.mem_singleton.mpr e), rfl⟩, rfl,
    State.rd_wr_self (s.setArmed l) _ _, rfl⟩

section
variable {s : State} {w : TriadId} {k : BitVec 14} {a : Armed} (h : s.clean (entryAddr k.toNat))
  (hparse : parseEntry (rdBytes s (entryAddr k.toNat) 32) k.toNat = some a) (hkind : a.kind ≠ 5) (howner : a.owner = w.val)
  (hfree : entryOwned s k.toNat = false)
  (htime : (field (s.rd Adr.tnsCtl) 15 8 * 16000 : Int) ≤ (a.time - now s).toInt)
include h hparse hkind howner hfree htime

/-- An entry that R409 admits, of its writer and in time, is armed in place of its undispatched copy. -/
theorem armEntry_of_valid : armEntry s w k = putArmres (s.setArmed
      ((s.tense.armed.filter fun b => decide (b.idx ≠ k.toNat ∨ b.dispatched = true)) ++ [a])) w k.toNat 1 := by
  obtain ⟨hidx, -⟩ := parseEntry_spec hparse
  have hcopy : armCopy s a (now s) (field (s.rd Adr.tnsCtl) 15 8 * 16000) = (s.setArmed
      ((s.tense.armed.filter fun b => decide (b.idx ≠ k.toNat ∨ b.dispatched = true)) ++ [a]), 1) := by
    simp only [armCopy, hidx, replaceCopy_eq, if_neg (Int.not_lt.mpr htime)]
    rfl
  simp only [armEntry, sramRead_entry h, hparse, if_neg hkind, if_neg (not_not.mpr howner), hfree, Bool.false_eq_true, if_false,
    hcopy]

theorem arm_completes : Completes (.arm w k) s fun s' =>
    (SameRegs s s' [Adr.tnsArmres w] ∧ s'.triads = s.triads) ∧ s'.mem = s.mem
      ∧ s'.rd (Adr.tnsArmres w) = BitVec.ofNat 64 (k.toNat * 65536 + 1)
      ∧ a.idx = k.toNat ∧ a.time.toNat = rdMem s (entryAddr k.toNat) 8 ∧ a.arg0.toNat = rdMem s (entryAddr k.toNat + 16) 8
      ∧ a.dispatched = false
      ∧ s'.tense.armed = (s.tense.armed.filter fun b => decide (b.idx ≠ k.toNat ∨ b.dispatched = true)) ++ [a] := by
  obtain ⟨hidx, hat, harg, hdis⟩ := parseEntry_spec hparse
  rw [leAt_rdBytes _ _ (by decide)] at hat harg
  obtain ⟨honly, hmem, hres, harmed⟩ := putArmres_setArmed s
    ((s.tense.armed.filter fun b => decide (b.idx ≠ k.toNat ∨ b.dispatched = true)) ++ [a]) w k.toNat 1
  refine ⟨_, congrArg Host.Outcome.next (armEntry_of_valid h hparse hkind howner hfree htime), honly, hmem, hres, hidx, ?_, ?_,
    hdis, harmed⟩
  · rw [hat]
    exact toNat_ofNat_rdMem s _
  · rw [harg]
    exact toNat_ofNat_rdMem s _

end

/-! ### Disarming (R415) -/

theorem disarm_completes {s : State} {w : TriadId} {k : BitVec 14} {a : Armed} (hfree : entryOwned s k.toNat = false)
    (hfind : s.tense.armed.find? (fun b => b.idx == k.toNat && !b.dispatched) = some a) (howner : a.owner = w.val) :
    Completes (.disarm w k) s fun s' => (SameRegs s s' [Adr.tnsArmres w] ∧ s'.triads = s.triads) ∧ s'.mem = s.mem
      ∧ s'.rd (Adr.tnsArmres w) = BitVec.ofNat 64 (k.toNat * 65536 + 8) ∧ s'.tense.armed = s.tense.armed.erase a := by
  have hrun : disarmEntry s w k = putArmres (s.setArmed (s.tense.armed.erase a)) w k.toNat 8 := by
    simp only [disarmEntry, hfree, hfind, if_pos howner]
    rfl
  exact ⟨_, congrArg Host.Outcome.next hrun, putArmres_setArmed s _ w k.toNat 8⟩

/-! ### Dispatch (R411) -/

/-- What a dispatch does with the action that R411 takes first, from 1 us before its time. -/
theorem dispatchEntry_of_first {s : State} {k : BitVec 14} {a : Armed} (hfirst : firstDue s.tense.armed = some a)
    (hidx : a.idx = k.toNat) (hfrom : atOrAfter (now s) (a.time - 16000) = true) : dispatchEntry s k =
      if atOrAfter (a.time - 1600) (now s) then
        onDispatch (s.setArmed (s.tense.armed.map fun b => if b = a then { b with dispatched := true } else b)) a
      else makeLate s a := by
  simp only [dispatchEntry, hfirst, if_pos (And.intro hidx hfrom)]
  cases atOrAfter (a.time - 1600) (now s) <;> rfl

/-- Only a frame's launch starts anything at its dispatch (R454). -/
theorem onDispatch_of_kind {a : Armed} (h : a.kind ≠ 4) (s : State) : onDispatch s a = s := if_neg h

/-! ### Late actions (R412, R414, R417) -/

/-- What a late action moves: TNS_LATECNT, LATE of TNS_STAT and E0440. -/
theorem countLate_spec (s : State) : RegsOnly s (countLate s)
    ∧ SameRegs s (countLate s) (Adr.tnsLatecnt :: Adr.tnsStat :: eventRegs 440) ∧ Pulsed s (countLate s) 440 := by
  obtain ⟨z, hz⟩ : ∃ z, (s.up Adr.tnsLatecnt fun w => satField w 31 0).setBitR Adr.tnsStat 1 = z := ⟨_, rfl⟩
  have hsame : SameRegs s z [Adr.tnsLatecnt, Adr.tnsStat] := fun a ha => by
    simp only [List.mem_cons, List.not_mem_nil, or_false, not_or] at ha
    rw [← hz, State.setBitR, State.rd_up_ne _ _ _ _ ha.2, State.rd_up_ne _ _ _ _ ha.1]
  have hregs : RegsOnly s z := hz ▸ (RegsOnly.up s _ _).trans (.setBitR _ _ _)
  obtain ⟨hpulsed, hpulse, -⟩ := pulse_spec z 440
  have hmode : modeOf z = modeOf s := congrArg (field · 2 0) (hsame _ (by decide))
  have hrun : countLate s = pulse z 440 := by rw [countLate, hz]
  rw [hrun]
  refine ⟨hregs.trans (.pulse z 440), fun a ha => ?_, hpulsed.of_regs hmode fun a ha => hsame a ?_⟩
  · simp only [List.mem_cons, not_or] at ha
    rw [hpulse a ha.2.2, hsame a (by simp [ha.1, ha.2.1])]
  · revert a
    decide

section
variable {s : State} {a : Armed}

/-- What every late action does, told from the state before it leaves the calendar. -/
theorem countLate_dropArmed : (SameRegs s (countLate (dropArmed s a)) (Adr.tnsLatecnt :: Adr.tnsStat :: eventRegs 440)
    ∧ (countLate (dropArmed s a)).triads = s.triads) ∧ Pulsed s (countLate (dropArmed s a)) 440
    ∧ (countLate (dropArmed s a)).mem = s.mem ∧ (countLate (dropArmed s a)).sram = s.sram
    ∧ (countLate (dropArmed s a)).tense.armed = s.tense.armed.erase a := by
  obtain ⟨⟨r, hr⟩, hsame, hpend, hovr⟩ := countLate_spec (dropArmed s a)
  exact ⟨⟨hsame, by rw [hr]; rfl⟩, ⟨hpend, hovr⟩, by rw [hr]; rfl, by rw [hr]; rfl, by rw [hr]; rfl⟩

/-- FIRE_LATE: the action stands in the calendar as dispatched and late. -/
theorem makeLate_fires (hlate : a.late = 0) (hkind : a.kind ≠ 4) :
    (SameRegs s (makeLate s a) (Adr.tnsLatecnt :: Adr.tnsStat :: eventRegs 440) ∧ (makeLate s a).triads = s.triads)
      ∧ Pulsed s (makeLate s a) 440 ∧ (makeLate s a).mem = s.mem
      ∧ (makeLate s a).tense.armed = s.tense.armed.erase a ++ [{ a with dispatched := true, isLate := true }] := by
  obtain ⟨⟨hsame, htri⟩, hpulsed, hmem, -, harmed⟩ := countLate_dropArmed (s := s) (a := a)
  have hrun : makeLate s a = (countLate (dropArmed s a)).setArmed
      ((countLate (dropArmed s a)).tense.armed ++ [{ a with dispatched := true, isLate := true }]) := by
    simp only [makeLate, latePolicy, if_pos hlate]
    exact onDispatch_of_kind hkind _
  rw [hrun]
  exact ⟨⟨hsame, htri⟩, hpulsed.then_regs rfl, hmem, congrArg (· ++ _) harmed⟩

/-- DROP: the action is gone, and its entry's STATUS says so. -/
theorem makeLate_drops {k : BitVec 14} (h : s.clean (entryAddr k.toNat)) (hlate : a.late = 1) (hcyc : a.cyc = none)
    (hidx : a.idx = k.toNat) :
    (SameRegs s (makeLate s a) (Adr.tnsLatecnt :: Adr.tnsStat :: eventRegs 440) ∧ (makeLate s a).triads = s.triads)
      ∧ Pulsed s (makeLate s a) 440 ∧ Stored s (makeLate s a) (entryAddr k.toNat + 28) 4 6
      ∧ (makeLate s a).tense.armed = s.tense.armed.erase a := by
  obtain ⟨⟨hsame, htri⟩, hpulsed, hmem, hsram, harmed⟩ := countLate_dropArmed (s := s) (a := a)
  have hrun : makeLate s a = writeStatus (countLate (dropArmed s a)) k.toNat 6 none := by
    simp only [makeLate, latePolicy, hlate, hcyc, hidx]
    rfl
  obtain ⟨honly, hstored⟩ := writeStatus_entry (State.clean_congr h hsram) 6
  rw [← hrun] at honly hstored
  exact ⟨⟨fun b hb => (State.rd_congr honly.regs b).trans (hsame b hb), honly.triads.trans htri⟩, hpulsed.then_regs honly.regs,
    hstored.of_mem hmem, (congrArg Tense.armed honly.tense).trans harmed⟩

end

theorem calendarCommands : Clause.CalendarCommands := by
  intro s w k e only hclean
  refine ⟨fun a hparse hkind howner hfree htime => arm_completes hclean hparse hkind howner hfree htime,
    fun a hfree hfind howner => disarm_completes hfree hfind howner, fun a hfirst hidx hfrom huntil hkind => ?_,
    fun a hfind hlast hidx => ?_⟩
  · have hrun := dispatchEntry_of_first hfirst hidx hfrom
    rw [if_pos huntil, onDispatch_of_kind hkind] at hrun
    exact congrArg Host.Outcome.next hrun
  · have hcongestion : exec (.lateByCongestion k) s = .next (makeLate s a) := by
      show Host.Outcome.next (lateCongestion s k) = _
      simp only [lateCongestion, hfind, if_pos hlast]
    refine ⟨fun hlate hkind => ?_, fun hlate hcyc => ⟨_, hcongestion, makeLate_drops hclean hlate hcyc hidx⟩⟩
    refine ⟨⟨_, hcongestion, makeLate_fires hlate hkind⟩, fun hfirst hfrom hpast => ⟨_, ?_, makeLate_fires hlate hkind⟩⟩
    have hrun := dispatchEntry_of_first hfirst hidx hfrom
    rw [hpast, if_neg Bool.false_ne_true] at hrun
    exact congrArg Host.Outcome.next hrun

end Sys2Proof.Machine
end

section
/-! The effects of actions, and the statement (R324, R410, R414). -/

namespace Sys2Proof.Machine

/-! ### The end of an action that took effect (R414) -/

/-- From s to s' the action of entry k has left the calendar, STATUS of its entry says whether it was late, the triads are as
they were, and so are the registers but for those of the list. -/
def ActionDone (s s' : State) (k : BitVec 14) (a : Armed) (l : List Nat) : Prop :=
  s'.tense.armed = s.tense.armed.erase a ∧ Stored s s' (entryAddr k.toNat + 28) 4 (if a.isLate then 3 else 1)
    ∧ s'.triads = s.triads ∧ SameRegs s s' l

section
variable {s : State} {k : BitVec 14} {a : Armed} (hcyc : a.cyc = none) (hidx : a.idx = k.toNat)
  (hclean : s.clean (entryAddr k.toNat))
include hcyc hidx hclean

/-- An action that no table made ends with its STATUS: beside the calendar memory alone changes. -/
theorem fired_spec : MemOnly (dropArmed s a) (fired s a)
    ∧ Stored s (fired s a) (entryAddr k.toNat + 28) 4 (if a.isLate then 3 else 1) := by
  have hrun : fired s a = writeStatus (dropArmed s a) k.toNat (if a.isLate then 3 else 1) none := by
    simp only [fired, hcyc, hidx]
    rfl
  obtain ⟨honly, hstored⟩ :=
    writeStatus_entry (s := dropArmed s a) (State.clean_congr hclean rfl) (if a.isLate then 3 else 1)
  rw [hrun]
  exact ⟨honly, hstored.of_mem rfl⟩

/-- An effect z that leaves memory, the banks, the calendar and the triads as they were, and then the end of its action. -/
theorem fired_done {z : State} {l : List Nat} (hmem : z.mem = s.mem) (hsram : z.sram = s.sram) (htense : z.tense = s.tense)
    (htri : z.triads = s.triads) (hregs : SameRegs s z l) :
    ActionDone s (fired z a) k a l ∧ MemOnly (dropArmed z a) (fired z a) := by
  obtain ⟨honly, hstored⟩ := fired_spec hcyc hidx (State.clean_congr hclean hsram)
  have harmed : (dropArmed z a).tense.armed = s.tense.armed.erase a := congrArg (fun t => t.armed.erase a) htense
  exact ⟨⟨(congrArg Tense.armed honly.tense).trans harmed, hstored.of_mem hmem, honly.triads.trans htri,
    fun b hb => (State.rd_congr honly.regs b).trans (hregs b hb)⟩, honly⟩

end

/-- The effect of an action that is due, and its end. -/
theorem effect_of_due {s : State} {k : BitVec 14} {kind : Byte} {a : Armed} (h : dueAction s k kind = some a)
    (f : State → Armed → State) : effect s k kind f = fired (f s a) a := by
  simp only [effect, h]

/-! ### Events and starts (R324, R410) -/

theorem RegsOnly.tense {s s' : State} (h : RegsOnly s s') : s'.tense = s.tense := by
  obtain ⟨r, rfl⟩ := h
  rfl

/-- A channel that becomes READY leaves the banks and the calendar alone. -/
theorem becomeReady_keeps (s : State) (c : Fin 32) (f : Chan → Chan) :
    (becomeReady s c f).sram = s.sram ∧ (becomeReady s c f).tense = s.tense := by
  unfold becomeReady
  extract_lets rests z
  split <;> exact ⟨rfl, rfl⟩

/-- A start action aimed at its owner's armed channel makes it READY (R324). -/
theorem tenseStart_of_armed {s : State} {a : Armed} {c : Fin 32} (htgt : a.tgt.toNat = c.val) (howner : chanOwner s c = a.owner)
    (harmed : s.chans[c].state = .armed) : tenseStart s a = becomeReady s c id := by
  have hc : (⟨a.tgt.toNat % 32, Nat.mod_lt _ (by decide)⟩ : Fin 32) = c := Fin.ext (by simp only [htgt]; omega)
  simp only [tenseStart, hc, if_pos howner, startArmed, if_pos harmed]

/-! ### Timed writes (R410, R547, R551, R558, R569) -/

/-- An action acts for its owner (R546). -/
theorem requester_of_owner {a : Armed} {o : TriadId} (h : a.owner = o.val) : a.requester = .tense o := by
  simp only [Armed.requester, h, o.isLt, dif_pos, Fin.eta]

theorem ownedBy_requester {s : State} {a : Armed} {o : TriadId} {cfg : Nat} (h : a.owner = o.val)
    (hcfg : ownerAt s cfg = o.val) : ownedBy s a.requester cfg = true := by
  rw [requester_of_owner h, ownedBy, hcfg]
  exact beq_self_eq_true _

/-- The offset of GPIO_g_OUT is that of a register of 32 bits. -/
theorem perWrite32_gpioOut (s : State) (q : Requester) (g : Fin 8) (v : BitVec 32) :
    perWrite32 s q true (0x3010 + 0x40 * g.val) v = gpioPutOut s q g v := by
  have hg := g.isLt
  have hhalf : ((0x3010 + 0x40 * g.val) % 4 != 0) = false := bne_eq_false_iff_eq.mpr (by omega)
  have hwide : wideAt true (0x3010 + 0x40 * g.val) = none := by
    simp only [wideAt, hhalf, Bool.false_eq_true, if_false, if_true]
    exact if_neg (by omega)
  have hunit : unit8Of (0x3010 + 0x40 * g.val) = g := Fin.ext (by simp only [unit8Of]; omega)
  simp only [perWrite32, hwide, if_true, legWrite32, hunit, show (0x3010 + 0x40 * g.val) % 0x40 = 0x10 by omega]
  rw [if_neg (by omega), if_neg (by omega), if_neg (by omega), if_neg (by omega), if_pos (by omega)]

/-- OUT takes the low sixteen bits of what is written. -/
theorem setWidth_and_outMask (w : Word) : (w.setWidth 32).setWidth 64 &&& 0xFFFF = (w.setWidth 16).setWidth 64 := by
  have hw := w.isLt
  apply BitVec.eq_of_toNat_eq
  rw [BitVec.toNat_and, show (0xFFFF : Word).toNat = 2 ^ 16 - 1 from rfl, Nat.and_two_pow_sub_one_eq_mod]
  simp only [BitVec.toNat_setWidth]
  omega

/-- The owner's timed write of GPIO_g_OUT (R410, R569). -/
theorem perWrite32_gpioOut_of_owned {s : State} {q : Requester} {g : Fin 8} (h : ownedBy s q (Adr.gpioCfg g) = true) (w : Word) :
    perWrite32 s q true (0x3010 + 0x40 * g.val) (w.setWidth 32) = s.wr (Adr.gpioOut g) ((w.setWidth 16).setWidth 64) := by
  rw [perWrite32_gpioOut, gpioPutOut, gpioWrite_of_owned h, setWidth_and_outMask]

/-- The offset of TMR_CHn_TOP_HI is the upper half of TOP. -/
theorem wideAt_topHi (n : Fin 64) : wideAt false (0x80 * n.val + 0x1C) = some (0x80 * n.val + 0x18, true) := by
  have hn := n.isLt
  have hhalf : ((0x80 * n.val + 0x1C) % 4 != 0) = false := bne_eq_false_iff_eq.mpr (by omega)
  have hhi : ((0x80 * n.val + 0x1C) % 8 == 4) = true := beq_iff_eq.mpr (by omega)
  have hlo : (0x80 * n.val + 0x1C) / 8 * 8 = 0x80 * n.val + 0x18 := by omega
  simp only [wideAt, hhalf, hhi, hlo, Bool.false_eq_true, if_false]
  exact if_pos (by omega)

/-- The upper half, and the lower half that a latch holds, as one word of 48 bits (R547). -/
theorem ofNat_halves (v l : BitVec 32) : BitVec.ofNat 48 (v.toNat * 2 ^ 32 + l.toNat) = v.setWidth 16 ++ l := by
  have hv := v.isLt
  apply BitVec.eq_of_toNat_eq
  rw [BitVec.toNat_append, ← Nat.shiftLeft_add_eq_or_of_lt l.isLt, Nat.shiftLeft_eq, BitVec.toNat_ofNat, BitVec.toNat_setWidth]
  omega

/-- A channel's TOP as a write leaves it where it is not preloaded (R551). -/
def Timer.withTop (v : BitVec 48) (x : Timer) : Timer := { x with topW := v, top := v }

/-- The owner's timed write of the upper half of TOP writes TOP whole (R410, R547, R551). -/
theorem perWrite32_topHi_of_owned {s : State} {q : Requester} {n : Fin 64} (h : ownedBy s q (Adr.tmrCfg n) = true)
    (hpld : bitOf (s.rd (Adr.tmrCfg n)) 6 = false) (v : BitVec 32) : perWrite32 s q false (0x80 * n.val + 0x1C) v =
      s.upTimer n (.withTop (v.setWidth 16 ++ s.legacy.latchW[0][latchIx q])) := by
  have hunit : timerOf (0x80 * n.val + 0x18) = n := Fin.ext (by simp only [timerOf]; omega)
  have hlo : (0x80 * n.val + 0x18) % 0x80 = 0x18 := by omega
  simp only [perWrite32, wideAt_topHi, wideWrite, Bool.false_eq_true, if_false, hunit, h, guarded, if_true, wideStore, hpld, hlo,
    blkIx, ofNat_halves]
  rfl

/-! ### The statement -/

section
variable {s : State} {k : BitVec 14} {a : Armed} (hcyc : a.cyc = none) (hidx : a.idx = k.toNat)
  (hclean : s.clean (entryAddr k.toNat))
include hcyc hidx hclean

theorem raiseEvent_completes (hdue : dueAction s k 6 = some a) : Completes (.raiseEvent k) s fun s' =>
    ActionDone s s' k a (eventRegs (320 + a.tgt.toNat)) ∧ Pulsed s s' (320 + a.tgt.toNat) := by
  have hregs := RegsOnly.pulse s (320 + a.tgt.toNat)
  obtain ⟨hpulsed, hsame, -⟩ := pulse_spec s (320 + a.tgt.toNat)
  obtain ⟨hdone, honly⟩ := fired_done hcyc hidx hclean hregs.mem hregs.sram hregs.tense hregs.triads hsame
  exact ⟨_, congrArg Host.Outcome.next (effect_of_due hdue _), hdone, hpulsed.then_regs honly.regs⟩

theorem dmaStart_completes {c : Fin 32} (hdue : dueAction s k 3 = some a) (htgt : a.tgt.toNat = c.val)
    (howner : chanOwner s c = a.owner) (harmed : s.chans[c].state = .armed) : Completes (.dmaStart k) s fun s' =>
      ActionDone s s' k a [] ∧ s'.chans[c] = { s.chans[c] with state := .ready }
        ∧ ∀ d : Fin 32, d ≠ c → s'.chans[d] = s.chans[d] := by
  have hrun : exec (.dmaStart k) s = .next (fired (becomeReady s c id) a) := by
    rw [← tenseStart_of_armed htgt howner harmed]
    exact congrArg Host.Outcome.next (effect_of_due hdue _)
  obtain ⟨hready, hregs, hmem, htri⟩ := becomeReady_spec s c id
  obtain ⟨hsram, htense⟩ := becomeReady_keeps s c id
  obtain ⟨hdone, honly⟩ := fired_done hcyc hidx hclean (l := []) hmem hsram htense htri fun b _ => State.rd_congr hregs b
  have hchans : (fired (becomeReady s c id) a).chans = vmod s.chans c fun k => { k with state := .ready } :=
    honly.chans.trans hready
  refine ⟨_, hrun, hdone, ?_, fun d hd => ?_⟩
  · rw [hchans]
    exact vmod_get_self _ c _
  · rw [hchans]
    exact vmod_get_ne _ c d _ hd

theorem legWrite_completes {g : Fin 8} (hdue : dueAction s k 2 = some a) (htgt : a.tgt.toNat * 4 = 0x3010 + 0x40 * g.val)
    (hlt : a.owner < 6) (howner : ownerAt s (Adr.gpioCfg g) = a.owner) : Completes (.legWrite k) s fun s' =>
      ActionDone s s' k a [Adr.gpioOut g] ∧ s'.rd (Adr.gpioOut g) = (a.arg0.setWidth 16).setWidth 64 := by
  have howned : ownedBy s a.requester (Adr.gpioCfg g) = true := ownedBy_requester (o := ⟨a.owner, hlt⟩) rfl howner
  have hrun : exec (.legWrite k) s = .next (fired (s.wr (Adr.gpioOut g) ((a.arg0.setWidth 16).setWidth 64)) a) := by
    rw [← perWrite32_gpioOut_of_owned howned, ← htgt]
    exact congrArg Host.Outcome.next (effect_of_due hdue _)
  obtain ⟨hdone, honly⟩ := fired_done hcyc hidx hclean
    (z := s.wr (Adr.gpioOut g) ((a.arg0.setWidth 16).setWidth 64)) (l := [Adr.gpioOut g]) rfl rfl rfl rfl
    fun b hb => State.rd_wr_ne s _ b _ fun e => hb (List.mem_singleton.mpr e)
  exact ⟨_, hrun, hdone, (State.rd_congr honly.regs _).trans (State.rd_wr_self s _ _)⟩

theorem tmrWrite_completes {n : Fin 64} {o : TriadId} (hdue : dueAction s k 1 = some a)
    (htgt : a.tgt.toNat * 4 = 0x80 * n.val + 0x1C) (hact : a.owner = o.val) (howner : ownerAt s (Adr.tmrCfg n) = o.val)
    (hpld : bitOf (s.rd (Adr.tmrCfg n)) 6 = false) : Completes (.tmrWrite k) s fun s' =>
      ActionDone s s' k a []
        ∧ s'.legacy.timers[n] =
          s.legacy.timers[n].withTop (a.arg0.setWidth 16 ++ s.legacy.latchW[0][latchIx (.tense o)])
        ∧ ∀ m : Fin 64, m ≠ n → s'.legacy.timers[m] = s.legacy.timers[m] := by
  have hwrite := perWrite32_topHi_of_owned (ownedBy_requester hact howner) hpld (a.arg0.setWidth 32)
  rw [BitVec.setWidth_setWidth_of_le _ (by decide), ← htgt, requester_of_owner hact] at hwrite
  have hrun : exec (.tmrWrite k) s = .next (fired (s.upTimer n
      (.withTop (a.arg0.setWidth 16 ++ s.legacy.latchW[0][latchIx (.tense o)]))) a) := by
    rw [← hwrite, ← requester_of_owner hact]
    exact congrArg Host.Outcome.next (effect_of_due hdue _)
  obtain ⟨hdone, honly⟩ := fired_done hcyc hidx hclean (z := s.upTimer n
    (.withTop (a.arg0.setWidth 16 ++ s.legacy.latchW[0][latchIx (.tense o)]))) (l := []) rfl rfl rfl rfl fun _ _ => rfl
  refine ⟨_, hrun, hdone, ?_, fun m hm => ?_⟩
  · rw [honly.legacy]
    exact vmod_get_self _ n _
  · rw [honly.legacy]
    exact vmod_get_ne _ n m _ hm

end

theorem actionsFire : Clause.ActionsFire := by
  intro s k a hcyc hidx hclean fires
  exact ⟨fun hdue => raiseEvent_completes hcyc hidx hclean hdue,
    fun c hdue htgt howner harmed => dmaStart_completes hcyc hidx hclean hdue htgt howner harmed,
    fun g hdue htgt hlt howner => legWrite_completes hcyc hidx hclean hdue htgt hlt howner,
    fun n o hdue htgt hact howner hpld => tmrWrite_completes hcyc hidx hclean hdue htgt hact howner hpld⟩

/-- Settles O29: in a clean bank an entry is read and its STATUS written as it stands in memory; each command is then one change
of the calendar, and each effect one change of its unit. -/
theorem calendarActs : Obligations.CalendarActs := ⟨calendarCommands, actionsFire⟩

end Sys2Proof.Machine
end

section
/-! A change of one field port, and which frame starts there (R437, R443, R448, R456). -/

namespace Sys2Proof.Machine

/-! ### One port -/

section
variable (s : State) (p : Fin 8) (f g : Port → Port)

@[simp] theorem State.upPort_regs : (s.upPort p f).regs = s.regs := rfl
@[simp] theorem State.upPort_mem : (s.upPort p f).mem = s.mem := rfl
@[simp] theorem State.upPort_sram : (s.upPort p f).sram = s.sram := rfl
@[simp] theorem State.upPort_triads : (s.upPort p f).triads = s.triads := rfl
@[simp] theorem State.upPort_tense : (s.upPort p f).tense = s.tense := rfl
@[simp] theorem State.rd_upPort (a : Nat) : (s.upPort p f).rd a = s.rd a := rfl

@[simp] theorem State.upPort_self : (s.upPort p f).net.ports[p] = f s.net.ports[p] := vmod_get_self _ _ _
theorem State.upPort_ne {o : Fin 8} (h : o ≠ p) : (s.upPort p f).net.ports[o] = s.net.ports[o] := vmod_get_ne _ _ _ _ h

variable {f g} in
theorem State.upPort_congr (h : f s.net.ports[p] = g s.net.ports[p]) : s.upPort p f = s.upPort p g := by
  rw [State.upPort, vmod, h]
  rfl

end

/-- Port p holds y, nothing else differs. -/
def State.setPort (s : State) (p : Fin 8) (y : Port) : State := s.upPort p fun _ => y

theorem State.upPort_eq_setPort (s : State) (p : Fin 8) (f : Port → Port) : s.upPort p f = s.setPort p (f s.net.ports[p]) :=
  s.upPort_congr p rfl

@[simp] theorem State.setPort_self (s : State) (p : Fin 8) (y : Port) : (s.setPort p y).net.ports[p] = y :=
  State.upPort_self _ _ _

/-- A change of a port behind another one of it. -/
theorem State.upPort_upPort (s : State) (p : Fin 8) (f g : Port → Port) :
    (s.upPort p f).upPort p g = s.upPort p fun x => g (f x) := by
  have hself : (vmod s.net.ports p f)[p] = f s.net.ports[p] := vmod_get_self _ _ _
  simp only [State.upPort]
  rw [vmod, hself]
  simp only [vmod, Vector.set_set]

@[simp] theorem State.setPort_setPort (s : State) (p : Fin 8) (y z : Port) : (s.setPort p y).setPort p z = s.setPort p z :=
  s.upPort_upPort p _ _

/-- No port but p differs, nor do the triads. -/
theorem setPort_elsewhere (s : State) (p : Fin 8) (y : Port) :
    (∀ o : Fin 8, o ≠ p → (s.setPort p y).net.ports[o] = s.net.ports[o]) ∧ (s.setPort p y).triads = s.triads :=
  ⟨fun _ ho => State.upPort_ne _ _ _ ho, rfl⟩

/-! ### What is ready -/

section
variable {s : State} {p : Fin 8}

theorem gatesNow_of_open (h : gateEnabled s p = false) (q : Fin 8) : (gatesNow s p).getLsbD q.val = true := by
  rw [gatesNow, h]
  exact (by decide : ∀ q : Fin 8, (0xFF : Byte).getLsbD q.val = true) q

theorem fitsGate_of_open (h : gateEnabled s p = false) (q : Fin 8) (n : Nat) : fitsGate s p q n = true := by
  simp [fitsGate, h]

/-- Without a schedule the head of a queue may start at any time (R443, R447). -/
theorem ready_of_open (h : gateEnabled s p = false) {q : Fin 8} {f : Frame} {l : List Frame}
    (hq : s.net.ports[p].queues[q] = f :: l) : ready s p q = true := by
  simp only [ready, hq, gatesNow_of_open h, fitsGate_of_open h, Bool.and_self]

theorem ready_of_empty {q : Fin 8} (hq : s.net.ports[p].queues[q] = []) : ready s p q = false := by
  simp only [ready, hq]

theorem startsBefore_of_empty {q : Fin 8} (h : ∀ r : Fin 8, q < r → s.net.ports[p].queues[r] = []) (express : Bool) :
    startsBefore s p q express = false := by
  refine List.any_eq_false.mpr fun r _ => ?_
  by_cases hr : q < r
  · simp [ready_of_empty (h r hr)]
  · simp [show ¬ q.val < r.val from hr]

/-! ### The frame in transmission -/

theorem cutNow_of_idle (h : s.net.ports[p].sending = none) : cutNow s p = s := by
  simp only [cutNow, h]

theorem cutNow_of_sending {g : Frame} (h : s.net.ports[p].sending = some g) : cutNow s p = s.setPort p
    { s.net.ports[p] with sending := none, cut := some (s.net.ports[p].txQueue, octetsSent s p, g) } := by
  simp only [cutNow, h]
  exact State.upPort_eq_setPort _ _ _

/-! ### What starts -/

section
variable {f : Frame} {l : List Frame} (hlink : linkUp s p = true)
include hlink

/-- A gPTP message goes before every queue (R443). -/
theorem startTx_of_gptp (q : Fin 8) (hfree : s.net.ports[p].sending = none ∨ atCut s p = true)
    (hgptp : s.net.ports[p].gptp = f :: l) : startTx s p q = startGptp (cutNow s p) p f l := by
  have hgo : (!linkUp s p || (s.net.ports[p].sending.isSome && !atCut s p)) = false := by
    rcases hfree with h | h <;>
      simp only [hlink, h, Option.isSome_none, Bool.not_true, Bool.and_false, Bool.false_and, Bool.or_self]
  simp only [startTx, hgo, hgptp, Bool.false_eq_true, if_false]

theorem startTx_of_busy (q : Fin 8) {g : Frame} (hbusy : s.net.ports[p].sending = some g) (hcut : atCut s p = false) :
    startTx s p q = s := by
  simp only [startTx, hlink, hbusy, hcut, Option.isSome_some, Bool.not_true, Bool.not_false, Bool.and_self, Bool.false_or, if_true]

section
variable (hidle : s.net.ports[p].sending = none) (hgptp : s.net.ports[p].gptp = []) (hopen : gateEnabled s p = false)
include hidle hgptp hopen

/-- The head of the highest queue that holds a frame. -/
theorem startTx_of_queue {q : Fin 8} (hcut : s.net.ports[p].cut = none) (hq : s.net.ports[p].queues[q] = f :: l)
    (habove : ∀ r : Fin 8, q < r → s.net.ports[p].queues[r] = []) : startTx s p q = s.setPort p
      { s.net.ports[p] with sending := some f, queues := s.net.ports[p].queues.set q.val l, txQueue := q.val, txSent := 0,
                            txAt := now s } := by
  have hrun : startTx s p q = startQueue s p q := by
    simp only [startTx, hlink, hidle, hgptp, hcut, ready_of_open hopen hq, startsBefore_of_empty habove, cutNow_of_idle hidle,
      Option.isSome_none, Bool.not_true, Bool.not_false, Bool.false_and, Bool.or_self, Bool.and_self, Bool.false_eq_true, if_false,
      if_true]
  rw [hrun]
  simp only [startQueue, hq, begin_, State.upPort_upPort]
  exact State.upPort_eq_setPort _ _ _

/-- With no frame in a queue the one that was cut goes on (R437). -/
theorem startTx_of_cut (q : Fin 8) {k n : Nat} (hcut : s.net.ports[p].cut = some (k, n, f))
    (hqueues : ∀ r : Fin 8, s.net.ports[p].queues[r] = []) : startTx s p q = s.setPort p
      { s.net.ports[p] with sending := some f, cut := none, txQueue := k, txSent := n, txAt := now s } := by
  have hrun : startTx s p q = resumeCut s p := by
    simp only [startTx, hlink, hidle, hgptp, ready_of_empty (hqueues q), Option.isSome_none, Bool.not_true, Bool.false_and,
      Bool.or_self, Bool.false_eq_true, if_false]
  have hnone (r : Fin 8) : ready s p r = false := ready_of_empty (hqueues r)
  have hgate : (gatesNow s p).getLsbD (k % 8) = true := gatesNow_of_open hopen ⟨k % 8, Nat.mod_lt _ (by decide)⟩
  have hexpress : (allPorts.any fun h => ready s p h && !preemptable s p h.val) = false :=
    List.any_eq_false.mpr fun r _ => by rw [hnone r, Bool.false_and]; exact Bool.false_ne_true
  rw [hrun]
  simp only [resumeCut, hcut, hgate, fitsGate_of_open hopen, hexpress, begin_, State.upPort_upPort, Bool.not_false, Bool.and_self,
    if_true]
  exact State.upPort_eq_setPort _ _ _

end

end

/-- A message without a time stamp to give on changes its port alone (R443). -/
theorem startGptp_plain {f : Frame} (hf : f.kind = .gptp .plain) (l : List Frame) : startGptp s p f l = s.setPort p
    { s.net.ports[p] with sending := some f, gptp := l, txQueue := 8, txSent := 0, txAt := now s } := by
  simp only [startGptp, hf, gptpStarted, begin_, State.upPort_upPort]
  exact State.upPort_eq_setPort _ _ _

/-- Behind a Sync its follow-up enters the path (R441, R443). -/
theorem startGptp_follow {f : Frame} {m : List Byte} (hf : f.kind = .gptp (.follow m)) (l : List Frame) :
    ∃ g : Frame, g.kind = .gptp .plain ∧ startGptp s p f l = s.setPort p
      { s.net.ports[p] with sending := some f, gptp := l ++ [g], txQueue := 8, txSent := 0, txAt := now s } := by
  simp only [startGptp, hf, gptpStarted, begin_, sendGptp, State.upPort_upPort]
  exact ⟨_, rfl, State.upPort_eq_setPort _ _ _⟩

end

/-- A start that gives the port y changes nothing else. -/
theorem starts_of_setPort {s : State} {p q : Fin 8} {y : Port} (h : startTx s p q = s.setPort p y) :
    Completes (.frameTransmissionStart p q) s (fun s' => ((∀ o : Fin 8, o ≠ p → s'.net.ports[o] = s.net.ports[o])
      ∧ s'.triads = s.triads) ∧ s'.regs = s.regs ∧ s'.mem = s.mem ∧ s'.net.ports[p] = y) :=
  ⟨_, congrArg Host.Outcome.next h, setPort_elsewhere s p y, rfl, rfl, State.setPort_self s p y⟩

end Sys2Proof.Machine
end

section
/-! Octets of clean banks as any master of their ports reads and writes them (R339, R342, R345, R347, R348). -/

namespace Sys2Proof.Machine

/-! ### Reads -/

/-- Octets of banks that are On, where no word holds an error and no bank keeps a write. -/
theorem sramRead_of_on {s : State} (hgood : s.sram.errors = []) (hkept : ∀ b : Fin 12, s.sram.collided[b] = none) (m : Master)
    {a n : Nat} (hon : ∀ x, a ≤ x → x < a + n → bankOn s x = true) : sramRead s m a n = (s, rdBytes s a n) := by
  have hrows : (rowsOf a n).foldl (fun s r => rowRead (portClear s m r.1 false) r.1 r.2) s = s := by
    refine foldl_fixed_of_mem fun r hr => ?_
    obtain ⟨hlo, hpos, hhi⟩ := mem_rowPieces hr
    rw [portClear_of_none hkept]
    exact rowRead_of_clean hgood (hon r.1 hlo (by omega)) r.2
  have hoctets : sramOctets s a n = rdBytes s a n := by
    refine List.map_congr_left fun i hi => ?_
    rw [hon (a + i) (Nat.le_add_right _ _) (Nat.add_lt_add_left (List.mem_range.mp hi) _), sramError_of_clean hgood]
    rfl
  simp only [sramRead, hrows, hoctets]

/-! ### Writes -/

section
variable {s : State} {c : Nat} (h : s.clean c) (m : Master) {a : Nat}
include h

/-- Outside the device table the bank stores the octets as they are (R347, R449). -/
theorem sramWrite_of_clean {bs : List Byte} (hin : SameBank c a bs.length)
    (htable : a + bs.length ≤ devTable ∨ devTable + 0x10000 ≤ a) :
    sramWrite s m a 0 (enabled bs) = storeOctets s a 0 (enabled bs) := by
  have hlen : (enabled bs).length = bs.length := List.length_map _
  have hport : (rowsOf a bs.length).foldl (fun s r => portClear s m r.1 true) s = s :=
    foldl_fixed_of_mem fun r _ => portClear_of_none h.kept m r.1 true
  have hrows := foldl_rowWrite h.good (k := bs.length / 64 + 2) (a := a) (bs := bs) (by omega)
    fun x hlo hhi => bankOn_of_clean h hin hlo hhi
  rw [sramWrite, hlen, hport, rowsWrite, deviceHook, hlen, if_pos htable]
  exact hrows

/-- A number stored: its octets, and nothing else (R9). -/
theorem sramWrite_number {n : Nat} (hin : SameBank c a n) (htable : a + n ≤ devTable ∨ devTable + 0x10000 ≤ a) (v : Nat) :
    MemOnly s (sramWrite s m a 0 (enabled (bytesLE n v))) ∧ Stored s (sramWrite s m a 0 (enabled (bytesLE n v))) a n v := by
  have hlen := length_bytesLE n v
  rw [sramWrite_of_clean h m (by rw [hlen]; exact hin) (by rw [hlen]; exact htable)]
  refine ⟨memOnly_storeOctets _ _ _ _, fun x => ?_⟩
  rw [rdByte_storeOctets, hlen]
  split
  · next hx => exact getD_bytesLE (by omega) v
  · rfl

end

theorem MemOnly.net {s s' : State} (h : MemOnly s s') : s'.net = s.net := by obtain ⟨m, rfl⟩ := h; rfl

/-! ### What is read behind a write -/

theorem rdMem_congr {s s' : State} {a n : Nat} (h : ∀ x, a ≤ x → x < a + n → rdByte s' x = rdByte s x) :
    rdMem s' a n = rdMem s a n :=
  congrArg natLE (List.map_congr_left fun i hi => h (a + i) (Nat.le_add_right _ _) (Nat.add_lt_add_left (List.mem_range.mp hi) _))

theorem rdMem_of_mem {s s' : State} (h : s'.mem = s.mem) (a n : Nat) : rdMem s' a n = rdMem s a n :=
  rdMem_congr fun x _ _ => congrArg (fun m => sparseGet m x 0) h

/-- The number that was stored, cut to its octets. -/
theorem Stored.rdMem_self {s s' : State} {a n v : Nat} (h : Stored s s' a n v) : rdMem s' a n = v % 256 ^ n := by
  rw [← natLE_octets]
  refine congrArg natLE (List.map_congr_left fun i hi => ?_)
  have hi := List.mem_range.mp hi
  rw [h, if_pos (by omega), Nat.add_sub_cancel_left]

/-- A number elsewhere stays. -/
theorem Stored.rdMem_apart {s s' : State} {a n v b k : Nat} (h : Stored s s' a n v) (hapart : b + k ≤ a ∨ a + n ≤ b) :
    rdMem s' b k = rdMem s b k :=
  rdMem_congr fun x hlo hhi => by rw [h, if_neg (by omega)]

/-! ### The STATUS of a frame slot (R453) -/

theorem slotAddr_bank {slot : Nat} (hslot : slot < 4096) {o n : Nat} (ho : o + n ≤ 32) :
    SameBank (slotAddr slot) (slotAddr slot + o) n ∧ slotAddr slot + o + n ≤ devTable := by
  unfold SameBank slotAddr devTable
  refine ⟨fun x hlo hhi => ?_, ?_⟩ <;> omega

section
variable {s : State} {slot : Nat} (hslot : slot < 4096) (h : s.clean (slotAddr slot))
include hslot h

theorem putSlotStatus_of_clean (flags cyc : Nat) : MemOnly s (putSlotStatus s slot flags cyc)
    ∧ Stored s (putSlotStatus s slot flags cyc) (slotAddr slot + 28) 4 (flags + cyc % 2 ^ 24 * 256) := by
  obtain ⟨hbank, htable⟩ := slotAddr_bank hslot (o := 28) (n := 4) (by decide)
  exact sramWrite_number h .frame hbank (.inl htable) _

/-- Flags of one octet stand below the cycle. -/
theorem rdMem_putSlotStatus {flags : Nat} (hflags : flags < 256) (cyc : Nat) :
    rdMem (putSlotStatus s slot flags cyc) (slotAddr slot + 28) 4 = flags + cyc % 2 ^ 24 * 256 := by
  rw [(putSlotStatus_of_clean hslot h flags cyc).2.rdMem_self]
  omega

end

end Sys2Proof.Machine
end

section
/-! Addresses of an Ethernet frame as it is read and as a port sends it (R437, R438). -/

namespace Sys2Proof.Machine

theorem bytesLE_natLE (l : List Byte) : bytesLE l.length (natLE l) = l := by
  induction l with
  | nil => rfl
  | cons b l ih =>
    have hb := b.isLt
    have hlow : BitVec.ofNat 8 (b.toNat + 256 * natLE l) = b := BitVec.eq_of_toNat_eq (by rw [BitVec.toNat_ofNat]; omega)
    rw [List.length_cons, natLE, bytesLE, hlow, show (b.toNat + 256 * natLE l) / 256 = natLE l by omega, ih]

theorem length_bytesBE (n v : Nat) : (bytesBE n v).length = n := by rw [bytesBE, List.length_reverse, length_bytesLE]

theorem sliceOf_of_le {l : List Byte} {off n : Nat} (h : off + n ≤ l.length) : sliceOf l off n = (l.drop off).take n := by
  have hlen : ((l.drop off).take n).length = n := by
    rw [List.length_take, List.length_drop]
    omega
  refine List.ext_getElem ?_ fun i hi _ => ?_
  · rw [hlen, sliceOf, List.length_map, List.length_range]
  · have hi' : i < n := by simpa [sliceOf] using hi
    simp only [sliceOf, List.getElem_map, List.getElem_range, List.getElem_take, List.getElem_drop]
    exact List.getD_eq_getElem _ _ (by omega)

/-- A number read from n octets, written as n octets again (R9). -/
theorem bytesBE_beAt {l : List Byte} {off n : Nat} (h : off + n ≤ l.length) : bytesBE n (beAt l off n) = (l.drop off).take n := by
  have hlen : ((l.drop off).take n).reverse.length = n := by
    rw [List.length_reverse, List.length_take, List.length_drop]
    omega
  have hback := bytesLE_natLE ((l.drop off).take n).reverse
  rw [hlen] at hback
  rw [beAt, natBE, sliceOf_of_le h, bytesBE, hback, List.reverse_reverse]

/-- A frame of a whole header has the addresses of its first 12 octets (R438). -/
theorem parseEth_addresses (pvid : Nat) {o : List Byte} (h : 18 ≤ o.length) :
    ∃ e, parseEth pvid o = some e ∧ e.dst = beAt o 0 6 ∧ e.src = beAt o 6 6 := by
  have h14 : ¬ o.length < 14 := by omega
  have h18 : ¬ (beAt o 12 2 = 0x8100 ∧ o.length < 18) := fun hc => by omega
  simp only [parseEth, if_neg h14, if_neg h18]
  exact ⟨_, rfl, rfl, rfl⟩

/-- A port sends the addresses as they are. -/
theorem take_egressOctets (s : State) (p : Fin 8) (e : Eth) :
    (egressOctets s p e).take 12 = bytesBE 6 e.dst ++ bytesBE 6 e.src := by
  have hlen : (bytesBE 6 e.dst ++ bytesBE 6 e.src).length = 12 := by simp only [List.length_append, length_bytesBE]
  unfold egressOctets
  extract_lets cfg tag f
  have hf : f.take 12 = bytesBE 6 e.dst ++ bytesBE 6 e.src := by
    simp only [f, List.append_assoc]
    rw [← List.append_assoc, List.take_left' hlen]
  have hlong : 12 ≤ f.length := by
    simp only [f, List.length_append, length_bytesBE]
    omega
  split
  · rw [padTo, List.take_take, show min 12 60 = 12 from rfl, List.take_append_of_le_length hlong, hf]
  · exact hf

/-- So a forwarded frame keeps its first 12 octets. -/
theorem take_egressOctets_of_parsed (s : State) (p : Fin 8) {e : Eth} {o : List Byte} (ho : 12 ≤ o.length)
    (hdst : e.dst = beAt o 0 6) (hsrc : e.src = beAt o 6 6) : (egressOctets s p e).take 12 = o.take 12 := by
  rw [take_egressOctets, hdst, hsrc, bytesBE_beAt (by omega), bytesBE_beAt (by omega), List.drop_zero, ← List.take_add]

end Sys2Proof.Machine
end

section
/-! Cyclic frames at their launch and once they have left, acyclic ones, and the statement (R453 to R455, R458, R468, R480). -/

namespace Sys2Proof.Machine

/-! ### A frame enters a queue -/

/-- The port with frame f at the end of queue q. -/
def Port.queued (x : Port) (q : Fin 8) (f : Frame) : Port := { x with queues := vmod x.queues q fun l => l ++ [f] }

theorem enqueue_eq (s : State) (p q : Fin 8) (f : Frame) : enqueue s p q f = s.upPort p fun x => x.queued q f := rfl

@[simp] theorem Port.queued_self (x : Port) (q : Fin 8) (f : Frame) : (x.queued q f).queues[q] = x.queues[q] ++ [f] :=
  vmod_get_self _ _ _

theorem Port.queued_ne (x : Port) {q r : Fin 8} (f : Frame) (h : r ≠ q) : (x.queued q f).queues[r] = x.queues[r] :=
  vmod_get_ne _ _ _ _ h

/-! ### The launch (R454, R455, R458) -/

theorem idx_of_due {s : State} {k : BitVec 14} {kind : Byte} {a : Armed} (h : dueAction s k kind = some a) : a.idx = k.toNat := by
  unfold dueAction at h
  split at h
  · split at h
    · next hk => cases h; exact hk
    · cases h
  · cases h

/-- What a port makes of a built frame depends on its configuration alone (R438). -/
theorem untagged_congr {s z : State} (h : z.regs = s.regs) (p : Fin 8) (b : Built) : untagged z p b = untagged s p b := by
  unfold untagged
  rw [State.rd_congr h]

/-- Frame b, which no waiting frame of its slot precedes, goes to its own port's queue and to no other. -/
theorem queueBuilt_single {s : State} {b : Built} (hrtag : b.rtag = false) (hlink : linkUp s b.port = true)
    (hwaits : ∀ o : Fin 8, slotWaits s b.slot o = false) : queueBuilt s b 0 =
      enqueue (putSlotStatus s b.slot 0 b.cyc) b.port b.queue
        ⟨.cyclic b.slot b.cyc 0, untagged (putSlotStatus s b.slot 0 b.cyc) b.port b⟩ := by
  have hstale : allPorts.any (slotWaits s b.slot) = false := List.any_eq_false.mpr fun o _ => by simp [hwaits o]
  simp [queueBuilt, hrtag, hlink, hstale]

/-- The launch of a built frame without an R-TAG on a port with link. -/
theorem frameLaunch_completes {s : State} {k : BitVec 14} {a : Armed} {b : Built} (hdue : dueAction s k 4 = some a)
    (hcyc : a.cyc = none) (hentry : s.clean (entryAddr a.idx)) (hclean : s.clean (slotAddr b.slot)) (hslot : b.slot < 4096)
    (hdone : b.done = true) (hrtag : b.rtag = false) (hlink : linkUp s b.port = true)
    (hfind : s.net.staging.find? (fun c => decide (c.slot = field a.arg0 15 0 ∧ c.time = a.time ∧ c.launched = false)) = some b)
    (hwaits : ∀ o : Fin 8, slotWaits s b.slot o = false) :
    Completes (.frameLaunch k) s (fun s' =>
      ((∀ o : Fin 8, o ≠ b.port → s'.net.ports[o] = s.net.ports[o]) ∧ s'.triads = s.triads)
      ∧ s'.net.ports[b.port].queues[b.queue] =
        s.net.ports[b.port].queues[b.queue] ++ [⟨.cyclic b.slot b.cyc 0, untagged s b.port b⟩]
      ∧ (bitOf (s.rd (Adr.netPCfg b.port)) 26 = false → untagged s b.port b = b.octets)
      ∧ (∀ r : Fin 8, r ≠ b.queue → s'.net.ports[b.port].queues[r] = s.net.ports[b.port].queues[r])
      ∧ s'.net.staging = s.net.staging.erase b ∧ s'.tense.armed = s.tense.armed.erase a
      ∧ rdMem s' (slotAddr b.slot + 28) 4 = b.cyc % 2 ^ 24 * 256) := by
  have hidx := idx_of_due hdue
  rw [hidx] at hentry
  obtain ⟨w, hw⟩ : ∃ w, putSlotStatus (dropBuilt s b) b.slot 0 b.cyc = w := ⟨_, rfl⟩
  have hclean' : (dropBuilt s b).clean (slotAddr b.slot) := State.clean_congr hclean rfl
  have hwonly : MemOnly (dropBuilt s b) w := hw ▸ (putSlotStatus_of_clean hslot hclean' 0 b.cyc).1
  have hstatus : rdMem w (slotAddr b.slot + 28) 4 = b.cyc % 2 ^ 24 * 256 := by
    rw [← hw, rdMem_putSlotStatus hslot hclean' (by decide), Nat.zero_add]
  obtain ⟨z, hz⟩ : ∃ z, enqueue w b.port b.queue ⟨.cyclic b.slot b.cyc 0, untagged s b.port b⟩ = z := ⟨_, rfl⟩
  have hlaunch : launch s a = z := by
    have hqueue := queueBuilt_single (s := dropBuilt s b) hrtag hlink hwaits
    rw [hw, untagged_congr (show w.regs = s.regs from hwonly.regs), hz] at hqueue
    simp only [launch, hfind, hdone, if_true]
    exact hqueue
  obtain ⟨hfired, hstored⟩ := fired_spec hcyc hidx (s := z) (State.clean_congr hentry (by rw [← hz]; exact hwonly.sram))
  have hnet : (fired z a).net = z.net := hfired.net
  have hself : z.net.ports[b.port] = s.net.ports[b.port].queued b.queue ⟨.cyclic b.slot b.cyc 0, untagged s b.port b⟩ := by
    rw [← hz, enqueue_eq, State.upPort_self, hwonly.net]
    rfl
  refine ⟨fired z a, ?_, ⟨fun o ho => ?_, ?_⟩, ?_, fun hoff => ?_, fun r hr => ?_, ?_, ?_, ?_⟩
  · exact congrArg Host.Outcome.next ((effect_of_due hdue launch).trans (by rw [hlaunch]))
  · rw [hnet, ← hz, enqueue_eq, State.upPort_ne _ _ _ ho, hwonly.net]
    rfl
  · rw [hfired.triads]
    exact (congrArg State.triads hz).symm.trans hwonly.triads
  · rw [hnet, hself, Port.queued_self]
  · simp only [untagged, hoff, Bool.false_and, Bool.false_eq_true, if_false]
  · rw [hnet, hself, Port.queued_ne _ _ hr]
  · rw [hnet, ← hz]
    exact congrArg Net.staging hwonly.net
  · rw [hfired.tense, ← hz]
    exact congrArg (fun t : Tense => t.armed.erase a) hwonly.tense
  · rw [hstored.rdMem_apart (.inr ?_), ← hz]
    · exact hstatus
    · have := k.isLt
      unfold entryAddr slotAddr
      omega

/-! ### The build (R455) -/

theorem frameBuild_in_time {s : State} {slot : BitVec 12} {b : Built}
    (hfind : s.net.staging.find? (fun c => decide (c.slot = slot.toNat ∧ c.done = false)) = some b) (htime : b.launched = false) :
    exec (.frameBuild slot) s = .next { s with net := { s.net with
      staging := s.net.staging.map fun c => if c = b then { c with done := true } else c } } := by
  refine congrArg Host.Outcome.next ?_
  simp only [frameBuild, hfind, htime, Bool.false_eq_true, if_false]

theorem framesLeave : Clause.FramesLeave := by
  intro s k a p q b f l x elsewhere
  refine ⟨?_, fun slot hfind htime => frameBuild_in_time hfind htime, fun hlink => ⟨fun hidle => ⟨?_, ?_, ?_, ?_⟩, ?_⟩⟩
  · rintro hdue hcyc hentry - hclean hslot rfl rfl hdone hrtag hlink hfind hwaits
    exact frameLaunch_completes hdue hcyc hentry hclean hslot hdone hrtag hlink hfind hwaits
  · intro hgptp hopen hcut hq habove
    exact starts_of_setPort (startTx_of_queue hlink hidle hgptp hopen hcut hq habove)
  · intro hgptp hf
    refine starts_of_setPort ?_
    rw [startTx_of_gptp hlink q (.inl hidle) hgptp, cutNow_of_idle hidle, startGptp_plain hf]
  · intro m hgptp hf
    obtain ⟨g, hg, hrun⟩ := startGptp_follow (s := s) (p := p) hf l
    refine ⟨g, hg, starts_of_setPort ?_⟩
    rw [startTx_of_gptp hlink q (.inl hidle) hgptp, cutNow_of_idle hidle, hrun]
  · intro k n hgptp hopen hcut hqueues
    exact starts_of_setPort (startTx_of_cut hlink hidle hgptp hopen q hcut hqueues)
  · intro g hbusy
    refine ⟨fun hcut => congrArg Host.Outcome.next (startTx_of_busy hlink q hbusy hcut), fun hcut hgptp hf => ?_⟩
    refine starts_of_setPort ?_
    rw [startTx_of_gptp hlink q (.inr hcut) hgptp, cutNow_of_sending hbusy, startGptp_plain hf, State.setPort_self,
      State.setPort_setPort]
    rfl

end Sys2Proof.Machine
end

section
/-! Frames that have left, and acyclic frames that enter a queue (R453, R468, R480), and the statement. -/

namespace Sys2Proof.Machine

/-! ### Counters that wrap -/

/-- A count that wraps (R254). -/
theorem field_wrapField_self (w : Word) {hi lo : Nat} (h : hi < 64) :
    field (wrapField w hi lo) hi lo = (field w hi lo + 1) % 2 ^ (hi + 1 - lo) := field_setField_self w _ h

/-! ### The result of a launch (R453, R468) -/

/-- Every copy of the launch with that slot and CYCLE remembers the bit. -/
def State.markAll (s : State) (slot cyc bit : Nat) : State :=
  { s with net := { s.net with ports := s.net.ports.map fun x => x.marked slot cyc bit } }

@[simp] theorem State.markAll_port (s : State) (slot cyc bit : Nat) (r : Fin 8) :
    (s.markAll slot cyc bit).net.ports[r] = s.net.ports[r].marked slot cyc bit := Vector.getElem_map _ _

/-- Beside the marks memory alone changes, and there STATUS alone. -/
theorem slotResult_of_clean {s : State} {slot : Nat} (hslot : slot < 4096) (h : s.clean (slotAddr slot)) {flags bit : Nat}
    (hflags : flags ||| bit < 256) (cyc : Nat) :
    MemOnly (s.markAll slot cyc bit) (slotResult s slot cyc flags bit)
    ∧ Stored s (slotResult s slot cyc flags bit) (slotAddr slot + 28) 4 ((flags ||| bit) + cyc % 2 ^ 24 * 256)
    ∧ rdMem (slotResult s slot cyc flags bit) (slotAddr slot + 28) 4 = (flags ||| bit) + cyc % 2 ^ 24 * 256 := by
  have hclean : (s.markAll slot cyc bit).clean (slotAddr slot) := State.clean_congr h rfl
  obtain ⟨honly, hstored⟩ := putSlotStatus_of_clean hslot hclean (flags ||| bit) cyc
  exact ⟨honly, hstored, rdMem_putSlotStatus hslot hclean hflags cyc⟩

/-! ### FRAME_SENT -/

section
variable {s : State} {p : Fin 8} {o : List Byte}

/-- A cyclic frame leaves: CYCTX counts, the slot takes CYCLE and STATUS (R453). -/
theorem frameSent_cyclic {slot cyc flags : Nat} (hsending : s.net.ports[p].sending = some ⟨.cyclic slot cyc flags, o⟩)
    (hslot : slot < 4096) (hflags : flags < 256) (hclean : s.clean (slotAddr slot)) :
    Completes (.frameSent p) s (fun s' => s'.triads = s.triads
      ∧ (∀ r : Fin 8, s'.net.ports[r] =
        (if r = p then { s.net.ports[p] with sending := none } else s.net.ports[r]).marked slot cyc 1)
      ∧ field (s'.rd (Adr.netPCnt p)) 31 0 = (field (s.rd (Adr.netPCnt p)) 31 0 + 1) % 2 ^ 32
      ∧ SameRegs s s' [Adr.netPCnt p]
      ∧ rdMem s' (slotAddr slot + 24) 4 = cyc % 2 ^ 32
      ∧ rdMem s' (slotAddr slot + 28) 4 = (flags ||| 1) + cyc % 2 ^ 24 * 256) := by
  obtain ⟨c, hc⟩ : ∃ c, (s.setPort p { s.net.ports[p] with sending := none }).up (Adr.netPCnt p) (wrapField · 31 0) = c :=
    ⟨_, rfl⟩
  have hcports : c.net.ports = (s.setPort p { s.net.ports[p] with sending := none }).net.ports := by rw [← hc]; rfl
  have hcclean : c.clean (slotAddr slot) := State.clean_congr hclean (by rw [← hc]; rfl)
  obtain ⟨hbank, htable⟩ := slotAddr_bank hslot (o := 24) (n := 4) (by decide)
  obtain ⟨hcyc, hcycStored⟩ := sramWrite_number hcclean .frame hbank (.inl htable) (cyc % 2 ^ 32)
  obtain ⟨w, hw⟩ : ∃ w, sramWrite c .frame (slotAddr slot + 24) 0 (enabled (bytesLE 4 (cyc % 2 ^ 32))) = w := ⟨_, rfl⟩
  rw [hw] at hcyc hcycStored
  have hbit : flags ||| 1 < 2 ^ 8 := Nat.or_lt_two_pow hflags (by decide)
  obtain ⟨hresult, hstored, hstatus⟩ := slotResult_of_clean hslot (State.clean_congr hcclean hcyc.sram) hbit cyc
  have hrun : frameSent s p = slotResult w slot cyc flags 1 := by
    simp only [frameSent, hsending, State.upPort_eq_setPort]
    rw [← hw, ← hc]
  have hregs : (slotResult w slot cyc flags 1).regs = c.regs := hresult.regs.trans hcyc.regs
  refine ⟨_, congrArg Host.Outcome.next hrun, ?_, fun r => ?_, ?_, fun a ha => ?_, ?_, hstatus⟩
  · rw [hresult.triads]
    exact hcyc.triads.trans (by rw [← hc]; rfl)
  · rw [hresult.net, State.markAll_port, hcyc.net, hcports]
    congr 1
    split
    · next h => rw [h, State.setPort_self]
    · next h => exact (setPort_elsewhere s p _).1 r h
  · rw [State.rd_congr hregs, ← hc, State.rd_up_self, field_wrapField_self _ (by decide)]
    rfl
  · rw [State.rd_congr hregs, ← hc, State.rd_up_ne _ _ _ _ fun e => ha (List.mem_singleton.mpr e)]
    rfl
  · rw [hstored.rdMem_apart (.inl (by omega)), hcycStored.rdMem_self]
    omega

/-- An acyclic frame leaves: ADONE counts, and its event pulses (R480). -/
theorem frameSent_acyclic (hsending : s.net.ports[p].sending = some ⟨.acyclic, o⟩) :
    Completes (.frameSent p) s (fun s' =>
      ((∀ r : Fin 8, r ≠ p → s'.net.ports[r] = s.net.ports[r]) ∧ s'.triads = s.triads)
      ∧ s'.net.ports[p] = { s.net.ports[p] with sending := none }
      ∧ field (s'.rd (Adr.netPStat p)) 15 0 = (field (s.rd (Adr.netPStat p)) 15 0 + 1) % 2 ^ 16
      ∧ Pulsed s s' (528 + p.val) ∧ SameRegs s s' (Adr.netPStat p :: eventRegs (528 + p.val)) ∧ s'.mem = s.mem) := by
  obtain ⟨c, hc⟩ : ∃ c, (s.setPort p { s.net.ports[p] with sending := none }).up (Adr.netPStat p) (wrapField · 15 0) = c :=
    ⟨_, rfl⟩
  have hcregs (a : Nat) (ha : a ≠ Adr.netPStat p) : c.rd a = s.rd a := by
    rw [← hc, State.rd_up_ne _ _ _ _ ha]
    rfl
  have hstat : Adr.netPStat p ∉ eventRegs (528 + p.val) :=
    not_mem_eventRegs (by simp only [Adr.netPStat]; omega) (by omega)
  have hevents (a : Nat) (ha : a ∈ eventRegs (528 + p.val)) : a ≠ Adr.netPStat p := fun e => hstat (e ▸ ha)
  obtain ⟨hpulsed, hsame, honly⟩ := pulse_spec c (528 + p.val)
  have hrun : frameSent s p = pulse c (528 + p.val) := by
    simp only [frameSent, hsending, State.upPort_eq_setPort]
    rw [← hc]
  have hmode : modeOf c = modeOf s := by
    rw [modeOf, hcregs _ (by simp only [Adr.sysMode, Adr.netPStat]; omega), modeOf]
  have hports : (pulse c (528 + p.val)).net.ports = (s.setPort p { s.net.ports[p] with sending := none }).net.ports := by
    rw [honly, ← hc]
    rfl
  refine ⟨_, congrArg Host.Outcome.next hrun, ⟨fun r hr => ?_, ?_⟩, ?_, ?_, hpulsed.of_regs hmode fun a ha => hcregs a (hevents a ha),
    fun a ha => ?_, ?_⟩
  · rw [hports]
    exact (setPort_elsewhere s p _).1 r hr
  · rw [honly, ← hc]
    rfl
  · rw [hports, State.setPort_self]
  · rw [hsame _ hstat, ← hc, State.rd_up_self, field_wrapField_self _ (by decide)]
    rfl
  · rw [List.mem_cons, not_or] at ha
    rw [hsame a ha.2, hcregs a ha.1]
  · rw [honly, ← hc]
    rfl

end

/-! ### NET_Pp_ATX (R480) -/

theorem take_rdBytes (s : State) (a : Nat) {m n : Nat} (h : m ≤ n) : (rdBytes s a n).take m = rdBytes s a m := by
  rw [rdBytes, ← List.map_take, List.take_range, Nat.min_eq_left h, rdBytes]

/-- A valid write queues the frame it names. -/
theorem netPpAtx_completes {s : State} {p : Fin 8} {v : Word} {a n : Nat} {q : Fin 8} (ha : field v 23 0 = a)
    (hn : field v 42 32 = n) (hq : q.val = field v 62 60 % 8) (hlo : 0xC00000 ≤ a) (hhi : a + n ≤ 0x1000000) (halign : a % 8 = 0)
    (hmin : 60 ≤ n) (hmax : n ≤ 1518) (hroom : acyclicWaiting s p < 16) (hfirst : s.clean a) (hlast : s.clean (a + n - 1)) :
    Completes (.netPpAtx p v) s (fun s' =>
      ((∀ r : Fin 8, r ≠ p → s'.net.ports[r] = s.net.ports[r]) ∧ s'.triads = s.triads) ∧ s'.mem = s.mem ∧ s'.regs = s.regs
      ∧ (∃ f : Frame, f.kind = .acyclic ∧ s'.net.ports[p].queues[q] = s.net.ports[p].queues[q] ++ [f]
        ∧ f.octets.take 12 = rdBytes s a 12)
      ∧ ∀ r : Fin 8, r ≠ q → s'.net.ports[p].queues[r] = s.net.ports[p].queues[r]) := by
  have hon (x : Nat) (hx : a ≤ x) (hx' : x < a + n) : bankOn s x = true := by
    by_cases hbank : x / 0x200000 = a / 0x200000
    · rw [bankOn_congr s hbank]
      exact hfirst.on
    · rw [bankOn_congr s (b := a + n - 1) (by omega)]
      exact hlast.on
  have hread := sramRead_of_on hfirst.good hfirst.kept .frame hon
  have hlen := length_rdBytes s a n
  obtain ⟨e, he, hdst, hsrc⟩ := parseEth_addresses (field (s.rd (Adr.netPCfg p)) 23 12) (o := rdBytes s a n) (by omega)
  obtain ⟨y, hy, hydst, hysrc⟩ : ∃ y, (if beAt (rdBytes s a n) 12 2 = 0x8100 then e else { e with pcp := field v 62 60 }) = y
      ∧ y.dst = beAt (rdBytes s a n) 0 6 ∧ y.src = beAt (rdBytes s a n) 6 6 := by
    refine ⟨_, rfl, ?_, ?_⟩
    · split <;> exact hdst
    · split <;> exact hsrc
  have hvalid : ¬ (a < 0xC00000 ∨ 0x1000000 < a + n ∨ a % 8 ≠ 0 ∨ n < 60 ∨ 1518 < n ∨ 16 ≤ acyclicWaiting s p) := by omega
  have hqueue : (⟨field v 62 60 % 8, Nat.mod_lt _ (by decide)⟩ : Fin 8) = q := Fin.ext hq.symm
  have hrun : writeAtx s p v = s.upPort p fun x => x.queued q ⟨.acyclic, egressOctets s p y⟩ := by
    simp only [writeAtx, ha, hn, if_neg hvalid, hread, he, hy, hqueue, enqueue_eq]
  refine ⟨_, congrArg Host.Outcome.next hrun, ⟨fun r hr => State.upPort_ne _ _ _ hr, rfl⟩, rfl, rfl,
    ⟨⟨.acyclic, egressOctets s p y⟩, rfl, ?_, ?_⟩, fun r hr => ?_⟩
  · rw [State.upPort_self, Port.queued_self]
  · rw [take_egressOctets_of_parsed s p (by omega) hydst hysrc, take_rdBytes s a (by omega)]
  · rw [State.upPort_self, Port.queued_ne _ _ hr]

theorem framesSent : Clause.FramesSent := fun _ _ _ =>
  ⟨fun _ _ _ hsending hslot hflags hclean => frameSent_cyclic hsending hslot hflags hclean, frameSent_acyclic,
    fun _ hlo hhi halign hmin hmax hroom hfirst hlast =>
      netPpAtx_completes rfl rfl rfl hlo hhi halign hmin hmax hroom hfirst hlast⟩

/-- Settles O31: each start gives its port one new state; a launch and a frame that has left write their slot in a clean bank. -/
theorem framesGo : Obligations.FramesGo := ⟨framesLeave, framesSent⟩

end Sys2Proof.Machine
end

section
/-! The reception of frames that are not cyclic: errors, learning, the receive ring, forwarding (R437, R438, R440, R481,
R483). -/

namespace Sys2Proof.Machine

/-! ### A frame with a bad FCS (R437, R483) -/

theorem netPCnt_not_mem (p : Fin 8) : Adr.netPCnt p ∉ eventRegs (536 + p.val) :=
  not_mem_eventRegs (by simp only [Adr.netPCnt]; omega) (by omega)

/-- A count changes registers alone, and its field saturates. -/
theorem countPort_spec (s : State) (p : Fin 8) {hi lo : Nat} (hhi : hi < 64) : RegsOnly s (countPort s p hi lo)
    ∧ field ((countPort s p hi lo).rd (Adr.netPCnt p)) hi lo =
      satSucc (field (s.rd (Adr.netPCnt p)) hi lo) (2 ^ (hi + 1 - lo) - 1) := by
  have hcount : field ((s.up (Adr.netPCnt p) fun w => satField w hi lo).rd (Adr.netPCnt p)) hi lo =
      satSucc (field (s.rd (Adr.netPCnt p)) hi lo) (2 ^ (hi + 1 - lo) - 1) := by
    rw [State.rd_up_self, field_satField_self _ hhi]
  unfold countPort
  extract_lets a v z
  split
  · refine ⟨(RegsOnly.up s _ _).trans (.pulse _ _), ?_⟩
    rw [(pulse_spec z _).2.1 _ (netPCnt_not_mem p)]
    exact hcount
  · exact ⟨.up s _ _, hcount⟩

theorem frameReception_badFcs {s : State} {p : Fin 8} {rx : Word} {o : List Byte} (hlink : linkUp s p = true)
    (hfits : frameFits o = true) : Completes (.frameReception p rx o false) s (fun s' =>
      field (s'.rd (Adr.netPCnt p)) 63 48 = satSucc (field (s.rd (Adr.netPCnt p)) 63 48) 0xFFFF
      ∧ s' = { s with regs := s'.regs }) := by
  obtain ⟨hregs, hcount⟩ := countPort_spec s p (hi := 63) (lo := 48) (by decide)
  refine ⟨countPort s p 63 48, congrArg Host.Outcome.next ?_, hcount, hregs.eq_with⟩
  simp only [hfits, receiveFrame, hlink, rxError, Bool.not_true, Bool.not_false, Bool.false_eq_true, if_false, if_true]

/-! ### An untagged frame as the bridge reads it (R438) -/

/-- The frame of octets o, untagged on a port of that PVID. -/
def untaggedEth (pvid : Nat) (o : List Byte) : Eth :=
  { dst := beAt o 0 6, src := beAt o 6 6, vid := pvid, pcp := 0, rest := o.drop 12 }

theorem parseEth_untagged (pvid : Nat) {o : List Byte} (hlen : 14 ≤ o.length) (htag : beAt o 12 2 ≠ 0x8100) :
    parseEth pvid o = some (untaggedEth pvid o) := by
  have h14 : ¬ o.length < 14 := by omega
  simp only [parseEth, if_neg h14, htag, false_and, if_false]
  rfl

theorem etype_untaggedEth (pvid : Nat) {o : List Byte} (hlen : 14 ≤ o.length) : (untaggedEth pvid o).etype = beAt o 12 2 := by
  have hrest : sliceOf (o.drop 12) 0 2 = sliceOf o 12 2 := by
    rw [sliceOf_of_le (by rw [List.length_drop]; omega), sliceOf_of_le (by omega), List.drop_zero]
  exact congrArg natBE hrest

/-! ### Learning (R437) -/

/-- What the bridge learns from an untagged frame o on port p. -/
def sourceEntry (s : State) (p : Fin 8) (o : List Byte) : FdbEntry :=
  ⟨BitVec.ofNat 48 (beAt o 6 6), BitVec.ofNat 12 (field (s.rd (Adr.netPCfg p)) 23 12), p⟩

/-- The table with that entry in place of any other of its address and VLAN. -/
def State.learned (s : State) (e : FdbEntry) : State :=
  { s with net := { s.net with fdb := s.net.fdb.filter (fun f => !(f.mac == e.mac && f.vid == e.vid)) ++ [e] } }

/-- A unicast source is learned while the table has room. -/
theorem learn_unicast {s : State} (p : Fin 8) {src vid : Nat} (hsrc : src / 2 ^ 40 % 2 = 0) (hroom : s.net.fdb.length < 4096) :
    learn s p src vid = s.learned ⟨BitVec.ofNat 48 src, BitVec.ofNat 12 vid, p⟩ := by
  have hrest : (s.net.fdb.filter fun f => !(f.mac == BitVec.ofNat 48 src && f.vid == BitVec.ofNat 12 vid)).length < 4096 :=
    Nat.lt_of_le_of_lt (List.length_filter_le _ _) hroom
  simp only [learn, hsrc, Nat.zero_ne_one, if_false, hrest, if_true]
  rfl

theorem mem_learned (s : State) (e : FdbEntry) : e ∈ (s.learned e).net.fdb :=
  List.mem_append_right _ (List.mem_singleton_self e)

/-- Only the learned entry is new. -/
theorem mem_of_mem_learned {s : State} {e f : FdbEntry} (h : f ∈ (s.learned e).net.fdb) : f ∈ s.net.fdb ∨ f = e := by
  rcases List.mem_append.mp h with h | h
  · exact .inl (List.mem_of_mem_filter h)
  · exact .inr (List.mem_singleton.mp h)

/-! ### The receive ring (R481) -/

/-- A slot of the ring: receive time, length, the frame. -/
def ringSlot (rx : Word) (o : List Byte) : List Byte := bytesLE 8 rx.toNat ++ bytesLE 2 o.length ++ List.replicate 6 0 ++ o

theorem length_ringSlot (rx : Word) (o : List Byte) : (ringSlot rx o).length = 16 + o.length := by
  simp only [ringSlot, List.length_append, length_bytesLE, List.length_replicate]

/-- A part of octets that were stored. -/
theorem rdBytes_stored_part (s : State) (a : Nat) (u v w : List Byte) :
    rdBytes (storeOctets s a 0 (enabled (u ++ v ++ w))) (a + u.length) v.length = v := by
  refine List.ext_getElem (length_rdBytes _ _ _) fun i _ hi => ?_
  have hlen : (u ++ v ++ w).length = u.length + v.length + w.length := by simp only [List.length_append]
  have hat : (u ++ v ++ w)[u.length + i]? = some v[i] := by
    rw [List.append_assoc, List.getElem?_append_right (Nat.le_add_right _ _), Nat.add_sub_cancel_left,
      List.getElem?_append_left hi, List.getElem?_eq_getElem hi]
  simp only [rdBytes, List.getElem_map, List.getElem_range]
  rw [rdByte_storeOctets, if_pos (by omega), show a + u.length + i - a = u.length + i by omega, List.getD_eq_getElem?_getD, hat]
  rfl

theorem natLE_bytesLE (n v : Nat) : natLE (bytesLE n v) = v % 256 ^ n := by
  have hoctets : bytesLE n v = (List.range n).map fun i => BitVec.ofNat 8 (v / 256 ^ i) := by
    refine List.ext_getElem (by rw [length_bytesLE, List.length_map, List.length_range]) fun i hi _ => ?_
    rw [length_bytesLE] at hi
    rw [← List.getD_eq_getElem (d := 0), getD_bytesLE hi]
    simp
  rw [hoctets, natLE_octets]

/-- What a slot reads as: its time, its length, its frame (R9, R481). -/
theorem ringSlot_stored (s : State) (a : Nat) (rx : Word) {o : List Byte} (ho : o.length ≤ 2032) :
    let z := storeOctets s a 0 (enabled (ringSlot rx o))
    rdMem z a 8 = rx.toNat ∧ rdMem z (a + 8) 2 = o.length ∧ rdBytes z (a + 16) o.length = o := by
  have htime := rdBytes_stored_part s a [] (bytesLE 8 rx.toNat) (bytesLE 2 o.length ++ List.replicate 6 0 ++ o)
  have hlength := rdBytes_stored_part s a (bytesLE 8 rx.toNat) (bytesLE 2 o.length) (List.replicate 6 0 ++ o)
  have hframe := rdBytes_stored_part s a (bytesLE 8 rx.toNat ++ bytesLE 2 o.length ++ List.replicate 6 0) o []
  simp only [List.nil_append, List.append_nil, List.append_assoc, List.length_append, List.length_nil, List.length_replicate,
    length_bytesLE, Nat.add_zero] at htime hlength hframe
  simp only [ringSlot, List.append_assoc]
  refine ⟨?_, ?_, hframe⟩
  · rw [rdMem, htime, natLE_bytesLE]
    exact Nat.mod_eq_of_lt rx.isLt
  · rw [rdMem, hlength, natLE_bytesLE]
    omega

/-- The slot at HEAD, where the ring is enabled, has room and lies in the frame buffers. -/
theorem ringWrite_of_room {s : State} {p : Fin 8} {rx : Word} {o : List Byte} {head a : Nat}
    (hhead : head = field (s.rd (Adr.netPArxp p)) 23 16) (ha : a = field (s.rd (Adr.netPArx p)) 23 11 * 2048 + head * 2048)
    (hon : bitOf (s.rd (Adr.netPArx p)) 30 = true) (hcount : 2 ≤ field (s.rd (Adr.netPArx p)) 7 0)
    (hroom : (head + 1) % field (s.rd (Adr.netPArx p)) 7 0
      ≠ field (s.rd (Adr.netPArxp p)) 7 0 % field (s.rd (Adr.netPArx p)) 7 0)
    (hlo : 0xC00000 ≤ a) (hhi : a + 2048 ≤ 0x1000000) (hclean : s.clean a) (ho : o.length ≤ 2032) :
    ringWrite s p rx o = pulse ((storeOctets s a 0 (enabled (ringSlot rx o))).up (Adr.netPArxp p) fun w =>
      setField w 23 16 ((head + 1) % field (s.rd (Adr.netPArx p)) 7 0)) (520 + p.val) := by
  have hlen := length_ringSlot rx o
  have hbank : SameBank a a (ringSlot rx o).length := fun x hx hx' => by
    rw [hlen] at hx'
    have halign : a % 2048 = 0 := by omega
    omega
  have hstore := sramWrite_of_clean hclean .frame hbank (.inl (by rw [hlen, devTable]; omega))
  have htakes : (!bitOf (s.rd (Adr.netPArx p)) 30 || field (s.rd (Adr.netPArx p)) 7 0 == 0
      || (head + 1) % field (s.rd (Adr.netPArx p)) 7 0
        == field (s.rd (Adr.netPArxp p)) 7 0 % field (s.rd (Adr.netPArx p)) 7 0
      || decide (a < 0xC00000 ∨ 0x1000000 < a + 2048)) = false := by
    simp only [hon, Bool.not_true, Bool.or_eq_false_iff, beq_eq_false_iff_ne, decide_eq_false_iff_not]
    exact ⟨⟨⟨trivial, by omega⟩, hroom⟩, by omega⟩
  simp only [ringWrite, ← hhead, ← ha, htakes, Bool.false_eq_true, if_false]
  rw [← hstore]
  rfl

/-! ### Forwarding (R440) -/

/-- Each port of a list takes the frame at the end of queue q. -/
theorem foldl_enqueue (e : Eth) (q : Fin 8) {l : List (Fin 8)} (hl : l.Nodup) (s : State) :
    let z := l.foldl (fun s (o : Fin 8) => enqueue s o q ⟨.bridged, egressOctets s o e⟩) s
    z = { s with net := { s.net with ports := z.net.ports } }
    ∧ ∀ r : Fin 8, z.net.ports[r] =
      if r ∈ l then s.net.ports[r].queued q ⟨.bridged, egressOctets s r e⟩ else s.net.ports[r] := by
  induction l generalizing s with
  | nil => exact ⟨rfl, fun r => (if_neg List.not_mem_nil).symm⟩
  | cons o l ih =>
    obtain ⟨hnot, hl⟩ := List.nodup_cons.mp hl
    obtain ⟨hnet, hports⟩ := ih hl (enqueue s o q ⟨.bridged, egressOctets s o e⟩)
    refine ⟨hnet, fun r => ?_⟩
    rw [List.foldl_cons, hports r, enqueue_eq]
    by_cases hr : r = o
    · rw [hr, if_neg hnot, if_pos List.mem_cons_self, State.upPort_self]
    · rw [State.upPort_ne _ _ _ hr]
      simp only [List.mem_cons, hr, false_or]
      rfl

/-- A frame for an address that no entry holds goes to every other port with link. -/
theorem forward_of_unknown {s : State} {p : Fin 8} {e : Eth} (hdst : e.dst / 2 ^ 40 % 2 = 0)
    (hunknown : ∀ f ∈ s.net.fdb, f.mac.toNat ≠ e.dst) (hpcp : e.pcp = 0) :
    forward s p e = { s with net := { s.net with ports := (forward s p e).net.ports } }
    ∧ ∀ r : Fin 8, (forward s p e).net.ports[r] =
      if r ≠ p ∧ linkUp s r = true then s.net.ports[r].queued 0 ⟨.bridged, egressOctets s r e⟩ else s.net.ports[r] := by
  have hfind : (s.net.fdb.find? fun f => decide (f.mac.toNat = e.dst ∧ f.vid.toNat = e.vid)) = none :=
    List.find?_eq_none.mpr fun f hf => by simp [hunknown f hf]
  have hrun : forward s p e = ((allPorts.filter fun o => o != p).filter (linkUp s)).foldl
      (fun s (o : Fin 8) => enqueue s o 0 ⟨.bridged, egressOctets s o e⟩) s := by
    simp only [forward, hdst, Nat.zero_ne_one, if_false, hfind, hpcp]
    rfl
  obtain ⟨hnet, hports⟩ := foldl_enqueue e 0 (((List.nodup_finRange 8).filter fun o => o != p).filter (linkUp s)) s
  rw [hrun]
  refine ⟨hnet, fun r => (hports r).trans (if_congr ?_ rfl rfl)⟩
  simp [List.mem_filter, and_comm]

/-! ### What becomes of the frame (R440) -/

/-- A frame that fits is received (R437). -/
theorem exec_frameReception_of_fits {s z : State} {p : Fin 8} {rx : Word} {o : List Byte} (hfits : frameFits o = true)
    (hz : receiveFrame s p rx o true = z) : exec (.frameReception p rx o true) s = .next z :=
  congrArg Host.Outcome.next ((if_pos hfits).trans hz)

section
variable {s : State} {p : Fin 8} {rx : Word} {o : List Byte} (hlink : linkUp s p = true) (hlen : 60 ≤ o.length)
  (htype : beAt o 12 2 ∉ [0x8100, 0x88F7, 0xF1C1, field (s.rd Adr.netCtl) 15 0])
  (hsrc : beAt o 6 6 / 2 ^ 40 % 2 = 0) (hroom : s.net.fdb.length < 4096)
include hlink hlen htype hsrc hroom

/-- A frame that is no gPTP, R-TAG or cyclic frame is learned, then received or forwarded by its destination. -/
theorem receiveFrame_plain : receiveFrame s p rx o true =
    let z := s.learned (sourceEntry s p o)
    let x := untaggedEth (field (s.rd (Adr.netPCfg p)) 23 12) o
    if beAt o 0 6 = netMac s then ringWrite z p rx o
    else if beAt o 0 6 = 0xFFFFFFFFFFFF then forward (ringWrite z p rx o) p x
    else forward z p x := by
  simp only [List.mem_cons, List.not_mem_nil, or_false, not_or] at htype
  obtain ⟨htag, hgptp, hrtag, hcyclic⟩ := htype
  have hparse := parseEth_untagged (field (s.rd (Adr.netPCfg p)) 23 12) (o := o) (by omega) htag
  have hetype := etype_untaggedEth (field (s.rd (Adr.netPCfg p)) 23 12) (o := o) (by omega)
  have hlearn : learn s p (beAt o 6 6) (field (s.rd (Adr.netPCfg p)) 23 12) = s.learned (sourceEntry s p o) :=
    learn_unicast p hsrc hroom
  obtain ⟨x, hx⟩ : ∃ x, untaggedEth (field (s.rd (Adr.netPCfg p)) 23 12) o = x := ⟨_, rfl⟩
  have hdst : x.dst = beAt o 0 6 := by rw [← hx]; rfl
  have hxsrc : x.src = beAt o 6 6 := by rw [← hx]; rfl
  have hvid : x.vid = field (s.rd (Adr.netPCfg p)) 23 12 := by rw [← hx]; rfl
  have hkeeps (a : Nat) : (s.learned (sourceEntry s p o)).rd a = s.rd a := rfl
  rw [hx] at hparse hetype
  simp only [receiveFrame, hlink, hparse, hetype, hxsrc, hvid, hlearn, hgptp, hrtag, hcyclic, classify, hkeeps, hdst, hx, netMac,
    Bool.not_true, Bool.false_eq_true, if_false, false_and]

variable (hfits : frameFits o = true)
include hfits

/-- A frame for the device's own address becomes a slot of the ring (R481). -/
theorem frameReception_own {head a : Nat} (hown : beAt o 0 6 = netMac s) (hhead : head = field (s.rd (Adr.netPArxp p)) 23 16)
    (ha : a = field (s.rd (Adr.netPArx p)) 23 11 * 2048 + head * 2048)
    (hon : bitOf (s.rd (Adr.netPArx p)) 30 = true) (hcount : 2 ≤ field (s.rd (Adr.netPArx p)) 7 0)
    (hnext : (head + 1) % field (s.rd (Adr.netPArx p)) 7 0
      ≠ field (s.rd (Adr.netPArxp p)) 7 0 % field (s.rd (Adr.netPArx p)) 7 0)
    (hlo : 0xC00000 ≤ a) (hhi : a + 2048 ≤ 0x1000000) (hclean : s.clean a) (ho : o.length ≤ 2032) :
    Completes (.frameReception p rx o true) s (fun s' =>
      sourceEntry s p o ∈ s'.net.fdb ∧ s'.net.ports = s.net.ports ∧ s'.triads = s.triads
      ∧ rdMem s' a 8 = rx.toNat ∧ rdMem s' (a + 8) 2 = o.length ∧ rdBytes s' (a + 16) o.length = o
      ∧ (∀ y, (y < a ∨ a + 16 + o.length ≤ y) → rdByte s' y = rdByte s y)
      ∧ field (s'.rd (Adr.netPArxp p)) 23 16 = (head + 1) % field (s.rd (Adr.netPArx p)) 7 0 ∧ Pulsed s s' (520 + p.val)) := by
  obtain ⟨z, hz⟩ : ∃ z, storeOctets (s.learned (sourceEntry s p o)) a 0 (enabled (ringSlot rx o)) = z := ⟨_, rfl⟩
  obtain ⟨y, hy⟩ : ∃ y, (z.up (Adr.netPArxp p) fun w => setField w 23 16 ((head + 1) % field (s.rd (Adr.netPArx p)) 7 0)) = y :=
    ⟨_, rfl⟩
  have hrun : receiveFrame s p rx o true = pulse y (520 + p.val) := by
    rw [receiveFrame_plain hlink hlen htype hsrc hroom, ← hy, ← hz]
    exact (if_pos hown).trans
      (ringWrite_of_room hhead ha hon hcount hnext hlo hhi (State.clean_congr hclean rfl) ho)
  have hzonly : MemOnly (s.learned (sourceEntry s p o)) z := hz ▸ memOnly_storeOctets _ _ _ _
  have hzbyte (x : Nat) (hx : x < a ∨ a + 16 + o.length ≤ x) : rdByte z x = rdByte s x := by
    rw [← hz, rdByte_storeOctets, length_ringSlot, if_neg (by omega)]
    rfl
  obtain ⟨htime, hlength, hframe⟩ := ringSlot_stored (s.learned (sourceEntry s p o)) a rx ho
  rw [hz] at htime hlength hframe
  obtain ⟨hpulsed, hsame, honly⟩ := pulse_spec y (520 + p.val)
  have hnet : (pulse y (520 + p.val)).net = z.net := by rw [honly, ← hy]; rfl
  have hmem : (pulse y (520 + p.val)).mem = z.mem := by rw [honly, ← hy]; rfl
  have hptr : Adr.netPArxp p ∉ eventRegs (520 + p.val) :=
    not_mem_eventRegs (by simp only [Adr.netPArxp]; omega) (by omega)
  have hyregs (b : Nat) (hb : b ≠ Adr.netPArxp p) : y.rd b = s.rd b := by
    rw [← hy, State.rd_up_ne _ _ _ _ hb]
    exact State.rd_congr hzonly.regs b
  have hmode : modeOf y = modeOf s := by
    rw [modeOf, hyregs _ (by simp only [Adr.sysMode, Adr.netPArxp]; omega), modeOf]
  refine ⟨_, exec_frameReception_of_fits hfits hrun, ?_, ?_, ?_, ?_, ?_, ?_, fun x hx => ?_, ?_,
    hpulsed.of_regs hmode fun b hb => hyregs b fun e => hptr (e ▸ hb)⟩
  · rw [hnet, hzonly.net]
    exact mem_learned _ _
  · rw [hnet, hzonly.net]
    rfl
  · rw [honly, ← hy]
    exact hzonly.triads
  · rw [rdMem_of_mem hmem, htime]
  · rw [rdMem_of_mem hmem, hlength]
  · exact (congrArg (fun m => (List.range o.length).map fun i => sparseGet m (a + 16 + i) 0) hmem).trans hframe
  · exact (congrArg (fun m => sparseGet m x 0) hmem).trans (hzbyte x hx)
  · rw [hsame _ hptr, ← hy, State.rd_up_self, field_setField_self _ _ (by decide)]
    have hlt := Nat.mod_lt (head + 1) (show 0 < field (s.rd (Adr.netPArx p)) 7 0 by omega)
    have h8 : field (s.rd (Adr.netPArx p)) 7 0 < 2 ^ 8 := Nat.mod_lt _ (by decide)
    omega

/-- A frame for an address that no entry holds enters queue 0 of the other ports with link (R440). -/
theorem frameReception_unknown (hother : beAt o 0 6 ≠ netMac s) (hdst : beAt o 0 6 / 2 ^ 40 % 2 = 0)
    (hunknown : ∀ e ∈ s.net.fdb, e.mac.toNat ≠ beAt o 0 6) (hdiff : beAt o 0 6 ≠ beAt o 6 6) :
    Completes (.frameReception p rx o true) s (fun s' =>
      sourceEntry s p o ∈ s'.net.fdb ∧ s'.triads = s.triads ∧ s'.mem = s.mem ∧ s'.regs = s.regs
      ∧ s'.net.ports[p] = s.net.ports[p]
      ∧ ∀ r : Fin 8, r ≠ p → (linkUp s r = false → s'.net.ports[r] = s.net.ports[r])
        ∧ (linkUp s r = true → ∃ f : Frame, f.kind = .bridged ∧ f.octets.take 12 = o.take 12
          ∧ s'.net.ports[r] = s.net.ports[r].queued 0 f)) := by
  obtain ⟨z, hz⟩ : ∃ z, s.learned (sourceEntry s p o) = z := ⟨_, rfl⟩
  obtain ⟨x, hx⟩ : ∃ x, untaggedEth (field (s.rd (Adr.netPCfg p)) 23 12) o = x := ⟨_, rfl⟩
  have hxdst : x.dst = beAt o 0 6 := by rw [← hx]; rfl
  have hxsrc : x.src = beAt o 6 6 := by rw [← hx]; rfl
  have hxpcp : x.pcp = 0 := by rw [← hx]; rfl
  have hbroadcast : beAt o 0 6 ≠ 0xFFFFFFFFFFFF := by omega
  have hrun : receiveFrame s p rx o true = forward z p x := by
    rw [receiveFrame_plain hlink hlen htype hsrc hroom]
    exact (if_neg hother).trans ((if_neg hbroadcast).trans (by rw [hz, hx]))
  have hnew : (sourceEntry s p o).mac.toNat ≠ x.dst := by
    have hlt := natLE_lt (sliceOf o 6 6).reverse
    have h6 : (sliceOf o 6 6).reverse.length = 6 := by
      rw [List.length_reverse, sliceOf, List.length_map, List.length_range]
    rw [h6] at hlt
    have hmac : (sourceEntry s p o).mac.toNat = beAt o 6 6 := Nat.mod_eq_of_lt hlt
    rw [hmac, hxdst]
    exact hdiff.symm
  have hnone : ∀ f ∈ z.net.fdb, f.mac.toNat ≠ x.dst := fun f hf => by
    rw [← hz] at hf
    rcases mem_of_mem_learned hf with hf | rfl
    · rw [hxdst]
      exact hunknown f hf
    · exact hnew
  obtain ⟨honly, hports⟩ := forward_of_unknown (s := z) (p := p) (by rw [hxdst]; exact hdst) hnone hxpcp
  refine ⟨_, exec_frameReception_of_fits hfits hrun, ?_, ?_, ?_, ?_, ?_, fun r hr => ⟨fun hdown => ?_,
    fun hup => ⟨⟨.bridged, egressOctets z r x⟩, rfl, take_egressOctets_of_parsed z r (by omega) hxdst hxsrc, ?_⟩⟩⟩
  · rw [honly, ← hz]
    exact mem_learned _ _
  · rw [honly, ← hz]
    rfl
  · rw [honly, ← hz]
    rfl
  · rw [honly, ← hz]
    rfl
  · rw [hports, if_neg fun h => h.1 rfl, ← hz]
    rfl
  · rw [hports, ← hz, if_neg fun h => Bool.false_ne_true (hdown.symm.trans h.2)]
    rfl
  · rw [hports, if_pos ⟨hr, by rw [← hz]; exact hup⟩, ← hz]
    rfl

end

/-! ### The statement -/

/-- Settles O32: a plain frame is learned; it is then one slot of the receive ring, or one frame more in queue 0 of each other
port with link. -/
theorem framesArrive : Obligations.FramesArrive := by
  intro s p rx o hlink hlen
  refine ⟨fun ok hlong => congrArg Host.Outcome.next (by simp only [hlong, Bool.false_eq_true, if_false]),
    fun hfits => frameReception_badFcs hlink hfits, ?_⟩
  intro hfits htype hsrc vid learned hroom
  refine ⟨?_, frameReception_unknown hlink hlen htype hsrc hroom hfits⟩
  intro hown arx head a hon hcount hnext hlo hhi hclean ho
  exact frameReception_own hlink hlen htype hsrc hroom hfits hown rfl rfl hon hcount hnext hlo hhi hclean ho

end Sys2Proof.Machine
end

section
/-! Gate schedules of a field port: restart, the next entry, the check of a list (R446 to R448, R482). -/

namespace Sys2Proof.Machine

/-! ### The gates move (R446, R448) -/

/-- The port at entry pos of list l, with gates g since the cycle that began at t. -/
def Port.gated (x : Port) (l : List Word) (pos : Nat) (t : Word) (g : Byte) : Port :=
  { x with gcl := l, gclPos := pos, cycStart := t, gates := g }

section
variable {s : State} {p : Fin 8} (l : List Word) (pos : Nat) (t : Word) (g : Byte)

theorem octetsSent_gated : octetsSent (s.setPort p (s.net.ports[p].gated l pos t g)) p = octetsSent s p := by
  simp only [octetsSent, State.setPort_self]
  rfl

theorem atCut_gated : atCut (s.setPort p (s.net.ports[p].gated l pos t g)) p = atCut s p := by
  simp only [atCut, octetsSent_gated, State.setPort_self]
  rfl

theorem gatesNow_gated (hruns : gateRuns s p = true) : gatesNow (s.setPort p (s.net.ports[p].gated l pos t g)) p = g := by
  have hruns' : gateRuns (s.setPort p (s.net.ports[p].gated l pos t g)) p = true := by
    rw [← hruns]
    simp only [gateRuns, State.setPort_self]
    rfl
  have hon : gateEnabled (s.setPort p (s.net.ports[p].gated l pos t g)) p = true := by
    simp only [gateRuns, Bool.and_eq_true] at hruns'
    exact hruns'.1.1
  simp only [gatesNow, hon, hruns', State.setPort_self]
  rfl

/-- At no preemption point the gates alone change. -/
theorem gateCut_of_whole (hcut : atCut s p = false) :
    gateCut (s.setPort p (s.net.ports[p].gated l pos t g)) p = s.setPort p (s.net.ports[p].gated l pos t g) := by
  rw [gateCut, atCut_gated, hcut]
  exact if_neg fun h => Bool.false_ne_true h.2.2

/-- At one, a gate that closes on the frame in transmission cuts it. -/
theorem gateCut_of_point {f : Frame} (hruns : gateRuns s p = true) (hcut : atCut s p = true)
    (hsending : s.net.ports[p].sending = some f) : gateCut (s.setPort p (s.net.ports[p].gated l pos t g)) p =
      s.setPort p (if g.getLsbD s.net.ports[p].txQueue then s.net.ports[p].gated l pos t g
        else { s.net.ports[p].gated l pos t g with
          sending := none, cut := some (s.net.ports[p].txQueue, octetsSent s p, f) }) := by
  have hqueue : s.net.ports[p].txQueue < 8 := by
    simp only [atCut, hsending, Bool.and_eq_true, decide_eq_true_eq] at hcut
    exact hcut.1.1
  have hnow : cutNow (s.setPort p (s.net.ports[p].gated l pos t g)) p = s.setPort p
      { s.net.ports[p].gated l pos t g with sending := none, cut := some (s.net.ports[p].txQueue, octetsSent s p, f) } := by
    rw [cutNow_of_sending (g := f) (by rw [State.setPort_self]; exact hsending), octetsSent_gated, State.setPort_self,
      State.setPort_setPort]
    rfl
  have hport : (s.net.ports[p].gated l pos t g).txQueue = s.net.ports[p].txQueue := rfl
  cases hg : g.getLsbD s.net.ports[p].txQueue <;>
    simp only [gateCut, State.setPort_self, gatesNow_gated l pos t g hruns, atCut_gated, hcut, hnow, hport, hqueue, hg, true_and,
      and_true, Bool.false_eq_true, Bool.true_eq_false, if_true, if_false]

end

/-- T_start of the table: the list is taken afresh. -/
theorem gateRestart_of_list {s : State} {p : Fin 8} {e : Word} {l : List Word} (hcut : atCut s p = false)
    (hruns : gateRuns s p = true) (hlist : gclOf s p = e :: l) :
    gateRestart s p = s.setPort p (s.net.ports[p].gated (e :: l) 0 (now s) (e.extractLsb' 56 8)) := by
  rw [← gateCut_of_whole _ _ _ _ hcut]
  simp only [gateRestart, hruns, hlist, if_true, State.upPort_eq_setPort]
  rfl

theorem gateNext_of_entry {s : State} {p : Fin 8} {e : Word} (hruns : gateRuns s p = true)
    (hentry : s.net.ports[p].gcl[s.net.ports[p].gclPos + 1]? = some e) :
    gateNext s p = gateCut (s.setPort p (s.net.ports[p].gated s.net.ports[p].gcl (s.net.ports[p].gclPos + 1)
      s.net.ports[p].cycStart (e.extractLsb' 56 8))) p := by
  simp only [gateNext, hruns, hentry, if_true, State.upPort_eq_setPort]
  rfl

theorem gateScheduleRestart_completes {s : State} {p : Fin 8} (hmode : modeOf s ≠ 5) (hcut : atCut s p = false) {e : Word}
    {l : List Word} (hruns : gateRuns s p = true) (hlist : gclOf s p = e :: l) :
    Completes (.gateScheduleRestart p) s (fun s' =>
      ((∀ r : Fin 8, r ≠ p → s'.net.ports[r] = s.net.ports[r]) ∧ s'.mem = s.mem ∧ s'.triads = s.triads) ∧ s'.regs = s.regs
      ∧ s'.net.ports[p] = s.net.ports[p].gated (e :: l) 0 (now s) (e.extractLsb' 56 8)) :=
  ⟨_, congrArg Host.Outcome.next ((State.powered_of_awake s _ hmode).trans (gateRestart_of_list hcut hruns hlist)),
    ⟨(setPort_elsewhere s p _).1, rfl, rfl⟩, rfl, State.setPort_self _ _ _⟩

theorem atCut_of_idle {s : State} {p : Fin 8} (h : s.net.ports[p].sending = none) : atCut s p = false := by
  simp only [atCut, h]

theorem gateIntervalEnd_completes {s : State} {p : Fin 8} (hmode : modeOf s ≠ 5) {e : Word} (hruns : gateRuns s p = true)
    (hentry : s.net.ports[p].gcl[s.net.ports[p].gclPos + 1]? = some e) {y : Port}
    (hy : s.net.ports[p].gated s.net.ports[p].gcl (s.net.ports[p].gclPos + 1) s.net.ports[p].cycStart (e.extractLsb' 56 8) = y) :
    Completes (.gateIntervalEnd p) s (fun s' =>
      ((∀ r : Fin 8, r ≠ p → s'.net.ports[r] = s.net.ports[r]) ∧ s'.mem = s.mem ∧ s'.triads = s.triads) ∧ s'.regs = s.regs
      ∧ (atCut s p = false → s'.net.ports[p] = y)
      ∧ ∀ f, atCut s p = true → s.net.ports[p].sending = some f → s'.net.ports[p] =
        if (e.extractLsb' 56 8).getLsbD s.net.ports[p].txQueue then y
        else { y with sending := none, cut := some (s.net.ports[p].txQueue, octetsSent s p, f) }) := by
  have hrun : exec (.gateIntervalEnd p) s = .next (gateCut (s.setPort p y) p) := by
    rw [← hy]
    exact congrArg Host.Outcome.next ((State.powered_of_awake s _ hmode).trans (gateNext_of_entry hruns hentry))
  cases hcut : atCut s p with
  | false =>
    have hwhole : gateCut (s.setPort p y) p = s.setPort p y := by
      rw [← hy]
      exact gateCut_of_whole _ _ _ _ hcut
    exact ⟨_, hrun.trans (congrArg _ hwhole), ⟨(setPort_elsewhere s p _).1, rfl, rfl⟩, rfl, fun _ => State.setPort_self _ _ _,
      fun _ h => absurd h Bool.false_ne_true⟩
  | true =>
    obtain ⟨f, hf⟩ : ∃ f, s.net.ports[p].sending = some f := Option.ne_none_iff_exists'.mp fun h => by
      rw [atCut_of_idle h] at hcut
      cases hcut
    have hpoint := gateCut_of_point s.net.ports[p].gcl (s.net.ports[p].gclPos + 1) s.net.ports[p].cycStart (e.extractLsb' 56 8)
      hruns hcut hf
    rw [hy] at hpoint
    refine ⟨_, hrun.trans (congrArg _ hpoint), ⟨(setPort_elsewhere s p _).1, rfl, rfl⟩, rfl, fun h => absurd h.symm Bool.false_ne_true,
      fun g _ hg => ?_⟩
    obtain rfl : f = g := Option.some.inj (hf.symm.trans hg)
    exact State.setPort_self _ _ _

/-! ### The bits of an unlocked write (R11, R12, R15) -/

/-- Bit b of a heading takes what is written while its lock bit is clear, outside every field with reserved encodings. -/
def RegDesc.freeUnlocked (d : RegDesc) (b : Nat) : Bool :=
  decide (b < 32) && d.writable false b && !d.w1c.testBit b && d.rsv.all fun r => decide (b < r.2.1 ∨ r.1 < b)

theorem bitOf_writeValue_unlocked {d : RegDesc} {b : Nat} (h : d.freeUnlocked b = true) (old new : Word) :
    bitOf (writeValue d false maskLo old new) b = bitOf new b := by
  simp only [RegDesc.freeUnlocked, RegDesc.writable, Bool.and_eq_true, Bool.not_eq_true', decide_eq_true_eq, List.all_eq_true,
    Bool.not_false, Bool.and_true] at h
  obtain ⟨⟨⟨hb, hrw⟩, hw1c⟩, hrsv⟩ := h
  have h64 : b < 64 := by omega
  simp only [writeValue, bitOf_or, bitOf_and, bitOf_not, bitOf_keepReserved _ _ hrsv, bitOf_ofNat, bitOf_maskLo, hb, h64,
    hw1c, hrw, Bool.false_eq_true, if_false, decide_true, Bool.true_and, Bool.and_true]
  cases bitOf new b <;> simp

/-- CYC and GEN of NET_Pp_GCFG are such bits, and the lock bit is the register's own LK. -/
theorem regAt_netPGcfg : ∀ p : Fin 8, ((regAt (Adr.netPGcfg p)).any fun x =>
    (List.range' 22 7).all x.1.freeUnlocked && x.1.lock == some (0x800B1018, 0x400, 31, 0) && x.2.1 == p.val) = true := by decide

/-- A write of NET_Pp_GCFG without LK changes no other register and takes CYC and GEN as written. -/
theorem sw32_netPGcfg {s : State} {p : Fin 8} (hlock : bitOf (s.rd (Adr.netPGcfg p)) 31 = false) (v : BitVec 32) :
    RegsOnly s (s.sw32 (Adr.netPGcfg p) v) ∧ SameRegs s (s.sw32 (Adr.netPGcfg p) v) [Adr.netPGcfg p]
    ∧ ∀ b, 22 ≤ b → b ≤ 28 → bitOf ((s.sw32 (Adr.netPGcfg p) v).rd (Adr.netPGcfg p)) b = v.getLsbD b := by
  obtain ⟨⟨d, i, j⟩, hd, hfree⟩ := (Option.any_eq_true _ _).mp (regAt_netPGcfg p)
  simp only [Bool.and_eq_true, List.all_eq_true, beq_iff_eq] at hfree
  obtain ⟨⟨hbits, hlk⟩, rfl⟩ := hfree
  have hunlocked : lockedAt s d p.val = false := by
    simp only [lockedAt, hlk, Nat.mul_zero, Nat.mul_comm p.val 0x400]
    exact hlock
  rw [State.sw32_of_regAt s v hd]
  refine ⟨.wr s _ _, fun a ha => State.rd_wr_ne s _ a _ fun e => ha (List.mem_singleton.mpr e), fun b hlo hhi => ?_⟩
  rw [State.rd_wr_self, hunlocked, bitOf_writeValue_unlocked (hbits b (List.mem_range'_1.mpr (by omega))), bitOf,
    BitVec.getLsbD_setWidth, decide_eq_true (show b < 64 by omega), Bool.true_and]

/-! ### GEN (R447, R482) -/

theorem exec_gateEnable (s : State) (p : Fin 8) (v : BitVec 32) :
    exec (.gateEnable p v) s = .next (writeGcfg s p (v ||| 0x10000000)) := rfl

/-- The list is checked with the values t that stand after the write. -/
theorem gateEnable_completes {s t : State} {p : Fin 8} {v : BitVec 32} (hlock : bitOf (s.rd (Adr.netPGcfg p)) 31 = false)
    (ht : s.sw32 (Adr.netPGcfg p) (v ||| 0x10000000) = t) :
    Completes (.gateEnable p v) s (fun s' =>
      ((∀ r : Fin 8, r ≠ p → s'.net.ports[r] = s.net.ports[r]) ∧ s'.mem = s.mem ∧ s'.triads = s.triads)
      ∧ s'.net.ports[p] = { s.net.ports[p] with gateOk := gateChecks t p }
      ∧ SameRegs s s' [Adr.netPGcfg p] ∧ bitOf (s'.rd (Adr.netPGcfg p)) 28 = gateChecks t p
      ∧ (gateChecks t p = false → bitOf (s'.rd (Adr.netPGcfg p)) 30 = true)
      ∧ field (s'.rd (Adr.netPGcfg p)) 27 22 = field (v.setWidth 64) 27 22) := by
  obtain ⟨hregs, hsame, hbits⟩ := sw32_netPGcfg hlock (v ||| 0x10000000)
  rw [ht] at hregs hsame hbits
  have hgen : bitOf (t.rd (Adr.netPGcfg p)) 28 = true := by
    have hmask : (0x10000000 : BitVec 32).getLsbD 28 = true := by decide
    rw [hbits 28 (by decide) (by decide), BitVec.getLsbD_or, hmask, Bool.or_true]
  have hcyc (b : Nat) (hlo : 22 ≤ b) (hhi : b ≤ 27) : bitOf (t.rd (Adr.netPGcfg p)) b = bitOf (v.setWidth 64) b := by
    have hmask : ∀ b : Fin 28, 22 ≤ b.val → (0x10000000 : BitVec 32).getLsbD b.val = false := by decide
    rw [hbits b hlo (by omega), BitVec.getLsbD_or, hmask ⟨b, by omega⟩ hlo, Bool.or_false, bitOf, BitVec.getLsbD_setWidth,
      decide_eq_true (show b < 64 by omega), Bool.true_and]
  have hnet : t.net = s.net := by rw [hregs.eq_with]
  have hport : t.net.ports[p] = s.net.ports[p] := by rw [hnet]
  obtain ⟨z, hz⟩ : ∃ z, t.setPort p { s.net.ports[p] with gateOk := gateChecks t p } = z := ⟨_, rfl⟩
  have hzself : z.net.ports[p] = { s.net.ports[p] with gateOk := gateChecks t p } := by rw [← hz, State.setPort_self]
  have hzports (r : Fin 8) (hr : r ≠ p) : z.net.ports[r] = s.net.ports[r] := by
    rw [← hz, (setPort_elsewhere t p _).1 r hr, hnet]
  have hzregs (a : Nat) : z.rd a = t.rd a := by rw [← hz]; rfl
  have hzmem : z.mem = s.mem := by rw [← hz]; exact hregs.mem
  have hztri : z.triads = s.triads := by rw [← hz]; exact hregs.triads
  have hrun : writeGcfg s p (v ||| 0x10000000) =
      if gateChecks t p then z else z.up (Adr.netPGcfg p) fun w => putBit (putBit w 30 true) 28 false := by
    simp only [writeGcfg, hlock, ht, hgen, State.upPort_eq_setPort, hport, hz, Bool.not_true, Bool.or_self, Bool.false_eq_true, if_false]
  cases hok : gateChecks t p with
  | true =>
    rw [hok, if_pos rfl] at hrun
    rw [hok] at hzself
    refine ⟨z, (exec_gateEnable s p v).trans (congrArg _ hrun), ⟨hzports, hzmem, hztri⟩, hzself,
      fun a ha => (hzregs a).trans (hsame a ha), ?_, fun h => absurd h (by decide), ?_⟩
    · rw [hzregs, hgen]
    · rw [hzregs]
      exact field_congr hcyc
  | false =>
    rw [hok, if_neg Bool.false_ne_true] at hrun
    rw [hok] at hzself
    have hup : (z.up (Adr.netPGcfg p) fun w => putBit (putBit w 30 true) 28 false).net = z.net := State.up_net _ _ _
    refine ⟨_, (exec_gateEnable s p v).trans (congrArg _ hrun), ⟨fun r hr => ?_, (State.up_mem _ _ _).trans hzmem,
      (State.up_triads _ _ _).trans hztri⟩, ?_, fun a ha => ?_, ?_, fun _ => ?_, ?_⟩
    · rw [hup]
      exact hzports r hr
    · rw [hup]
      exact hzself
    · rw [State.rd_up_ne _ _ _ _ fun e => ha (List.mem_singleton.mpr e), hzregs, hsame a ha]
    · rw [State.rd_up_self, bitOf_putBit, if_pos rfl, Bool.and_false]
    · rw [State.rd_up_self, bitOf_putBit, if_neg (by decide), bitOf_putBit, if_pos rfl]
      rfl
    · refine (field_congr fun b hlo hhi => ?_).trans (field_congr hcyc)
      rw [State.rd_up_self, bitOf_putBit, if_neg (by omega), bitOf_putBit, if_neg (by omega), hzregs]

end Sys2Proof.Machine
end

section
/-! The gPTP engine of a port: what best-master selection reads, the change of a grandmaster, Sync, Announce and Pdelay_Req
(R441, R443, R483). -/

namespace Sys2Proof.Machine

/-! ### What the selection reads (R441) -/

/-- The registers of the Tense unit and of the network and the announces heard are those of s. -/
structure SelectsAs (s z : State) : Prop where
  regs : ∀ a, 0x800A0000 ≤ a → z.rd a = s.rd a
  announces : z.net.announces = s.net.announces

namespace SelectsAs
variable {s z : State}

theorem of_port (h : SelectsAs s z) (p : Fin 8) (y : Port) : SelectsAs s (z.setPort p y) := ⟨h.regs, h.announces⟩

theorem mac (h : SelectsAs s z) : netMac z = netMac s := by rw [netMac, h.regs _ (by decide), netMac]

theorem clockId (h : SelectsAs s z) : clockId z = clockId s := by rw [Machine.clockId, h.mac, Machine.clockId]

theorem gptp (h : SelectsAs s z) (d : Fin 2) : z.rd (Adr.netGptp d) = s.rd (Adr.netGptp d) :=
  h.regs _ (by simp only [Adr.netGptp]; omega)

theorem servo (h : SelectsAs s z) : servoState z = servoState s := by rw [servoState, h.regs _ (by decide), servoState]

theorem on (h : SelectsAs s z) (d : Fin 2) (p : Fin 8) : gptpOn z d p = gptpOn s d p := by simp only [gptpOn, h.gptp]

theorem link (h : SelectsAs s z) (p : Fin 8) : linkUp z p = linkUp s p := by
  rw [linkUp, h.regs _ (by simp only [Adr.netPCfg]; omega), h.regs _ (by simp only [Adr.netPStat]; omega), linkUp]

theorem time (h : SelectsAs s z) : now z = now s := h.regs _ (by decide)

theorem live (h : SelectsAs s z) (d : Fin 2) : liveAnnounces z d = liveAnnounces s d := by
  simp only [liveAnnounces, h.announces, h.on, h.link, h.time]

theorem best (h : SelectsAs s z) (d : Fin 2) : bestAnnounce z d = bestAnnounce s d := by rw [bestAnnounce, h.live, bestAnnounce]

theorem own (h : SelectsAs s z) (d : Fin 2) : ownRoot z d = ownRoot s d := by simp only [ownRoot, h.gptp, h.clockId]

theorem grandmaster (h : SelectsAs s z) (d : Fin 2) : isGrandmaster z d = isGrandmaster s d := by
  simp only [isGrandmaster, h.gptp, h.servo, h.best, h.own, h.clockId]

theorem grandmasterId (h : SelectsAs s z) (d : Fin 2) : grandmasterId z d = grandmasterId s d := by
  simp only [Machine.grandmasterId, h.grandmaster, h.clockId, h.best]

theorem slave (h : SelectsAs s z) (d : Fin 2) : slavePort z d = slavePort s d := by
  simp only [slavePort, h.grandmaster, h.best]

theorem master (h : SelectsAs s z) (d : Fin 2) : masterPorts z d = masterPorts s d := by
  simp only [masterPorts, masterRole, portId, h.link, h.on, h.grandmaster, h.own, h.clockId, h.best, h.slave, h.live]

end SelectsAs

/-! ### The grandmaster has changed (R483) -/

/-- From s to z registers and the grandmasters kept alone differ. -/
def GrandmastersOnly (s z : State) : Prop := ∃ r g, z = { s with regs := r, net := { s.net with grandmaster := g } }

namespace GrandmastersOnly
variable {s z : State}

theorem trans {c : State} (h : GrandmastersOnly s z) (g : GrandmastersOnly z c) : GrandmastersOnly s c := by
  obtain ⟨_, _, rfl⟩ := h
  obtain ⟨_, _, rfl⟩ := g
  exact ⟨_, _, rfl⟩

theorem ports (h : GrandmastersOnly s z) : z.net.ports = s.net.ports := by obtain ⟨_, _, rfl⟩ := h; rfl
theorem announces (h : GrandmastersOnly s z) : z.net.announces = s.net.announces := by obtain ⟨_, _, rfl⟩ := h; rfl
theorem mem (h : GrandmastersOnly s z) : z.mem = s.mem := by obtain ⟨_, _, rfl⟩ := h; rfl
theorem triads (h : GrandmastersOnly s z) : z.triads = s.triads := by obtain ⟨_, _, rfl⟩ := h; rfl

end GrandmastersOnly

theorem SelectsAs.of_watched {s z : State} (h : GrandmastersOnly s z) (hregs : SameRegs s z (eventRegs 550)) : SelectsAs s z :=
  ⟨fun a ha => hregs a (not_mem_eventRegs (by omega) (by decide)), h.announces⟩

/-- One domain takes the grandmaster that its selection gives. -/
theorem watchGrandmaster_spec (s : State) (d : Fin 2) : GrandmastersOnly s (watchGrandmaster s d)
    ∧ SameRegs s (watchGrandmaster s d) (eventRegs 550)
    ∧ (watchGrandmaster s d).net.grandmaster = vmod s.net.grandmaster d fun _ => grandmasterId s d := by
  simp only [watchGrandmaster]
  split
  · next h => exact ⟨⟨_, _, rfl⟩, fun _ _ => rfl, (vmod_id _ _ _ h.symm).symm⟩
  · obtain ⟨-, hsame, honly⟩ :=
      pulse_spec { s with net := { s.net with grandmaster := s.net.grandmaster.set d.val (grandmasterId s d) d.isLt } } 550
    exact ⟨⟨_, _, honly⟩, hsame, by rw [honly]; rfl⟩

/-- Both domains do; beside them only E0550 shows. -/
theorem watchGrandmasters_spec (s : State) : GrandmastersOnly s (watchGrandmasters s)
    ∧ SameRegs s (watchGrandmasters s) (eventRegs 550)
    ∧ ∀ d : Fin 2, (watchGrandmasters s).net.grandmaster[d] = grandmasterId s d := by
  obtain ⟨hfirst, hfirstRegs, hfirstIds⟩ := watchGrandmaster_spec s 0
  obtain ⟨hsecond, hsecondRegs, hsecondIds⟩ := watchGrandmaster_spec (watchGrandmaster s 0) 1
  have hsees := SelectsAs.of_watched hfirst hfirstRegs
  have hrun : watchGrandmasters s = watchGrandmaster (watchGrandmaster s 0) 1 := rfl
  rw [hrun]
  refine ⟨hfirst.trans hsecond, fun a ha => (hsecondRegs a ha).trans (hfirstRegs a ha), fun d => ?_⟩
  rw [hsecondIds, hfirstIds, hsees.grandmasterId]
  match d with
  | 0 => exact (vmod_get_ne _ (1 : Fin 2) (0 : Fin 2) _ (by decide)).trans (vmod_get_self _ _ _)
  | 1 => exact vmod_get_self _ _ _

/-! ### Sync (R441, R443) -/

/-- Port p sends Sync and Announce of domain d as the grandmaster. -/
def sendsOwn (s : State) (p : Fin 8) (d : Fin 2) : Bool := isGrandmaster s d && (masterPorts s d).contains p

theorem SelectsAs.sends {s z : State} (h : SelectsAs s z) (p : Fin 8) (d : Fin 2) : sendsOwn z p d = sendsOwn s p d := by
  simp only [sendsOwn, h.grandmaster, h.master]

theorem take_gptpFrame (s : State) (p : Fin 8) (note : GptpNote) (m : List Byte) :
    (gptpFrame s p note m).octets.take 12 = bytesBE 6 gptpAddr ++ bytesBE 6 (netMac s) := take_egressOctets s p _

/-- A Sync with its follow-up behind it. -/
theorem sendOwnSync_spec (s : State) (p : Fin 8) (d : Fin 2) : ∃ f m, f.kind = .gptp (.follow m)
    ∧ f.octets.take 12 = bytesBE 6 gptpAddr ++ bytesBE 6 (netMac s)
    ∧ sendOwnSync s p d = s.setPort p { s.net.ports[p] with
        gptp := s.net.ports[p].gptp ++ [f]
        syncSeq := s.net.ports[p].syncSeq.set d.val (s.net.ports[p].syncSeq[d] + 1) d.isLt } := by
  simp only [sendOwnSync, sendSync, sendGptp, State.upPort_upPort]
  exact ⟨_, _, rfl, take_gptpFrame _ _ _ _, State.upPort_eq_setPort _ _ _⟩

theorem syncTransmission_completes {s : State} {p : Fin 8} {d : Fin 2} (hsends : sendsOwn s p d = true) :
    Completes (.syncTransmission p d) s (fun s' =>
      ((∀ r : Fin 8, r ≠ p → s'.net.ports[r] = s.net.ports[r]) ∧ s'.mem = s.mem ∧ s'.triads = s.triads) ∧ s'.regs = s.regs
      ∧ ∃ f m, f.kind = .gptp (.follow m) ∧ f.octets.take 12 = bytesBE 6 gptpAddr ++ bytesBE 6 (netMac s)
        ∧ s'.net.ports[p] = { s.net.ports[p] with
            gptp := s.net.ports[p].gptp ++ [f]
            syncSeq := s.net.ports[p].syncSeq.set d.val (s.net.ports[p].syncSeq[d] + 1) d.isLt }) := by
  obtain ⟨f, m, hf, haddr, hrun⟩ := sendOwnSync_spec s p d
  refine ⟨_, congrArg Host.Outcome.next ((if_pos hsends).trans hrun), ⟨(setPort_elsewhere s p _).1, rfl, rfl⟩, rfl, f, m, hf, haddr,
    State.setPort_self _ _ _⟩

/-! ### Pdelay_Req and the device's own Announces (R443; log 20) -/

theorem sendAnnounce_spec (s : State) (p : Fin 8) (d : Fin 2) (root steps : Nat) (path : List Byte) :
    ∃ f a, f.kind = .gptp .plain ∧ sendAnnounce s p d root steps path = s.setPort p { s.net.ports[p] with
      gptp := s.net.ports[p].gptp ++ [f], annSeq := a } := by
  simp only [sendAnnounce, sendGptp, State.upPort_upPort]
  exact ⟨_, _, rfl, State.upPort_eq_setPort _ _ _⟩

theorem setPort_own (s : State) (p : Fin 8) : s.setPort p s.net.ports[p] = s := by
  rw [State.setPort, State.upPort, vmod_id _ _ _ rfl]

/-- One Announce for each domain of a list in which the port sends as the grandmaster. -/
theorem foldl_announce {s : State} (p : Fin 8) (l : List (Fin 2)) {z : State} (h : SelectsAs s z) :
    ∃ fs a, (∀ g ∈ fs, g.kind = .gptp .plain) ∧ fs.length = (l.filter (sendsOwn s p)).length
      ∧ l.foldl (fun s d => if sendsOwn s p d then sendAnnounce s p d (ownRoot s d) 0 [] else s) z =
        z.setPort p { z.net.ports[p] with gptp := z.net.ports[p].gptp ++ fs, annSeq := a } := by
  induction l generalizing z with
  | nil =>
    refine ⟨[], z.net.ports[p].annSeq, fun g hg => absurd hg List.not_mem_nil, rfl, ?_⟩
    rw [List.append_nil]
    exact (setPort_own z p).symm
  | cons d l ih =>
    rw [List.foldl_cons, h.sends]
    cases hd : sendsOwn s p d with
    | false =>
      obtain ⟨fs, a, hplain, hlen, hrun⟩ := ih h
      exact ⟨fs, a, hplain, by rw [List.filter_cons_of_neg (by rw [hd]; decide), hlen], hrun⟩
    | true =>
      obtain ⟨f, b, hf, hsend⟩ := sendAnnounce_spec z p d (ownRoot z d) 0 []
      rw [if_pos rfl, hsend]
      obtain ⟨fs, a, hplain, hlen, hrun⟩ := ih (h.of_port p { z.net.ports[p] with gptp := z.net.ports[p].gptp ++ [f], annSeq := b })
      refine ⟨f :: fs, a, List.forall_mem_cons.mpr ⟨hf, hplain⟩, ?_, ?_⟩
      · rw [List.filter_cons_of_pos hd, List.length_cons, List.length_cons, hlen]
      · rw [hrun, State.setPort_self, State.setPort_setPort, List.append_assoc]
        rfl

theorem sendPdelayReq_spec (s : State) (p : Fin 8) : ∃ f, f.kind = .gptp .req ∧ sendPdelayReq s p = s.setPort p
    { s.net.ports[p] with
      gptp := s.net.ports[p].gptp ++ [f]
      peer := { s.net.ports[p].peer with seq := s.net.ports[p].peer.seq + 1, t1 := none, resp := none } } := by
  simp only [sendPdelayReq, sendGptp, State.upPort_upPort]
  exact ⟨_, rfl, State.upPort_eq_setPort _ _ _⟩

/-- The request, and behind it the Announces; the grandmasters are kept up on the way. -/
theorem pdelayReq_completes {s : State} {p : Fin 8} (hlink : linkUp s p = true) (hon : gptpOn s 0 p = true ∨ gptpOn s 1 p = true) :
    Completes (.pdelayReq p) s (fun s' =>
      ((∀ r : Fin 8, r ≠ p → s'.net.ports[r] = s.net.ports[r]) ∧ s'.mem = s.mem ∧ s'.triads = s.triads)
      ∧ SameRegs s s' (eventRegs 550) ∧ (∀ d : Fin 2, s'.net.grandmaster[d] = grandmasterId s d)
      ∧ s'.net.ports[p].queues = s.net.ports[p].queues ∧ s'.net.ports[p].sending = s.net.ports[p].sending
      ∧ s'.net.ports[p].peer = { s.net.ports[p].peer with seq := s.net.ports[p].peer.seq + 1, t1 := none, resp := none }
      ∧ ∃ f l, f.kind = .gptp .req ∧ (∀ g ∈ l, g.kind = .gptp .plain)
        ∧ l.length = ((List.finRange 2).filter (sendsOwn s p)).length ∧ s'.net.ports[p].gptp = s.net.ports[p].gptp ++ f :: l) := by
  obtain ⟨honly, hregs, hids⟩ := watchGrandmasters_spec s
  obtain ⟨z, hz⟩ : ∃ z, watchGrandmasters s = z := ⟨_, rfl⟩
  rw [hz] at honly hregs hids
  have hport (r : Fin 8) : z.net.ports[r] = s.net.ports[r] := by rw [honly.ports]
  obtain ⟨f, hf, hreq⟩ := sendPdelayReq_spec z p
  obtain ⟨l, a, hplain, hlen, hann⟩ := foldl_announce p (List.finRange 2) ((SelectsAs.of_watched honly hregs).of_port p
    { z.net.ports[p] with
      gptp := z.net.ports[p].gptp ++ [f]
      peer := { z.net.ports[p].peer with seq := z.net.ports[p].peer.seq + 1, t1 := none, resp := none } })
  have hgo : (linkUp s p && (gptpOn s 0 p || gptpOn s 1 p)) = true := by
    rcases hon with h | h <;> simp only [hlink, h, Bool.true_or, Bool.or_true, Bool.and_self]
  have hrun : pdelayReq s p = announceOwn (sendPdelayReq (watchGrandmasters s) p) p := if_pos hgo
  rw [hz, hreq] at hrun
  replace hrun := hrun.trans hann
  rw [State.setPort_setPort, State.setPort_self] at hrun
  refine ⟨_, congrArg Host.Outcome.next hrun, ⟨fun r hr => ?_, honly.mem, honly.triads⟩, hregs, hids, ?_, ?_, ?_, f, l, hf, hplain,
    hlen, ?_⟩
  · rw [(setPort_elsewhere z p _).1 r hr, hport]
  all_goals rw [State.setPort_self, hport]
  rw [List.append_assoc]
  rfl

end Sys2Proof.Machine
end

section
/-! A link comes or goes; entries age out; O33 (R436, R437, R469, R482, R483). -/

namespace Sys2Proof.Machine

/-! ### NET_PpSTAT of a port whose link changes -/

/-- A bit that is clear already stays as it is. -/
theorem putBit_of_clear {w : Word} {i : Nat} (h : bitOf w i = false) : putBit w i false = w := by
  have hfield : field w i i = (false).toNat := by
    refine Nat.eq_of_testBit_eq fun j => ?_
    rw [testBit_field, Bool.toNat_false, Nat.zero_testBit]
    by_cases hj : j = 0
    · simp only [hj, Nat.add_zero, h, Bool.and_false]
    · rw [decide_eq_false (by omega), Bool.false_and]
  rw [putBit, ← hfield, setField_field]

theorem linkSpeed_lt (s : State) (p : Fin 8) (n : Nat) : linkSpeed s p n < 8 := by
  have hmode : field (s.rd (Adr.netPCfg p)) 29 28 < 4 := Nat.mod_lt _ (by decide)
  simp only [linkSpeed]
  split
  · split
    · next h =>
      rw [Bool.and_eq_true, decide_eq_true_eq] at h
      omega
    · decide
  · omega

/-- NET_PpSTAT of a port whose link has come up. -/
def pstatLinked (s : State) (p : Fin 8) (speed : Nat) : Word :=
  putBit (setField (s.rd (Adr.netPStat p)) 30 28 (linkSpeed s p speed)) 31 true

theorem bitOf_pstatLinked (s : State) (p : Fin 8) (speed : Nat) : bitOf (pstatLinked s p speed) 31 = true := by
  rw [pstatLinked, bitOf_putBit, if_pos rfl]
  rfl

theorem field_pstatLinked (s : State) (p : Fin 8) (speed : Nat) :
    field (pstatLinked s p speed) 30 28 = linkSpeed s p speed := by
  have hout : field (pstatLinked s p speed) 30 28 =
      field (setField (s.rd (Adr.netPStat p)) 30 28 (linkSpeed s p speed)) 30 28 :=
    field_congr fun i _ hhi => by rw [pstatLinked, bitOf_putBit, if_neg (by omega)]
  rw [hout, field_setField_self _ _ (by decide)]
  exact Nat.mod_eq_of_lt (linkSpeed_lt s p speed)

/-! ### A link change shows (R482) -/

/-- The registers a link change of port p shows in: its STAT, E0512 + p and, where a grandmaster changes, E0550. -/
def linkRegs (p : Fin 8) : List Nat := Adr.netPStat p :: eventRegs (512 + p.val) ++ eventRegs 550

/-- STAT takes the word, E0512 + p pulses, the network's generation counter rises. -/
def linkShown (s : State) (p : Fin 8) (new : Word) : State := genUp (pulse (s.wr (Adr.netPStat p) new) (512 + p.val)) 7

theorem RegsOnly.net {s z : State} (h : RegsOnly s z) : z.net = s.net := by
  obtain ⟨_, rfl⟩ := h
  rfl

section
variable (s : State) (p : Fin 8) (new : Word)

theorem linkShown_keeps : (linkShown s p new).net = s.net ∧ (linkShown s p new).mem = s.mem
    ∧ (linkShown s p new).triads = s.triads ∧ (linkShown s p new).sram = s.sram := by
  have honly : RegsOnly s (pulse (s.wr (Adr.netPStat p) new) (512 + p.val)) := (RegsOnly.wr s _ _).trans (.pulse _ _)
  exact ⟨honly.net, honly.mem, honly.triads, honly.sram⟩

theorem linkShown_regs : SameRegs s (linkShown s p new) (Adr.netPStat p :: eventRegs (512 + p.val)) := fun a ha => by
  rw [List.mem_cons, not_or] at ha
  obtain ⟨-, hsame, -⟩ := pulse_spec (s.wr (Adr.netPStat p) new) (512 + p.val)
  exact (hsame a ha.2).trans (State.rd_wr_ne _ _ _ _ ha.1)

/-- What shows of a link change, when only the grandmasters are behind it. -/
theorem linkShown_watched {z : State} (hz : z.regs = (linkShown s p new).regs) :
    Pulsed s (watchGrandmasters z) (512 + p.val) ∧ SameRegs s (watchGrandmasters z) (linkRegs p)
      ∧ (watchGrandmasters z).rd (Adr.netPStat p) = new := by
  have hstat (n : Nat) (hn : n < 1024) : Adr.netPStat p ∉ eventRegs n :=
    not_mem_eventRegs (by simp only [Adr.netPStat]; omega) hn
  have hapart (a : Nat) (ha : a ∈ eventRegs (512 + p.val)) : a ∉ eventRegs 550 := by
    simp only [eventRegs, List.mem_cons, List.not_mem_nil, or_false, Adr.evcPend, Adr.evcOvr] at ha ⊢
    omega
  obtain ⟨hpulsed, hsame, -⟩ := pulse_spec (s.wr (Adr.netPStat p) new) (512 + p.val)
  obtain ⟨-, hwatched, -⟩ := watchGrandmasters_spec z
  have hrd (a : Nat) (ha : a ∉ eventRegs 550) : (watchGrandmasters z).rd a =
      (pulse (s.wr (Adr.netPStat p) new) (512 + p.val)).rd a := (hwatched a ha).trans (State.rd_congr hz a)
  have hne (a : Nat) (ha : a ∈ eventRegs (512 + p.val)) : a ≠ Adr.netPStat p := fun e => hstat _ (by omega) (e ▸ ha)
  have hmode : modeOf (s.wr (Adr.netPStat p) new) = modeOf s := by
    rw [modeOf, State.rd_wr_ne _ _ _ _ (by simp only [Adr.netPStat, Adr.sysMode]; omega), modeOf]
  refine ⟨?_, fun a ha => ?_, ?_⟩
  · have hback := Pulsed.of_regs hpulsed hmode fun a ha => State.rd_wr_ne _ _ _ _ (hne a ha)
    refine ⟨fun i => ?_, fun i => ?_⟩
    · rw [hrd _ (hapart _ List.mem_cons_self), hback.pend]
    · rw [hrd _ (hapart _ (List.mem_cons_of_mem _ (List.mem_singleton_self _))), hback.ovr]
  · rw [linkRegs, List.mem_append, List.mem_cons, not_or, not_or] at ha
    exact (hrd a ha.2).trans (linkShown_regs s p new a (List.mem_cons.not.mpr (not_or.mpr ha.1)))
  · rw [hrd _ (hstat _ (by decide)), hsame _ (hstat _ (by omega)), State.rd_wr_self]

end

theorem netPCfg_notMem_linkRegs (p : Fin 8) : Adr.netPCfg p ∉ linkRegs p := by
  simp only [linkRegs, eventRegs, List.mem_append, List.mem_cons, List.not_mem_nil, or_false, Adr.netPCfg, Adr.netPStat,
    Adr.evcPend, Adr.evcOvr]
  omega

/-! ### The link comes up -/

section
variable {s : State} {p : Fin 8} (hdown : bitOf (s.rd (Adr.netPStat p)) 31 = false) (speed : BitVec 3)
include hdown

theorem netLinkUp_completes (hcfg : bitOf (s.rd (Adr.netPCfg p)) 30 = true) (hserdes : serdesUp s = true) :
    Completes (.linkChange p true speed) s (fun s' =>
      ((∀ r : Fin 8, r ≠ p → s'.net.ports[r] = s.net.ports[r]) ∧ s'.mem = s.mem ∧ s'.triads = s.triads)
      ∧ s'.net.ports[p] = s.net.ports[p] ∧ linkUp s' p = true
      ∧ field (s'.rd (Adr.netPStat p)) 30 28 = linkSpeed s p speed.toNat ∧ Pulsed s s' (512 + p.val)
      ∧ SameRegs s s' (linkRegs p)) := by
  have hnew : pstatLinked s p speed.toNat ≠ s.rd (Adr.netPStat p) := fun e => by
    have hbit := bitOf_pstatLinked s p speed.toNat
    rw [e, hdown] at hbit
    cases hbit
  have hrun : linkChange s p true speed = watchGrandmasters (linkShown s p (pstatLinked s p speed.toNat)) := by
    simp only [linkChange, hcfg, hserdes, Bool.and_self, if_true]
    exact if_neg hnew
  obtain ⟨hnet, hmem, htri, -⟩ := linkShown_keeps s p (pstatLinked s p speed.toNat)
  obtain ⟨hpulsed, hregs, hstat⟩ := linkShown_watched s p (pstatLinked s p speed.toNat) rfl
  obtain ⟨honly, -, -⟩ := watchGrandmasters_spec (linkShown s p (pstatLinked s p speed.toNat))
  have hport (r : Fin 8) : (watchGrandmasters (linkShown s p (pstatLinked s p speed.toNat))).net.ports[r] = s.net.ports[r] := by
    rw [honly.ports, hnet]
  refine ⟨_, congrArg Host.Outcome.next hrun, ⟨fun r _ => hport r, honly.mem.trans hmem, honly.triads.trans htri⟩, hport p, ?_, ?_,
    hpulsed, hregs⟩
  · rw [linkUp, hregs _ (netPCfg_notMem_linkRegs p), hcfg, hstat, bitOf_pstatLinked]
    rfl
  · rw [hstat, field_pstatLinked]

theorem netLinkUp_refused (h : bitOf (s.rd (Adr.netPCfg p)) 30 = false ∨ serdesUp s = false) :
    exec (.linkChange p true speed) s = .next s := by
  have hno : (true && bitOf (s.rd (Adr.netPCfg p)) 30 && serdesUp s) = false := by
    rcases h with h | h <;> simp only [h, Bool.and_false, Bool.false_and]
  have hrun : linkChange s p true speed = s := by
    simp only [linkChange, hno, Bool.false_eq_true, if_false]
    exact if_pos (putBit_of_clear hdown)
  exact congrArg Host.Outcome.next hrun

end

/-! ### The link goes (R482, R483) -/

section
variable (s : State) (p : Fin 8)

/-- A port whose link goes, before the frames it lost show in their slots. -/
def linkGone : State := gptpLinkLost (s.upPort p fun x => { x with sending := none, cut := none }) p

theorem linkGone_self :
    (linkGone s p).net.ports[p] = { s.net.ports[p] with sending := none, cut := none, peer := Port.reset.peer } := by
  have hself : (linkGone s p).net.ports[p] =
      { (s.upPort p fun x => { x with sending := none, cut := none }).net.ports[p] with peer := Port.reset.peer } :=
    vmod_get_self _ _ _
  rw [hself, State.upPort_self]

theorem linkGone_ne {r : Fin 8} (h : r ≠ p) : (linkGone s p).net.ports[r] = s.net.ports[r] :=
  (vmod_get_ne _ _ _ _ h).trans (State.upPort_ne _ _ _ h)

end

section
variable {s : State} {p : Fin 8} (hcut : s.net.ports[p].cut = none)
include hcut

/-- A bridged frame is lost without a trace, and so is none. -/
theorem loseFrames_of_bridged (h : ∀ f, s.net.ports[p].sending = some f → f.kind = .bridged) :
    loseFrames s p = linkGone s p := by
  simp only [loseFrames, hcut, Option.map_none, Option.toList_none, List.append_nil]
  cases hf : s.net.ports[p].sending with
  | none => rfl
  | some f =>
    simp only [Option.toList_some, List.foldl_cons, List.foldl_nil, loseFrame, h f hf]
    rfl

theorem loseFrames_of_cyclic {slot cyc flags : Nat} {o : List Byte}
    (h : s.net.ports[p].sending = some ⟨.cyclic slot cyc flags, o⟩) :
    loseFrames s p = slotResult (linkGone s p) slot cyc flags 16 := by
  simp only [loseFrames, hcut, h, Option.map_none, Option.toList_none, List.append_nil, Option.toList_some, List.foldl_cons,
    List.foldl_nil, loseFrame]
  rfl

end

section
variable {s : State} {p : Fin 8} (hlink : linkUp s p = true) (hring : ringOn s p = false) (speed : BitVec 3)
include hlink hring

theorem linkDown_runs : linkChange s p false speed =
    watchGrandmasters (loseFrames (linkShown s p (putBit (s.rd (Adr.netPStat p)) 31 false)) p) := by
  have hold : bitOf (s.rd (Adr.netPStat p)) 31 = true := (Bool.and_eq_true_iff.mp hlink).2
  have hnew : putBit (s.rd (Adr.netPStat p)) 31 false ≠ s.rd (Adr.netPStat p) := fun e => by
    have hbit := bitOf_putBit (s.rd (Adr.netPStat p)) 31 false 31
    rw [e, hold, if_pos rfl, Bool.and_false] at hbit
    cases hbit
  have hstill : ringOn (linkShown s p (putBit (s.rd (Adr.netPStat p)) 31 false)) p = false := by
    rw [ringOn, linkShown_regs, ← ringOn, hring]
    simp only [eventRegs, List.mem_cons, List.not_mem_nil, or_false, Adr.netRing, Adr.netPStat, Adr.evcPend, Adr.evcOvr]
    omega
  simp only [linkChange, Bool.false_and, Bool.false_eq_true, if_false]
  refine (if_neg hnew).trans ?_
  exact congrArg (fun z => watchGrandmasters (loseFrames z p)) (if_neg (ne_true_of_eq_false hstill))

section
variable (hcut : s.net.ports[p].cut = none)
include hcut

theorem netLinkDown_completes (hsending : ∀ f, s.net.ports[p].sending = some f → f.kind = .bridged) :
    Completes (.linkChange p false speed) s (fun s' =>
      ((∀ r : Fin 8, r ≠ p → s'.net.ports[r] = s.net.ports[r]) ∧ s'.mem = s.mem ∧ s'.triads = s.triads)
      ∧ s'.net.ports[p] = { s.net.ports[p] with sending := none, peer := Port.reset.peer }
      ∧ linkUp s' p = false ∧ Pulsed s s' (512 + p.val) ∧ SameRegs s s' (linkRegs p)) := by
  obtain ⟨w, hw⟩ : ∃ w, putBit (s.rd (Adr.netPStat p)) 31 false = w := ⟨_, rfl⟩
  have hclear : bitOf w 31 = false := by rw [← hw, bitOf_putBit, if_pos rfl, Bool.and_false]
  obtain ⟨hnet, hmem, htri, -⟩ := linkShown_keeps s p w
  obtain ⟨z, hz⟩ : ∃ z, linkShown s p w = z := ⟨_, rfl⟩
  have hrun := linkDown_runs hlink hring speed
  rw [hw, hz, loseFrames_of_bridged (by rw [← hz, hnet, hcut]) (by rw [← hz, hnet]; exact hsending)] at hrun
  obtain ⟨hpulsed, hregs, hstat⟩ := linkShown_watched s p w (z := linkGone z p) (by rw [hz]; rfl)
  obtain ⟨honly, -, -⟩ := watchGrandmasters_spec (linkGone z p)
  rw [hz] at hnet hmem htri
  refine ⟨_, congrArg Host.Outcome.next hrun, ⟨fun r hr => ?_, honly.mem.trans hmem, honly.triads.trans htri⟩, ?_, ?_, hpulsed, hregs⟩
  · rw [honly.ports, linkGone_ne _ _ hr, hnet]
  · rw [honly.ports, linkGone_self, hnet, ← hcut]
  · rw [linkUp, hstat, hclear, Bool.and_false]

theorem netLinkDown_shows {slot cyc flags : Nat} {o : List Byte}
    (hsending : s.net.ports[p].sending = some ⟨.cyclic slot cyc flags, o⟩) (hslot : slot < 4096) (hflags : flags < 256)
    (h : s.clean (slotAddr slot)) :
    Completes (.linkChange p false speed) s (fun s' => s'.net.ports[p].sending = none
      ∧ rdMem s' (slotAddr slot + 28) 4 = (flags ||| 16) + cyc % 2 ^ 24 * 256 ∧ s'.triads = s.triads) := by
  obtain ⟨hnet, -, htri, hsram⟩ := linkShown_keeps s p (putBit (s.rd (Adr.netPStat p)) 31 false)
  obtain ⟨z, hz⟩ : ∃ z, linkShown s p (putBit (s.rd (Adr.netPStat p)) 31 false) = z := ⟨_, rfl⟩
  have hrun := linkDown_runs hlink hring speed
  rw [hz] at hrun hnet htri hsram
  rw [loseFrames_of_cyclic (by rw [hnet, hcut]) (by rw [hnet, hsending])] at hrun
  obtain ⟨hmemOnly, -, hstatus⟩ := slotResult_of_clean hslot (State.clean_congr h (z := linkGone z p) hsram)
    (Nat.or_lt_two_pow (n := 8) hflags (by decide : 16 < 2 ^ 8)) cyc
  obtain ⟨honly, -, -⟩ := watchGrandmasters_spec (slotResult (linkGone z p) slot cyc flags 16)
  refine ⟨_, congrArg Host.Outcome.next hrun, ?_, ?_, ?_⟩
  · rw [honly.ports, hmemOnly.net, State.markAll_port, Port.marked, linkGone_self]
    rfl
  · rw [rdMem_of_mem honly.mem, hstatus]
  · rw [honly.triads, hmemOnly.triads]
    exact htri

end

end

/-! ### Entries that age out (R437, R469) -/

theorem fdbAgeing_completes (s : State) (mac : BitVec 48) (vid : BitVec 12) : Completes (.fdbAgeing mac vid) s (fun s' =>
    (∀ e, e ∈ s'.net.fdb ↔ e ∈ s.net.fdb ∧ ¬ (e.mac = mac ∧ e.vid = vid))
    ∧ s' = { s with net := { s.net with fdb := s'.net.fdb } }) := by
  refine ⟨_, rfl, fun e => List.mem_filter.trans (and_congr_right fun _ => ?_), rfl⟩
  rw [Bool.not_eq_true', ← Bool.not_eq_true, Bool.and_eq_true, beq_iff_eq, beq_iff_eq]

theorem streamHistoryReset_completes (s : State) (q : Fin 4) (src : BitVec 48) (vid : BitVec 12) :
    Completes (.streamHistoryReset q src vid) s (fun s' =>
      (∀ e, e ∈ s'.net.streams ↔ e ∈ s.net.streams ∧ ¬ (e.pair = q ∧ e.src = src ∧ e.vid = vid))
      ∧ s' = { s with net := { s.net with streams := s'.net.streams } }) := by
  refine ⟨_, rfl, fun e => List.mem_filter.trans (and_congr_right fun _ => ?_), rfl⟩
  rw [Bool.not_eq_true', ← Bool.not_eq_true, Bool.and_eq_true, Bool.and_eq_true, beq_iff_eq, beq_iff_eq, beq_iff_eq, and_assoc]

/-! ### O33 -/

/-- Settles O33: gate schedules by what a change of one port's gates does to the frame in transmission, gPTP by what the
selection of a grandmaster reads, link changes by the state in which they show. -/
theorem portsServe : Obligations.PortsServe := by
  intro s p x only
  refine ⟨fun hmode hcut e l hruns hlist => gateScheduleRestart_completes hmode hcut hruns hlist, ?_, ?_, ⟨?_, ?_⟩, ?_, ?_,
    fdbAgeing_completes s, streamHistoryReset_completes s⟩
  · intro hmode e hruns hentry y
    exact gateIntervalEnd_completes hmode hruns hentry rfl
  · intro v t hlock
    exact gateEnable_completes hlock rfl
  · exact fun d => ⟨fun h => congrArg Host.Outcome.next (if_neg (ne_true_of_eq_false h)), syncTransmission_completes⟩
  · exact pdelayReq_completes
  · exact fun speed hdown => ⟨netLinkUp_completes hdown speed, netLinkUp_refused hdown speed⟩
  · exact fun speed hlink hring hcut => ⟨netLinkDown_completes hlink hring speed hcut,
      fun _ _ _ _ => netLinkDown_shows hlink hring speed hcut⟩

end Sys2Proof.Machine
end

section
/-! The stop of a comparison fault under a connection whose number lies past the 1,024 of the table, which no LK copies and which
the clause's states do not exclude: its LASTC then goes outside the safe tables (R470, R473, R479). -/

namespace Sys2Proof.Machine

/-- A consumer numbered 6,144, whose entry would begin at 0x1400000, in the bank of the host rings. -/
def strayConn : SafeConn :=
  { num := 6144, ncid := 1, cuid := 1, produce := false, enabled := true, len := 8, dev := 0, sofs := 0, maxAge := 1, wdog := 1,
    lastSeq := 0, accepted := true, failsafe := false, wdogFail := false, never := false, crcErr := false, staleErr := false,
    ncidErr := false, freshOk := false, lastC := [1], lastT := 0 }

/-- That consumer alone; the record of its device has the length of its container. -/
def strayConsumer : State :=
  wrBytes { State.reset with net := { Net.reset with conns := [strayConn] } } (devAddr 0 + 4) (bytesLE 4 (28 * 2 ^ 19))

/-- The fault stores the consumer's LASTC, whose first octet is 1. -/
theorem rdByte_safeCompareFault_strayConsumer : rdByte (safeCompareFault strayConsumer) 0x1400020 = 1 := by decide +kernel

/-- Refutes O34: LASTC of a connection numbered past the table is stored outside the input buffers and the safe tables, where the
clause has every octet unchanged; no hypothesis bounds the numbers of the connections. -/
theorem not_safeConnections : ¬ Obligations.SafeConnections := by
  intro h
  obtain ⟨-, -, hfault⟩ := h strayConsumer 0 strayConn
  obtain ⟨s', hrun, -, -, hmem, -⟩ :=
    hfault (by decide +kernel) (by decide +kernel) (by constructor <;> decide +kernel) (by constructor <;> decide +kernel)
  have hs' : safeCompareFault strayConsumer = s' := by
    rw [← State.powered_of_awake strayConsumer safeCompareFault (by decide +kernel)]
    exact Host.Outcome.next.inj hrun
  have hkept := hmem 0x1400020 (.inr (by decide))
  rw [← hs', rdByte_safeCompareFault_strayConsumer] at hkept
  exact absurd hkept (by decide +kernel)

end Sys2Proof.Machine
end
